-- ==== Sys2Proof/Word.lean ====
section
/-! DEFINITION. The word types of the Riane model: bytes, byte strings and the plain types that
the spec's records are made of. Multi-byte arithmetic stands in Machine/Bits.lean. -/
namespace Sys2Proof

/-- One byte of a packet, a register or a memory. -/
abbrev Byte := BitVec 8

/-- A byte string: a packet, a payload, a memory range. -/
abbrev Bytes := List Byte

/-- A 32-bit register value as BAR0 carries it (R376). -/
abbrev Reg32 := BitVec 32

/-- TIME64: unsigned nanoseconds since the PTP epoch (R9, R51). -/
abbrev Time64 := Nat

end Sys2Proof
end

