-- ==== Sys2Proof/Config.lean ====
section
/-! DEFINITION. What the spec leaves open: the values it does not fix (constants with no body), and the
cryptographic functions it names by standard. No constant of this file has a body, so no proof
can rest on a value of one. -/
namespace Sys2Proof.Config

/-- A value the spec leaves open, one for each count of `State.free` (log entry 3). -/
opaque freeValue : Nat → Nat

/-- The servo's gains at a loop bandwidth in thousandths of a hertz (R30): hundredths of a part per billion for each nanosecond of offset,
and for each nanosecond of offset that lasts a second (log entry 21). -/
opaque servoGains : Nat → Nat × Nat

/-- Whether DOM[d] sends Delay_Req unicast to the selected master (R26: as configured; no parameter says which, log entry 106). -/
opaque delayReqUnicast : Nat → Bool

/-- HMAC-SHA-256 of a message under a key (R371, R237, R427), 32 bytes. -/
opaque hmacSha256 : Bytes → Bytes → Bytes

/-- The ECDSA P-256 signature by the device key over a message (R234, R429), r then s. -/
opaque ecdsaSign : Bytes → Bytes

/-- Whether a vendor-root certificate chain and a P-256 signature verify: certificate, message, signature (R234). -/
opaque ecdsaVerify : Bytes → Bytes → Bytes → Bool

/-- Whether an authorisation by Tlazen's service key over a message verifies: message, signature (R427). -/
opaque serviceVerify : Bytes → Bytes → Bool

/-- Whether a firmware image carries a good digest and signature of Tlazen's firmware key (R430). -/
opaque firmwareVerify : Bytes → Bool

/-- The security version that a firmware image carries (R430). The spec gives no place for it in the image. -/
opaque firmwareSecurity : Bytes → Nat

/-- The firmware image that the part is shipped with in slot A (R430). -/
opaque partFirmware : Bytes

/-- SHA-256 of a byte string (R429, R430), 32 bytes. -/
opaque sha256 : Bytes → Bytes

/-- The sealed form of a record: record kind, sequence number, salt (installation ID), plain text (R433). -/
opaque sealRecord : Nat → Nat → Bytes → Bytes → Bytes

/-- The check function C of the (144,128) code: the 16 check bits of 128 data bits (R306). The spec
gives the properties of the code, not its matrix. -/
opaque codeCheck : BitVec 128 → BitVec 16

/-- One pixel of a scaled pane (R164, R169, R175, R176): the pane's settings (filter, taps, lengths, positions, matrix, range,
sample depth), the coefficients of a loaded set, the support of luma or RGB samples with their alpha, and the support of chroma samples,
which the scaler upsamples itself; the answer is R, G, B and alpha at 12 bits. The spec gives neither the contents of the scaler ROM
nor the phase and rounding rules. -/
opaque scaledPixel : List Nat → List Int → List (List Nat) → List (Nat × Nat) → Nat × Nat × Nat × Nat

/-- An unscaled YCbCr pixel in the working format (R169): matrix, range, sample depth, Y, then the chroma samples next to it
and its place between them. The spec names the matrices and not their precision or rounding. -/
opaque yccPixel : Nat → Nat → Nat → Nat → List (Nat × Nat) → Nat × Nat → Nat × Nat × Nat

/-- A LIMITED RGB component expanded to 12 bits (R169): component depth, value. -/
opaque expandLimited : Nat → Nat → Nat

/-- Whether a DIM component that is no whole number is rounded up (R73): the component and the working values of R, G and B. The spec
gives the value and no rounding. -/
opaque dimUp : Nat → Nat → Nat → Nat → Bool

/-- Whether an encoder component that is no whole number is rounded up (R284): its numerator and denominator. The spec gives the conversion and
no rounding. -/
opaque encUp : Int → Nat → Bool

/-- The glyph ROM: character, row and column of its 10 by 16 bitmap (R77). The spec gives no bitmap. -/
opaque glyphRom : Nat → Nat → Nat → Bool

/-- The column and the row of the 12 by 20 cell at which the bitmap of a glyph begins (R77): the spec gives both sizes and no place. -/
opaque glyphPlace : Nat → Nat × Nat

/-- The colours of a pattern source (R170), where the spec names the picture and not its values: kind, and which of its colours; RGB at
12 bits in one number. -/
opaque patternColour : Nat → Nat → Nat

/-- Which colour bar stands at a column (R170): width, x. The spec gives neither their number nor their widths. -/
opaque barAt : Nat → Nat → Nat

/-- The level of the luma ramp at a column (R170): width, x; 12 bits. -/
opaque rampLevel : Nat → Nat → Nat

/-- What a unit decodes to whose prediction rests on damaged samples (R118, R132, R133): the samples that its coded data decodes to on intact
references, and the samples that it predicts from. The spec takes the reconstruction from the ITU-T standards (log entry 124). -/
opaque damagedUnit : List Nat → List Nat → List Nat

/-- Whether the mean of a vertical pair of chroma samples that is no whole number is rounded up (R89): the sum. The spec gives no rounding. -/
opaque chromaUp : Nat → Bool

/-- Whether an Mvid that is no whole number is rounded up (R201): head, head frame. It comes from a measurement of the head's PLL. -/
opaque mvidUp : Nat → Nat → Bool

/-- The pixels of an age overlay's glyph layout (R170): text codes, x, y; whether a glyph pixel stands there. -/
opaque overlayPixel : List Nat → Nat → Nat → Bool

/-- The colour of the ground of an age overlay whose pane is OPAQUE (R164, R170): source ID; RGB at 12 bits in one number. -/
opaque overlayGround : Nat → Nat

/-- The part's fused unique ID (R428). -/
opaque partUid : Bytes

/-- The part's device certificate (R428). -/
opaque partCert : Bytes

/-- The part's fused target V_AVS in millivolts (R396). -/
opaque partVAvs : Nat

/-- Whether the ordering code is MX4832-E (R1). -/
opaque partVariantE : Bool

/-- The size in bytes of a sealed flash record of a kind (R414, R432). -/
opaque flashRecordSize : Nat → Nat

/-- SYS_REV (R376): stepping and firmware version. -/
opaque partRev : Reg32

end Sys2Proof.Config
end

