-- ==== Sys2Proof/Machine/Table.lean ====
section
/-! DEFINITION. Tables of like things by number: lists of (number, value) in rising order of number, read with a
default for a number that is not listed. Registers of a numbered unit, streams, panes, heads and
electrodes are held this way, so State stays plain data. -/
namespace Sys2Proof.Machine

/-- A table: rising numbers, each with its value. -/
abbrev Table (α : Type) := List (Nat × α)

/-- The value at number `i`, or `d` where none is listed. -/
def tget {α : Type} (d : α) : Table α → Nat → α
  | [], _ => d
  | (j, v) :: r, i => if i = j then v else tget d r i

/-- The value at number `i`, where one is listed. -/
def tfind {α : Type} : Table α → Nat → Option α
  | [], _ => none
  | (j, v) :: r, i => if i = j then some v else tfind r i

/-- The table with `v` at number `i`, in rising order. -/
def tset {α : Type} (i : Nat) (v : α) : Table α → Table α
  | [] => [(i, v)]
  | (j, w) :: r =>
    if i < j then (i, v) :: (j, w) :: r
    else if i = j then (i, v) :: r
    else (j, w) :: tset i v r

/-- The table without number `i`. -/
def tdel {α : Type} (i : Nat) : Table α → Table α
  | [] => []
  | (j, w) :: r => if i = j then tdel i r else (j, w) :: tdel i r

/-- The table with the value at `i` (its default where none is listed) passed through `f`. -/
def tmod {α : Type} (d : α) (i : Nat) (f : α → α) (t : Table α) : Table α :=
  tset i (f (tget d t i)) t

/-- The numbers below `n` in rising order, from `k`. -/
def countFrom : Nat → Nat → List Nat
  | _, 0 => []
  | k, n + 1 => k :: countFrom (k + 1) n

/-- The first element of a list that meets a test, with its position. -/
def findPos {α : Type} (p : α → Bool) : Nat → List α → Option (Nat × α)
  | _, [] => none
  | k, x :: r => if p x then some (k, x) else findPos p (k + 1) r

/-- The element at a position, or a default. -/
def nth {α : Type} (d : α) : List α → Nat → α
  | [], _ => d
  | x :: _, 0 => x
  | _ :: r, n + 1 => nth d r n

/-- The list with position `n` set, where it has that position. -/
def setNth {α : Type} (v : α) : List α → Nat → List α
  | [], _ => []
  | _ :: r, 0 => v :: r
  | x :: r, n + 1 => x :: setNth v r n

/-- Insertion into a list kept in the order `le`, after equal elements. -/
def insertBy {α : Type} (le : α → α → Bool) (x : α) : List α → List α
  | [] => [x]
  | y :: r => if le y x then y :: insertBy le x r else x :: y :: r

/-- Insertion sort by `le`, keeping the order of equal elements. -/
def sortBy {α : Type} (le : α → α → Bool) (l : List α) : List α :=
  l.foldl (fun acc x => insertBy le x acc) []

/-- Whether a list holds a value twice. -/
def hasDup {α : Type} [DecidableEq α] : List α → Bool
  | [] => false
  | x :: r => r.contains x || hasDup r

/-- The list without repeats, keeping first places. -/
def dedup {α : Type} [DecidableEq α] (l : List α) : List α :=
  l.foldl (fun acc x => if acc.contains x then acc else acc ++ [x]) []

/-- The sum of a list of numbers. -/
def sumNat (l : List Nat) : Nat := l.foldl (· + ·) 0

/-- The greatest of a list of numbers, 0 where it is empty. -/
def maxNat (l : List Nat) : Nat := l.foldl Nat.max 0

/-- The median of a list of integers: the middle of the sorted list, the lower one of an even count. -/
def medianInt (l : List Int) : Int :=
  nth 0 (sortBy (fun a b => decide (a ≤ b)) l) ((l.length - 1) / 2)

/-- Twice the median of a list of integers: the sum of the two middle ones where the count is even. -/
def median2Int (l : List Int) : Int :=
  let s := sortBy (fun a b => decide (a ≤ b)) l
  nth 0 s ((l.length - 1) / 2) + nth 0 s (l.length / 2)

/-- Division rounded up. -/
def ceilDiv (a b : Nat) : Nat := (a + b - 1) / b

end Sys2Proof.Machine
end

