-- ==== Sys2Proof/Machine/Bits.lean ====
section
/-! DEFINITION. Byte order, bit fields and checks of byte strings: multi-byte fields are little-endian unless a layout
says otherwise (R9, R51, R380). -/
namespace Sys2Proof.Machine

/-- The number a byte is. -/
def bnat (b : Byte) : Nat := b.toNat

/-- The `n` low bytes of a number, least significant first. -/
def le : Nat → Nat → Bytes
  | 0, _ => []
  | n + 1, v => BitVec.ofNat 8 v :: le n (v / 256)

/-- The `n` low bytes of a number, most significant first (TIME80, network addresses: R51, R380). -/
def be (n v : Nat) : Bytes := (le n v).reverse

/-- The number a little-endian byte string is. -/
def ofLe : Bytes → Nat
  | [] => 0
  | b :: r => b.toNat + 256 * ofLe r

/-- The number a big-endian byte string is. -/
def ofBe (b : Bytes) : Nat := ofLe b.reverse

/-- The TIME64 that the ten bytes of a TIME80 are (R9, R51): 48-bit seconds and 32-bit nanoseconds, big-endian; a time from 2554 on
wraps (log entry 105). -/
def time80 (b : Bytes) : Nat := (ofBe ((b.drop 0).take 6) * 1000000000 + ofBe ((b.drop 6).take 4)) % 2 ^ 64

/-- The TIME80 of a TIME64 (R9, R51). -/
def time80Bytes (t : Nat) : Bytes := be 6 (t / 1000000000) ++ be 4 (t % 1000000000)

/-- `n` zero bytes. -/
def zeros (n : Nat) : Bytes := List.replicate n 0

/-- Bytes `off` to `off + len - 1`. -/
def slice (b : Bytes) (off len : Nat) : Bytes := (b.drop off).take len

/-- A little-endian field of a layout. -/
def fld (b : Bytes) (off len : Nat) : Nat := ofLe (slice b off len)

/-- A byte string cut or filled with zeros to `n` bytes. -/
def padTo (n : Nat) (b : Bytes) : Bytes := (b ++ zeros n).take n

/-- Bits `hi` to `lo` of a number. -/
def bits (v hi lo : Nat) : Nat := (v / 2 ^ lo) % 2 ^ (hi + 1 - lo)

/-- Bit `i` of a number. -/
def bit (v i : Nat) : Bool := (v / 2 ^ i) % 2 == 1

/-- 1 for true, 0 for false. -/
def b2n (b : Bool) : Nat := if b then 1 else 0

/-- The bits of a mask below `n`, in rising order. -/
def maskBits (n m : Nat) : List Nat := (List.range n).filter (fun i => bit m i)

/-- The mask with the listed bits set. -/
def maskOf (l : List Nat) : Nat := l.foldl (fun m i => m ||| 2 ^ i) 0

/-- The mask of the numbers below `n` that meet `p`. -/
def maskBy (n : Nat) (p : Nat → Bool) : Nat := maskOf ((List.range n).filter p)

/-- The two's complement of width `w` bits of an integer. -/
def twos (w : Nat) (i : Int) : Nat := (i % (2 ^ w : Int)).toNat

/-- The integer a two's complement number of width `w` is. -/
def ofTwos (w n : Nat) : Int := if bit n (w - 1) then (n % 2 ^ w : Int) - 2 ^ w else ((n % 2 ^ w : Nat) : Int)

/-- An integer held within two bounds. -/
def clampInt (lo hi x : Int) : Int := if x < lo then lo else if hi < x then hi else x

/-- A number from an integer, 0 for a negative one. -/
def natOf (i : Int) : Nat := i.toNat

/-- Saturation of a counter of `w` bits. -/
def satInc (w v : Nat) : Nat := if v + 1 < 2 ^ w then v + 1 else v

/-- A counter of `w` bits that wraps. -/
def wrapInc (w v : Nat) : Nat := (v + 1) % 2 ^ w

end Sys2Proof.Machine
end

