-- ==== Sys2Proof/Machine/Crc.lean ====
section
/-! DEFINITION. The check-value algorithms of R322, the running value of R323, the fold words of R324 and R325 and the
classification of R332. -/
namespace Sys2Proof.Machine

/-- The algorithms of R322 by code: width, polynomial (reflected for the reflected ones), reflected. -/
structure CrcAlg where
  width   : Nat
  poly    : BitVec 64
  refl    : Bool
  init    : BitVec 64
  xorOut  : BitVec 64
  deriving DecidableEq, Repr

/-- The rows of R322. The polynomials of the reflected algorithms are written bit-reversed in their width. -/
def crcAlg : Nat → CrcAlg
  | 0 => ⟨32, 0x82F63B78, true, 0xFFFFFFFF, 0xFFFFFFFF⟩
  | 1 => ⟨32, 0xEDB88320, true, 0xFFFFFFFF, 0xFFFFFFFF⟩
  | 2 => ⟨16, 0x1021, false, 0xFFFF, 0⟩
  | _ => ⟨64, 0xC96C5795D7870F42, true, 0xFFFFFFFFFFFFFFFF, 0xFFFFFFFFFFFFFFFF⟩

/-- `n` shifts of a reflected register. -/
def crcShiftR (poly : BitVec 64) : Nat → BitVec 64 → BitVec 64
  | 0, v => v
  | n + 1, v => crcShiftR poly n (if v.getLsbD 0 then (v >>> 1) ^^^ poly else v >>> 1)

/-- `n` shifts of a register of width 16 that is not reflected. -/
def crcShiftL (poly : BitVec 64) : Nat → BitVec 64 → BitVec 64
  | 0, v => v
  | n + 1, v => crcShiftL poly n
      (if v.getLsbD 15 then ((v <<< 1) ^^^ poly) &&& 0xFFFF else (v <<< 1) &&& 0xFFFF)

/-- One data byte through the shift register (R322, R323). -/
def crcByte (alg : Nat) (v : BitVec 64) (b : Byte) : BitVec 64 :=
  let a := crcAlg alg
  if a.refl then crcShiftR a.poly 8 (v ^^^ b.setWidth 64)
  else crcShiftL a.poly 8 (v ^^^ (b.setWidth 64 <<< 8))

/-- A byte string through the shift register, in ascending order (R324). -/
def crcRun (alg : Nat) (v : BitVec 64) (d : Bytes) : BitVec 64 := d.foldl (crcByte alg) v

/-- Init, with the fold word's eight bytes processed where there is one (R324). -/
def crcStart (alg : Nat) (fold : Option (BitVec 64)) : BitVec 64 :=
  match fold with
  | none => (crcAlg alg).init
  | some w => crcRun alg (crcAlg alg).init (le 8 w.toNat)

/-- The result of a running value (R323). -/
def crcResult (alg : Nat) (v : BitVec 64) : BitVec 64 := v ^^^ (crcAlg alg).xorOut

/-- The check value of a byte string with an optional fold word. -/
def crcOf (alg : Nat) (fold : Option (BitVec 64)) (d : Bytes) : BitVec 64 :=
  crcResult alg (crcRun alg (crcStart alg fold) d)

/-- CRC-32C under a fold word (R326). -/
def crc32c (fold : BitVec 64) (d : Bytes) : BitVec 32 := (crcOf 0 (some fold) d).setWidth 32

/-- CRC-16/CCITT without a fold word (R149, R331). -/
def crc16 (d : Bytes) : BitVec 16 := (crcOf 2 none d).setWidth 16

/-- The triple fold word of R325. -/
def tripleFold (frame srcOrHead row col : Nat) : BitVec 64 :=
  BitVec.ofNat 64 ((frame % 2 ^ 32) * 2 ^ 32 + (srcOrHead % 256) * 2 ^ 16 + (row % 256) * 256 + col % 256)

/-- The guard of a reference copy (R331): CRC-16/CCITT of its value as 8 bytes, least significant first. -/
def refGuard (v : BitVec 64) : BitVec 16 := crc16 (le 8 v.toNat)

/-- The classes of R332. -/
inductive CmpClass where
  | isMatch
  | dataMismatch
  | referenceFault
  | referenceLost
  | unclassified
  deriving DecidableEq, Repr

/-- The code of a class (R332). -/
def CmpClass.code : CmpClass → Nat
  | .isMatch => 0
  | .dataMismatch => 1
  | .referenceFault => 2
  | .referenceLost => 3
  | .unclassified => 4

/-- The classification of R332 over guards that pass or fail, the copies' values (B complemented back) and the
result, and whether REF_FAULT is set. -/
def classify {α : Type} [DecidableEq α] (passA passB : Bool) (a b result : α) : CmpClass × Bool :=
  match passA, passB with
  | true, true =>
    if a = b then (if result = a then (.isMatch, false) else (.dataMismatch, false))
    else (.referenceLost, false)
  | true, false => if result = a then (.referenceFault, false) else (.dataMismatch, true)
  | false, true => if result = b then (.referenceFault, false) else (.dataMismatch, true)
  | false, false => (.referenceLost, false)

/-- The comparison with two guarded copies of 64 bits, copy B held as the complement of copy A (R331, R332). -/
def compareDual (refA refB : BitVec 64) (guardA guardB : BitVec 16) (result : BitVec 64) : CmpClass × Bool :=
  classify (refGuard refA == guardA) (refGuard refB == guardB) refA (~~~refB) result

end Sys2Proof.Machine
end

