-- ==== Sys2Proof/Syntax.lean ====
section
/-! DEFINITION. The commands and happenings of the Riane: one constructor of `Instr` for each row of the
table of operations and events, with the operands the rule of that row names. A command packet
(R355) is a header and a `Cmd`, and the rows of the opcodes (R390) carry the same two parts. -/
namespace Sys2Proof

/-! ## Command packets -/

/-- The address record of R384. -/
structure AddrRec where
  fam      : Nat
  plen     : Nat
  port     : Nat
  vlan     : Nat
  dscp     : Nat
  portMask : Nat
  addr     : Bytes
  addr2    : Bytes
  deriving DecidableEq, Repr

/-- The value of a parameter record (R381, R383): a scalar, an address record or a byte string. -/
inductive Val where
  | num   (n : Nat)
  | addr  (a : AddrRec)
  | bytes (b : Bytes)
  deriving DecidableEq, Repr

/-- A parameter record of a SET command (R381). -/
structure SetRec where
  pid    : Nat
  index  : Nat
  index2 : Nat
  val    : Val
  deriving DecidableEq, Repr

/-- A parameter record of a GET query (R381), with no value. -/
structure GetKey where
  pid    : Nat
  index  : Nat
  index2 : Nat
  deriving DecidableEq, Repr

/-- One layer of a FLIP request (R185, R390). -/
structure FlipLayer where
  source     : Nat
  buf        : Nat
  fence      : Nat
  hasCapture : Bool
  hasGen     : Bool
  target     : Nat
  captureT   : Time64
  u          : Nat
  generation : Nat
  deriving DecidableEq, Repr

/-- A check unit's context (R330). -/
structure CuContext where
  alg    : Nat
  folded : Bool
  state  : BitVec 64
  length : Nat
  deriving DecidableEq, Repr

/-- The parameters of every opcode of R390. -/
inductive Cmd where
  | sysSet (recs : List SetRec)
  | sysProfile (profile fsp : Nat)
  | sysShutdown (mode : Nat)
  | sysRestart
  | sysGet (keys : List GetKey)
  | sysInfo
  | sysEventRead (fromSeq max : Nat)
  | timeSet (recs : List SetRec)
  | timeGet (keys : List GetKey)
  | timeStatus
  | srcSet (recs : List SetRec)
  | srcGet (keys : List GetKey)
  | srcStats (object : Nat) (clear : Bool)
  | srcFreezeStatus (object : Nat) (clear : Bool)
  | srcLedgerRead (source slot first count : Nat)
  | paneCreate (pane head source : Nat) (recs : List SetRec)
  | paneDelete (pane : Nat)
  | paneSet (recs : List SetRec)
  | layerDeclare (source format w h : Nat) (palette : Bytes)
  | bufRegister (buf format w h offset stride : Nat) (palette : Bytes)
  | bufUnregister (buf : Nat)
  | fenceConfig (fence loc addr : Nat)
  | flip (group : Nat) (layers : List FlipLayer)
  | paneGet (keys : List GetKey)
  | bufState (first count : Nat)
  | groupStatus (group : Nat)
  | headSet (recs : List SetRec)
  | headDark (heads : Reg32) (dark : Nat)
  | colourStage (head part : Nat) (data : Bytes)
  | colourCommit (head : Nat)
  | scalerCoefLoad (set : Nat) (data : Bytes)
  | headGet (keys : List GetKey)
  | headStats (object : Nat) (clear : Bool)
  | dpSinkInfo (head : Nat)
  | codecSet (recs : List SetRec)
  | encIdr (sessions : Nat)
  | playbackRing (stream vector log2 base : Nat)
  | decStatsRing (vector log2 base : Nat)
  | codecGet (keys : List GetKey)
  | encStats (object : Nat) (clear : Bool)
  | decCounters (object : Nat) (clear : Bool)
  | twinSet (recs : List SetRec)
  | twinJoin (mode : Nat)
  | twinLeave
  | twinTakeover
  | twinWithdraw
  | twinReinstate
  | twinAdopt (uid : Bytes)
  | twinGet (keys : List GetKey)
  | twinStats (object : Nat) (clear : Bool)
  | touchSet (recs : List SetRec)
  | legendRegister (legend pane : Nat) (mask : Nat)
  | legendDelete (legend : Nat)
  | touchGet (keys : List GetKey)
  | touchRead (group : Nat)
  | cuStart (unit alg foldEn : Nat) (fold : BitVec 64)
  | cuFeed (unit kind addr len : Nat) (inlineData : Bytes)
  | cuCtxRead (unit : Nat)
  | cuCtxWrite (unit : Nat) (ctx : CuContext)
  | cuFinish (unit : Nat)
  | cuCompare (unit mode slot : Nat) (refA : BitVec 64) (guardA : Nat) (refB : BitVec 64) (guardB : Nat)
  | cuStore (unit slot : Nat)
  | memSet (recs : List SetRec)
  | memSetpoint (fsp : Nat)
  | memGet (keys : List GetKey)
  | memStats (object : Nat) (clear : Bool)
  | diagDpPattern (port pattern : Nat) (custom : Bytes)
  | diagEthPrbs (port rate on : Nat)
  | selftestRun (regions pattern : Nat)
  | selftestResult
  | diagThermal
  | lcProvision
  | installSet (installId key : Bytes)
  | lcField
  | lcUnlock (token : Bytes)
  | lcDecommission
  | fwStage (slot offset : Nat) (data : Bytes)
  | fwActivate (slot : Nat)
  | attest (nonce : Bytes)
  | certRead
  | netSet (recs : List SetRec)
  | netMirrorRing (vector log2 base : Nat)
  | netGet (keys : List GetKey)
  | netStats (object : Nat) (clear : Bool)
  deriving DecidableEq, Repr

/-- How a command packet reached the Riane (R360): a PCIe queue pair, the SPI console port, a UDP client slot with
its source address, the peer's CMD frame (R242), or a BAR0 write that acts as a HEAD command (R377). -/
inductive Transport where
  | pcie (q : Fin 8)
  | spi
  | udp (client : Nat) (src : AddrRec)
  | peer
  | reg
  deriving DecidableEq, Repr

/-- The header fields of a packet that acceptance uses (R355), with its transport, its arrival and, over PCIe,
where the result goes (R365). -/
structure CmdHdr where
  transport  : Transport
  tag        : Nat
  seq        : Nat
  applyTick  : Nat
  strict     : Bool
  resultAddr : Nat
  resultMax  : Nat
  crc        : Nat
  arrival    : Time64
  deriving DecidableEq, Repr

/-! ## What arrives from outside -/

/-- A submission entry as fetched over PCIe (R365, R366): its 64 bytes, the parameter block of an INDIRECT packet,
whether the fetch met a PCIe error, and whether the write of a query's result meets one (R376). -/
structure SqFetch where
  entry     : Bytes
  params    : Bytes
  pcieErr   : Bool
  resultErr : Bool
  deriving DecidableEq, Repr

/-- A network endpoint a packet is addressed to. -/
structure Endpoint where
  addr : Bytes
  port : Nat
  vlan : Nat
  src  : Bytes
  deriving DecidableEq, Repr

/-- A PTP Sync (R26, R29). `origin` is the origin time of a one-step Sync as it stands on the wire, a TIME80 of ten bytes (R51), and
`rx` with `rxQ` the raw receive timestamp: whole nanoseconds and quarters of one (R28). -/
structure PtpSync where
  port       : Fin 4
  domain     : Nat
  transport  : Nat
  version    : Nat
  master     : Nat
  seq        : Nat
  twoStep    : Bool
  origin     : Bytes
  correction : Int
  logInterval : Int
  rx         : Time64
  rxQ        : Nat
  deriving DecidableEq, Repr

/-- A Follow_Up or a Delay_Resp: a time of the master's as it stands on the wire, a TIME80 (R51), matched by sequence number
(R26). -/
structure PtpReply where
  port       : Fin 4
  domain     : Nat
  transport  : Nat
  version    : Nat
  master     : Nat
  seq        : Nat
  time       : Bytes
  correction : Int
  rx         : Time64
  deriving DecidableEq, Repr

/-- An Announce (R26, R29): the data-set comparison fields of IEEE 1588-2019 in the order R26 lists them, and the flags of the time
it serves: `ptpTimescale` says that it is the PTP timescale (R51). -/
structure PtpAnnounce where
  port        : Fin 4
  domain      : Nat
  transport   : Nat
  version     : Nat
  master      : Nat
  priority1   : Nat
  clockClass  : Nat
  accuracy    : Nat
  variance    : Nat
  priority2   : Nat
  identity    : Nat
  logInterval : Int
  ptpTimescale : Bool
  utcOffset   : Int
  utcValid    : Bool
  rx          : Time64
  deriving DecidableEq, Repr

/-- A time-transfer exchange on the Flume (R49). -/
structure TimeXfer where
  t1   : Int
  t2   : Int
  t3   : Int
  t4   : Int
  asym : Int
  at'  : Time64
  deriving DecidableEq, Repr

/-- A transmit timestamp of the PTP unit (R28): whole nanoseconds and quarters. -/
structure TxTime where
  ns      : Time64
  quarter : Nat
  deriving DecidableEq, Repr

/-- What kind of frame no stream, estimator or command transport claims (R86, R87, R27). -/
inductive EthKind where
  | arpRequest (target : Bytes)
  | neighbourSol (target : Bytes)
  | echoRequest (v6 : Bool) (target : Bytes) (payload : Bytes)
  | igmpQuery (version : Nat)
  | mldQuery (version : Nat)
  | ptpOther
  | unmatched
  deriving DecidableEq, Repr

/-- A received Ethernet frame (R84, R86). -/
structure EthFrame where
  port  : Fin 4
  len   : Nat
  tags  : Nat
  fcsOk : Bool
  kind  : EthKind
  rx    : Time64
  deriving DecidableEq, Repr

/-- A frame for a stream's endpoint as its port delivers it (R84, R88): its bytes from the Ethernet destination address, the FCS excluded,
whether the FCS is good, whether an uncorrectable Basin error hit it on its way (R313), and its raw receive timestamp. -/
structure NetFrame where
  port    : Fin 4
  bytes   : Bytes
  fcsOk   : Bool
  basinUe : Bool
  rx      : Time64
  deriving DecidableEq, Repr

/-- A borrowed packet (R252): its bytes, its path at the lender and the lender's ARRIVAL_T. -/
structure BorrowPkt where
  path     : Nat
  arrivalT : Time64
  bytes    : Bytes
  deriving DecidableEq, Repr

/-! ## What the decoder and the ingest engine find in a picture -/

/-- One inter reference of an 8 by 8 unit (R133): the referenced picture, the block in luma samples and its motion
vector in quarter samples; `mvdNonZero` for R147. -/
structure InterRef where
  pic        : Nat
  x          : Nat
  y          : Nat
  w          : Nat
  h          : Nat
  mvx        : Int
  mvy        : Int
  mvdNonZero : Bool
  deriving DecidableEq, Repr

/-- An intra block of a unit (R133): 0 luma, 1 chroma, its place and size in samples of its component, its prediction mode by the number of its
standard, and which of its neighbouring samples are available: the left ones from the bottom of the bottom-left row up, the corner, then
the upper ones to the end of the top right. -/
structure IntraBlock where
  chroma : Bool
  x      : Nat
  y      : Nat
  size   : Nat
  mode   : Nat
  smooth : Bool
  avail  : List Bool
  deriving DecidableEq, Repr

/-- One 8 by 8 luma unit of a coded picture, at its place in units: its kind (R138), its references and intra blocks (R133), whether its slice
data ends in an error before it (R119, R135), its QP and its coded bytes (R139, R140), and the samples that its coded data decodes to where
its references are intact: 64 of luma, row by row, then 16 of each chroma component. -/
structure UnitDesc where
  ux        : Nat
  uy        : Nat
  skip      : Bool
  inter     : Bool
  refs      : List InterRef
  intra     : List IntraBlock
  lost      : Bool
  qp        : Nat
  bytes     : Nat
  luma      : List Nat
  cb        : List Nat
  cr        : List Nat
  deriving DecidableEq, Repr

/-- The parameter sets that a coded picture activates (R113 to R115): `present` that every set it refers to is there and well formed,
`constraint1` constraint_set1_flag, `ext` a tool or an extension beyond the listed ones, `frameOnly` frame_mbs_only_flag 1 or field_seq_flag 0,
the conformance window as what is cropped on each side in luma samples, `maxDpb` the decoded picture buffer that it asks for, and the VUI's
matrix and range. -/
structure SeqParams where
  present     : Bool
  profile     : Nat
  constraint1 : Bool
  level       : Nat
  ext         : Bool
  chroma      : Nat
  depthLuma   : Nat
  depthChroma : Nat
  frameOnly   : Bool
  fmo         : Bool
  redundant   : Bool
  spSi        : Bool
  codedW      : Nat
  codedH      : Nat
  left        : Nat
  right       : Nat
  top         : Nat
  bottom      : Nat
  maxDpb      : Nat
  matrix      : Nat
  full        : Nat
  deriving DecidableEq, Repr

/-- What the access unit that a lane decodes holds by the ITU-T syntax (R113 to R119): its parameter sets, its picture order count, number and
frame_num, its most inter-capable slice type, `refs` the pictures of its reference set as (number, order count), `dropped` those
that leave the decoded picture buffer, and the units that its slices carry, in decode order. It is what the access unit's NAL units spell; what the
lane makes of it is the model's. -/
structure CodedPicture where
  seq         : SeqParams
  poc         : Int
  picNum      : Nat
  frameNum    : Nat
  maxFrameNum : Nat
  picType     : Nat
  refs        : List (Nat × Int)
  dropped     : List Nat
  units       : List UnitDesc
  deriving DecidableEq, Repr

/-! ## Heads, ports and checks -/

/-- Data that a compose line lost in memory (R309, R313): a source tile's samples, or a scaler line-buffer word of a
pane. -/
inductive LostData where
  | fetch (source tileRow tileCol : Nat)
  | lineBuffer (pane : Nat)
  | ledger (source : Nat) (slot : Fin 4)
  deriving DecidableEq, Repr

/-- What disturbs the output check of a tile (R217, R334): whether the verification lane finished its row, the bits by which its
two copies and their guards differ from its recomputation as they are read, and the bits by which the port's own signature was
disturbed. All bits 0 is a check without a fault. -/
structure CheckObs where
  finished : Bool
  copyA    : BitVec 32
  guardA   : BitVec 16
  copyB    : BitVec 32
  guardB   : BitVec 16
  disturb  : BitVec 32
  deriving DecidableEq, Repr

/-- What the sink answers at a successful training (R207). -/
structure SinkInfo where
  dpcd : Bytes
  edid : Bytes
  deriving DecidableEq, Repr

/-- What is read at the end of link training (R203, R207): the data of the port's own sink, and on an MST port those of each head's sink. -/
structure LinkInfo where
  own   : SinkInfo
  sinks : List (Fin 32 × SinkInfo)
  deriving DecidableEq, Repr

/-! ## The twin's frames -/

/-- A granule on the Flume (R228): 16 data bytes, the first lowest, and the 16 check bits of the protection code. -/
structure FlumeGranule where
  data  : BitVec 128
  check : BitVec 16
  deriving DecidableEq, Repr

/-- A frame as the lanes carry it (R228): its granules, after the lanes' coding and deskew. -/
abbrev FlumeFrame := List FlumeGranule

/-- A message of the other seat with the frame that it came in. -/
structure Framed (α : Type) where
  msg   : α
  frame : FlumeFrame
  deriving DecidableEq, Repr

/-- A frame whose body the model reads (R229, R247, R254), at its receipt. -/
structure FrameAt where
  frame : FlumeFrame
  at'   : Time64
  deriving DecidableEq, Repr

/-- A HELLO frame (R234): whether its sender can be joined stands in no field of its body (log entry 129). -/
structure HelloIn where
  frame    : FlumeFrame
  joinable : Bool
  at'      : Time64
  deriving DecidableEq, Repr

/-- A LEAD_STATE frame (R50): the lead's time state and U_WALL. -/
structure LeadIn where
  tstate : Nat
  uWall  : Nat
  frame  : FlumeFrame
  at'    : Time64
  deriving DecidableEq, Repr

/-- A sent frame that waits for its answer (R231): a SNAP or a CMD, and its number. -/
structure SentFrame where
  snap : Bool
  fseq : Nat
  deriving DecidableEq, Repr

/-- The header of a frame (R229). -/
structure FlumeHdr where
  ty     : Nat
  seatB  : Bool
  resend : Bool
  len    : Nat
  fseq   : Nat
  tick   : Nat
  deriving DecidableEq, Repr

/-- The body of a HELLO (R234), and whether its sender can be joined (R240: the spec gives no field for it, log entry 129). -/
structure Hello where
  uniqueId  : Bytes
  installId : Bytes
  fwDigest  : Bytes
  nonce     : Bytes
  peerNonce : Bytes
  seat      : Nat
  mode      : Nat
  goodLanes : Nat
  joinable  : Bool
  signature : Bytes
  cert      : Bytes
  at'       : Time64
  deriving DecidableEq, Repr

/-- The body of a HEARTBEAT (R237): seat, mode, withdrawn flag, thermal level, time state and snapshot age, and the tick of a leave
that it announces (R227). -/
structure Heartbeat where
  seat      : Nat
  mode      : Nat
  withdrawn : Bool
  leaving   : Option Nat
  thermal   : Nat
  tstate    : Nat
  snapAge   : Nat
  at'       : Time64
  deriving DecidableEq, Repr

/-- A UDP heartbeat (R237): the bytes the MAC covers and the MAC. -/
structure UdpHeartbeat where
  body     : Bytes
  mac      : Bytes
  at'      : Time64
  deriving DecidableEq, Repr

/-- The lead's LEAD_STATE (R50, R245). -/
structure LeadState where
  tick   : Nat
  tstate : Nat
  uWall  : Nat
  at'    : Time64
  deriving DecidableEq, Repr

/-- One entry of an ADMIT list (R247). -/
structure AdmitEntry where
  source   : Nat
  clean    : Bool
  entry    : Bool
  timeQual : Nat
  rtpTs    : Nat
  frameSeq : Nat
  digest   : BitVec 32
  captureT : Time64
  arrivalT : Time64
  uGrade   : Nat
  deriving DecidableEq, Repr

/-- The ADMIT frame (R247). -/
structure Admit where
  tick        : Nat
  withdrawn   : Bool
  fencesValid : Bool
  cmdDigest   : BitVec 32
  eventSeq    : Nat
  fenceMask   : List Nat
  list        : List AdmitEntry
  at'         : Time64
  deriving DecidableEq, Repr

/-- A BORROW_REQ (R251): closed ranges of extended sequence numbers, or an open range from a number. -/
structure BorrowReq where
  source : Fin 128
  ranges : List (Nat × Nat)
  openFrom : Option Nat
  at'    : Time64
  deriving DecidableEq, Repr

/-- A SIG frame (R254). -/
structure SigFrame where
  head      : Fin 32
  trows     : Nat
  dark      : Bool
  xchgLate  : Bool
  withdrawn : Bool
  selfFault : Bool
  frameCnt  : Nat
  frameSig  : BitVec 32
  rowSigs   : List (BitVec 32)
  rowFlags  : List (BitVec 8)
  at'       : Time64
  deriving DecidableEq, Repr

/-- The body of a CMD frame (R242, R243): the packet with TWIN_ROUTE A, or its sequence field and CRC with BOTH; neither takes back the
packet of that frame's number, which was not acknowledged (log entry 130). -/
structure CmdFrame where
  packet : Option (CmdHdr × Cmd)
  seqCrc : Option (Nat × Nat)
  at'    : Time64
  deriving DecidableEq, Repr

/-- The body of a CMD_ACK (R242): the number of the CMD frame, and the status of its checks. -/
structure CmdAck where
  fseq   : Nat
  status : Nat
  detail : Nat
  at'    : Time64
  deriving DecidableEq, Repr

/-- An event as a peer's EVENT frame carries it (R244, R373). -/
structure PeerEvent where
  time    : Time64
  code    : Nat
  payload : List (Nat × Nat)
  deriving DecidableEq, Repr

/-- What a STATE frame announces (R230, R257). -/
inductive StateMsg where
  | withdraw (tick : Nat)
  | selfFault
  | divergence
  | reinstate
  | leave (tick : Nat)
  deriving DecidableEq, Repr

/-- A SNAP segment (R261). `purpose` says what the transfer is for: 0 a standby's copy, 1 a HOT join, 2 a COLD join, 3 a planned
takeover (R240, R262, R263). -/
structure SnapSegment where
  purpose  : Nat
  snapId   : Nat
  tick     : Nat
  total    : Nat
  offset   : Nat
  data     : Bytes
  crc      : BitVec 64
  at'      : Time64
  deriving DecidableEq, Repr

/-- What a frame's body says, by its type (R230). -/
inductive FlumeBody where
  | hello (m : Hello)
  | heartbeat (m : Heartbeat)
  | timeXfer (leg : Nat) (times : List Int)
  | leadState (m : LeadState)
  | admitList (a : Admit)
  | borrowReq (q : BorrowReq)
  | borrowData (source ext answer : Nat) (packet : Option BorrowPkt)
  | sig (f : SigFrame)
  | cmd (m : CmdFrame)
  | cmdAck (m : CmdAck)
  | event (e : PeerEvent)
  | state (m : StateMsg)
  | snap (m : SnapSegment)
  | snapAck (snapId offset : Nat)
  deriving DecidableEq, Repr

/-! ## Memory, encode, power -/

/-- The result of a granule read (R309). -/
inductive ReadResult where
  | ok
  | corrected
  | uncorrectable
  deriving DecidableEq, Repr

/-- Who asked for the granule (R309, R311). -/
inductive Requester where
  | scan (h : Fin 32) (src row col : Nat)
  | verify (h : Fin 32) (row : Nat)
  | decRef (s : Fin 128) (units : List Nat)
  | decBits (s : Fin 128)
  | ledgerSpill (source : Nat) (slot : Fin 4)
  | intraBase (s : Fin 128)
  | encRef (session : Fin 16)
  | bar2
  | control (flashCopy : Bool)
  | other (port : Fin 9)
  deriving DecidableEq, Repr

/-- A request at a DRAM port (R311, R312): who reads, or none for a write; its port, its device address and its arrival. -/
structure MemReq where
  q    : Option Requester
  port : Fin 9
  addr : Nat
  arr  : Time64
  deriving DecidableEq, Repr

/-- What a granule read serves (R309, R312): its requester, and the requests that have arrived on the channel since the last one. -/
structure ReadFor where
  q       : Requester
  arrived : List MemReq
  deriving DecidableEq, Repr

/-- The partitions of the Basin (R22). -/
inductive Partition where
  | headFifo
  | scalerLines
  | ledger
  | netJitter
  | decCache
  | encoder
  | firmware
  | reserve
  deriving DecidableEq, Repr

/-- Where in a partition an uncorrectable Basin word lies (R313): for a head FIFO its line and pixel, for the self-test save reserve
what the region under test held. A write outside its owner's partition is named with the block. -/
inductive BasinWord where
  | headFifo (h : Fin 32) (y x : Nat)
  | scalerLines (h : Fin 32) (pane : Nat) (line0 line1 : Nat)
  | ledger (source : Nat) (slot : Fin 4)
  | netJitter (s : Fin 128) (ext : Nat)
  | decCache (s : Fin 128) (units : List Nat)
  | encoder (session : Fin 16)
  | firmware
  | reserve (held : BasinWord)
  | violation (p : Partition) (block : Nat)
  deriving DecidableEq, Repr

/-- What the encode lane measures of one encoded row (R287, R288): its number, the bits that the access unit carries for it coded normally at
each QP from 0 to 51 and as a dry row (with the first row those of the parameter sets and SEI messages too), and the QP that the firmware picks. -/
structure RowCoded where
  row     : Nat
  sizes   : List Nat
  dryBits : Nat
  qp      : Nat
  deriving DecidableEq, Repr

/-- The outcome of a self-test run (R416, R418). -/
structure SelftestOutcome where
  durationMs   : Nat
  failDecode   : Nat
  failCompose  : Nat
  failSerdes   : Nat
  sramFail     : Nat
  failScaler   : Nat
  tjMin        : Int
  tjMax        : Int
  deriving DecidableEq, Repr

/-- The straps and levels sampled at the release of RESET_N (R226, R413, R455), and whether the sealed records open (R433, R434). -/
structure ResetInputs where
  seatHigh  : Bool
  vddTouch  : Bool
  recordsOpen : Bool
  at'       : Time64
  deriving DecidableEq, Repr

/-- Where a self-test slice runs (R421). -/
inductive SliceUnit where
  | basin (region : Nat)
  | decodeLane (l : Fin 12)
  | composeLane (l : Fin 9)
  | scaler (i : Fin 72)
  | serdes (g : Fin 12)
  deriving DecidableEq, Repr

/-- What the Riane reads of a playback ring (R128, R391): the host's producer index, the bytes from the consumer index to it in ring order, and
what stands at AU_ADDR of each descriptor there (none where it cannot be read). -/
structure PlaybackRead where
  producer : Nat
  ring     : Bytes
  aus      : List (Option Bytes)
  deriving DecidableEq, Repr

/-- Where the first row of a departing tile stands: its head, tile row and tile column (R80). -/
structure TilePos where
  head : Fin 32
  row  : Nat
  col  : Nat
  deriving DecidableEq, Repr

/-- The commands and happenings of the Riane, in the table's order: one constructor a row. The rows of the
opcodes carry a packet's header and the parameters of R390, and stand for the arrival and acceptance
of that packet (R357, R360). An instant `t` is a reading of the time counter. -/
inductive Instr where
  | sysSet (h : CmdHdr) (recs : List SetRec)
  | sysProfile (h : CmdHdr) (profile fsp : Nat)
  | sysShutdown (h : CmdHdr) (mode : Nat)
  | sysRestart (h : CmdHdr)
  | sysGet (h : CmdHdr) (keys : List GetKey)
  | sysInfo (h : CmdHdr)
  | sysEventRead (h : CmdHdr) (fromSeq max : Nat)
  | timeSet (h : CmdHdr) (recs : List SetRec)
  | timeGet (h : CmdHdr) (keys : List GetKey)
  | timeStatus (h : CmdHdr)
  | srcSet (h : CmdHdr) (recs : List SetRec)
  | srcGet (h : CmdHdr) (keys : List GetKey)
  | srcStats (h : CmdHdr) (object : Nat) (clear : Bool)
  | srcFreezeStatus (h : CmdHdr) (object : Nat) (clear : Bool)
  | srcLedgerRead (h : CmdHdr) (source slot first count : Nat)
  | paneCreate (h : CmdHdr) (pane head source : Nat) (recs : List SetRec)
  | paneDelete (h : CmdHdr) (pane : Nat)
  | paneSet (h : CmdHdr) (recs : List SetRec)
  | layerDeclare (h : CmdHdr) (source format w h : Nat) (palette : Bytes)
  | bufRegister (h : CmdHdr) (buf format w h offset stride : Nat) (palette : Bytes)
  | bufUnregister (h : CmdHdr) (buf : Nat)
  | fenceConfig (h : CmdHdr) (fence loc addr : Nat)
  | flip (h : CmdHdr) (group : Nat) (layers : List FlipLayer)
  | paneGet (h : CmdHdr) (keys : List GetKey)
  | bufState (h : CmdHdr) (first count : Nat)
  | groupStatus (h : CmdHdr) (group : Nat)
  | headSet (h : CmdHdr) (recs : List SetRec)
  | headDark (h : CmdHdr) (heads : Reg32) (dark : Nat)
  | colourStage (h : CmdHdr) (head part : Nat) (data : Bytes)
  | colourCommit (h : CmdHdr) (head : Nat)
  | scalerCoefLoad (h : CmdHdr) (set : Nat) (data : Bytes)
  | headGet (h : CmdHdr) (keys : List GetKey)
  | headStats (h : CmdHdr) (object : Nat) (clear : Bool)
  | dpSinkInfo (h : CmdHdr) (head : Nat)
  | codecSet (h : CmdHdr) (recs : List SetRec)
  | encIdr (h : CmdHdr) (sessions : Nat)
  | playbackRing (h : CmdHdr) (stream vector log2 base : Nat)
  | decStatsRing (h : CmdHdr) (vector log2 base : Nat)
  | codecGet (h : CmdHdr) (keys : List GetKey)
  | encStats (h : CmdHdr) (object : Nat) (clear : Bool)
  | decCounters (h : CmdHdr) (object : Nat) (clear : Bool)
  | twinSet (h : CmdHdr) (recs : List SetRec)
  | twinJoin (h : CmdHdr) (mode : Nat)
  | twinLeave (h : CmdHdr)
  | twinTakeover (h : CmdHdr)
  | twinWithdraw (h : CmdHdr)
  | twinReinstate (h : CmdHdr)
  | twinAdopt (h : CmdHdr) (uid : Bytes)
  | twinGet (h : CmdHdr) (keys : List GetKey)
  | twinStats (h : CmdHdr) (object : Nat) (clear : Bool)
  | touchSet (h : CmdHdr) (recs : List SetRec)
  | legendRegister (h : CmdHdr) (legend pane : Nat) (mask : Nat)
  | legendDelete (h : CmdHdr) (legend : Nat)
  | touchGet (h : CmdHdr) (keys : List GetKey)
  | touchRead (h : CmdHdr) (group : Nat)
  | cuStart (h : CmdHdr) (unit alg foldEn : Nat) (fold : BitVec 64)
  | cuFeed (h : CmdHdr) (unit kind addr len : Nat) (inlineData : Bytes)
  | cuCtxRead (h : CmdHdr) (unit : Nat)
  | cuCtxWrite (h : CmdHdr) (unit : Nat) (ctx : CuContext)
  | cuFinish (h : CmdHdr) (unit : Nat)
  | cuCompare (h : CmdHdr) (unit mode slot : Nat) (refA : BitVec 64) (guardA : Nat) (refB : BitVec 64) (guardB : Nat)
  | cuStore (h : CmdHdr) (unit slot : Nat)
  | memSet (h : CmdHdr) (recs : List SetRec)
  | memSetpoint (h : CmdHdr) (fsp : Nat)
  | memGet (h : CmdHdr) (keys : List GetKey)
  | memStats (h : CmdHdr) (object : Nat) (clear : Bool)
  | diagDpPattern (h : CmdHdr) (port pattern : Nat) (custom : Bytes)
  | diagEthPrbs (h : CmdHdr) (port rate on : Nat)
  | selftestRun (h : CmdHdr) (regions pattern : Nat)
  | selftestResult (h : CmdHdr)
  | diagThermal (h : CmdHdr)
  | lcProvision (h : CmdHdr)
  | installSet (h : CmdHdr) (installId key : Bytes)
  | lcField (h : CmdHdr)
  | lcUnlock (h : CmdHdr) (token : Bytes)
  | lcDecommission (h : CmdHdr)
  | fwStage (h : CmdHdr) (slot offset : Nat) (data : Bytes)
  | fwActivate (h : CmdHdr) (slot : Nat)
  | attest (h : CmdHdr) (nonce : Bytes)
  | certRead (h : CmdHdr)
  | netSet (h : CmdHdr) (recs : List SetRec)
  | netMirrorRing (h : CmdHdr) (vector log2 base : Nat)
  | netGet (h : CmdHdr) (keys : List GetKey)
  | netStats (h : CmdHdr) (object : Nat) (clear : Bool)
  | cmdqSqTail (q : Fin 8) (idx : Nat) (t : Time64)
  | sqEntryFetch (q : Fin 8) (f : SqFetch) (t : Time64)
  | cmdqCqHead (q : Fin 8) (idx : Nat)
  | cmdqCfgWrite (q : Fin 8) (v : Reg32)
  | evqCfgWrite (v : Reg32)
  | evqCons (idx : Nat)
  | evqRecordWrite
  | sysIrqCauseW1c (v : Reg32)
  | headStatusW1c (h : Fin 32) (v : Reg32)
  | sysBar2BaseWrite (v : Reg32)
  | bar2BaseTakeEffect
  | liveMapWrite (k : Fin 16) (v : Reg32) (t : Time64)
  | liveDarkMapWrite (k : Fin 4) (v : Reg32) (t : Time64)
  | liveDarkPolWrite (v : Reg32) (t : Time64)
  | bar0LowWordRead (offset : Nat) (t : Time64)
  | registerWrite (offset : Nat) (v : Reg32)
  | bar2Write (offset : Nat) (data : Bytes)
  | bar2Read (offset len : Nat) (granules : List ReadResult)
  | statusRead (t : Time64)
  | cmdWrite (frame : Bytes) (complete : Bool) (t : Time64)
  | replyRead
  | udpCommandDatagram (src : AddrRec) (datagram : Bytes) (fragment : Bool) (t : Time64)
  | resetNFall (t : Time64)
  | resetNRelease (r : ResetInputs)
  | startSequenceStep (tjOk : Bool) (selftest : Option SelftestOutcome) (t : Time64)
  | pwrGoodFall (t : Time64)
  | pciePerstNLow
  | pciePerstNHigh
  | shutdownStep (selftest : Option SelftestOutcome) (t : Time64)
  | selftestPrecondCheck (clocksOk vddOk : Bool) (t : Time64)
  | darkPinEdge (k : Fin 4) (level : Bool) (t : Time64)
  | eviSample (i : Fin 32) (level : Bool) (t : Time64)
  | eviAccept (i : Fin 32) (t : Time64)
  | eviStuck (i : Fin 32) (t : Time64)
  | ppsInEdge (t : Time64) (quarter : Nat)
  | ppsOutSecond (t : Time64)
  | twinHbInEdge (t : Time64)
  | tickStart
  | decisionPoint (fences : List (Nat × Nat))
  | fenceReadLate (f : Nat)
  | flipStall (g : Fin 64)
  | partnerFailed (t : Time64)
  | twinHbPath (path : Fin 3) (t : Time64)
  | ptpSyncReceived (m : PtpSync)
  | ptpFollowUpReceived (m : PtpReply)
  | ptpDelayRespReceived (m : PtpReply)
  | ptpAnnounceReceived (m : PtpAnnounce)
  | announceReceiptTimeout (d : Fin 2) (t : Time64)
  | timeSlewEnd (t : Time64)
  | holdoverLimit (t : Time64)
  | timeXferReceived (x : Framed TimeXfer)
  | ethFrameReceived (f : EthFrame)
  | rtpPacketReceived (p : NetFrame)
  | rtcpSrReceived (p : NetFrame)
  | netLink (p : Fin 4) (up : Bool) (t : Time64)
  | jitterRelease (s : Fin 128) (t : Time64)
  | gapTimeout (s : Fin 128) (t : Time64)
  | silenceTimeout (s : Fin 128) (t : Time64)
  | laneFree (lane : Fin 12) (t : Time64)
  | decodePreempt (lane : Fin 12) (row : Nat) (t : Time64)
  | decodeComplete (lane : Fin 12) (r : CodedPicture) (t : Time64)
  | ingestFrameComplete (s : Fin 128) (ts : Nat) (t : Time64)
  | decLaneSafePoint (lane : Fin 12) (t : Time64)
  | playbackPoll (s : Fin 128) (r : PlaybackRead) (t : Time64)
  | frameStart (h : Fin 32)
  | vblankStart (h : Fin 32) (t : Time64)
  | lineCompose (h : Fin 32) (y : Nat) (lost : List LostData)
  | tileDeparture (p : TilePos) (missing : Bool)
  | outputCheckComplete (p : TilePos) (o : CheckObs) (t : Time64)
  | flaundRecordAssembly (h : Fin 32) (t : Time64)
  | bufRetired (b : Fin 1024) (t : Time64)
  | headSafePoint (h : Fin 32) (t : Time64)
  | headPllLocked (h : Fin 32) (t : Time64)
  | mstAllocationDone (h : Fin 32) (t : Time64)
  | linkTrainComplete (p : Fin 8) (info : LinkInfo) (t : Time64)
  | linkTrainFail (p : Fin 8) (phase : Nat) (t : Time64)
  | linkTrainRetry (p : Fin 8) (t : Time64)
  | hpdUnplug (p : Fin 8) (t : Time64)
  | irqHpd (p : Fin 8) (lost : Bool) (t : Time64)
  | hpdReturn (p : Fin 8) (t : Time64)
  | dpTopology (p : Fin 8) (departed : List Nat) (t : Time64)
  | helloReceived (m : HelloIn)
  | helloSend (t : Time64)
  | heartbeatReceived (m : Framed Heartbeat)
  | udpHeartbeatReceived (m : UdpHeartbeat)
  | leadStateReceived (m : LeadIn)
  | leadStateSend (t : Time64)
  | admitReceived (m : FrameAt)
  | xchgDeadline (t : Time64)
  | borrowReqReceived (m : Framed BorrowReq)
  | borrowDataReceived (packets : Framed (List BorrowPkt)) (notHeld : Bool) (s : Fin 128) (t : Time64)
  | borrowWaitTimeout (s : Fin 128) (ext : Nat) (t : Time64)
  | borrowIdleTimeout (s : Fin 128) (t : Time64)
  | openBorrowExpiry (s : Fin 128) (t : Time64)
  | sigReceived (m : FrameAt)
  | sigLate (h : Fin 32) (t : Time64)
  | cmdFrameReceived (m : Framed CmdFrame)
  | cmdAckReceived (m : Framed CmdAck)
  | flumeResend (f : SentFrame) (t : Time64)
  | eventFrameReceived (e : Framed PeerEvent) (t : Time64)
  | stateFrameReceived (m : Framed StateMsg) (t : Time64)
  | snapReceived (m : Framed SnapSegment)
  | snapAckReceived (snapId offset : Nat) (ok : Framed Bool) (t : Time64)
  | snapshotPeriod (t : Time64)
  | flumeLaneLoss (l : Fin 8) (t : Time64)
  | flumeLaneRejoin (l : Fin 8) (t : Time64)
  | flumeSafePoint (t : Time64)
  | twinPartnerReplaced (t : Time64)
  | twinSnapOld (t : Time64)
  | encRowCoded (x : Fin 16) (r : RowCoded) (t : Time64)
  | encRecordAssembly (x : Fin 16) (t : Time64)
  | encSessionSafePoint (x : Fin 16) (t : Time64)
  | rtcpSrSend (x : Fin 16) (t : Time64)
  | touchSlotMeasure (g : Fin 8) (counts : List Nat) (t : Time64)
  | touchMaxHold (e : Fin 128) (t : Time64)
  | touchDriftUncomp (e : Fin 128) (t : Time64)
  | touchSave (t : Time64)
  | touchSafePoint (t : Time64)
  | memReadResult (ch : Fin 8) (addr : Nat) (r : ReadResult) (q : ReadFor) (t : Time64)
  | ceRewrite (ch : Fin 8) (addr : Nat) (t : Time64)
  | scrubSegment (ch : Fin 8) (seg : Nat) (tag : Bytes) (results : List ReadResult) (t : Time64)
  | basinScrub (w : BasinWord) (r : ReadResult) (t : Time64)
  | basinUe (w : BasinWord) (t : Time64)
  | refreshDue (ch : Fin 8) (scanUrgent : Bool) (t : Time64)
  | mr4Read (ch : Fin 8) (rate : Nat) (t : Time64)
  | coldRankIdle (ch : Fin 8) (t : Time64)
  | rankWake (ch : Fin 8) (t : Time64)
  | setpointSwitch (ready : Bool) (outageUs : Nat) (lock : Bool) (t : Time64)
  | memSetpointDone (t : Time64)
  | thermalSample (readings : List Int) (t : Time64)
  | thermalLevelRepeat (t : Time64)
  | avsReadback (mv : Nat) (t : Time64)
  | flashQueueDrain (ok : Bool) (t : Time64)
  | configSnapshotWrite (ok : Bool) (t : Time64)
  | selftestSlice (u : SliceUnit) (pass : Bool) (t : Time64)
  | selftestRecordAge (t : Time64)
  | serviceTokenExpiry (t : Time64)
  | cuFeedComplete (u : Fin 8) (data : Option Bytes) (t : Time64)
  | delayReqSend (d : Fin 2) (seq : Nat) (tx : TxTime)
  | mergeWindowClose (s : Fin 128) (ext : Nat) (t : Time64)
  deriving DecidableEq, Repr

end Sys2Proof
end

