-- ==== Sys2Proof/Machine/State.lean ====
section
/-! DEFINITION. The state of the Riane as plain data: what the commands configure, every register, queue, buffer and
counter the spec names, the model's own fields (the free-value counter, the output log), and the
state after reset. A structure's docstring names the rules its fields come from. -/
namespace Sys2Proof.Machine

/-! ## Names -/

/-- The time states of R32, in the order of TSTATE (R57). -/
inductive TState where
  | dual
  | single
  | holdover
  | freeRun
  deriving DecidableEq, Repr

/-- The twin modes of R225, in the order of MODE (R265). -/
inductive TwinMode where
  | solo
  | hot
  | coldActive
  | coldStandby
  | orphaned
  deriving DecidableEq, Repr

/-- The life-cycle states of R425, in the order of LEVELS (R370). -/
inductive LifeState where
  | fabricated
  | provisioned
  | field
  | service
  | decommissioned
  deriving DecidableEq, Repr

/-- The operating profiles of R19, in the order of PROFILE (R376). -/
inductive Profile where
  | lowLatency
  | fullDensity
  | endurance
  deriving DecidableEq, Repr

/-- The verdicts of R60, LIVE best. -/
inductive Verdict where
  | live
  | aged
  | concealed
  | frozen
  | stale
  | unverified
  | dark
  deriving DecidableEq, Repr

/-- The stream states of R99, in the order of STATE (R111). -/
inductive StreamState where
  | idle
  | priming
  | flowing
  | gapped
  | silent
  | resync
  deriving DecidableEq, Repr

/-- The decode classes of R122, in their order. -/
inductive StreamClass where
  | guardedVisible
  | unguardedVisible
  | preview
  | playback
  | none
  deriving DecidableEq, Repr

/-- The thermal levels of R410 (trip is `Power.tripped`). -/
inductive ThermalLevel where
  | normal
  | warning
  | throttle
  deriving DecidableEq, Repr

/-- The causes of a stream's state change as event STREAM_STATE names them (R99). -/
inductive StreamCause where
  | packet
  | release
  | noEntry
  | gapTimeout
  | closedAu
  | silence
  | session
  | decoder
  | disabled
  deriving DecidableEq, Repr

/-! ## Configuration: what commands set -/

/-- A pane's fixed part (R160): its head and its source. -/
structure PaneCfg where
  head   : Nat
  source : Nat
  deriving DecidableEq, Repr

/-- A host layer's declaration (R177). -/
structure LayerCfg where
  format  : Nat
  w       : Nat
  h       : Nat
  palette : Bytes
  deriving DecidableEq, Repr

/-- A registered host buffer (R178). -/
structure BufCfg where
  format  : Nat
  w       : Nat
  h       : Nat
  offset  : Nat
  stride  : Nat
  palette : Bytes
  deriving DecidableEq, Repr

/-- A fence's configuration (R183): HOST or DEVICE, and its address. -/
structure FenceCfg where
  device : Bool
  addr   : Nat
  deriving DecidableEq, Repr

/-- A ring in host memory (R112, R128, R138, R391): MSI-X vector, log2 of the size, base, and its indices. -/
structure Ring where
  vector   : Nat
  log2     : Nat
  base     : Nat
  producer : Nat
  consumer : Nat
  rateT    : Nat
  rateBits : Nat
  deriving DecidableEq, Repr

/-- What commands configure. `params` holds every parameter of the tables of R382 that has been set
(key: parameter ID, second index, index). -/
structure Cfg where
  params  : Table Val
  profile : Profile
  fsp     : Nat
  panes   : Table PaneCfg
  layers  : Table LayerCfg
  bufs    : Table BufCfg
  fences  : Table FenceCfg
  darkCmd : Nat
  deriving DecidableEq, Repr

/-! ## Commands, replies, events -/

/-- The status codes of R358 and R392. -/
inductive Status where
  | ok
  | okAdjusted
  | deferred
  | rejFormat
  | rejRange
  | rejState
  | rejResource
  | rejBudget
  | rejAuth
  | rejLifecycle
  | fail (n : Nat)
  deriving DecidableEq, Repr

/-- An accepted command that waits for its apply tick (R361, R363), with its place in the acceptance order, and in
HOT its CMD frame and seat B's answer (R242). -/
structure Accepted where
  order  : Nat
  hdr    : CmdHdr
  cmd    : Cmd
  tick   : Nat
  fseq   : Option Nat
  acked  : Bool
  peer   : Bool
  deriving DecidableEq, Repr

/-- A reply (R356) and where it goes. -/
structure Reply where
  transport  : Transport
  opcode     : Nat
  tag        : Nat
  seq        : Nat
  tick       : Nat
  status     : Status
  detail     : Nat
  eventSeq   : Nat
  result     : Bytes
  resultAddr : Nat
  resultMax  : Nat
  deriving DecidableEq, Repr

/-- A command whose reply was DEFERRED (R358), or a completion event that will carry a TAG: the unit it waits on. -/
inductive DeferKey where
  | head (h : Nat)
  | lane (l : Nat)
  | session (x : Nat)
  | flume
  | touch
  deriving DecidableEq, Repr

/-- The events of R393. -/
inductive Ev where
  | cmdAuthFail | cmdRegApplied | cmdRegRefused | cmdqFault | evqGap | thermalLevel | thermalSensorFault
  | profileChange | shutdownDone | startDone
  | timeState | timeSourceChange | timeSlewStart | timeSlewEnd | timeDomainDisagree | captureGrade | captureFuture
  | ppsInEdge
  | streamState | streamSession | frameRecordFault | ledgerFault | freezeSet | freezeClear | freezeBaseFault
  | tokenFault | tokenJump
  | paneVerdict | paneDeleted | paneUnguarded | paneCropClip | bufRetired | bufModifiedHeld | flipStall
  | headRetimed | headReady | headUnderflow | weirLow | linkTrainFail | dpLink | dpTopology
  | decodeUnsupported | decodeOverrate | decodeHashMismatch | decLaneReady
  | twinMode | twinSeatConflict | twinAuthFail | twinInstallMismatch | twinFwMismatch | twinPartnerReplaced
  | twinFlumeReady | flumeLanes | twinHbPath | twinPartnerFailed | twinPartnerSeen | twinJoined | twinDarkSkew
  | twinCmdMismatch | eventReseq | twinInputDiffer | twinOutOfStep | twinXchgLate | twinSigMissing | twinMismatch
  | twinSelfFault | twinTransient | twinBothFaulty | twinDivergence | twinDivergenceEnd | twinReinstated | twinSnapOld
  | touchPress | touchRelease | touchStuck | touchStuckEnd | touchRebase | touchFault | touchPresentAtStart
  | touchDriftUncomp | touchWindow | touchReady | eviChange | eviStuck
  | cuMismatch | cuFeedFault
  | memCe | memCeRate | memUe | memAddrFault | memBasinViolation | memFatal | memDerate | memDerateJump
  | memSetpointDone | memSetpointRetry | memSetpointFail
  | selftestDone | selftestSlice | diagPatternDone
  | lifecycleChange | flashQueued | flashWritten | fwActivated
  | netLink
  | peer (code : Nat)
  deriving DecidableEq, Repr

/-- An event record (R373). The payload is kept as (size in bytes, value) pairs, in the order they are laid out. -/
structure EventRec where
  seq     : Nat
  time    : Time64
  code    : Ev
  seatB   : Bool
  tag     : Option Nat
  payload : List (Nat × Nat)
  deriving DecidableEq, Repr

/-- The event store and its ring (R374, R375, R376). -/
structure EventLog where
  next     : Nat
  history  : List EventRec
  base     : Nat
  cfg      : Reg32
  prod     : Nat
  cons     : Nat
  written  : Nat
  lost     : Nat
  gap      : Option (Nat × Nat)
  spiRead  : Nat
  deriving DecidableEq, Repr

/-- A PCIe queue pair (R364 to R366, R376). `cqCount` counts completions written since the pair was enabled, from
which PHASE and the ring index follow. -/
structure QueuePair where
  sqBase      : Nat
  cqBase      : Nat
  cfg         : Reg32
  tail        : Nat
  sqHead      : Nat
  cqHead      : Nat
  cqCount     : Nat
  inFlight    : Nat
  fetchErr    : Bool
  doorbellErr : Bool
  stalled     : Bool
  stopping    : Bool
  deriving DecidableEq, Repr

/-- The SPI console port (R367 to R370): buffers held, replies not yet read, and the window's own bits. -/
structure SpiPort where
  held     : Nat
  replies  : List Bytes
  crcErr   : Bool
  overrun  : Bool
  lastTag  : Nat
  deriving DecidableEq, Repr

/-- A UDP client slot's replay window (R372): the highest SEQ accepted and the 64 below it that have been seen. -/
structure UdpClient where
  highest : Option Nat
  seen    : List Nat
  deriving DecidableEq, Repr

/-- The command interface (R355 to R379). -/
structure CmdIf where
  ready      : Bool
  order      : Nat
  accepted   : List Accepted
  queues     : Table QueuePair
  spi        : SpiPort
  udp        : Table UdpClient
  authFail   : Nat
  authFailT  : Option Time64
  irqCause   : Reg32
  irqMask    : Reg32
  bar2Base   : Reg32
  bar2Next   : Option Reg32
  hiLatch    : Table Nat
  msixT      : Table Time64
  deferred   : List (DeferKey × CmdHdr × Cmd)
  sysId      : Reg32
  sysRev     : Reg32
  deriving DecidableEq, Repr

/-! ## Time (chapter The Wall Tick and Time) -/

/-- One accepted offset sample (R29), in picoseconds: the offset from the master, the path delay, and the phase the
servo had applied when it was taken. -/
structure OffSample where
  offset : Int
  delay  : Int
  phase  : Int
  deriving DecidableEq, Repr

/-- An estimator DOM[d] (R29): the masters heard, the selected one, its window, and the message times. Times t1 to t4
are in picoseconds. -/
structure Estimator where
  masters      : Table PtpAnnounce
  selected     : Option Nat
  window       : List OffSample
  lastAnnounce : Option Time64
  lastSync     : Option Time64
  logSync      : Int
  twoStep      : Option (Nat × Int)
  t2mt1        : Option Int
  delayReq     : Option (Nat × Int)
  pathDelay    : Option Int
  timedOut     : Bool
  deriving DecidableEq, Repr

/-- The time unit (R26 to R53). `own` is the state this seat's estimators give, `state` the one in force (R50). `phase` is all the
adjustment applied to the counter since reset, in picoseconds, with `phaseRem` hundred-millionths of a picosecond, accounted up to the
instant `servoT`; `freq` is the servo's frequency adjustment and `integ` the part of it that its integral term holds, both in hundredths
of a part per billion (R30). `dRem` is the remaining slew in picoseconds, `beforeZero` says that T(0) of the grid is still to come, and
`xferOn` that the servo is driven by time transfer (R48 to R50). -/
structure TimeUnit where
  now        : Time64
  tick       : Nat
  decided    : Nat
  est        : Table Estimator
  servoDom   : Nat
  servoSrc   : Option (Nat × Nat)
  locked     : Bool
  own        : TState
  state      : TState
  uWall      : Nat
  uEntry     : Nat
  holdStart  : Time64
  holdEnded  : Bool
  phase      : Int
  phaseRem   : Int
  servoT     : Time64
  freq       : Int
  integ      : Int
  dRem       : Int
  slewing    : Bool
  slewT      : Time64
  coarseSet  : Bool
  disagree   : Bool
  leadIsB    : Bool
  runB       : Nat
  runA       : Nat
  leadRecv   : Option LeadState
  leadMissed : Nat
  beforeZero : Bool
  xferOn     : Bool
  deriving DecidableEq, Repr

/-! ## The ledger (R54 to R59) -/

/-- A tile record (R59). -/
structure TileRec where
  upv      : Nat
  valid    : Bool
  taint    : Bool
  conc     : Bool
  hostmod  : Bool
  sigrep   : Bool
  repCnt   : Nat
  intraRep : Nat
  quietCnt : Nat
  sig      : BitVec 32
  deriving DecidableEq, Repr

/-- A frame header (R56, R57). -/
structure FrameHdr where
  source       : Nat
  slot         : Nat
  spilled      : Bool
  rowtime      : Bool
  cols         : Nat
  rows         : Nat
  frameSeq     : Nat
  captureT     : Time64
  arrivalT     : Time64
  evidenceT    : Time64
  frzSince     : Time64
  uGrade4      : Nat
  timeQual     : Nat
  decodeStatus : Nat
  freezeStatus : Nat
  srcState     : Nat
  auCrc        : Nat
  deriving DecidableEq, Repr

/-- A time that enters later ages, and whether it was read on this machine's own counter, so that a step of the counter moves it
(R33). -/
structure Dated where
  t     : Time64
  local' : Bool
  deriving DecidableEq, Repr

/-- The samples of a whole picture up to its coded size (R115), row by row; chroma at half the size on both axes. -/
structure Planes where
  w    : Nat
  h    : Nat
  luma : List Nat
  cb   : List Nat
  cr   : List Nat
  deriving DecidableEq, Repr

/-- A ledger slot: the header, the row-time block, the tile records, and the picture it names (R54 to R59, R168):
its size, sample depth, VUI, stored samples of each source tile, the whole picture up to its coded size (R115), which pictures are written
(0 the full one, 1 and 2 the companions, R101, R129), and for a host layer its buffer. `unreadable` says
that a header or record cannot be read (R55); `completeT` when the frame became a candidate (R101), `resync` that its stream was in RESYNC at its release, and `taken` that a pane has
admitted it or passed it over (R102). `oldPool` names the old picture pool that holds its picture, by the tick of its handover and
its size (R121). The last three say which of its times a step moves
(R33): the capture time, EVIDENCE_T and FRZ_SINCE. -/
structure Slot where
  hdr        : FrameHdr
  rowTimes   : List Nat
  tiles      : List TileRec
  width      : Nat
  height     : Nat
  depth      : Nat
  vuiMatrix  : Nat
  vuiFull    : Nat
  samples    : List Bytes
  coded      : Planes
  pics       : List Nat
  buf        : Option Nat
  unreadable : Bool
  oldPool    : Option (Nat × Nat)
  completeT  : Time64
  resync     : Bool
  rtpTs      : Nat
  taken      : Bool
  capLocal   : Bool
  evLocal    : Bool
  sinceLocal : Bool
  deriving DecidableEq, Repr

/-- What a source keeps besides its slots: the newest slot, its frame count, the latches of R62 and R67, and the heads on whose frames its
capture time contradicts the wall's clock (R65). -/
structure SourceRun where
  newest      : Option Nat
  frameSeq    : Nat
  silence     : Bool
  guardedHist : Bool
  lastDeleted : Option Nat
  futureHeads : List Nat
  faultSaid   : Bool
  ledgerFull  : Nat
  deriving DecidableEq, Repr

/-! ## Ingest (chapter Network Ingest and the Headgate) -/

/-- A valid incoming frame record as its rows and times go into the ledger (R108, R292). -/
structure FrameRecord where
  captureT : Time64
  depT     : Time64
  rowTimes : List Nat
  verdicts : List Nat
  u        : Nat
  tbaseOk  : Bool
  gm       : Nat
  domain   : Nat
  deriving DecidableEq, Repr

/-- Samples of one line of an ST 2110-20 frame as a packet carries them (RFC 4175, R89): the line, the offset of the first pixel and the
octets. -/
structure Seg where
  line : Nat
  off  : Nat
  data : Bytes
  deriving DecidableEq, Repr

/-- What a packet's RTP payload carries (R89): whole NAL units, a fragment of one with the header of its NAL unit, or line segments. -/
inductive Payload where
  | nals (l : List Bytes)
  | frag (isStart isEnd : Bool) (hdr data : Bytes)
  | lines (l : List Seg)
  deriving DecidableEq, Repr

/-- A packet held in the jitter buffer (R95, R252): its extended sequence number, its path, its ARRIVAL_T and its local receipt, its marker
bit, its payload and its bytes. -/
structure Held where
  ext    : Nat
  path   : Nat
  arr    : Time64
  got    : Time64
  marker : Bool
  pay    : Payload
  bytes  : Bytes
  deriving DecidableEq, Repr

/-- An access unit (or ST 2110-20 frame) from its first packet to its release (R95 to R98): its packets in order of arrival, and the
extension elements that may be copies of a frame record (R107, R108). -/
structure Au where
  ts       : Nat
  first    : Option Nat
  last     : Option Nat
  pkts     : List Held
  complete : Option Time64
  closed   : Bool
  copies   : List Bytes
  deriving DecidableEq, Repr

/-- A released access unit that waits for decode or is being decoded (R123, R124): `gap` says that an access unit before it was
lost or discarded (R131), `fresh` that decoding starts afresh with it, `copies` the copies of its frame record (R108), `nals` its NAL units in
decode order, `sets` the parameter sets in force before it (R89), and `segs` the line segments of an ST 2110-20 frame. -/
structure Picture where
  ts        : Nat
  arrivalT  : Time64
  release   : Time64
  entry     : Bool
  partialAu : Bool
  nonRef    : Bool
  gap       : Bool
  fresh     : Bool
  inResync  : Bool
  lane      : Option Nat
  row       : Nat
  copies    : List Bytes
  hostCap   : Option (Time64 × Nat)
  nals      : List Bytes
  sets      : List Bytes
  segs      : List Seg
  deriving DecidableEq, Repr

/-- A sequence number within its merge window (R93): the path it came on first, when, and the paths seen. -/
structure SeenSeq where
  ext   : Nat
  path  : Nat
  t     : Time64
  both  : Bool
  deriving DecidableEq, Repr

/-- The counters of R111, and those of R120's chapter kept per stream. -/
structure StreamCounters where
  pktAccept  : Nat
  pathDup    : Nat
  pathOnlyA  : Nat
  pathOnlyB  : Nat
  spill      : List Nat
  auComplete : Nat
  auPartial  : Nat
  auPreEntry : Nat
  jbLate     : Nat
  admitSkip  : Nat
  ledgerFull : Nat
  sessions   : Nat
  idleDiscard : Nat
  dropNonref : Nat
  raslSkip   : Nat
  hashSkip   : Nat
  deriving DecidableEq, Repr

/-- A decoded picture in the picture buffer (R117, R133): its samples and its units that are tainted or concealed. -/
structure DpbPic where
  picNum : Nat
  poc    : Int
  bad    : List Bool
  planes : Planes
  order  : Nat
  deriving DecidableEq, Repr

/-- A recovery under way from a recovery point (R131): where it began (frame_num, or the order count in H.265), its recovery_frame_cnt, and
whether every picture so far was received and decoded. -/
structure Recovery where
  start : Int
  count : Int
  whole : Bool
  deriving DecidableEq, Repr

/-- A stream (R90 to R112) with its decode context (R113 to R140). `ownPkt` is the last packet accepted from its own paths (R251). `lostUnits` are the units of the picture in decode whose data were
lost in memory (R309, R313). `lastAuTs` is the timestamp of the last access unit that left the jitter buffer, `closedHigh` the highest
sequence number whose merge window is over (R110), `inband` the parameter sets that came in band (R89), `lastPic` the last decoded picture
(R98, R135), and `flowAcc`, `flowSince` and `flowPkts` the time spent in FLOWING and the accepted packets on that clock (R92). -/
structure Stream where
  state       : StreamState
  session     : Bool
  ssrc        : Nat
  newSsrc     : Nat
  newSsrcN    : Nat
  highExt     : Option Nat
  seen        : List SeenSeq
  aus         : List Au
  lastAuEnd   : Option Nat
  lastAuTs    : Option Nat
  closedHigh  : Option Nat
  inband      : List Bytes
  lastPic     : Option Planes
  floorPts    : List (Time64 × Int)
  lastPkt     : Option Time64
  ownPkt      : Option Time64
  flowAcc     : Nat
  flowSince   : Option Time64
  flowPkts    : List Nat
  pktRate     : Option Nat
  policerT    : Time64
  policer     : Nat
  srMap       : Option (Time64 × Nat × Time64)
  recBearing  : Bool
  recNewest   : Option Time64
  grade       : Option Nat
  cls         : StreamClass
  waitEntry   : Bool
  startDecode : Bool
  raslSkip    : Bool
  queue       : List Picture
  dpb         : List DpbPic
  decOrder    : Nat
  recovery    : List Recovery
  completions : List Time64
  overrate    : Bool
  statsN      : Nat
  rtpUnwrap   : Nat
  cnt         : StreamCounters
  ring        : Option Ring
  gapNext     : Bool
  lostUnits   : List Nat
  deriving DecidableEq, Repr

/-- A decode lane (R123 to R126): the stream it decodes, and where it stands after a disable. -/
structure Lane where
  stream   : Option Nat
  stopping : Bool
  stopped  : Bool
  restart  : Bool
  deriving DecidableEq, Repr

/-- The freeze detector's state for a source (R145 to R158): the last picture's tile records, the intra base (size, a signature
for each valid tile) and whether it can no longer be read, the token state with whether a token has given positive evidence in
the session, and the block of R158. -/
structure Freeze where
  frz        : Bool
  frzSince   : Dated
  evidenceT  : Dated
  evLast     : Nat
  frameSeq   : Nat
  base       : Option (Nat × Nat × List (Option (BitVec 32)))
  baseBad    : Bool
  baseT      : Dated
  lastCrc    : Option Nat
  runStartT  : Dated
  payloadRun : Nat
  lastCols   : Nat
  lastTiles  : List TileRec
  lastMoveT  : Dated
  bearing    : Bool
  seenFirst  : Bool
  tokenCnt   : Nat
  tokenStat  : Nat
  statValid  : Bool
  badRun     : Nat
  statRun    : Nat
  tokenPos   : Bool
  tokenPosT  : Dated
  setCount   : Nat
  override   : Nat
  faults     : Nat
  jumps      : Nat
  neutral    : Nat
  deriving DecidableEq, Repr

/-- An Ethernet port (R84 to R87, R387): link, counters, joined groups. -/
structure EthPort where
  link      : Bool
  fcsErr    : Nat
  unmatched : Nat
  framesRx  : Nat
  framesTx  : Nat
  prbs      : Option Nat
  joins     : List (Bytes × Bytes)
  igmp1     : Option Time64
  igmp2     : Option Time64
  mld1      : Option Time64
  deriving DecidableEq, Repr

/-! ## Panes, buffers, groups -/

/-- A pane's run-time state: the slot it shows (R102; none when no frame has been admitted to it, R66), whether its crop's clipping
has been reported (R162), and its reported verdict. -/
structure PaneRun where
  shown    : Option Nat
  clipSaid : Bool
  worst    : Verdict
  judged   : Bool
  deriving DecidableEq, Repr

/-- A pending flip (R185). -/
structure PendFlip where
  layers : List FlipLayer
  tag    : Nat
  deriving DecidableEq, Repr

/-- A flip group, or the implicit group of a host layer (R184 to R187): the decision points its flip has stalled, the fence reads that
were late, the members not ready and the fence values last read, and the stall that FLIP_STALL last reported. -/
structure Group where
  pending   : Option PendFlip
  stall     : Nat
  late      : Nat
  notReady  : List Nat
  values    : List (Nat × Nat)
  said      : Nat
  deriving DecidableEq, Repr

/-- The states of a host buffer (R179), with the heads whose frames fetched from it last (R180). -/
structure BufRun where
  state : Nat
  scans : List (Nat × Nat)
  deriving DecidableEq, Repr

/-! ## Heads, ports, pins -/

/-- The timing parameters of R196 (those of the shadow set). -/
structure HeadTiming where
  port    : Option Nat
  stream  : Nat
  rad     : Nat
  hactive : Nat
  hfp     : Nat
  hsync   : Nat
  hbp     : Nat
  vactive : Nat
  vfp     : Nat
  vsync   : Nat
  vbp     : Nat
  pol     : Nat
  mult    : Nat
  parity  : Nat
  phase   : Nat
  depth   : Nat
  deriving DecidableEq, Repr

/-- A retime under way (R197): whether it is the head's own, whether the link trains, and which steps are still due. -/
structure Retime where
  own      : Bool
  train    : Bool
  pllDone  : Bool
  portDone : Bool
  readyT   : Option Time64
  deriving DecidableEq, Repr

/-- The settings of one visible pane that a head frame latches (R45 step 6, R102, R163): `coef` its loaded coefficients (R175), and for an
internal source its colour and pattern and the header of the frame whose age an overlay shows (R170). -/
structure PaneIn where
  pane     : Nat
  source   : Nat
  guarded  : Bool
  slot     : Option Nat
  soft     : Nat
  hard     : Nat
  evid     : Nat
  policy   : Nat
  style    : Nat
  scale    : Nat
  crop     : Nat × Nat × Nat × Nat
  dest     : Int × Int × Nat × Nat
  z        : Nat
  blend    : Nat
  alpha    : Nat
  keyEn    : Bool
  key      : Nat
  keyMask  : Nat
  csc      : Nat
  range    : Nat
  pic      : Nat
  filter   : Nat
  silence  : Bool
  coef     : List Int
  colour   : Nat
  pattern  : Nat
  age      : Option FrameHdr
  deriving DecidableEq, Repr

/-- A colour bank (R213): six LUTs (0 to 2 degamma R, G, B, 3 to 5 regamma; one not listed is the identity of R213) and the
matrix with its offsets. -/
structure ColourBank where
  luts    : Table (List Nat)
  matrix  : List Int
  offsets : List Int
  deriving DecidableEq, Repr

/-- What a head frame is made from (R45 step 6, R70, R196): latched when the frame's tick decides it. -/
structure FrameIn where
  tick     : Nat
  uWall    : Nat
  second   : Bool
  on       : Bool
  dark     : Bool
  bank     : Option ColourBank
  panes    : List PaneIn
  bg       : Nat
  colours  : List Nat
  dither   : Nat
  weirLow  : Nat
  weirHigh : Nat
  flaund   : Bool
  primaries : Nat
  deriving DecidableEq, Repr

/-- A tile of the frame under way (R70, R72): its verdict in the row verdicts, the verdict that its marks and labels are drawn by (a held
buffer's mismatch found in the frame marks the next one only), whether it has a guarded contribution, and its output signature. -/
structure TileOut where
  verdict  : Verdict
  drawn    : Verdict
  guarded  : Bool
  departed : Bool
  filled   : Bool
  outSig   : BitVec 32
  checked  : Bool
  deriving DecidableEq, Repr

/-- A tile that waits for a recheck (R72, R181, R220): the head frame of the mismatch, the tick and the head frame in which the
recheck has its place, the source tile of a held buffer (layer, row, column), the checks that have failed since, and the head
frame in which a check matched. A row that a twin mismatch has sent to the verification lane stands with column 255. -/
structure Recheck where
  row    : Nat
  col    : Nat
  order  : Nat
  frame  : Nat
  tick   : Nat
  placed : Nat
  held   : Option (Nat × Nat × Nat)
  twin   : Bool
  fails  : Nat
  passed : Option Nat
  deriving DecidableEq, Repr

/-- The counters of R224. -/
structure HeadCounters where
  frames     : Nat
  underflow  : Nat
  fillRows   : Nat
  weirLow    : Nat
  mismatch   : Nat
  transient  : Nat
  verify     : Nat
  verifyMiss : Nat
  retimes    : Nat
  linkEvents : Nat
  leadMin    : Nat
  deriving DecidableEq, Repr

/-- A twin mismatch episode of a row (R256, R258): the head frame of its last mismatch, the ticks that mismatched, whether this
seat's own recheck has matched, how the next frame compared (0 a match, 1 not compared, 2 a mismatch), and the head frame after
which the row has its own verdict again. -/
structure RowEpisode where
  row      : Nat
  frame    : Nat
  ticks    : List Nat
  own      : Bool
  cmp      : Option Nat
  ended    : Option Nat
  deriving DecidableEq, Repr

/-- A signed frame that waits for, or was compared with, the twin's (R254, R255): counter, row signatures, flags, and the tick that governs it. -/
structure SigRecord where
  frameCnt : Nat
  dark     : Bool
  frameSig : BitVec 32
  rowSigs  : List (BitVec 32)
  rowFlags : List (BitVec 8)
  late     : Bool
  compared : Bool
  formedT  : Time64
  tick     : Nat
  deriving DecidableEq, Repr

/-- What the touch unit needs of a head frame of the last seconds (R348): its number and start, from when on it was black, the
panes visible in it, and those with an UNVERIFIED tile row when it ended. -/
structure FrameNote where
  cnt    : Nat
  start  : Time64
  blackT : Option Time64
  panes  : List Nat
  unver  : List Nat
  deriving DecidableEq, Repr

/-- A head (R192 to R224). Rows are kept by tile row: `rowMatch` the tick of the last match, `pairRows` the frame number of the last match of
the twin's signatures. `shadowDue` says that the shadow set is transferred as soon as the frame that has ended has its record (R71, R196),
`blankPx` is the first blanked pixel of a frame blanked part of the way through, in pixel clocks (R79), `grey` the panes whose output lines
are mid-grey, with the first and the last line (R313), `greySrc` the source tiles whose samples were lost, by source, row and column (R309), and
`fifo` the size of the head's FIFO in bytes (R209). -/
structure Head where
  timing     : HeadTiming
  shadow     : Option HeadTiming
  shadowDue  : Bool
  fifo       : Nat
  retime     : Option Retime
  running    : Bool
  enabled    : Bool
  disabling  : Bool
  reEnable   : Option Nat
  restart    : Bool
  inFrame    : Bool
  vblank     : Bool
  blankNow   : Bool
  blankPx    : Option Nat
  grey       : List (Nat × Nat × Nat)
  preGrey    : List (Nat × Nat × Nat)
  greySrc    : List (Nat × Nat × Nat)
  preGreySrc : List (Nat × Nat × Nat)
  darkCmd    : Bool
  darkPin    : Bool
  unplugged  : Bool
  darkFree   : Time64
  frameCnt   : Nat
  frameStart : Time64
  frame      : Option FrameIn
  nextIn     : List FrameIn
  composed   : Nat
  lines      : List (Nat × List (BitVec 32))
  tiles      : Table TileOut
  preComposed : Nat
  preLines   : List (Nat × List (BitVec 32))
  preTiles   : Table TileOut
  fillRun    : Option (Nat × Nat × Nat)
  flipCnt    : Nat
  flipT      : Time64
  shownKey   : List (Nat × Nat)
  live       : Bool
  rowMatch   : Table Nat
  rowMissed  : Table Nat
  pairRows   : Table Nat
  rowDiverged : List Nat
  rechecks   : List Recheck
  lostTiles  : List Nat
  preLost    : List Nat
  weirSaid   : Bool
  preWeir    : Bool
  sticky     : Nat
  worst      : Verdict
  vsum       : List Nat
  vsumCnt    : Nat
  resync     : Bool
  colour     : ColourBank
  staged     : ColourBank
  stagedMask : Nat
  commitBank : Option ColourBank
  cnt        : HeadCounters
  sigs       : List SigRecord
  peerSigs   : List SigRecord
  episodes   : List RowEpisode
  recDone    : Bool
  startWd    : Bool
  pairMatch  : Bool
  hist       : List FrameNote
  unread     : List Nat
  deriving DecidableEq, Repr

/-- A DisplayPort port (R201 to R208): the mode, rate and lanes in force, whether the configured ones wait for a blanking, the link, the
sink as last read (under MST `sinks` holds those of the heads), and the time slots that are allocated to heads (R205, R206). -/
structure DpPort where
  mode      : Nat
  rate      : Nat
  lanes     : Nat
  pendingCfg : Bool
  trained   : Bool
  training  : Bool
  unplugged : Bool
  failedT   : Option Time64
  dpcd      : Bytes
  edid      : Bytes
  sinks     : Table SinkInfo
  slots     : Table Nat
  pattern   : Nat
  custom    : Bytes
  deriving DecidableEq, Repr

/-- The LIVE and DARK pins (R79, R80, R377), and the time pins (R52): `ppsRise` and `tickRise` are the instants at which a pulse of
PPS_OUT or TICK_OUT that may still be under way has begun. -/
structure Pins where
  dark    : List Bool
  live    : Nat
  liveMap : List Nat
  darkMap : List Nat
  darkPol : Nat
  ppsRise : Option Time64
  tickRise : Option Time64
  deriving DecidableEq, Repr

/-! ## Check-value units (R327 to R333) -/

/-- A check unit: its context (R330), whether an operation is under way, and the commands that wait for it. -/
structure CheckUnit where
  ctx    : CuContext
  fold   : BitVec 64
  busy   : Option Accepted
  queue  : List Accepted
  deriving DecidableEq, Repr

/-- A reference slot: both copies and both guards (R331). -/
structure RefSlot where
  copyA  : BitVec 64
  copyB  : BitVec 64
  guardA : BitVec 16
  guardB : BitVec 16
  deriving DecidableEq, Repr

/-! ## Legends, touch and event inputs (R336 to R354) -/

/-- The states of an electrode (R341). -/
inductive KeyState where
  | released
  | pressed
  | stuck
  | fault
  deriving DecidableEq, Repr

/-- An electrode (R339 to R345). The baseline is in sixteenths of a count, `acq` counts its acquisition scans (R344), `onT` is the
touch instant of a press under way and then the instant of the press, `touchT` the last measurement instant, `holdBase` the baseline
at the press, and `nbrBase` the neighbours' baselines then (R343). -/
structure Electrode where
  base      : Nat
  state     : KeyState
  onRun     : Nat
  onT       : Time64
  offRun    : Nat
  negRun    : Nat
  openRun   : Nat
  shortRun  : Nat
  okRun     : Nat
  count     : Nat
  touchT    : Time64
  acq       : Nat
  holdBase  : Nat
  nbrBase   : List (Nat × Nat)
  noNbrT    : Option Time64
  driftSaid : Bool
  deriving DecidableEq, Repr

/-- A measurement group (R337, R343): the last scan tick measured, and the scans scheduled since that have not been measured. -/
structure TouchGroup where
  lastTick : Option Nat
  missed   : Nat
  deriving DecidableEq, Repr

/-- The saved baselines (R344, R345): the bases, the class and group configuration they were made with, the time and the
die temperature in sixteenths of a degree. -/
structure SavedBase where
  bases   : Table Nat
  classes : List Nat
  groupEn : Nat
  savedT  : Time64
  tj      : Int
  deriving DecidableEq, Repr

/-- The touch unit (R336 to R346). `prev` holds the parameters of a scan window that was under way when they changed, with its scan
tick, and windows that began before `abandonT` are abandoned (R338). -/
structure Touch where
  running   : Bool
  stopping  : Bool
  restart   : Bool
  suspended : Bool
  els       : Table Electrode
  groups    : Table TouchGroup
  saved     : Option SavedBase
  saveT     : Time64
  pressed   : List Bool
  prev      : Option (Nat × Table Val)
  abandonT  : Time64
  deriving DecidableEq, Repr

/-- A legend (R347): its pane and electrodes, the generation that a committed flip brings next with its ledger frame, and the
last changes on glass, newest first. -/
structure Legend where
  pane    : Nat
  mask    : Nat
  next    : Option (Nat × Nat)
  changes : List (Time64 × Nat)
  dropped : Bool
  deriving DecidableEq, Repr

/-- An event input (R349 to R351): the accepted level, the run under way, and what waits for the tick. -/
structure EviInput where
  level    : Bool
  runLevel : Bool
  runT     : Time64
  raw      : Nat
  reported : Bool
  lastRep  : Bool
  merged   : Option (Time64 × Time64)
  edgeT    : Time64
  activeT  : Time64
  stuck    : Bool
  deriving DecidableEq, Repr

/-! ## Encode sessions (R281 to R299) -/

/-- What a receiver holds in an encoded row (R289): the head frame, the capture time the row's record carries (its departure where
nothing contributes), the largest uncertainty of the tiles that set it (none unbounded), the verdict it was sent with, and whether
an unguarded pane contributes. -/
structure ContentRow where
  frameCnt  : Nat
  capT      : Time64
  noCapture : Bool
  u         : Option Nat
  verdict   : Verdict
  unguard   : Bool
  deriving DecidableEq, Repr

/-- The picture under way on an encode session (R287, R288): its head frame and the instant of its area's first pixel, its type, its
rows coded so far as (row, dry), the bits so far and with every row at QP 51, in all and of each row, the frame target, and what the last row left
of its own. -/
structure EncFrame where
  frameCnt : Nat
  depT     : Time64
  uWall    : Nat
  idr      : Bool
  allDry   : Bool
  rows     : List (Nat × Bool)
  bits     : Nat
  bits51   : Nat
  target   : Int
  spare    : Int
  rowBits  : Table Nat
  rowBits51 : Table Nat
  qpSum    : Nat
  qpRows   : Nat
  input    : Table Planes
  net      : Bool
  lost     : Bool
  deriving DecidableEq, Repr

/-- The counters of R299. -/
structure EncCounters where
  frames     : Nat
  skipped    : Nat
  idrs       : Nat
  dryRows    : Nat
  dryFrames  : Nat
  idrOverrun : Nat
  suppressed : Nat
  linkDown   : Nat
  bits       : Nat
  packets    : Nat
  levelMin   : Int
  qpLast     : Nat
  deriving DecidableEq, Repr

/-- An encode session (R281 to R299). -/
structure Session where
  running    : Bool
  stopping   : Bool
  restart    : Bool
  level      : Int
  content    : Table ContentRow
  lastIdr    : Table Nat
  lastP      : Table Nat
  sinceIdr   : Nat
  idrDue     : Nat
  first      : Bool
  cur        : Option EncFrame
  lastCounter : Nat
  seq        : Nat
  rtpTs      : Nat
  altSsrc    : Bool
  suppressed : Bool
  srT        : Time64
  cnt        : EncCounters
  deriving DecidableEq, Repr

/-! ## Memory (R301 to R321) -/

/-- The counters of a channel (R321). -/
structure ChanCounters where
  readBytes  : Nat
  writeBytes : Nat
  ce         : Nat
  ue         : Nat
  addrFaults : Nat
  overdue    : Nat
  forcedRef  : Nat
  switches   : Nat
  switchMax  : Nat
  scanMax    : Nat
  deriving DecidableEq, Repr

/-- A DRAM channel (R309, R312, R314 to R316): the MR4 rate (0 for x1), owed refreshes, corrected errors since the last event and
within the hour, rank 1's power-down, an MR4 reading that a set-point switch holds up, the read and the write queue in the order of arrival with
what waits at the ports behind them, the open row of each bank, the run of row hits, and when the last refresh was due, MR4 was read and a request
reached rank 1 last. -/
structure Chan where
  rate     : Nat
  owed     : Nat
  ceSince  : Nat
  ceEventT : Option Time64
  hourT    : Time64
  hourCe   : Nat
  rateSaid : Bool
  rank1Pd  : Bool
  mr4Held  : Option Nat
  reads    : List MemReq
  writes   : List MemReq
  openRows : Table Nat
  hits     : Nat
  refT     : Time64
  mr4T     : Time64
  rank1T   : Time64
  cnt      : ChanCounters
  deriving DecidableEq, Repr

/-- A set-point switch (R317 to R319): its target, the tick of its window, failed ticks, the command it answers at its end, the TAG that
its completion event carries where the command was DEFERRED, the profile to go back to when it fails, and whether the throttle level
forces it. -/
structure Switch where
  target : Nat
  tick   : Nat
  fails  : Nat
  hdr    : Option (CmdHdr × Cmd)
  tag    : Option Nat
  back   : Profile × Nat
  forced : Bool
  deriving DecidableEq, Repr

/-- A picture pool in the WALL space (R121, R302): its stream, where it lies, and the tick of its handover where it is an old one. -/
structure Pool where
  stream : Nat
  base   : Nat
  size   : Nat
  old    : Option Nat
  deriving DecidableEq, Repr

/-- A BAR2 read held in the outage of a set-point switch (R318). -/
structure HeldRead where
  offset   : Nat
  len      : Nat
  granules : List ReadResult
  deriving DecidableEq, Repr

/-- The memory (R301 to R321): the set point in force, the switch armed and the one behind it, the channels, the granules known lost (by their granule address, R307), what takes effect only at
the next start, the picture pools, whether SCAN still comes first after a switch, and the BAR2 reads held in its outage (R318). -/
structure Mem where
  fsp        : Nat
  switch     : Option Switch
  queued     : List Switch
  outage     : Bool
  outageUs   : Nat
  chans      : Table Chan
  poison     : List Nat
  rewrites   : List (Nat × Nat)
  fatal      : Bool
  interleave : Nat
  hashEn     : Bool
  violations : Nat
  pools      : List Pool
  scanFirst  : Bool
  held       : List HeldRead
  deriving DecidableEq, Repr

/-! ## Twin operation (R225 to R265) -/

/-- What a snapshot carries (R261). -/
structure Snapshot where
  tick     : Nat
  time     : Time64
  cfg      : Cfg
  waiting  : List Accepted
  coef     : Table (List Int)
  colours  : Table ColourBank
  bufs     : Table BufRun
  groups   : Table Group
  freeze   : Table Freeze
  sources  : Table SourceRun
  panes    : Table PaneRun
  outbound : Table (Nat × Nat)
  eventSeq : Nat
  bases    : Table Nat
  legends  : Table Legend
  deriving DecidableEq, Repr

/-- A join under way (R240). `order` is the acceptance order at the snapshot: later commands are forwarded at the application tick. -/
structure Join where
  keeper : Bool
  hot    : Bool
  hdr    : Option (CmdHdr × Cmd)
  tick   : Nat
  sent   : Bool
  at'    : Option Nat
  order  : Nat
  deriving DecidableEq, Repr

/-- A CMD frame that waits for its CMD_ACK (R231, R242): its number, when it was last sent and how often resent. -/
structure Outstanding where
  fseq   : Nat
  snap   : Bool
  sentT  : Time64
  resent : Nat
  deriving DecidableEq, Repr

/-- An event of the interval that waits for the union (R244). -/
structure HeldEvent where
  time    : Time64
  seatB   : Bool
  order   : Nat
  code    : Ev
  tag     : Option Nat
  payload : List (Nat × Nat)
  deriving DecidableEq, Repr

/-- A snapshot transfer that this seat sends (R231, R262): its number, how much is acknowledged, and whether a change
asks for one more. -/
structure Sending where
  snapId   : Nat
  snap     : Snapshot
  size     : Nat
  acked    : Nat
  restarts : Nat
  again    : Bool
  purpose  : Nat
  deriving DecidableEq, Repr

/-- A snapshot transfer that this seat receives (R261). -/
structure Receiving where
  purpose : Nat
  snapId : Nat
  tick   : Nat
  total  : Nat
  data   : Bytes
  deriving DecidableEq, Repr

/-- The counters of R265. -/
structure TwinCounters where
  framesTx   : Nat
  framesRx   : Nat
  frameErr   : Nat
  corrected  : Nat
  xchgLate   : Nat
  sigLate    : Nat
  mismatch   : Nat
  transients : Nat
  divergences : Nat
  outOfStep  : Nat
  borrowed   : Nat
  lent       : Nat
  refused    : Nat
  notHeld    : Nat
  hbFlume    : Nat
  hbPin      : Nat
  hbUdp      : Nat
  snapshots  : Nat
  deriving DecidableEq, Repr

/-- The twin unit (R225 to R265). -/
structure Twin where
  mode        : TwinMode
  withdrawn   : Bool
  withdrawTick : Nat
  digestFault : Bool
  peerWithdrawn : Bool
  peerFaulted : Bool
  selfFaulted : Bool
  awaiting    : Bool
  reinstating : Bool
  lastMismatch : Option Nat
  nonce       : Bytes
  peerNonce   : Bytes
  helloT      : Option Time64
  answered    : Bool
  verified    : Bool
  helloFail   : Nat
  peerCert    : Bytes
  peerUid     : Bytes
  peerJoinable : Bool
  partner     : Option Bytes
  partnerFlash : Option Bytes
  replaced    : Bool
  replacedT   : Option Time64
  lanesGood   : List Bool
  lanes       : List Nat
  prbsErr     : List Nat
  linkOn      : Bool
  linkDown    : Bool
  downTick    : Nat
  downHot     : Bool
  linkAgain   : Bool
  hbLast      : List (Option Nat)
  hbSaid      : List Bool
  peerLeft    : Option Nat
  partnerLost : Bool
  join        : Option Join
  fseqs       : Table Nat
  rxCmd       : Option Nat
  outstanding : List Outstanding
  peerCmds    : List (Nat × Nat × Time64)
  applied     : List Nat
  ownEvents   : List HeldEvent
  peerEvents  : List HeldEvent
  evOrder     : Nat
  ownAdmit    : Option Admit
  peerAdmit   : Option Admit
  xchgTick    : Option Nat
  lateRun     : Nat
  lateTicks   : List Nat
  outOfStep   : List Nat
  joinDue     : List Nat
  xchgFences  : List (Nat × Nat)
  darkSkew    : List Nat
  sigRun      : Table Nat
  borrowOpen  : Table Time64
  borrowAsked : Table (List Nat)
  lendOpen    : Table Time64
  lendT       : Time64
  lendBytes   : Nat
  xferTick    : Option Nat
  sending     : Option Sending
  receiving   : Option Receiving
  snapHeld    : Option Receiving
  snapFlash   : Option Receiving
  snapT       : Option Time64
  snapId      : Nat
  snapOldSaid : Bool
  snapSentT   : Option Time64
  takeover    : Option Nat
  primaryB    : Bool
  cnt         : TwinCounters
  deriving DecidableEq, Repr

/-- How many lanes the link uses (R232). -/
def Twin.lanesUsed (w : Twin) : Nat := w.lanes.length

/-! ## Self-test, life cycle, identity (R415 to R434) -/

/-- The self-test record (R418). -/
structure TestRecord where
  source     : Nat
  result     : Nat
  precond    : Nat
  durationMs : Nat
  endT       : Time64
  endOnS     : Nat
  sramCov    : Nat
  stuckCov   : Nat
  transCov   : Nat
  failDecode : Nat
  failCompose : Nat
  untested   : Nat
  failSerdes : Nat
  sramFail   : Nat
  failScaler : Nat
  tjMin      : Int
  tjMax      : Int
  recSeq     : Nat
  quickOk    : Bool
  deriving DecidableEq, Repr

/-- A test that runs (R415, R424): its source, the regions and pattern of SELFTEST_RUN, the command, the preconditions
failed so far and what the slices found. -/
structure TestRun where
  source  : Nat
  regions : Nat
  pattern : Nat
  hdr     : Option (CmdHdr × Cmd)
  startT  : Time64
  precond : Nat
  abandoned : Bool
  deriving DecidableEq, Repr

/-- What the slices of a sweep or of a SERVICE run have found (R418, R423): masks, and the failing SRAM words. -/
structure SliceFaults where
  decode  : Nat
  compose : Nat
  serdes  : Nat
  sram    : Nat
  scaler  : Nat
  deriving DecidableEq, Repr

/-- The self-test controller (R415 to R424). `swept` counts the slices done of each part in this sweep, `lastPre` holds the clock
and core-supply preconditions that failed at the last check, `onSeconds` the lifetime powered-on seconds at this start and `savedOn`
those that stand in flash. -/
structure SelfTest where
  record    : Option TestRecord
  written   : Option TestRecord
  sliceMode : Bool
  run       : Option TestRun
  sliceTick : Option Nat
  lastPre   : Nat
  swept     : Table Nat
  sweepFail : SliceFaults
  sweepTj   : Int × Int
  sweepT    : Time64
  fullNext  : Bool
  heldLanes : Nat
  heldSerdes : Nat
  heldHeads : Bool
  recSeq    : Nat
  onSeconds : Nat
  savedOn   : Nat
  expired   : Bool
  deriving DecidableEq, Repr

/-- Life cycle and identity (R425 to R434), with the images of the two firmware slots (R430). -/
structure Life where
  state      : LifeState
  uid        : Bytes
  cert       : Bytes
  installId  : Option Bytes
  installKey : Bytes
  challenge  : Bytes
  slotA      : Bytes
  slotB      : Bytes
  activeB    : Bool
  runningB   : Bool
  minVersion : Nat
  serviceEnd : Option Time64
  unadopted  : Bool
  deriving DecidableEq, Repr

/-! ## Power and thermal (R394 to R414) -/

/-- Where the device stands between reset and reset (R398 to R406, R413). -/
inductive Phase where
  | held
  | starting (step : Nat)
  | running
  | stopping (stage : Nat)
  | stopped
  | supplyLost
  | tripped
  deriving DecidableEq, Repr

/-- A die sensor (R407, R408), in sixteenths of a degree. -/
structure Sensor where
  reading : Int
  badRun  : Nat
  faulty  : Bool
  deriving DecidableEq, Repr

/-- A record that is written to flash (R414, R432): touch baselines, a self-test record, the partner's identity, the life-cycle
state, or the lifetime counters. -/
inductive FlashRec where
  | touch (b : SavedBase)
  | test (r : TestRecord)
  | partner (uid : Bytes)
  | lifecycle (n : Nat)
  | counters (onSeconds : Nat)
  deriving DecidableEq, Repr

/-- Power, sequencing and thermal management (R394 to R414). -/
structure Power where
  phase      : Phase
  resetLow   : Bool
  resetFallT : Time64
  pwrGood    : Bool
  perst      : Bool
  vddTouch   : Bool
  variantE   : Bool
  vAvs       : Nat
  avsBad     : Nat
  avsFail    : Bool
  warm       : Bool
  startT     : Time64
  shutMode   : Nat
  shutHdr    : Option (CmdHdr × Cmd)
  restartHdr : Option (CmdHdr × Cmd)
  abandon    : Bool
  sensors    : Table Sensor
  tj         : Int
  hottest    : Nat
  decided    : ThermalLevel
  level      : ThermalLevel
  sentLevel  : ThermalLevel
  peerLevel  : ThermalLevel
  throttleT  : Time64
  levelT     : Time64
  tripRun    : Nat
  thermtrip  : Bool
  forced     : Bool
  hostProfile : Profile × Nat
  flashQ     : List FlashRec
  cfgDirty   : Bool
  cfgSaved   : Option Snapshot
  cfgSavedT  : Option Time64
  cfgCold    : Option Snapshot
  startSnap  : Option (Nat × Snapshot)
  deriving DecidableEq, Repr

/-! ## What leaves the device: the model's own record of it -/

/-- The sideband messages of R205; a relative address is HEAD_MST_RAD, and an allocation of 0 slots releases them. -/
inductive Sideband where
  | linkAddress
  | clearPayloadIdTable
  | enumPathResources (rad : Nat)
  | allocatePayload (rad stream slots : Nat)
  | remoteDpcdRead (rad : Nat)
  | remoteI2cRead (rad : Nat)
  deriving DecidableEq, Repr

/-- What the main stream attributes of a head frame carry (R201): the raster, the sync polarity, the depth of MISC0, Mvid and Nvid. -/
structure Msa where
  htotal  : Nat
  vtotal  : Nat
  hstart  : Nat
  vstart  : Nat
  hactive : Nat
  vactive : Nat
  hsync   : Nat
  vsync   : Nat
  pol     : Nat
  depth   : Nat
  mvid    : Nat
  nvid    : Nat
  deriving DecidableEq, Repr

/-- An output of the device (the model's own log of what the outside world sees). -/
inductive Out where
  | reply (r : Reply)
  | completion (q idx : Nat) (entry : Bytes)
  | hostWrite (addr : Nat) (data : Bytes)
  | hostRead (addr len : Nat)
  | msix (vector : Nat) (t : Time64)
  | miso (data : Bytes)
  | udp (dst : AddrRec) (data : Bytes)
  | readData (v : Reg32)
  | bar2Data (d : Bytes)
  | completerAbort
  | eventRing (idx : Nat) (e : EventRec)
  | frame (port : Nat) (kind : EthKind)
  | join (port version : Nat) (group source : Bytes)
  | leave (port version : Nat) (group source : Bytes)
  | delayReq (dom port : Nat) (unicast : Bool) (seq : Nat) (tx : Time64)
  | ppsOut (rise : Time64)
  | tickOut (n : Nat)
  | flume (hdr : FlumeHdr) (body : FlumeBody) (frame : FlumeFrame)
  | encSets (session codec csc : Nat) (fullRange : Bool) (size : Nat × Nat)
  | encPicture (session : Nat) (rows : List (Nat × Bool)) (input : Table Planes)
  | hbPulse (t : Time64)
  | flaundRecord (head : Nat) (parts : List Bytes)
  | sideband (port : Nat) (m : Sideband)
  | msa (head frameCnt : Nat) (m : Msa)
  | vscSdp (head frameCnt revision : Nat)
  | fifoLine (head y : Nat) (words : List (BitVec 32))
  | encRecord (session extId : Nat) (record : Bytes)
  | encHash (session : Nat) (crcs : List Nat)
  | encToken (session : Nat) (token : Bytes)
  | encSent (session port : Nat) (dest : AddrRec) (ssrc pt seq packets rtp : Nat) (start : Time64) (paceUs : Nat)
  | rtcpSr (session port : Nat) (dest : AddrRec) (ssrc ntpSec ntpFrac rtp : Nat)
  | ringRecord (ring : Nat) (addr : Nat) (data : Bytes)
  | flashWrite (kind : Nat) (size : Nat)
  | thermtrip (on : Bool)
  | avsSet (mv : Nat)
  | scrubWrite (ch addr : Nat)
  | forcedRefresh (ch n : Nat)
  deriving DecidableEq, Repr

/-! ## The state -/

/-- The state of one Riane: every piece of state the spec names, with the queue of waiting commands, the model's
free-value counter and its output log. `dram` holds the bytes of DRAM by device address, in canonical form (R301, R302). -/
structure State where
  pending  : List Instr
  free     : Nat
  out      : List Out
  seatB    : Bool
  cfg      : Cfg
  cmd      : CmdIf
  events   : EventLog
  time     : TimeUnit
  ledger   : Table Slot
  sources  : Table SourceRun
  streams  : Table Stream
  lanes    : Table Lane
  freeze   : Table Freeze
  eth      : Table EthPort
  decRing  : Option Ring
  decDrop  : Nat
  mirror   : Option Ring
  mirrorDrop : Nat
  panes    : Table PaneRun
  groups   : Table Group
  bufs     : Table BufRun
  heads    : Table Head
  dp       : Table DpPort
  pins     : Pins
  coef     : Table (List Int)
  cu       : Table CheckUnit
  refs     : Table RefSlot
  recheckN : Nat
  touch    : Touch
  legends  : Table Legend
  evi      : Table EviInput
  enc      : Table Session
  mem      : Mem
  dram     : List Host.Cell
  twin     : Twin
  test     : SelfTest
  life     : Life
  power    : Power
  deriving DecidableEq, Repr

/-- Why a step faults: the access names an address that does not exist. -/
inductive Fault where
  /-- Raised by BAR0 and BAR2 accesses that are not aligned or lie outside the window (R376, R303), and by
  memory happenings whose device address lies outside 14 GiB (R302). Safe: the machine stops where the spec
  gives no access. -/
  | badAddress
  deriving DecidableEq, Repr

/-- Why a step is refused. -/
inductive Refusal where
  /-- Raised for an instruction that has no meaning yet. Safe: nothing can be proved of it. -/
  | notModelled (mnemonic : String)
  deriving DecidableEq, Repr

/-! ## The values at reset -/

/-- A command queue pair at reset (R376). -/
def queueInit : QueuePair := ⟨0, 0, 0, 0, 0, 0, 0, 0, false, false, false, false⟩

/-- A UDP client slot at reset (R372). -/
def udpInit : UdpClient := ⟨none, []⟩

/-- An estimator at reset (R29): nothing heard. -/
def estInit : Estimator := ⟨[], none, [], none, none, 0, none, none, none, none, false⟩

/-- A source at reset (R54, R62, R67). A network source is IDLE until a first packet, so its silence latch is set. -/
def sourceInit : SourceRun := ⟨none, 0, true, false, none, [], false, 0⟩

/-- The counters of a stream at reset (R111). -/
def streamCntInit : StreamCounters := ⟨0, 0, 0, 0, List.replicate 9 0, 0, 0, 0, 0, 0, 0, 0, 0, 0, 0, 0⟩

/-- A stream at reset (R99): IDLE, with no session. -/
def streamInit : Stream :=
  { state := .idle, session := false, ssrc := 0, newSsrc := 0, newSsrcN := 0, highExt := none, seen := [], aus := [],
    lastAuEnd := none, lastAuTs := none, closedHigh := none, inband := [], lastPic := none, floorPts := [], lastPkt := none,
    ownPkt := none, flowAcc := 0, flowSince := none, flowPkts := [],
    pktRate := none, policerT := 0, policer := 0, srMap := none, recBearing := false, recNewest := none, grade := none,
    cls := .none, waitEntry := false, startDecode := true, raslSkip := false, queue := [], dpb := [], decOrder := 0,
    recovery := [], completions := [], overrate := false, statsN := 0, rtpUnwrap := 0, cnt := streamCntInit,
    ring := none, gapNext := false, lostUnits := [] }

/-- A decode lane at reset. -/
def laneInit : Lane := ⟨none, false, false, false⟩

/-- A freeze detector at reset (R145 to R158). -/
def freezeInit : Freeze :=
  { frz := false, frzSince := ⟨0, false⟩, evidenceT := ⟨0, false⟩, evLast := 0, frameSeq := 0, base := none, baseBad := false,
    baseT := ⟨0, false⟩, lastCrc := none, runStartT := ⟨0, false⟩, payloadRun := 0, lastCols := 0, lastTiles := [],
    lastMoveT := ⟨0, false⟩, bearing := false, seenFirst := false, tokenCnt := 0, tokenStat := 0, statValid := false, badRun := 0,
    statRun := 0, tokenPos := false, tokenPosT := ⟨0, false⟩, setCount := 0,
    override := 0, faults := 0, jumps := 0, neutral := 0 }

/-- An Ethernet port at reset (R84). -/
def ethInit : EthPort := ⟨false, 0, 0, 0, 0, none, [], none, none, none⟩

/-- A pane's run-time state when it is created: never shown (R66). -/
def paneInit : PaneRun := ⟨none, false, .live, false⟩

/-- A flip group at reset. -/
def groupInit : Group := ⟨none, 0, 0, [], [], 0⟩

/-- A host buffer that is registered and IDLE (R179). -/
def bufInit : BufRun := ⟨0, []⟩

/-- The colour pipeline's reset contents (R213): identity LUTs, a unit matrix and zero offsets. -/
def bankInit : ColourBank := ⟨[], [16384, 0, 0, 0, 16384, 0, 0, 0, 16384], [0, 0, 0]⟩

/-- The head timing of the defaults of R192. -/
def timingInit : HeadTiming := ⟨none, 0, 0, 1920, 88, 44, 148, 1080, 4, 5, 36, 0, 1, 0, 0, 8⟩

/-- The head counters at reset (R224). -/
def headCntInit : HeadCounters := ⟨0, 0, 0, 0, 0, 0, 0, 0, 0, 0, 0xFFFFFFFF⟩

/-- A head at reset: disabled (R192, R223). -/
def headInit : Head :=
  { timing := timingInit, shadow := none, shadowDue := false, fifo := 0, retime := none, running := false, enabled := false,
    disabling := false, reEnable := none, restart := false, inFrame := false, vblank := true, blankNow := true, blankPx := none, grey := [], preGrey := [],
    greySrc := [], preGreySrc := [], darkCmd := false, darkPin := false, unplugged := false, darkFree := 0, frameCnt := 0, frameStart := 0, frame := none, nextIn := [],
    composed := 0, lines := [], tiles := [], preComposed := 0, preLines := [], preTiles := [], fillRun := none, flipCnt := 0, flipT := 0, shownKey := [], live := false,
    rowMatch := [], rowMissed := [], pairRows := [], rowDiverged := [], rechecks := [], lostTiles := [], preLost := [], weirSaid := false, preWeir := false, sticky := 0,
    worst := .dark, vsum := List.replicate 16 0, vsumCnt := 0, resync := false, colour := bankInit, staged := bankInit,
    stagedMask := 0, commitBank := none, cnt := headCntInit, sigs := [], peerSigs := [], episodes := [], recDone := true, startWd := false, pairMatch := false, hist := [], unread := [] }

/-- A DisplayPort port at reset (R202): OFF, 5.4 Gbit/s, 4 lanes. -/
def dpInit : DpPort := ⟨0, 5400, 4, false, false, false, false, none, [], [], [], [], 0, []⟩

/-- A check unit at reset (R327, R330). -/
def cuInit : CheckUnit := ⟨⟨0, false, 0, 0⟩, 0, none, []⟩

/-- A reference slot at reset (R331). -/
def refInit : RefSlot := ⟨0, 0, 0, 0⟩

/-- An electrode at reset (R341). -/
def electrodeInit : Electrode := ⟨0, .released, 0, 0, 0, 0, 0, 0, 0, 0, 0, 0, 0, [], none, false⟩

/-- A measurement group at reset. -/
def touchGroupInit : TouchGroup := ⟨none, 0⟩

/-- An event input at reset (R353): accepted level inactive. -/
def eviInit : EviInput := ⟨false, false, 0, 0, false, false, none, 0, 0, false⟩

/-- The counters of a session at reset (R299). -/
def encCntInit : EncCounters := ⟨0, 0, 0, 0, 0, 0, 0, 0, 0, 0, 0, 0⟩

/-- An encode session at reset: not running (R281). -/
def sessionInit : Session :=
  { running := false, stopping := false, restart := false, level := 0, content := [], lastIdr := [], lastP := [], sinceIdr := 0,
    idrDue := 0, first := true, cur := none, lastCounter := 0, seq := 0, rtpTs := 0, altSsrc := false, suppressed := false,
    srT := 0, cnt := encCntInit }

/-- A DRAM channel at reset (R315, R321). -/
def chanInit : Chan := ⟨0, 0, 0, none, 0, 0, false, false, none, [], [], [], 0, 0, 0, 0, ⟨0, 0, 0, 0, 0, 0, 0, 0, 0, 0⟩⟩

/-- A die sensor at reset: reading 0, not faulty. -/
def sensorInit : Sensor := ⟨0, 0, false⟩

/-- The configuration at reset: no parameter set, FULL-DENSITY (R19, R376), nothing created. -/
def cfgInit : Cfg := ⟨[], .fullDensity, 0, [], [], [], [], 0⟩

/-- The command interface at reset (R376). -/
def cmdInit : CmdIf :=
  { ready := false, order := 0, accepted := [], queues := [], spi := ⟨0, [], false, false, 0⟩, udp := [], authFail := 0,
    authFailT := none, irqCause := 0, irqMask := 0, bar2Base := 0, bar2Next := none, hiLatch := [], msixT := [], deferred := [],
    sysId := 0x48327A1D, sysRev := Config.partRev }

/-- The event store at reset (R374, R376). -/
def eventsInit : EventLog := ⟨0, [], 0, 0, 0, 0, 0, 0, none, 0⟩

/-- The time unit at reset (R32, R34, R42, R48): FREE-RUN from TIME64 0, U_WALL unbounded, seat A the lead. -/
def timeInit : TimeUnit :=
  { now := 0, tick := 0, decided := 0, est := [], servoDom := 0, servoSrc := none, locked := false,
    own := .freeRun, state := .freeRun, uWall := 0xFFFFFFFF, uEntry := 0, holdStart := 0, holdEnded := false, phase := 0, phaseRem := 0, servoT := 0, freq := 0,
    integ := 0, dRem := 0,
    slewing := false, slewT := 0, coarseSet := false, disagree := false, leadIsB := false, runB := 0, runA := 0,
    leadRecv := none, leadMissed := 0, beforeZero := false, xferOn := false }

/-- The pins at reset (R52, R79, R80, R454): LIVE low, no map, no pulse. -/
def pinsInit : Pins := ⟨List.replicate 4 false, 0, List.replicate 16 0, List.replicate 4 0, 0, none, none⟩

/-- The touch unit at reset: not running, nothing saved. -/
def touchInit : Touch := ⟨false, false, false, false, [], [], none, 0, List.replicate 128 false, none, 0⟩

/-- The memory at reset: FSP[0], nothing written (log entry 5), the defaults of R320 in force. -/
def memInit : Mem := ⟨0, none, [], false, 0, [], [], [], false, 2048, true, 0, [], false, []⟩

/-- The counters of the twin unit at reset (R265). -/
def twinCntInit : TwinCounters := ⟨0, 0, 0, 0, 0, 0, 0, 0, 0, 0, 0, 0, 0, 0, 0, 0, 0, 0⟩

/-- The twin unit at reset (R225): SOLO, no peer heard, no partner stored. -/
def twinInit : Twin :=
  { mode := .solo, withdrawn := false, withdrawTick := 0, digestFault := false, peerWithdrawn := false, peerFaulted := false, selfFaulted := false, awaiting := false,
    reinstating := false, lastMismatch := none, nonce := [], peerNonce := [], helloT := none, answered := false,
    verified := false, helloFail := 0, peerCert := [], peerUid := [], peerJoinable := false, partner := none, partnerFlash := none, replaced := false,
    replacedT := none, lanesGood := List.replicate 8 false, lanes := [], prbsErr := List.replicate 8 0, linkOn := false,
    linkDown := false, downTick := 0, downHot := false, linkAgain := false, hbLast := [none, none, none], hbSaid := [false, false, false],
    peerLeft := none, partnerLost := false, join := none, fseqs := [], rxCmd := none, outstanding := [], peerCmds := [], applied := [],
    ownEvents := [], peerEvents := [], evOrder := 0, ownAdmit := none, peerAdmit := none, xchgTick := none, lateRun := 0,
    lateTicks := [], outOfStep := [], joinDue := [], xchgFences := [], darkSkew := [], sigRun := [], borrowOpen := [], borrowAsked := [], lendOpen := [],
    lendT := 0, lendBytes := 0, xferTick := none, sending := none, receiving := none, snapHeld := none, snapFlash := none, snapT := none,
    snapId := 0, snapOldSaid := false, snapSentT := none, takeover := none, primaryB := false, cnt := twinCntInit }

/-- The self-test controller at reset: no record read yet. -/
def testInit : SelfTest :=
  { record := none, written := none, sliceMode := false, run := none, sliceTick := none, lastPre := 0, swept := [],
    sweepFail := ⟨0, 0, 0, 0, 0⟩, sweepTj := (0, 0), sweepT := 0, fullNext := false, heldLanes := 0, heldSerdes := 0,
    heldHeads := false, recSeq := 0, onSeconds := 0, savedOn := 0, expired := false }

/-- Life cycle and identity at reset: FABRICATED (the reset value of SYS_STATUS, R376), the fused identity. -/
def lifeInit : Life :=
  { state := .fabricated, uid := padTo 16 Config.partUid, cert := [], installId := none, installKey := [],
    challenge := zeros 16, slotA := Config.partFirmware, slotB := [], activeB := false, runningB := false,
    minVersion := 0, serviceEnd := none, unadopted := false }

/-- Power and thermal at reset: RESET_N just released, every step of R399 still to come. -/
def powerInit : Power :=
  { phase := .starting 0, resetLow := false, resetFallT := 0, pwrGood := true, perst := false, vddTouch := true,
    variantE := Config.partVariantE, vAvs := Config.partVAvs, avsBad := 0, avsFail := false, warm := false, startT := 0,
    shutMode := 0, shutHdr := none, restartHdr := none, abandon := false, sensors := [], tj := 0, hottest := 0,
    decided := .normal, level := .normal, sentLevel := .normal, peerLevel := .normal, throttleT := 0, levelT := 0, tripRun := 0, thermtrip := false,
    forced := false, hostProfile := (.fullDensity, 0), flashQ := [], cfgDirty := false,
    cfgSaved := none, cfgSavedT := none, cfgCold := none, startSnap := none }

/-- The machine right after reset: registers at the values of R376 and R223, everything idle, the queue empty. A
register the spec gives no value is zero (log entry 1), and a fused value is the part's (log entry 2). -/
def State.reset : State :=
  { pending := [], free := 0, out := [], seatB := false, cfg := cfgInit, cmd := cmdInit, events := eventsInit, time := timeInit,
    ledger := [], sources := [], streams := [], lanes := [], freeze := [], eth := [], decRing := none, decDrop := 0,
    mirror := none, mirrorDrop := 0, panes := [], groups := [], bufs := [], heads := [], dp := [], pins := pinsInit,
    coef := [], cu := [], refs := [], recheckN := 0, touch := touchInit, legends := [], evi := [], enc := [],
    mem := memInit, dram := [], twin := twinInit, test := testInit, life := lifeInit, power := powerInit }

end Sys2Proof.Machine
end

