-- ==== Sys2Proof/Machine/Params.lean ====
section
/-! DEFINITION. The parameters of R382: one row for each, with its ID, family, index kind, range and default, transcribed
from the tables of R53, R61, R161, R90, R157, R120, R281, R192, R264, R320, R352 and R385, and how a
parameter's value in force is read. A parameter never set has its default. -/
namespace Sys2Proof.Machine

/-- What the INDEX of a record counts (R381), or no index for a device-wide parameter. -/
inductive IdxKind where
  | dev | dom | port | port2 | stream | pane | session | head | headMark | electrode | input | qos
  | intCol | intPat | intAge | live | darkPin | dp
  deriving DecidableEq, Repr

/-- The Range column of a parameter, in the encoding of R383. -/
inductive Range where
  | num (lo hi : Nat)
  | numOr (lo hi : Nat)
  | signed (lo hi : Int)
  | oneOf (l : List Nat)
  | pow2 (lo hi : Nat)
  | mult (m lo hi : Nat)
  | addr
  | bytes (max : Nat)
  | dom
  | crop
  | dest
  | area
  | rad
  | nbr
  deriving DecidableEq, Repr

/-- One parameter (R382). -/
structure ParamSpec where
  pid   : Nat
  fam   : Nat
  idx   : IdxKind
  range : Range
  dflt  : Val
  deriving DecidableEq, Repr

/-- The code of a name inside a numeric range (R383). -/
def allOnes : Nat := 2 ^ 64 - 1

/-- An absent address record (R384). -/
def addrAbsent : AddrRec := ⟨0, 0, 0, 0, 0, 0, zeros 16, zeros 16⟩

/-- Parameter DOM (R53). -/
def pDom : Nat := 0x0101
/-- Parameter TIME_PREF_DOM (R53). -/
def pTimePrefDom : Nat := 0x0102
/-- Parameter TIME_SERVO_BW (R53). -/
def pTimeServoBw : Nat := 0x0103
/-- Parameter TIME_PORT_CORR (R53). -/
def pTimePortCorr : Nat := 0x0104
/-- Parameter TIME_DOM_AGREE (R53). -/
def pTimeDomAgree : Nat := 0x0105
/-- Parameter TIME_ASYM (R53). -/
def pTimeAsym : Nat := 0x0106
/-- Parameter TIME_HOLD_RATE (R53). -/
def pTimeHoldRate : Nat := 0x0107
/-- Parameter TIME_HOLD_ACC (R53). -/
def pTimeHoldAcc : Nat := 0x0108
/-- Parameter TIME_HOLD_LIMIT (R53). -/
def pTimeHoldLimit : Nat := 0x0109
/-- Parameter TIME_HOLD_MAX (R53). -/
def pTimeHoldMax : Nat := 0x010A
/-- Parameter TIME_STEP_EN (R53). -/
def pTimeStepEn : Nat := 0x010B
/-- Parameter TIME_STEP_LIMIT (R53). -/
def pTimeStepLimit : Nat := 0x010C
/-- Parameter TIME_UTC_OFFSET (R53). -/
def pTimeUtcOffset : Nat := 0x010D
/-- Parameter TIME_TICK_RATE (R53). -/
def pTimeTickRate : Nat := 0x010E
/-- Parameter TIME_TICK_EPOCH (R53). -/
def pTimeTickEpoch : Nat := 0x010F
/-- Parameter TIME_DECIDE_LEAD (R53). -/
def pTimeDecideLead : Nat := 0x0110
/-- Parameter TIME_PPS_FREE (R53). -/
def pTimePpsFree : Nat := 0x0111
/-- Parameter TIME_SRC_ALLOW (R53). -/
def pTimeSrcAllow : Nat := 0x0112
/-- Parameter TIME_SR_ALLOW (R53). -/
def pTimeSrAllow : Nat := 0x0113
/-- Parameter TIME_SR_VALID (R53). -/
def pTimeSrValid : Nat := 0x0114
/-- Parameter TIME_EST_OFFSET (R53). -/
def pTimeEstOffset : Nat := 0x0115
/-- Parameter TIME_EST_UNC (R53). -/
def pTimeEstUnc : Nat := 0x0116
/-- Parameter PANE_GUARD (R61). -/
def pPaneGuard : Nat := 0x0201
/-- Parameter PANE_SOFT_LIMIT (R61). -/
def pPaneSoftLimit : Nat := 0x0202
/-- Parameter PANE_HARD_LIMIT (R61). -/
def pPaneHardLimit : Nat := 0x0203
/-- Parameter PANE_EVID_LIMIT (R61). -/
def pPaneEvidLimit : Nat := 0x0204
/-- Parameter PANE_EVID_POLICY (R61). -/
def pPaneEvidPolicy : Nat := 0x0205
/-- Parameter PANE_MARK_STYLE (R61). -/
def pPaneMarkStyle : Nat := 0x0206
/-- Parameter PANE_TEXT_SCALE (R61). -/
def pPaneTextScale : Nat := 0x0207
/-- Parameter PANE_ENABLE (R161). -/
def pPaneEnable : Nat := 0x0301
/-- Parameter PANE_CROP (R161). -/
def pPaneCrop : Nat := 0x0302
/-- Parameter PANE_DEST (R161). -/
def pPaneDest : Nat := 0x0303
/-- Parameter PANE_Z (R161). -/
def pPaneZ : Nat := 0x0304
/-- Parameter PANE_BLEND (R161). -/
def pPaneBlend : Nat := 0x0305
/-- Parameter PANE_ALPHA (R161). -/
def pPaneAlpha : Nat := 0x0306
/-- Parameter PANE_KEY_EN (R161). -/
def pPaneKeyEn : Nat := 0x0307
/-- Parameter PANE_KEY (R161). -/
def pPaneKey : Nat := 0x0308
/-- Parameter PANE_KEY_MASK (R161). -/
def pPaneKeyMask : Nat := 0x0309
/-- Parameter PANE_CSC (R161). -/
def pPaneCsc : Nat := 0x030A
/-- Parameter PANE_RANGE (R161). -/
def pPaneRange : Nat := 0x030B
/-- Parameter PANE_COMPANION (R161). -/
def pPaneCompanion : Nat := 0x030C
/-- Parameter PANE_FILTER (R161). -/
def pPaneFilter : Nat := 0x030D
/-- Parameter PANE_GROUP (R161). -/
def pPaneGroup : Nat := 0x030E
/-- Parameter SRC_ENABLE (R90). -/
def pSrcEnable : Nat := 0x0401
/-- Parameter SRC_FORMAT (R90). -/
def pSrcFormat : Nat := 0x0402
/-- Parameter SRC_DEST_A (R90). -/
def pSrcDestA : Nat := 0x0403
/-- Parameter SRC_DEST_B (R90). -/
def pSrcDestB : Nat := 0x0404
/-- Parameter SRC_PT (R90). -/
def pSrcPt : Nat := 0x0405
/-- Parameter SRC_SSRC (R90). -/
def pSrcSsrc : Nat := 0x0406
/-- Parameter SRC_FRAME_RATE (R90). -/
def pSrcFrameRate : Nat := 0x0407
/-- Parameter SRC_MAX_RATE (R90). -/
def pSrcMaxRate : Nat := 0x0408
/-- Parameter SRC_MAX_BURST (R90). -/
def pSrcMaxBurst : Nat := 0x0409
/-- Parameter SRC_JITTER_US (R90). -/
def pSrcJitterUs : Nat := 0x040A
/-- Parameter SRC_GAP_TIMEOUT_US (R90). -/
def pSrcGapTimeoutUs : Nat := 0x040B
/-- Parameter SRC_SILENCE_US (R90). -/
def pSrcSilenceUs : Nat := 0x040C
/-- Parameter SRC_PARTIAL_POLICY (R90). -/
def pSrcPartialPolicy : Nat := 0x040D
/-- Parameter SRC_PATH_SKEW_US (R90). -/
def pSrcPathSkewUs : Nat := 0x040E
/-- Parameter SRC_PTP_REF (R90). -/
def pSrcPtpRef : Nat := 0x040F
/-- Parameter SRC_RECORD (R90). -/
def pSrcRecord : Nat := 0x0410
/-- Parameter SRC_RECORD_EXTID (R90). -/
def pSrcRecordExtid : Nat := 0x0411
/-- Parameter SRC_SPROP (R90). -/
def pSrcSprop : Nat := 0x0412
/-- Parameter SRC_SPILL_MIRROR (R90). -/
def pSrcSpillMirror : Nat := 0x0413
/-- Parameter SRC_2110_W (R90). -/
def pSrc2110W : Nat := 0x0414
/-- Parameter SRC_2110_H (R90). -/
def pSrc2110H : Nat := 0x0415
/-- Parameter SRC_2110_SAMPLING (R90). -/
def pSrc2110Sampling : Nat := 0x0416
/-- Parameter SRC_2110_DEPTH (R90). -/
def pSrc2110Depth : Nat := 0x0417
/-- Parameter SRC_2110_COLORIMETRY (R90). -/
def pSrc2110Colorimetry : Nat := 0x0418
/-- Parameter SRC_2110_RANGE (R90). -/
def pSrc2110Range : Nat := 0x0419
/-- Parameter SRC_2110_PACKING (R90). -/
def pSrc2110Packing : Nat := 0x041A
/-- Parameter FRZ_SHARE (R157). -/
def pFrzShare : Nat := 0x0501
/-- Parameter FRZ_MIN_ELIG (R157). -/
def pFrzMinElig : Nat := 0x0502
/-- Parameter FRZ_SIGREP_FRAMES (R157). -/
def pFrzSigrepFrames : Nat := 0x0503
/-- Parameter FRZ_PAYLOAD_COUNT (R157). -/
def pFrzPayloadCount : Nat := 0x0504
/-- Parameter FRZ_INTRA_COUNT (R157). -/
def pFrzIntraCount : Nat := 0x0505
/-- Parameter FRZ_MOTION_EVID (R157). -/
def pFrzMotionEvid : Nat := 0x0506
/-- Parameter FRZ_TOKEN (R157). -/
def pFrzToken : Nat := 0x0507
/-- Parameter FRZ_TOKEN_COUNT (R157). -/
def pFrzTokenCount : Nat := 0x0508
/-- Parameter FRZ_TOKEN_MAX_STEP (R157). -/
def pFrzTokenMaxStep : Nat := 0x0509
/-- Parameter FRZ_TOKEN_STAT_REPEAT (R157). -/
def pFrzTokenStatRepeat : Nat := 0x050A
/-- Parameter FRZ_TOKEN_TRUST (R157). -/
def pFrzTokenTrust : Nat := 0x050B
/-- Parameter DEC_MAX_W (R120). -/
def pDecMaxW : Nat := 0x0601
/-- Parameter DEC_MAX_H (R120). -/
def pDecMaxH : Nat := 0x0602
/-- Parameter DEC_MAX_DEPTH (R120). -/
def pDecMaxDepth : Nat := 0x0603
/-- Parameter DEC_MAX_DPB (R120). -/
def pDecMaxDpb : Nat := 0x0604
/-- Parameter DEC_COMPANION (R120). -/
def pDecCompanion : Nat := 0x0605
/-- Parameter DEC_PREVIEW (R120). -/
def pDecPreview : Nat := 0x0606
/-- Parameter DEC_ORIGIN (R120). -/
def pDecOrigin : Nat := 0x0607
/-- Parameter DEC_SUBST (R120). -/
def pDecSubst : Nat := 0x0608
/-- Parameter DEC_CONCEAL (R120). -/
def pDecConceal : Nat := 0x0609
/-- Parameter DEC_HASH_CHECK (R120). -/
def pDecHashCheck : Nat := 0x060A
/-- Parameter DEC_BACKLOG_US (R120). -/
def pDecBacklogUs : Nat := 0x060B
/-- Parameter DEC_STATS (R120). -/
def pDecStats : Nat := 0x060C
/-- Parameter DEC_STATS_EVERY (R120). -/
def pDecStatsEvery : Nat := 0x060D
/-- Parameter DEC_LANE_ENABLE (R120). -/
def pDecLaneEnable : Nat := 0x060E
/-- Parameter DEC_PLAYBACK_RATE (R120). -/
def pDecPlaybackRate : Nat := 0x060F
/-- Parameter ENC_ENABLE (R281). -/
def pEncEnable : Nat := 0x0701
/-- Parameter ENC_HEAD (R281). -/
def pEncHead : Nat := 0x0702
/-- Parameter ENC_AREA (R281). -/
def pEncArea : Nat := 0x0703
/-- Parameter ENC_SCALE (R281). -/
def pEncScale : Nat := 0x0704
/-- Parameter ENC_CODEC (R281). -/
def pEncCodec : Nat := 0x0705
/-- Parameter ENC_CADENCE (R281). -/
def pEncCadence : Nat := 0x0706
/-- Parameter ENC_RATE (R281). -/
def pEncRate : Nat := 0x0707
/-- Parameter ENC_VBV_MS (R281). -/
def pEncVbvMs : Nat := 0x0708
/-- Parameter ENC_QP_MIN (R281). -/
def pEncQpMin : Nat := 0x0709
/-- Parameter ENC_QP_MAX (R281). -/
def pEncQpMax : Nat := 0x070A
/-- Parameter ENC_IDR_PERIOD (R281). -/
def pEncIdrPeriod : Nat := 0x070B
/-- Parameter ENC_CSC (R281). -/
def pEncCsc : Nat := 0x070C
/-- Parameter ENC_TOKEN (R281). -/
def pEncToken : Nat := 0x070D
/-- Parameter ENC_HASH (R281). -/
def pEncHash : Nat := 0x070E
/-- Parameter ENC_DEST_A (R281). -/
def pEncDestA : Nat := 0x070F
/-- Parameter ENC_DEST_B (R281). -/
def pEncDestB : Nat := 0x0710
/-- Parameter ENC_SSRC (R281). -/
def pEncSsrc : Nat := 0x0711
/-- Parameter ENC_SSRC_ALT (R281). -/
def pEncSsrcAlt : Nat := 0x0712
/-- Parameter ENC_PT (R281). -/
def pEncPt : Nat := 0x0713
/-- Parameter ENC_RECORD_EXTID (R281). -/
def pEncRecordExtid : Nat := 0x0714
/-- Parameter ENC_MTU (R281). -/
def pEncMtu : Nat := 0x0715
/-- Parameter ENC_PACE_US (R281). -/
def pEncPaceUs : Nat := 0x0716
/-- Parameter HEAD_ENABLE (R192). -/
def pHeadEnable : Nat := 0x0801
/-- Parameter HEAD_PORT (R192). -/
def pHeadPort : Nat := 0x0802
/-- Parameter HEAD_STREAM (R192). -/
def pHeadStream : Nat := 0x0803
/-- Parameter HEAD_MST_RAD (R192). -/
def pHeadMstRad : Nat := 0x0804
/-- Parameter HEAD_HACTIVE (R192). -/
def pHeadHactive : Nat := 0x0805
/-- Parameter HEAD_HFP (R192). -/
def pHeadHfp : Nat := 0x0806
/-- Parameter HEAD_HSYNC (R192). -/
def pHeadHsync : Nat := 0x0807
/-- Parameter HEAD_HBP (R192). -/
def pHeadHbp : Nat := 0x0808
/-- Parameter HEAD_VACTIVE (R192). -/
def pHeadVactive : Nat := 0x0809
/-- Parameter HEAD_VFP (R192). -/
def pHeadVfp : Nat := 0x080A
/-- Parameter HEAD_VSYNC (R192). -/
def pHeadVsync : Nat := 0x080B
/-- Parameter HEAD_VBP (R192). -/
def pHeadVbp : Nat := 0x080C
/-- Parameter HEAD_SYNC_POL (R192). -/
def pHeadSyncPol : Nat := 0x080D
/-- Parameter HEAD_MULT (R192). -/
def pHeadMult : Nat := 0x080E
/-- Parameter HEAD_PARITY (R192). -/
def pHeadParity : Nat := 0x080F
/-- Parameter HEAD_PHASE (R192). -/
def pHeadPhase : Nat := 0x0810
/-- Parameter HEAD_DEPTH (R192). -/
def pHeadDepth : Nat := 0x0811
/-- Parameter HEAD_PRIMARIES (R192). -/
def pHeadPrimaries : Nat := 0x0812
/-- Parameter HEAD_DITHER (R192). -/
def pHeadDither : Nat := 0x0813
/-- Parameter HEAD_WEIR_LOW (R192). -/
def pHeadWeirLow : Nat := 0x0814
/-- Parameter HEAD_WEIR_HIGH (R192). -/
def pHeadWeirHigh : Nat := 0x0815
/-- Parameter HEAD_FLAUND_EN (R192). -/
def pHeadFlaundEn : Nat := 0x0816
/-- Parameter TWIN_ROUTE (R264). -/
def pTwinRoute : Nat := 0x0901
/-- Parameter TWIN_XCHG_WAIT (R264). -/
def pTwinXchgWait : Nat := 0x0902
/-- Parameter TWIN_LATCH_LEAD (R264). -/
def pTwinLatchLead : Nat := 0x0903
/-- Parameter TWIN_BORROW_WAIT (R264). -/
def pTwinBorrowWait : Nat := 0x0904
/-- Parameter TWIN_BORROW_IDLE (R264). -/
def pTwinBorrowIdle : Nat := 0x0905
/-- Parameter TWIN_HB_UDP (R264). -/
def pTwinHbUdp : Nat := 0x0906
/-- Parameter TWIN_TAKEOVER (R264). -/
def pTwinTakeover : Nat := 0x0907
/-- Parameter TWIN_SNAP_PERIOD (R264). -/
def pTwinSnapPeriod : Nat := 0x0908
/-- Parameter TWIN_SNAP_RATE (R264). -/
def pTwinSnapRate : Nat := 0x0909
/-- Parameter TWIN_JOINABLE (R264). -/
def pTwinJoinable : Nat := 0x090A
/-- Parameter TWIN_LANE_ENABLE (R264). -/
def pTwinLaneEnable : Nat := 0x090B
/-- Parameter MEM_INTERLEAVE (R320). -/
def pMemInterleave : Nat := 0x0A01
/-- Parameter MEM_HASH_EN (R320). -/
def pMemHashEn : Nat := 0x0A02
/-- Parameter MEM_HOST_BASE (R320). -/
def pMemHostBase : Nat := 0x0A03
/-- Parameter MEM_HOST_SIZE (R320). -/
def pMemHostSize : Nat := 0x0A04
/-- Parameter MEM_PORT_TARGET (R320). -/
def pMemPortTarget : Nat := 0x0A05
/-- Parameter MEM_COLD_IDLE (R320). -/
def pMemColdIdle : Nat := 0x0A06
/-- Parameter MEM_SWITCH_OFS (R320). -/
def pMemSwitchOfs : Nat := 0x0A07
/-- Parameter MEM_SCRUB_PERIOD (R320). -/
def pMemScrubPeriod : Nat := 0x0A08
/-- Parameter MEM_CE_THRESHOLD (R320). -/
def pMemCeThreshold : Nat := 0x0A09
/-- Parameter TOUCH_ENABLE (R352). -/
def pTouchEnable : Nat := 0x0B01
/-- Parameter TOUCH_GROUP_EN (R352). -/
def pTouchGroupEn : Nat := 0x0B02
/-- Parameter TOUCH_XFER_RATE (R352). -/
def pTouchXferRate : Nat := 0x0B03
/-- Parameter TOUCH_COUNT_LIMIT (R352). -/
def pTouchCountLimit : Nat := 0x0B04
/-- Parameter TOUCH_MIN_COUNT (R352). -/
def pTouchMinCount : Nat := 0x0B05
/-- Parameter TOUCH_SCAN_OFS (R352). -/
def pTouchScanOfs : Nat := 0x0B06
/-- Parameter TOUCH_SCAN_DIV (R352). -/
def pTouchScanDiv : Nat := 0x0B07
/-- Parameter TOUCH_CLASS (R352). -/
def pTouchClass : Nat := 0x0B08
/-- Parameter TOUCH_ON (R352). -/
def pTouchOn : Nat := 0x0B09
/-- Parameter TOUCH_OFF (R352). -/
def pTouchOff : Nat := 0x0B0A
/-- Parameter TOUCH_NEG (R352). -/
def pTouchNeg : Nat := 0x0B0B
/-- Parameter TOUCH_DEB_ON (R352). -/
def pTouchDebOn : Nat := 0x0B0C
/-- Parameter TOUCH_DEB_OFF (R352). -/
def pTouchDebOff : Nat := 0x0B0D
/-- Parameter TOUCH_BASE_SHIFT (R352). -/
def pTouchBaseShift : Nat := 0x0B0E
/-- Parameter TOUCH_MAX_HOLD (R352). -/
def pTouchMaxHold : Nat := 0x0B0F
/-- Parameter TOUCH_NBR (R352). -/
def pTouchNbr : Nat := 0x0B10
/-- Parameter TOUCH_TEMPCO (R352). -/
def pTouchTempco : Nat := 0x0B11
/-- Parameter TOUCH_SAVE_PERIOD (R352). -/
def pTouchSavePeriod : Nat := 0x0B12
/-- Parameter TOUCH_PERCEPT (R352). -/
def pTouchPercept : Nat := 0x0B13
/-- Parameter EVI_POL (R352). -/
def pEviPol : Nat := 0x0B14
/-- Parameter EVI_DEB (R352). -/
def pEviDeb : Nat := 0x0B15
/-- Parameter EVI_STUCK_S (R352). -/
def pEviStuckS : Nat := 0x0B16
/-- Parameter SYS_HOST_DRAM_RATE (R385). -/
def pSysHostDramRate : Nat := 0x0C01
/-- Parameter FG_STALL_TICKS (R385). -/
def pFgStallTicks : Nat := 0x0C02
/-- Parameter INT_COLOUR (R385). -/
def pIntColour : Nat := 0x0C03
/-- Parameter INT_PATTERN (R385). -/
def pIntPattern : Nat := 0x0C04
/-- Parameter INT_AGE_SRC (R385). -/
def pIntAgeSrc : Nat := 0x0C05
/-- Parameter INT_AGE_PANE (R385). -/
def pIntAgePane : Nat := 0x0C06
/-- Parameter HEAD_BG_COLOUR (R385). -/
def pHeadBgColour : Nat := 0x0C07
/-- Parameter HEAD_ZMODE (R385). -/
def pHeadZmode : Nat := 0x0C08
/-- Parameter HEAD_MARK_COLOUR (R385). -/
def pHeadMarkColour : Nat := 0x0C09
/-- Parameter FLAUND_ID (R385). -/
def pFlaundId : Nat := 0x0C0A
/-- Parameter LIVE_MAP (R385). -/
def pLiveMap : Nat := 0x0C0B
/-- Parameter LIVE_DARK_MAP (R385). -/
def pLiveDarkMap : Nat := 0x0C0C
/-- Parameter LIVE_DARK_POL (R385). -/
def pLiveDarkPol : Nat := 0x0C0D
/-- Parameter DP_PORT_MODE (R385). -/
def pDpPortMode : Nat := 0x0C0E
/-- Parameter DP_LINK_RATE (R385). -/
def pDpLinkRate : Nat := 0x0C0F
/-- Parameter DP_LANES (R385). -/
def pDpLanes : Nat := 0x0C10
/-- Parameter DEC_STATS_RATE (R385). -/
def pDecStatsRate : Nat := 0x0C11
/-- Parameter NET_PORT_MODE (R385). -/
def pNetPortMode : Nat := 0x0C12
/-- Parameter NET_PORT_PATH (R385). -/
def pNetPortPath : Nat := 0x0C13
/-- Parameter NET_IPV4 (R385). -/
def pNetIpv4 : Nat := 0x0C14
/-- Parameter NET_IPV6 (R385). -/
def pNetIpv6 : Nat := 0x0C15
/-- Parameter NET_MIRROR_RATE (R385). -/
def pNetMirrorRate : Nat := 0x0C16
/-- Parameter CMD_UDP_ALLOW (R385). -/
def pCmdUdpAllow : Nat := 0x0C17
/-- Parameter CMD_UDP_PORT (R385). -/
def pCmdUdpPort : Nat := 0x0C18

/-- The parameters of R53. -/
def paramsR53 : List ParamSpec := [
  ⟨pDom, 2, .dom, .dom, .num 0⟩,
  ⟨pTimePrefDom, 2, .dev, .num 0 1, .num 0⟩,
  ⟨pTimeServoBw, 2, .dev, .num 10 1000, .num 100⟩,
  ⟨pTimePortCorr, 2, .port, .signed (-100000) 100000, .num 0⟩,
  ⟨pTimeDomAgree, 2, .dev, .num 20 100000, .num 1000⟩,
  ⟨pTimeAsym, 2, .dev, .num 0 1000000, .num 1000⟩,
  ⟨pTimeHoldRate, 2, .dev, .num 1 10000, .num 500⟩,
  ⟨pTimeHoldAcc, 2, .dev, .num 0 1000, .num 0⟩,
  ⟨pTimeHoldLimit, 2, .dev, .num 1 4000, .num 100⟩,
  ⟨pTimeHoldMax, 2, .dev, .num 1 604800, .num 86400⟩,
  ⟨pTimeStepEn, 2, .dev, .num 0 1, .num 1⟩,
  ⟨pTimeStepLimit, 2, .dev, .num 20 1000000000, .num 1000000⟩,
  ⟨pTimeUtcOffset, 2, .dev, .num 0 255, .num 37⟩,
  ⟨pTimeTickRate, 2, .dev, .num 0 9, .num 6⟩,
  ⟨pTimeTickEpoch, 2, .dev, .num 0 18446744073709551615, .num 0⟩,
  ⟨pTimeDecideLead, 2, .dev, .num 250 1000, .num 250⟩,
  ⟨pTimePpsFree, 2, .dev, .num 0 1, .num 0⟩,
  ⟨pTimeSrcAllow, 2, .stream, .num 0 100000000, .num 0⟩,
  ⟨pTimeSrAllow, 2, .stream, .num 0 100000000, .num 2000000⟩,
  ⟨pTimeSrValid, 2, .stream, .num 1 600, .num 30⟩,
  ⟨pTimeEstOffset, 2, .stream, .num 0 10000000000, .num 40000000⟩,
  ⟨pTimeEstUnc, 2, .stream, .num 0 10000000000, .num 20000000⟩]

/-- The parameters of R61. -/
def paramsR61 : List ParamSpec := [
  ⟨pPaneGuard, 4, .pane, .num 0 1, .num 1⟩,
  ⟨pPaneSoftLimit, 4, .pane, .num 1000 60000000, .num 150000⟩,
  ⟨pPaneHardLimit, 4, .pane, .num 1000 60000000, .num 400000⟩,
  ⟨pPaneEvidLimit, 4, .pane, .num 1000 60000000, .num 10000000⟩,
  ⟨pPaneEvidPolicy, 4, .pane, .num 0 1, .num 0⟩,
  ⟨pPaneMarkStyle, 4, .pane, .num 0 4, .num 3⟩,
  ⟨pPaneTextScale, 4, .pane, .num 1 3, .num 1⟩]

/-- The parameters of R161. -/
def paramsR161 : List ParamSpec := [
  ⟨pPaneEnable, 4, .pane, .num 0 1, .num 1⟩,
  ⟨pPaneCrop, 4, .pane, .crop, .num 0⟩,
  ⟨pPaneDest, 4, .pane, .dest, .num 0⟩,
  ⟨pPaneZ, 4, .pane, .num 0 31, .num 0⟩,
  ⟨pPaneBlend, 4, .pane, .num 0 2, .num 0⟩,
  ⟨pPaneAlpha, 4, .pane, .num 0 255, .num 255⟩,
  ⟨pPaneKeyEn, 4, .pane, .num 0 1, .num 0⟩,
  ⟨pPaneKey, 4, .pane, .num 0 4294967295, .num 0⟩,
  ⟨pPaneKeyMask, 4, .pane, .num 0 4294967295, .num 0⟩,
  ⟨pPaneCsc, 4, .pane, .num 0 3, .num 0⟩,
  ⟨pPaneRange, 4, .pane, .num 0 2, .num 0⟩,
  ⟨pPaneCompanion, 4, .pane, .num 0 3, .num 0⟩,
  ⟨pPaneFilter, 4, .pane, .num 0 18, .num 0⟩,
  ⟨pPaneGroup, 4, .pane, .numOr 0 63, .num allOnes⟩]

/-- The parameters of R90. -/
def paramsR90 : List ParamSpec := [
  ⟨pSrcEnable, 3, .stream, .num 0 1, .num 0⟩,
  ⟨pSrcFormat, 3, .stream, .num 0 2, .num 1⟩,
  ⟨pSrcDestA, 3, .stream, .addr, .addr addrAbsent⟩,
  ⟨pSrcDestB, 3, .stream, .addr, .addr addrAbsent⟩,
  ⟨pSrcPt, 3, .stream, .num 0 127, .num 96⟩,
  ⟨pSrcSsrc, 3, .stream, .num 0 4294967295, .num 0⟩,
  ⟨pSrcFrameRate, 3, .stream, .num 1 120, .num 30⟩,
  ⟨pSrcMaxRate, 3, .stream, .num 1 25000, .num 20⟩,
  ⟨pSrcMaxBurst, 3, .stream, .num 1500 4194304, .num 262144⟩,
  ⟨pSrcJitterUs, 3, .stream, .num 0 200000, .num 5000⟩,
  ⟨pSrcGapTimeoutUs, 3, .stream, .num 1000 1000000, .num 66667⟩,
  ⟨pSrcSilenceUs, 3, .stream, .num 10000 10000000, .num 500000⟩,
  ⟨pSrcPartialPolicy, 3, .stream, .num 0 1, .num 0⟩,
  ⟨pSrcPathSkewUs, 3, .stream, .num 0 150000, .num 20000⟩,
  ⟨pSrcPtpRef, 3, .stream, .num 0 1, .num 0⟩,
  ⟨pSrcRecord, 3, .stream, .num 0 2, .num 1⟩,
  ⟨pSrcRecordExtid, 3, .stream, .num 1 255, .num 1⟩,
  ⟨pSrcSprop, 3, .stream, .bytes 1024, .bytes []⟩,
  ⟨pSrcSpillMirror, 3, .stream, .num 0 15, .num 0⟩,
  ⟨pSrc2110W, 3, .stream, .num 1 4096, .num 0⟩,
  ⟨pSrc2110H, 3, .stream, .num 1 2304, .num 0⟩,
  ⟨pSrc2110Sampling, 3, .stream, .num 0 1, .num 0⟩,
  ⟨pSrc2110Depth, 3, .stream, .oneOf [8, 10], .num 0⟩,
  ⟨pSrc2110Colorimetry, 3, .stream, .num 0 2, .num 0⟩,
  ⟨pSrc2110Range, 3, .stream, .num 0 1, .num 0⟩,
  ⟨pSrc2110Packing, 3, .stream, .num 0 1, .num 0⟩]

/-- The parameters of R157. -/
def paramsR157 : List ParamSpec := [
  ⟨pFrzShare, 3, .stream, .num 50 100, .num 95⟩,
  ⟨pFrzMinElig, 3, .stream, .num 10 100, .num 25⟩,
  ⟨pFrzSigrepFrames, 3, .stream, .num 1 255, .num 2⟩,
  ⟨pFrzPayloadCount, 3, .stream, .num 1 255, .num 1⟩,
  ⟨pFrzIntraCount, 3, .stream, .num 1 255, .num 1⟩,
  ⟨pFrzMotionEvid, 3, .stream, .numOr 1 1000, .num allOnes⟩,
  ⟨pFrzToken, 3, .stream, .num 0 2, .num 1⟩,
  ⟨pFrzTokenCount, 3, .stream, .num 1 255, .num 1⟩,
  ⟨pFrzTokenMaxStep, 3, .stream, .num 1 65535, .num 255⟩,
  ⟨pFrzTokenStatRepeat, 3, .stream, .num 2 255, .num 3⟩,
  ⟨pFrzTokenTrust, 3, .stream, .num 0 1, .num 0⟩]

/-- The parameters of R120. -/
def paramsR120 : List ParamSpec := [
  ⟨pDecMaxW, 6, .stream, .num 64 4096, .num 1920⟩,
  ⟨pDecMaxH, 6, .stream, .num 64 2304, .num 1080⟩,
  ⟨pDecMaxDepth, 6, .stream, .oneOf [8, 10], .num 8⟩,
  ⟨pDecMaxDpb, 6, .stream, .num 1 16, .num 6⟩,
  ⟨pDecCompanion, 6, .stream, .num 0 3, .num 0⟩,
  ⟨pDecPreview, 6, .stream, .num 0 1, .num 0⟩,
  ⟨pDecOrigin, 6, .stream, .num 0 1, .num 0⟩,
  ⟨pDecSubst, 6, .stream, .num 0 1, .num 0⟩,
  ⟨pDecConceal, 6, .stream, .num 0 1, .num 0⟩,
  ⟨pDecHashCheck, 6, .stream, .num 0 1, .num 1⟩,
  ⟨pDecBacklogUs, 6, .stream, .num 20000 1000000, .num 200000⟩,
  ⟨pDecStats, 6, .stream, .num 0 2, .num 0⟩,
  ⟨pDecStatsEvery, 6, .stream, .num 1 255, .num 1⟩,
  ⟨pDecLaneEnable, 6, .dev, .num 0 4095, .num 4095⟩,
  ⟨pDecPlaybackRate, 6, .dev, .num 0 750, .num 0⟩]

/-- The parameters of R281. -/
def paramsR281 : List ParamSpec := [
  ⟨pEncEnable, 6, .session, .num 0 1, .num 0⟩,
  ⟨pEncHead, 6, .session, .num 0 31, .num 0⟩,
  ⟨pEncArea, 6, .session, .area, .num 0⟩,
  ⟨pEncScale, 6, .session, .oneOf [1000, 500], .num 1000⟩,
  ⟨pEncCodec, 6, .session, .num 0 1, .num 0⟩,
  ⟨pEncCadence, 6, .session, .oneOf [1, 2, 4, 8], .num 1⟩,
  ⟨pEncRate, 6, .session, .num 500 200000, .num 8000⟩,
  ⟨pEncVbvMs, 6, .session, .num 20 2000, .num 100⟩,
  ⟨pEncQpMin, 6, .session, .num 0 51, .num 18⟩,
  ⟨pEncQpMax, 6, .session, .num 0 51, .num 45⟩,
  ⟨pEncIdrPeriod, 6, .session, .num 0 65535, .num 50⟩,
  ⟨pEncCsc, 6, .session, .num 0 2, .num 1⟩,
  ⟨pEncToken, 6, .session, .num 0 1, .num 1⟩,
  ⟨pEncHash, 6, .session, .num 0 1, .num 1⟩,
  ⟨pEncDestA, 6, .session, .addr, .addr addrAbsent⟩,
  ⟨pEncDestB, 6, .session, .addr, .addr addrAbsent⟩,
  ⟨pEncSsrc, 6, .session, .num 1 4294967295, .num 0⟩,
  ⟨pEncSsrcAlt, 6, .session, .num 1 4294967295, .num 0⟩,
  ⟨pEncPt, 6, .session, .num 96 127, .num 97⟩,
  ⟨pEncRecordExtid, 6, .session, .num 1 255, .num 1⟩,
  ⟨pEncMtu, 6, .session, .num 576 9000, .num 1500⟩,
  ⟨pEncPaceUs, 6, .session, .num 0 20000, .num 2000⟩]

/-- The parameters of R192. -/
def paramsR192 : List ParamSpec := [
  ⟨pHeadEnable, 5, .head, .num 0 1, .num 0⟩,
  ⟨pHeadPort, 5, .head, .numOr 0 7, .num allOnes⟩,
  ⟨pHeadStream, 5, .head, .num 0 3, .num 0⟩,
  ⟨pHeadMstRad, 5, .head, .rad, .num 0⟩,
  ⟨pHeadHactive, 5, .head, .num 64 8192, .num 1920⟩,
  ⟨pHeadHfp, 5, .head, .num 1 4095, .num 88⟩,
  ⟨pHeadHsync, 5, .head, .num 1 4095, .num 44⟩,
  ⟨pHeadHbp, 5, .head, .num 1 4095, .num 148⟩,
  ⟨pHeadVactive, 5, .head, .num 64 8192, .num 1080⟩,
  ⟨pHeadVfp, 5, .head, .num 1 255, .num 4⟩,
  ⟨pHeadVsync, 5, .head, .num 1 255, .num 5⟩,
  ⟨pHeadVbp, 5, .head, .num 1 1023, .num 36⟩,
  ⟨pHeadSyncPol, 5, .head, .num 0 3, .num 0⟩,
  ⟨pHeadMult, 5, .head, .num 0 2, .num 1⟩,
  ⟨pHeadParity, 5, .head, .num 0 1, .num 0⟩,
  ⟨pHeadPhase, 5, .head, .num 0 18446744073709551615, .num 0⟩,
  ⟨pHeadDepth, 5, .head, .oneOf [8, 10], .num 8⟩,
  ⟨pHeadPrimaries, 5, .head, .num 0 1, .num 0⟩,
  ⟨pHeadDither, 5, .head, .num 0 1, .num 1⟩,
  ⟨pHeadWeirLow, 5, .head, .num 5 60, .num 10⟩,
  ⟨pHeadWeirHigh, 5, .head, .num 20 60, .num 40⟩,
  ⟨pHeadFlaundEn, 5, .head, .num 0 1, .num 0⟩]

/-- The parameters of R264. -/
def paramsR264 : List ParamSpec := [
  ⟨pTwinRoute, 7, .dev, .num 0 1, .num 0⟩,
  ⟨pTwinXchgWait, 7, .dev, .num 10 800, .num 40⟩,
  ⟨pTwinLatchLead, 7, .dev, .num 10 100, .num 20⟩,
  ⟨pTwinBorrowWait, 7, .dev, .num 0 2000, .num 100⟩,
  ⟨pTwinBorrowIdle, 7, .dev, .num 500 50000, .num 2000⟩,
  ⟨pTwinHbUdp, 7, .dev, .addr, .addr addrAbsent⟩,
  ⟨pTwinTakeover, 7, .dev, .num 0 1, .num 0⟩,
  ⟨pTwinSnapPeriod, 7, .dev, .num 1 600, .num 10⟩,
  ⟨pTwinSnapRate, 7, .dev, .num 1 50, .num 10⟩,
  ⟨pTwinJoinable, 7, .dev, .num 0 1, .num 0⟩,
  ⟨pTwinLaneEnable, 7, .dev, .num 0 255, .num 255⟩]

/-- The parameters of R320. -/
def paramsR320 : List ParamSpec := [
  ⟨pMemInterleave, 10, .dev, .pow2 256 65536, .num 2048⟩,
  ⟨pMemHashEn, 10, .dev, .num 0 1, .num 1⟩,
  ⟨pMemHostBase, 10, .dev, .mult 256 0 14336, .num 4096⟩,
  ⟨pMemHostSize, 10, .dev, .mult 256 256 6144, .num 2048⟩,
  ⟨pMemPortTarget, 10, .qos, .num 500 1000000, .num 0⟩,
  ⟨pMemColdIdle, 10, .dev, .num 1 1000, .num 10⟩,
  ⟨pMemSwitchOfs, 10, .dev, .num 1000 1000000, .num 2000⟩,
  ⟨pMemScrubPeriod, 10, .dev, .num 1 168, .num 24⟩,
  ⟨pMemCeThreshold, 10, .dev, .num 1 100000, .num 1000⟩]

/-- The parameters of R352. -/
def paramsR352 : List ParamSpec := [
  ⟨pTouchEnable, 8, .dev, .num 0 1, .num 0⟩,
  ⟨pTouchGroupEn, 8, .dev, .num 0 255, .num 0⟩,
  ⟨pTouchXferRate, 8, .dev, .oneOf [500, 1000, 2000, 4000], .num 4000⟩,
  ⟨pTouchCountLimit, 8, .dev, .num 256 4095, .num 4095⟩,
  ⟨pTouchMinCount, 8, .dev, .num 1 255, .num 8⟩,
  ⟨pTouchScanOfs, 8, .dev, .num 0 1000000, .num 2000⟩,
  ⟨pTouchScanDiv, 8, .dev, .num 1 8, .num 1⟩,
  ⟨pTouchClass, 8, .electrode, .num 0 2, .num 0⟩,
  ⟨pTouchOn, 8, .electrode, .num 4 2047, .num 40⟩,
  ⟨pTouchOff, 8, .electrode, .num 2 2045, .num 25⟩,
  ⟨pTouchNeg, 8, .electrode, .num 4 2047, .num 20⟩,
  ⟨pTouchDebOn, 8, .electrode, .num 1 15, .num 2⟩,
  ⟨pTouchDebOff, 8, .electrode, .num 1 15, .num 2⟩,
  ⟨pTouchBaseShift, 8, .dev, .num 4 12, .num 8⟩,
  ⟨pTouchMaxHold, 8, .dev, .num 100 600000, .num 20000⟩,
  ⟨pTouchNbr, 8, .electrode, .nbr, .num allOnes⟩,
  ⟨pTouchTempco, 8, .dev, .signed (-1024) 1024, .num 0⟩,
  ⟨pTouchSavePeriod, 8, .dev, .num 10 1440, .num 60⟩,
  ⟨pTouchPercept, 8, .dev, .num 0 1000, .num 150⟩,
  ⟨pEviPol, 8, .dev, .num 0 4294967295, .num 0⟩,
  ⟨pEviDeb, 8, .input, .num 0 255, .num 5⟩,
  ⟨pEviStuckS, 8, .input, .num 0 65535, .num 60⟩]

/-- The parameters of R385. -/
def paramsR385 : List ParamSpec := [
  ⟨pSysHostDramRate, 1, .dev, .num 0 20000, .num 2000⟩,
  ⟨pFgStallTicks, 4, .dev, .num 1 65535, .num 60⟩,
  ⟨pIntColour, 4, .intCol, .num 0 4294967295, .num 255⟩,
  ⟨pIntPattern, 4, .intPat, .num 0 4, .num 0⟩,
  ⟨pIntAgeSrc, 4, .intAge, .num 0 127, .num 0⟩,
  ⟨pIntAgePane, 4, .intAge, .num 0 511, .num 0⟩,
  ⟨pHeadBgColour, 5, .head, .num 0 16777215, .num 0⟩,
  ⟨pHeadZmode, 5, .head, .num 0 1, .num 0⟩,
  ⟨pHeadMarkColour, 5, .headMark, .num 0 16777215, .num 0⟩,
  ⟨pFlaundId, 5, .dev, .num 0 16777215, .num 0⟩,
  ⟨pLiveMap, 5, .live, .num 0 4294967295, .num 0⟩,
  ⟨pLiveDarkMap, 5, .darkPin, .num 0 4294967295, .num 0⟩,
  ⟨pLiveDarkPol, 5, .dev, .num 0 15, .num 0⟩,
  ⟨pDpPortMode, 5, .dp, .num 0 2, .num 0⟩,
  ⟨pDpLinkRate, 5, .dp, .oneOf [1620, 2700, 5400, 8100], .num 5400⟩,
  ⟨pDpLanes, 5, .dp, .oneOf [1, 2, 4], .num 4⟩,
  ⟨pDecStatsRate, 6, .dev, .num 1 1000, .num 200⟩,
  ⟨pNetPortMode, 13, .port, .num 0 3, .num 0⟩,
  ⟨pNetPortPath, 13, .port, .num 0 1, .num 0⟩,
  ⟨pNetIpv4, 13, .port, .addr, .addr addrAbsent⟩,
  ⟨pNetIpv6, 13, .port2, .addr, .addr addrAbsent⟩,
  ⟨pNetMirrorRate, 13, .dev, .num 1 1000, .num 100⟩,
  ⟨pCmdUdpAllow, 13, .dev, .num 0 16383, .num 1⟩,
  ⟨pCmdUdpPort, 13, .dev, .num 1 65535, .num 4832⟩]

/-- Every parameter of R382. -/
def paramTable : List ParamSpec :=
  paramsR53 ++
  paramsR61 ++
  paramsR161 ++
  paramsR90 ++
  paramsR157 ++
  paramsR120 ++
  paramsR281 ++
  paramsR192 ++
  paramsR264 ++
  paramsR320 ++
  paramsR352 ++
  paramsR385

/-- The row of a parameter ID, where R382 has one. -/
def paramSpec (pid : Nat) : Option ParamSpec := paramTable.find? (fun p => p.pid == pid)

/-- The key of a parameter instance in `Cfg.params`. -/
def pkey (pid idx idx2 : Nat) : Nat := pid * 2 ^ 32 + idx2 * 2 ^ 16 + idx

/-- Whether an index and a second index name an instance of a parameter (R381, R385). -/
def idxOk (k : IdxKind) (idx idx2 : Nat) : Bool :=
  match k with
  | .dev => idx == 0 && idx2 == 0
  | .dom => idx < 2 && idx2 == 0
  | .port => idx < 4 && idx2 == 0
  | .port2 => idx < 4 && idx2 < 2
  | .stream => idx < 128 && idx2 == 0
  | .pane => idx < 512 && idx2 == 0
  | .session => idx < 16 && idx2 == 0
  | .head => idx < 32 && idx2 == 0
  | .headMark => idx < 32 && 1 ≤ idx2 && idx2 ≤ 5
  | .electrode => idx < 128 && idx2 == 0
  | .input => idx < 32 && idx2 == 0
  | .qos => idx < 9 && idx2 == 0
  | .intCol => ((192 ≤ idx && idx < 224) || (240 ≤ idx && idx < 256)) && idx2 == 0
  | .intPat => 224 ≤ idx && idx < 240 && idx2 == 0
  | .intAge => 240 ≤ idx && idx < 256 && idx2 == 0
  | .live => idx < 16 && idx2 == 0
  | .darkPin => idx < 4 && idx2 == 0
  | .dp => idx < 8 && idx2 == 0

/-- Component `i` of a value of several 16-bit components (R383). -/
def comp16 (v i : Nat) : Nat := bits v (16 * i + 15) (16 * i)

/-- The signed component `i` of such a value. -/
def comp16s (v i : Nat) : Int := ofTwos 16 (comp16 v i)

/-- Whether an address record is well formed: a known family, and an absent one all zero (R384). -/
def addrOk (a : AddrRec) : Bool :=
  (a.fam == 0 && a.plen == 0 && a.port == 0 && a.vlan == 0 && a.dscp == 0 && a.portMask == 0
    && a.addr.all (· == 0) && a.addr2.all (· == 0))
  || ((a.fam == 4 || a.fam == 6) && a.vlan ≤ 4094)

/-- Whether a value lies in a parameter's range (R357 check 5, R383). -/
def rangeOk (r : Range) (v : Val) : Bool :=
  match r, v with
  | .num lo hi, .num n => lo ≤ n && n ≤ hi
  | .numOr lo hi, .num n => n == allOnes || (lo ≤ n && n ≤ hi)
  | .signed lo hi, .num n => decide (lo ≤ ofTwos 64 n) && decide (ofTwos 64 n ≤ hi)
  | .oneOf l, .num n => l.contains n
  | .pow2 lo hi, .num n => lo ≤ n && n ≤ hi && (List.range 40).any (fun i => n == 2 ^ i)
  | .mult m lo hi, .num n => lo ≤ n && n ≤ hi && n % m == 0
  | .addr, .addr a => addrOk a
  | .bytes mx, .bytes b => b.length ≤ mx
  | .dom, .num n => bits n 7 4 == 0 && bits n 15 8 ≤ 127 && bits n 17 16 ≤ 2 && bits n 23 18 == 0 && n / 2 ^ 25 == 0
  | .crop, .num n => comp16 n 0 ≤ 16383 && comp16 n 1 ≤ 16383 && 1 ≤ comp16 n 2 && comp16 n 2 ≤ 16384
      && 1 ≤ comp16 n 3 && comp16 n 3 ≤ 16384
  | .dest, .num n => decide (-8192 ≤ comp16s n 0) && decide (comp16s n 0 ≤ 8191)
      && decide (-8192 ≤ comp16s n 1) && decide (comp16s n 1 ≤ 8191)
      && 1 ≤ comp16 n 2 && comp16 n 2 ≤ 8192 && 1 ≤ comp16 n 3 && comp16 n 3 ≤ 8192
  | .area, .num n => comp16 n 0 % 64 == 0 && comp16 n 1 % 64 == 0 && 64 ≤ comp16 n 2 && comp16 n 2 ≤ 8192
      && 64 ≤ comp16 n 3 && comp16 n 3 ≤ 8192 && comp16 n 2 % 4 == 0 && comp16 n 3 % 4 == 0
  | .rad, .num n => bits n 3 0 ≤ 2 && n / 2 ^ 12 == 0
      && (bits n 3 0 == 0 || 1 ≤ bits n 7 4) && (bits n 3 0 ≤ 1 || 1 ≤ bits n 11 8)
  | .nbr, .num n => (List.range 4).all (fun i => comp16 n i == 0xFFFF || comp16 n i < 128)
  | _, _ => false

/-- The scalar set for a parameter, where one is set. -/
def pset (c : Cfg) (pid idx idx2 : Nat) : Option Nat :=
  match tfind c.params (pkey pid idx idx2) with
  | some (.num n) => some n
  | _ => none

/-- The default of R78's colour table (R, G, B in one number). -/
def markDefault : Nat → Nat
  | 1 => 0xFFE600
  | 2 => 0x00C8DC
  | 3 => 0xA040FF
  | 4 => 0xFFB000
  | 5 => 0xFF00A0
  | _ => 0

/-- The default latency targets of R311, in the table's order. -/
def qosDefault (i : Nat) : Nat := nth 0 [2000, 20000, 10000, 10000, 5000, 20000, 4000, 5000, 100000] i

/-- A scalar parameter with the fixed default of its row. -/
def pfix (c : Cfg) (pid idx idx2 : Nat) : Nat :=
  match pset c pid idx idx2 with
  | some n => n
  | none =>
    match paramSpec pid with
    | some p => (match p.dflt with | .num n => n | _ => 0)
    | none => 0

/-- The source of a pane (0 for a pane that does not exist). -/
def paneSource (c : Cfg) (p : Nat) : Nat := (tget ⟨0, 0⟩ c.panes p).source

/-- The head of a pane. -/
def paneHead (c : Cfg) (p : Nat) : Nat := (tget ⟨0, 0⟩ c.panes p).head

/-- Whether a stream is ST 2110-20 (R90). -/
def is2110 (c : Cfg) (s : Nat) : Bool := pfix c pSrcFormat s 0 == 2

/-- The declared picture of a source that is not internal (R161): width, height. -/
def declared (c : Cfg) (src : Nat) : Nat × Nat :=
  if src < 128 then
    if is2110 c src then (pfix c pSrc2110W src 0, pfix c pSrc2110H src 0)
    else (pfix c pDecMaxW src 0, pfix c pDecMaxH src 0)
  else
    match tfind c.layers src with
    | some l => (l.w, l.h)
    | none => (0, 0)

/-- Four 16-bit components in one value (R383). -/
def pack4 (a b w h : Nat) : Nat := a % 65536 + 65536 * (b % 65536) + 2 ^ 32 * (w % 65536) + 2 ^ 48 * (h % 65536)

/-- The default crop (R161): the whole declared picture, or for an internal source the destination's size. -/
def cropDefault (c : Cfg) (p : Nat) : Nat :=
  let src := paneSource c p
  if src < 192 then
    let d := declared c src
    pack4 0 0 d.1 d.2
  else
    match pset c pPaneDest p 0 with
    | some d => pack4 0 0 (comp16 d 2) (comp16 d 3)
    | none => pack4 0 0 (pfix c pHeadHactive (paneHead c p) 0) (pfix c pHeadVactive (paneHead c p) 0)

/-- A pane's crop in force. -/
def paneCropV (c : Cfg) (p : Nat) : Nat := (pset c pPaneCrop p 0).getD (cropDefault c p)

/-- The default destination (R161): at (0, 0), the crop's size. -/
def destDefault (c : Cfg) (p : Nat) : Nat := pack4 0 0 (comp16 (paneCropV c p) 2) (comp16 (paneCropV c p) 3)

/-- The default gap timeout (R90): two frame intervals, rounded up to 1 µs. -/
def gapDefault (c : Cfg) (s : Nat) : Nat := ceilDiv 2000000 (pfix c pSrcFrameRate s 0)

/-- The default of DOM[d] (R53, R383): DOM[0] all ports, domain 127, UDP/IPv4, ST 2059-2; DOM[1] disabled. -/
def domDefault (d : Nat) : Nat := if d = 0 then 0xF + 127 * 256 + 2 ^ 24 else 0

/-- The default of a scalar parameter, where the table states one that depends on other settings (R53, R61, R78, R90,
R161, R281, R311). -/
def pdefault (c : Cfg) (pid idx idx2 : Nat) : Nat :=
  if pid = pDom then domDefault idx
  else if pid = pPaneGuard then (if paneSource c idx < 128 then 1 else 0)
  else if pid = pPaneCrop then cropDefault c idx
  else if pid = pPaneDest then destDefault c idx
  else if pid = pSrcJitterUs then (if is2110 c idx then 500 else 5000)
  else if pid = pSrcGapTimeoutUs then gapDefault c idx
  else if pid = pSrcPtpRef then (if is2110 c idx then 1 else 0)
  else if pid = pEncArea then
    let h := pfix c pEncHead idx 0
    pack4 0 0 (pfix c pHeadHactive h 0) (pfix c pHeadVactive h 0)
  else if pid = pEncSsrcAlt then pfix c pEncSsrc idx 0 ^^^ 1
  else if pid = pHeadMarkColour then markDefault idx2
  else if pid = pMemPortTarget then qosDefault idx
  else pfix c pid idx idx2

/-- A scalar parameter's value in force, with its second index. -/
def pv2 (c : Cfg) (pid idx idx2 : Nat) : Nat := (pset c pid idx idx2).getD (pdefault c pid idx idx2)

/-- A scalar parameter's value in force. -/
def pv (c : Cfg) (pid idx : Nat) : Nat := pv2 c pid idx 0

/-- An address parameter's value in force. -/
def pa2 (c : Cfg) (pid idx idx2 : Nat) : AddrRec :=
  match tfind c.params (pkey pid idx idx2) with
  | some (.addr a) => a
  | _ => addrAbsent

/-- An address parameter's value in force, with no second index. -/
def pa (c : Cfg) (pid idx : Nat) : AddrRec := pa2 c pid idx 0

/-- A byte-string parameter's value in force. -/
def pb (c : Cfg) (pid idx : Nat) : Bytes :=
  match tfind c.params (pkey pid idx 0) with
  | some (.bytes b) => b
  | _ => []

/-- A parameter's value in force, of any kind (GET, R381). -/
def pval (c : Cfg) (p : ParamSpec) (idx idx2 : Nat) : Val :=
  match p.range with
  | .addr => .addr (pa2 c p.pid idx idx2)
  | .bytes _ =>
    (match tfind c.params (pkey p.pid idx idx2) with
      | some (.bytes b) => .bytes b
      | _ => .bytes [])
  | _ => .num (pv2 c p.pid idx idx2)

/-- A configuration with one record applied (R386). -/
def cfgSetRec (c : Cfg) (r : SetRec) : Cfg :=
  { c with params := tset (pkey r.pid r.index r.index2) r.val c.params }

/-- A configuration with every record of a SET applied together (R386). -/
def cfgSetRecs (c : Cfg) (rs : List SetRec) : Cfg := rs.foldl cfgSetRec c

/-- A pane's crop: x, y, w, h. -/
def paneCrop (c : Cfg) (p : Nat) : Nat × Nat × Nat × Nat :=
  let v := pv c pPaneCrop p
  (comp16 v 0, comp16 v 1, comp16 v 2, comp16 v 3)

/-- A pane's destination: x, y signed, w, h. -/
def paneDest (c : Cfg) (p : Nat) : Int × Int × Nat × Nat :=
  let v := pv c pPaneDest p
  (comp16s v 0, comp16s v 1, comp16 v 2, comp16 v 3)

/-- Whether a pane is guarded (R61). -/
def guarded (c : Cfg) (p : Nat) : Bool := pv c pPaneGuard p == 1

/-- Whether a pane is enabled (R161). -/
def paneOn (c : Cfg) (p : Nat) : Bool := pv c pPaneEnable p == 1

/-- Whether a stream is enabled (R90). -/
def streamOn (c : Cfg) (s : Nat) : Bool := pv c pSrcEnable s == 1

/-- The pane IDs that exist. -/
def paneIds (c : Cfg) : List Nat := c.panes.map Prod.fst

/-- The panes of a head, in ascending ID. -/
def headPanes (c : Cfg) (h : Nat) : List Nat := (paneIds c).filter (fun p => paneHead c p == h)

/-- The panes of a source, in ascending ID. -/
def sourcePanes (c : Cfg) (src : Nat) : List Nat := (paneIds c).filter (fun p => paneSource c p == src)

/-- The head's port (R192): none, or its number. -/
def headPort (c : Cfg) (h : Nat) : Option Nat :=
  let v := pv c pHeadPort h
  if v = allOnes then none else some v

/-- The streams that are enabled, in ascending ID. -/
def enabledStreams (c : Cfg) : List Nat := (List.range 128).filter (streamOn c)

/-! ## The Basin (R22) -/

/-- The sizes of the Basin's partitions in bytes (R22); no command changes them. -/
def partitionBytes : Partition → Nat
  | .headFifo => 6 * 2 ^ 20
  | .scalerLines => 8 * 2 ^ 20
  | .ledger => 8 * 2 ^ 20
  | .netJitter => 12 * 2 ^ 20
  | .decCache => 8 * 2 ^ 20
  | .encoder => 3 * 2 ^ 20
  | .firmware => 2 * 2 ^ 20
  | .reserve => 2 ^ 20

end Sys2Proof.Machine
end

