-- ==== Sys2Proof/Decode.lean ====
section
/-! DEFINITION. From bytes to commands. No row of the table gives bits, so no word spells a command. A command packet
is bytes, though: its header (R355), its parameters (R380, R381, R384, R390), a submission entry (R365),
an SPI frame (R367) and a UDP datagram (R371) are read here. -/
namespace Sys2Proof

/-- The command a word spells by the table's bits: no row of the table gives bits, so none (log entry 4). -/
def decodeTableWord (_nbits _w : Nat) : Option Instr := none

namespace Machine

/-- The header of a packet as it stands in its first 24 bytes (R355). -/
structure RawHdr where
  version   : Nat
  flags     : Nat
  opcode    : Nat
  tag       : Nat
  length    : Nat
  applyTick : Nat
  seq       : Nat
  crc       : Nat
  deriving DecidableEq, Repr

/-- The header fields of a packet (R355). -/
def rawHdr (b : Bytes) : RawHdr :=
  ⟨fld b 0 1, fld b 1 1, fld b 2 2, fld b 4 2, fld b 6 2, fld b 8 8, fld b 16 4, fld b 20 4⟩

/-- The CRC of a packet in logical order, its CRC field taken as zero (R355). -/
def packetCrc (b : Bytes) : Nat := (crc32c 0 (b.take 20 ++ zeros 4 ++ b.drop 24)).toNat

/-- Check 1 of R357 on the header: VERSION, LENGTH, CRC and reserved flags. `flagsOk` is the mask of flags that the
transport may set. -/
def headerOk (b : Bytes) (flagsOk : Nat) : Bool :=
  let r := rawHdr b
  r.version == 1 && 6 ≤ r.length && r.length ≤ 1024 && b.length == 4 * r.length
  && (r.flags &&& (255 - flagsOk)) == 0 && r.crc == packetCrc b

/-- A number of bytes rounded up to whole words. -/
def pad4 (n : Nat) : Nat := (n + 3) / 4 * 4

/-- The first reserved field that is not zero, as a word offset in the packet. -/
def reservedFault (p : Bytes) (res : List (Nat × Nat)) : Option Nat :=
  (res.find? (fun r => (slice p r.1 r.2).any (· != 0))).map (fun r => 6 + r.1 / 4)

/-- Parameters of a fixed size with reserved fields: the command they spell, or the word at fault (R357, R380). -/
def fixedBody (p : Bytes) (n : Nat) (res : List (Nat × Nat)) (c : Cmd) : Except Nat Cmd :=
  if p.length != pad4 n then .error 0xFFFF
  else match reservedFault p (res ++ [(n, pad4 n - n)]) with
    | some w => .error w
    | none => .ok c

/-- Whether a record's parameter is one the command may carry, with the value's kind right (R381, R382, R390). -/
def recFormOk (fam : Nat) (paneCreate : Bool) (pid : Nat) (v : Option Val) : Bool :=
  match paramSpec pid with
  | none => false
  | some p =>
    p.fam == fam && (!paneCreate || pid / 256 == 2 || pid / 256 == 3)
    && (match v, p.range with
      | none, _ => true
      | some (.addr _), .addr => true
      | some (.bytes b), .bytes _ => b.length ≤ 1024
      | some (.num _), .addr => false
      | some (.num _), .bytes _ => false
      | some (.num _), _ => true
      | _, _ => false)

/-- An address record (R384). -/
def parseAddr (b : Bytes) : AddrRec :=
  ⟨fld b 0 1, fld b 1 1, fld b 2 2, fld b 4 2, fld b 6 1, fld b 7 1, slice b 8 16, slice b 24 16⟩

/-- The bytes of an address record (R384). -/
def addrBytes (a : AddrRec) : Bytes :=
  le 1 a.fam ++ le 1 a.plen ++ le 2 a.port ++ le 2 a.vlan ++ le 1 a.dscp ++ le 1 a.portMask
  ++ padTo 16 a.addr ++ padTo 16 a.addr2

/-- The value of a record by its length and parameter (R381, R383). -/
def parseVal (pid vlen : Nat) (b : Bytes) : Option Val :=
  if pid = pSrcSprop then (if vlen ≤ 1024 then some (.bytes (b.take vlen)) else none)
  else if vlen = 8 then some (.num (fld b 0 8))
  else if vlen = 40 then some (.addr (parseAddr b))
  else none

/-- The records of a block (R381), from word offset `w`: record form, reserved bits, known parameter and repeats are all
faults of the record's own word. -/
def parseRecs (fam : Nat) (paneCreate get : Bool) : Nat → Nat → List (Nat × Nat × Nat) → Bytes → Except Nat (List SetRec × Bytes)
  | 0, _, _, b => .ok ([], b)
  | n + 1, w, seen, b =>
    let pid := fld b 0 2
    let vlen := fld b 2 2
    let padded := (vlen + 7) / 8 * 8
    let key := (pid, fld b 4 2, fld b 6 1)
    let body := b.drop 8
    if b.length < 8 || body.length < padded || fld b 7 1 != 0 || seen.contains key then .error w
    else if (body.take padded).drop vlen |>.any (· != 0) then .error w
    else if get then
      if vlen != 0 || !recFormOk fam paneCreate pid none then .error w
      else match parseRecs fam paneCreate get n (w + 2) (key :: seen) body with
        | .ok (l, r) => .ok (⟨pid, key.2.1, key.2.2, .num 0⟩ :: l, r)
        | .error e => .error e
    else match parseVal pid vlen body with
      | none => .error w
      | some v =>
        if !recFormOk fam paneCreate pid (some v) then .error w
        else match parseRecs fam paneCreate get n (w + 2 + padded / 4) (key :: seen) (body.drop padded) with
          | .ok (l, r) => .ok (⟨pid, key.2.1, key.2.2, v⟩ :: l, r)
          | .error e => .error e

/-- A block of records: COUNT, two reserved bytes, the records and nothing after them (R381). -/
def parseBlock (fam : Nat) (paneCreate get : Bool) (off : Nat) (p : Bytes) : Except Nat (List SetRec) :=
  if p.length < off + 4 then .error 0xFFFF
  else if fld p (off + 2) 2 != 0 then .error (6 + off / 4)
  else match parseRecs fam paneCreate get (fld p off 2) (7 + off / 4) [] (p.drop (off + 4)) with
    | .ok (l, []) => .ok l
    | .ok _ => .error 0xFFFF
    | .error e => .error e

/-- A SET command. -/
def parseSet (fam : Nat) (p : Bytes) (k : List SetRec → Cmd) : Except Nat Cmd :=
  (parseBlock fam false false 0 p).map k

/-- A GET query. -/
def parseGet (fam : Nat) (p : Bytes) (k : List GetKey → Cmd) : Except Nat Cmd :=
  (parseBlock fam false true 0 p).map (fun l => k (l.map (fun r => ⟨r.pid, r.index, r.index2⟩)))

/-- A statistics query (R387). -/
def parseStats (p : Bytes) (k : Nat → Bool → Cmd) : Except Nat Cmd :=
  if p.length == 4 && fld p 2 1 / 2 != 0 then .error 6
  else fixedBody p 4 [(3, 1)] (k (fld p 0 2) (bit (fld p 2 1) 0))

/-- A palette for an I8 layer or buffer: present with FORMAT 3 and absent otherwise (R177, R390). -/
def paletteLen (format : Nat) : Nat := if format = 3 then 1024 else 0

/-- One layer of a FLIP (R390). -/
def parseFlipLayer (b : Bytes) : FlipLayer :=
  ⟨fld b 0 1, fld b 2 2, fld b 4 1, bit (fld b 5 1) 0, bit (fld b 5 1) 1, fld b 8 8, fld b 16 8, fld b 24 4, fld b 28 4⟩

/-- The layers of a FLIP, each 32 bytes with its reserved fields zero. -/
def parseFlip : Nat → Nat → Bytes → Except Nat (List FlipLayer)
  | 0, _, [] => .ok []
  | 0, _, _ => .error 0xFFFF
  | n + 1, w, b =>
    if b.length < 32 then .error 0xFFFF
    else if fld b 1 1 != 0 then .error w
    else if fld b 5 1 / 4 != 0 || fld b 6 2 != 0 then .error (w + 1)
    else (parseFlip n (w + 8) (b.drop 32)).map (fun l => parseFlipLayer b :: l)

/-- A ring command: VECTOR and LOG2SIZE at `o`, BASE in the last 8 bytes (R390). -/
def ringFld (p : Bytes) (o : Nat) : Nat × Nat × Nat := (fld p o 1, fld p (o + 1) 1, fld p 4 8)

/-- The parameters of every opcode (R390), or the word at fault. An opcode that R390 does not list is a fault of no single
parameter (R380). -/
def parseCmd (op : Nat) (p : Bytes) : Except Nat Cmd :=
  match op with
  | 0x0101 => parseSet 1 p .sysSet
  | 0x0102 => fixedBody p 4 [(2, 2)] (.sysProfile (fld p 0 1) (fld p 1 1))
  | 0x0103 => fixedBody p 4 [(1, 3)] (.sysShutdown (fld p 0 1))
  | 0x0104 => fixedBody p 0 [] .sysRestart
  | 0x0181 => parseGet 1 p .sysGet
  | 0x0182 => fixedBody p 0 [] .sysInfo
  | 0x0183 => fixedBody p 12 [(9, 3)] (.sysEventRead (fld p 0 8) (fld p 8 1))
  | 0x0201 => parseSet 2 p .timeSet
  | 0x0281 => parseGet 2 p .timeGet
  | 0x0282 => fixedBody p 0 [] .timeStatus
  | 0x0301 => parseSet 3 p .srcSet
  | 0x0381 => parseGet 3 p .srcGet
  | 0x0382 => parseStats p .srcStats
  | 0x0383 => parseStats p .srcFreezeStatus
  | 0x0384 => fixedBody p 6 [] (.srcLedgerRead (fld p 0 1) (fld p 1 1) (fld p 2 2) (fld p 4 2))
  | 0x0401 => (parseBlock 4 true false 4 p).map (.paneCreate (fld p 0 2) (fld p 2 1) (fld p 3 1))
  | 0x0402 => fixedBody p 4 [(2, 2)] (.paneDelete (fld p 0 2))
  | 0x0403 => parseSet 4 p .paneSet
  | 0x0404 => fixedBody p (8 + paletteLen (fld p 1 1)) [(6, 2)] (.layerDeclare (fld p 0 1) (fld p 1 1) (fld p 2 2) (fld p 4 2) (p.drop 8))
  | 0x0405 => fixedBody p (24 + paletteLen (fld p 2 1)) [(3, 1), (20, 4)]
      (.bufRegister (fld p 0 2) (fld p 2 1) (fld p 4 2) (fld p 6 2) (fld p 8 8) (fld p 16 4) (p.drop 24))
  | 0x0406 => fixedBody p 4 [(2, 2)] (.bufUnregister (fld p 0 2))
  | 0x0407 => fixedBody p 12 [(2, 2)] (.fenceConfig (fld p 0 1) (fld p 1 1) (fld p 4 8))
  | 0x0408 =>
    if p.length < 4 then .error 0xFFFF
    else if fld p 2 2 != 0 then .error 6
    else (parseFlip (fld p 1 1) 7 (p.drop 4)).map (.flip (fld p 0 1))
  | 0x0481 => parseGet 4 p .paneGet
  | 0x0482 => fixedBody p 4 [] (.bufState (fld p 0 2) (fld p 2 2))
  | 0x0483 => fixedBody p 4 [(1, 3)] (.groupStatus (fld p 0 1))
  | 0x0501 => parseSet 5 p .headSet
  | 0x0502 => fixedBody p 8 [(5, 3)] (.headDark (BitVec.ofNat 32 (fld p 0 4)) (fld p 4 1))
  | 0x0503 => if p.length < 4 then .error 0xFFFF
      else if fld p 2 2 != 0 then .error 6
      else .ok (.colourStage (fld p 0 1) (fld p 1 1) (p.drop 4))
  | 0x0504 => fixedBody p 4 [(1, 3)] (.colourCommit (fld p 0 1))
  | 0x0505 => fixedBody p 1028 [(1, 3)] (.scalerCoefLoad (fld p 0 1) (p.drop 4))
  | 0x0581 => parseGet 5 p .headGet
  | 0x0582 => parseStats p .headStats
  | 0x0583 => fixedBody p 4 [(1, 3)] (.dpSinkInfo (fld p 0 1))
  | 0x0601 => parseSet 6 p .codecSet
  | 0x0602 => fixedBody p 4 [(2, 2)] (.encIdr (fld p 0 2))
  | 0x0603 => fixedBody p 12 [(3, 1)] (.playbackRing (fld p 0 1) (fld p 1 1) (fld p 2 1) (fld p 4 8))
  | 0x0604 => fixedBody p 12 [(2, 2)] (.decStatsRing (ringFld p 0).1 (ringFld p 0).2.1 (ringFld p 0).2.2)
  | 0x0681 => parseGet 6 p .codecGet
  | 0x0682 => parseStats p .encStats
  | 0x0683 => parseStats p .decCounters
  | 0x0701 => parseSet 7 p .twinSet
  | 0x0702 => fixedBody p 4 [(1, 3)] (.twinJoin (fld p 0 1))
  | 0x0703 => fixedBody p 0 [] .twinLeave
  | 0x0704 => fixedBody p 0 [] .twinTakeover
  | 0x0705 => fixedBody p 0 [] .twinWithdraw
  | 0x0706 => fixedBody p 0 [] .twinReinstate
  | 0x0707 => fixedBody p 16 [] (.twinAdopt (p.take 16))
  | 0x0781 => parseGet 7 p .twinGet
  | 0x0782 => parseStats p .twinStats
  | 0x0801 => parseSet 8 p .touchSet
  | 0x0802 => fixedBody p 20 [(1, 1)] (.legendRegister (fld p 0 1) (fld p 2 2) (fld p 4 16))
  | 0x0803 => fixedBody p 4 [(1, 3)] (.legendDelete (fld p 0 1))
  | 0x0881 => parseGet 8 p .touchGet
  | 0x0882 => fixedBody p 4 [(1, 3)] (.touchRead (fld p 0 1))
  | 0x0901 => fixedBody p 12 [(3, 1)] (.cuStart (fld p 0 1) (fld p 1 1) (fld p 2 1) (BitVec.ofNat 64 (fld p 4 8)))
  | 0x0902 =>
    let inl := if fld p 1 1 = 0 then fld p 12 8 else 0
    fixedBody p (20 + inl) [(2, 2)] (.cuFeed (fld p 0 1) (fld p 1 1) (fld p 4 8) (fld p 12 8) (slice p 20 inl))
  | 0x0903 => fixedBody p 4 [(1, 3)] (.cuCtxRead (fld p 0 1))
  | 0x0904 =>
    if p.length == 28 && fld p 5 1 / 2 != 0 then .error 7
    else fixedBody p 28 [(1, 3), (6, 6)]
      (.cuCtxWrite (fld p 0 1) ⟨fld p 4 1, bit (fld p 5 1) 0, BitVec.ofNat 64 (fld p 12 8), fld p 20 8⟩)
  | 0x0905 => fixedBody p 4 [(1, 3)] (.cuFinish (fld p 0 1))
  | 0x0906 => fixedBody p 24 [(3, 1)]
      (.cuCompare (fld p 0 1) (fld p 1 1) (fld p 2 1) (BitVec.ofNat 64 (fld p 4 8)) (fld p 12 2) (BitVec.ofNat 64 (fld p 14 8)) (fld p 22 2))
  | 0x0907 => fixedBody p 4 [(2, 2)] (.cuStore (fld p 0 1) (fld p 1 1))
  | 0x0A01 => parseSet 10 p .memSet
  | 0x0A02 => fixedBody p 4 [(1, 3)] (.memSetpoint (fld p 0 1))
  | 0x0A81 => parseGet 10 p .memGet
  | 0x0A82 => parseStats p .memStats
  | 0x0B01 => fixedBody p 14 [(2, 2)] (.diagDpPattern (fld p 0 1) (fld p 1 1) (slice p 4 10))
  | 0x0B02 => fixedBody p 4 [(3, 1)] (.diagEthPrbs (fld p 0 1) (fld p 1 1) (fld p 2 1))
  | 0x0B03 => if p.length == 8 && fld p 3 1 / 2 != 0 then .error 6
      else fixedBody p 8 [(5, 3)] (.selftestRun (fld p 0 4) (fld p 4 1))
  | 0x0B81 => fixedBody p 0 [] .selftestResult
  | 0x0B82 => fixedBody p 0 [] .diagThermal
  | 0x0C01 => fixedBody p 0 [] .lcProvision
  | 0x0C02 => fixedBody p 48 [] (.installSet (p.take 16) (slice p 16 32))
  | 0x0C03 => fixedBody p 0 [] .lcField
  | 0x0C04 => if p.length < 4 || 256 < fld p 0 2 then .error 0xFFFF
      else fixedBody p (4 + fld p 0 2) [(2, 2)] (.lcUnlock (slice p 4 (fld p 0 2)))
  | 0x0C05 => fixedBody p 0 [] .lcDecommission
  | 0x0C06 => if p.length < 8 || 4008 < p.length then .error 0xFFFF
      else match reservedFault p [(1, 3)] with
        | some w => .error w
        | none => .ok (.fwStage (fld p 0 1) (fld p 4 4) (p.drop 8))
  | 0x0C07 => fixedBody p 4 [(1, 3)] (.fwActivate (fld p 0 1))
  | 0x0C81 => fixedBody p 32 [] (.attest (p.take 32))
  | 0x0C82 => fixedBody p 0 [] .certRead
  | 0x0D01 => parseSet 13 p .netSet
  | 0x0D02 => fixedBody p 12 [(2, 2)] (.netMirrorRing (ringFld p 0).1 (ringFld p 0).2.1 (ringFld p 0).2.2)
  | 0x0D81 => parseGet 13 p .netGet
  | 0x0D82 => parseStats p .netStats
  | _ => .error 0xFFFF

/-- The outcome of reading a packet's bytes: its header and either the command or the word at fault of REJ_FORMAT. -/
structure Parsed where
  hdr : RawHdr
  cmd : Except Nat Cmd

/-- A packet as it stands on SPI or UDP, where INDIRECT may not be set (R355). -/
def parsePacket (b : Bytes) : Parsed :=
  let r := rawHdr b
  ⟨r, if headerOk b 2 then parseCmd r.opcode (b.drop 24) else .error 0xFFFF⟩

/-- The logical packet of a submission entry (R365): the header with its parameters, inline or from their block. -/
def sqPacket (f : SqFetch) : Bytes :=
  let r := rawHdr f.entry
  let n := 4 * r.length - 24
  f.entry.take 24 ++ (if bit r.flags 2 then f.params.take n else slice f.entry 44 n)

/-- A submission entry's command (R365): LENGTH is limited to 11 inline, PARAM_ADDR is aligned, and zero when not used. -/
def parseSq (f : SqFetch) : Parsed :=
  let r := rawHdr f.entry
  let b := sqPacket f
  let pa := fld f.entry 24 8
  let ok := headerOk b 6
    && (if bit r.flags 2 then pa % 4 == 0 else r.length ≤ 11 && pa == 0)
    && fld f.entry 32 8 % 64 == 0
  ⟨r, if ok then parseCmd r.opcode (b.drop 24) else .error 0xFFFF⟩

/-- FRAME_CRC of a CMD_WRITE or REPLY_READ: CRC-32C with fold word 0 over LEN and the packet (R367). -/
def frameCrc (lenAndPacket : Bytes) : Nat := (crc32c 0 lenAndPacket).toNat

/-- The packet of a CMD_WRITE frame, where its length and FRAME_CRC are right (R367). -/
def spiPacket (frame : Bytes) : Option Bytes :=
  let n := fld frame 0 2
  if frame.length == n + 6 && fld frame (2 + n) 4 == frameCrc (frame.take (2 + n)) then some (slice frame 2 n) else none

/-- The client slot of a UDP command datagram (R371). -/
def udpClient (d : Bytes) : Nat := fld d 0 2

/-- The packet within a UDP command datagram (R371). -/
def udpPacket (d : Bytes) : Bytes := (d.take (d.length - 16)).drop 4

/-- Whether a datagram's MAC is right under the installation key (R371). -/
def udpMacOk (key d : Bytes) : Bool :=
  20 ≤ d.length && d.drop (d.length - 16) == padTo 16 (Config.hmacSha256 key (d.take (d.length - 16)))

end Machine
end Sys2Proof
end

