-- ==== Sys2Proof/Machine/Flume.lean ====
section
/-! DEFINITION. Frames of the Flume as they stand on its lanes (R228 to R230): granules and their protection code, the frame's CRC-32C, the
header, and the bodies whose layout the spec gives (HELLO, R234; ADMIT, R247; SIG, R254). -/
namespace Sys2Proof

/-- The bytes of a body whose layout the spec does not give (log entry 131). -/
opaque Config.flumeBytes : FlumeBody → Bytes

namespace Machine

/-! ## Granules (R228, R306) -/

/-- A granule whose check bits are those of its data. -/
def granuleOf (b : Bytes) : FlumeGranule :=
  let d := BitVec.ofNat 128 (ofLe b)
  ⟨d, Config.codeCheck d⟩

/-- The data with one nibble changed. -/
def flipNibble (d : BitVec 128) (k v : Nat) : BitVec 128 := d ^^^ BitVec.ofNat 128 (v * 2 ^ (4 * k))

/-- The data of a granule, and whether it was corrected: without an error, with an error confined to one data nibble, or to one check nibble
(R306); none where it is uncorrectable. -/
def granuleData (g : FlumeGranule) : Option (BitVec 128 × Bool) :=
  if Config.codeCheck g.data = g.check then some (g.data, false)
  else
    match ((List.range 32).flatMap (fun k => (countFrom 1 15).map (fun v => flipNibble g.data k v))).find?
        (fun d => Config.codeCheck d == g.check) with
    | some d => some (d, true)
    | none =>
      let e := (Config.codeCheck g.data ^^^ g.check).toNat
      if (List.range 4).any (fun k => e == bits e (4 * k + 3) (4 * k) * 2 ^ (4 * k)) then some (g.data, true) else none

/-- Bytes in granules of 16. -/
def granules : Bytes → Nat → FlumeFrame
  | _, 0 => []
  | b, n + 1 => granuleOf (b.take 16) :: granules (b.drop 16) n

/-- The data bytes of a frame with how many granules were corrected; no bytes where one is uncorrectable. -/
def frameData : FlumeFrame → Option Bytes × Nat
  | [] => (some [], 0)
  | g :: r =>
    let q := frameData r
    match granuleData g with
    | some (d, fixed) => (q.1.map (fun b => le 16 d.toNat ++ b), q.2 + b2n fixed)
    | none => (none, q.2)

/-! ## Frames (R228, R229) -/

/-- The header's 16 bytes (R229). -/
def headerBytes (h : FlumeHdr) : Bytes :=
  le 1 h.ty ++ le 1 (b2n h.seatB + 2 * b2n h.resend) ++ le 2 h.len ++ le 4 h.fseq ++ le 8 h.tick

/-- The header of a frame's data. -/
def headerOf (b : Bytes) : FlumeHdr :=
  ⟨fld b 0 1, bit (fld b 1 1) 0, bit (fld b 1 1) 1, fld b 2 2, fld b 4 4, fld b 8 8⟩

/-- How many granules a body takes, header and CRC included (R229): filled up with zero bytes (log entry 131). -/
def frameLen (body : Bytes) : Nat := (16 + body.length + 4 + 15) / 16

/-- A frame's data bytes: header, body, and in the last 4 bytes of the last granule the CRC-32C with fold word 0 of all before them. -/
def frameBytes (h : FlumeHdr) (body : Bytes) : Bytes :=
  let n := frameLen body
  let d := padTo (16 * n - 4) (headerBytes { h with len := n } ++ body)
  d ++ le 4 (crc32c 0 d).toNat

/-- A frame as it leaves on the lanes. -/
def frameOut (h : FlumeHdr) (body : Bytes) : FlumeFrame := granules (frameBytes h body) (frameLen body)

/-- The header and the body of received data: none where the CRC does not hold, or LEN is not the frame's length or outside 2–514. -/
def readFrame (b : Bytes) : Option (FlumeHdr × Bytes) :=
  let n := b.length - 4
  let h := headerOf b
  if 16 * h.len = b.length && 2 ≤ h.len && h.len ≤ 514 && ofLe (b.drop n) == (crc32c 0 (b.take n)).toNat then some (h, (b.take n).drop 16) else none

/-! ## Types and bodies (R230) -/

/-- The type code of a body. -/
def flumeType : FlumeBody → Nat
  | .hello _ => 0x01
  | .heartbeat _ => 0x02
  | .timeXfer _ _ => 0x03
  | .leadState _ => 0x04
  | .admitList _ => 0x05
  | .borrowReq _ => 0x06
  | .borrowData _ _ _ _ => 0x07
  | .sig _ => 0x08
  | .cmd _ => 0x09
  | .cmdAck _ => 0x0A
  | .event _ => 0x0B
  | .state _ => 0x0C
  | .snap _ => 0x0D
  | .snapAck _ _ => 0x0E

/-- Bytes 0–103 of a HELLO, which its signature covers (R234). -/
def helloBody (m : Hello) : Bytes :=
  padTo 16 m.uniqueId ++ padTo 16 m.installId ++ padTo 32 m.fwDigest ++ padTo 16 m.nonce ++ padTo 16 m.peerNonce ++ le 1 m.seat ++ le 1 m.mode
  ++ le 1 m.goodLanes ++ zeros 5

/-- How long a DER object is, header included: the certificate's end in a HELLO, where nothing else gives it (log entry 131). -/
def derLength (b : Bytes) : Nat :=
  if fld b 0 1 != 0x30 then 0
  else if fld b 1 1 < 0x80 then 2 + fld b 1 1
  else if fld b 1 1 = 0x81 then 3 + fld b 2 1
  else if fld b 1 1 = 0x82 then 4 + ofBe (slice b 2 2)
  else 0

/-- A HELLO read from its body (R234). -/
def readHello (joinable : Bool) (t : Time64) (b : Bytes) : Hello :=
  let c := b.drop 168
  { uniqueId := slice b 0 16, installId := slice b 16 16, fwDigest := slice b 32 32, nonce := slice b 64 16, peerNonce := slice b 80 16,
    seat := fld b 96 1, mode := fld b 97 1, goodLanes := fld b 98 1, joinable := joinable, signature := slice b 104 64,
    cert := c.take (derLength c), at' := t }

/-- An entry of an ADMIT (R247). -/
def entryBytes (e : AdmitEntry) : Bytes :=
  le 1 e.source ++ le 1 (b2n e.clean + 2 * b2n e.entry) ++ le 2 e.timeQual ++ le 4 e.rtpTs ++ le 4 e.frameSeq ++ le 4 e.digest.toNat
  ++ le 8 e.captureT ++ le 8 e.arrivalT ++ le 4 e.uGrade ++ zeros 4

/-- An entry read. -/
def readEntry (b : Bytes) : AdmitEntry :=
  { source := fld b 0 1, clean := bit (fld b 1 1) 0, entry := bit (fld b 1 1) 1, timeQual := fld b 2 2, rtpTs := fld b 4 4,
    frameSeq := fld b 8 4, digest := BitVec.ofNat 32 (fld b 12 4), captureT := fld b 16 8, arrivalT := fld b 24 8, uGrade := fld b 32 4 }

/-- The body of an ADMIT (R247). -/
def admitBytes (a : Admit) : Bytes :=
  le 2 a.list.length ++ le 1 (b2n a.withdrawn + 2 * b2n a.fencesValid) ++ zeros 1 ++ le 4 a.cmdDigest.toNat ++ le 8 a.eventSeq
  ++ le 32 (maskOf a.fenceMask) ++ a.list.flatMap entryBytes

/-- An ADMIT read from its body and the tick of its header. -/
def readAdmit (tick : Nat) (t : Time64) (b : Bytes) : Admit :=
  { tick := tick, withdrawn := bit (fld b 2 1) 0, fencesValid := bit (fld b 2 1) 1, cmdDigest := BitVec.ofNat 32 (fld b 4 4),
    eventSeq := fld b 8 8, fenceMask := maskBits 256 (fld b 16 32),
    list := (List.range (min 128 (fld b 0 2))).map (fun i => readEntry (slice b (48 + 40 * i) 40)), at' := t }

/-- The body of a SIG (R254). -/
def sigBytes (f : SigFrame) : Bytes :=
  le 1 f.head.val ++ le 1 f.trows ++ le 2 (b2n f.dark + 2 * b2n f.xchgLate + 4 * b2n f.withdrawn + 8 * b2n f.selfFault) ++ le 4 f.frameCnt
  ++ le 4 f.frameSig.toNat ++ zeros 4 ++ f.rowSigs.flatMap (fun v => le 4 v.toNat) ++ f.rowFlags.flatMap (fun v => le 1 v.toNat)

/-- A SIG read from its body; HEAD has five bits' worth of heads. -/
def readSig (t : Time64) (b : Bytes) : SigFrame :=
  let n := fld b 1 1
  { head := ⟨fld b 0 1 % 32, Nat.mod_lt _ (by decide)⟩, trows := n, dark := bit (fld b 2 2) 0, xchgLate := bit (fld b 2 2) 1,
    withdrawn := bit (fld b 2 2) 2, selfFault := bit (fld b 2 2) 3, frameCnt := fld b 4 4, frameSig := BitVec.ofNat 32 (fld b 8 4),
    rowSigs := (List.range n).map (fun i => BitVec.ofNat 32 (fld b (16 + 4 * i) 4)),
    rowFlags := (List.range n).map (fun i => BitVec.ofNat 8 (fld b (16 + 4 * n + i) 1)), at' := t }

/-- The bytes of a body. -/
def bodyBytes : FlumeBody → Bytes
  | .hello m => helloBody m ++ padTo 64 m.signature ++ m.cert
  | .admitList a => admitBytes a
  | .sig f => sigBytes f
  | b => Config.flumeBytes b

end Machine
end Sys2Proof
end

