-- ==== Sys2Proof/Machine/TimeBase.lean ====
section
/-! DEFINITION. The tick grid (R42, R43), decision points (R45) and the exact instants of head frames and pixels (R46,
R47, R193). Instants are exact: a tick start in thirds of a nanosecond, a pixel's departure as a fraction. -/
namespace Sys2Proof.Machine

/-- A row of R43: TIME_TICK_NS, the remainder in thirds, the exact rate as a fraction, the multiples allowed. -/
structure RateRow where
  ns     : Nat
  thirds : Nat
  num    : Nat
  den    : Nat
  mults  : List Nat
  deriving DecidableEq, Repr

/-- The rows of R43 in their order, which TIME_TICK_RATE counts from 0 (R383). -/
def rateRow : Nat → RateRow
  | 0 => ⟨41666666, 2, 24, 1, [1, 2]⟩
  | 1 => ⟨40000000, 0, 25, 1, [1, 2]⟩
  | 2 => ⟨33333333, 1, 30, 1, [1, 2]⟩
  | 3 => ⟨20833333, 1, 48, 1, [0, 1, 2]⟩
  | 4 => ⟨20000000, 0, 50, 1, [0, 1, 2]⟩
  | 5 => ⟨16683333, 1, 60000, 1001, [0, 1, 2]⟩
  | 6 => ⟨16666666, 2, 60, 1, [0, 1, 2]⟩
  | 7 => ⟨10000000, 0, 100, 1, [0, 1]⟩
  | 8 => ⟨8341666, 2, 120000, 1001, [0, 1]⟩
  | _ => ⟨8333333, 1, 120, 1, [0, 1]⟩

/-- TIME_TICK_DEN of a row: 3, or 1 where the period is whole (R43). -/
def RateRow.tickDen (r : RateRow) : Nat := if r.thirds = 0 then 1 else 3

/-- The tick grid in force: its epoch, its rate row and the decision lead. -/
structure Grid where
  epoch  : Nat
  rate   : Nat
  leadUs : Nat
  deriving DecidableEq, Repr

/-- The grid a configuration sets (R53). -/
def cfgGrid (c : Cfg) : Grid := ⟨pv c pTimeTickEpoch 0, pv c pTimeTickRate 0, pv c pTimeDecideLead 0⟩

/-- The tick period in thirds of a nanosecond. -/
def Grid.p3 (g : Grid) : Nat := 3 * (rateRow g.rate).ns + (rateRow g.rate).thirds

/-- T(n) in thirds of a nanosecond (R42). -/
def Grid.t3 (g : Grid) (n : Nat) : Nat := 3 * g.epoch + n * g.p3

/-- T(n) as TIME64, truncated to the nanosecond (R42). -/
def Grid.tickT (g : Grid) (n : Nat) : Time64 := g.t3 n / 3

/-- D(n) as TIME64 (R45). -/
def Grid.decideT (g : Grid) (n : Nat) : Time64 := (g.t3 n - 3000 * g.leadUs) / 3

/-- The first tick whose decision point lies at or after an instant (R45, R361). -/
def Grid.firstDecision (g : Grid) (t : Time64) : Nat :=
  ceilDiv (3 * t + 3000 * g.leadUs - 3 * g.epoch) g.p3

/-- The tick under way at an instant (R42). -/
def Grid.tickAt (g : Grid) (t : Time64) : Nat := (3 * t + 2 - 3 * g.epoch) / g.p3

/-- The last decision point at or before an instant, as its tick number. -/
def Grid.decidedAt (g : Grid) (t : Time64) : Nat := (3 * t + 2 + 3000 * g.leadUs - 3 * g.epoch) / g.p3

/-- An exact instant or duration in nanoseconds: a fraction. -/
structure Frac where
  num : Nat
  den : Nat
  deriving DecidableEq, Repr

/-- The whole nanoseconds of a fraction. -/
def Frac.floor (f : Frac) : Nat := f.num / f.den

/-- The fraction rounded up. -/
def Frac.ceil (f : Frac) : Nat := ceilDiv f.num f.den

/-- HTOTAL (R192). -/
def HeadTiming.htotal (t : HeadTiming) : Nat := t.hactive + t.hfp + t.hsync + t.hbp

/-- VTOTAL (R192). -/
def HeadTiming.vtotal (t : HeadTiming) : Nat := t.vactive + t.vfp + t.vsync + t.vbp

/-- Twice the head multiple: ×½ 1, ×1 2, ×2 4. -/
def mult2 (m : Nat) : Nat := if m = 0 then 1 else if m = 1 then 2 else 4

/-- The head timing a configuration sets for a head (R192). -/
def cfgTiming (c : Cfg) (h : Nat) : HeadTiming :=
  { port := headPort c h, stream := pv c pHeadStream h, rad := pv c pHeadMstRad h,
    hactive := pv c pHeadHactive h, hfp := pv c pHeadHfp h, hsync := pv c pHeadHsync h, hbp := pv c pHeadHbp h,
    vactive := pv c pHeadVactive h, vfp := pv c pHeadVfp h, vsync := pv c pHeadVsync h, vbp := pv c pHeadVbp h,
    pol := pv c pHeadSyncPol h, mult := pv c pHeadMult h, parity := pv c pHeadParity h,
    phase := pv c pHeadPhase h, depth := pv c pHeadDepth h }

/-- PCLK[h] in hertz as a fraction (R193). -/
def pclk (g : Grid) (t : HeadTiming) : Frac :=
  ⟨t.htotal * t.vtotal * (rateRow g.rate).num * mult2 t.mult, 2 * (rateRow g.rate).den⟩

/-- What a stream needs of a link, as a fraction of it (R206): PCLK × bpp × 1.006 over DP_LANES × DP_LINK_RATE × 0.8, the rate in Mbit/s. -/
def linkShare (k : Frac) (depth lanes rate : Nat) : Frac :=
  ⟨k.num * (if depth = 8 then 24 else 30) * 1006, k.den * 1000 * (lanes * rate * 800000)⟩

/-- The time slots of an MST stream (R206). -/
def slotCount (k : Frac) (depth lanes rate : Nat) : Nat :=
  let f := linkShare k depth lanes rate
  ceilDiv (f.num * 64) f.den

/-- The head rate in hertz as a fraction (R43). -/
def headRate (g : Grid) (m : Nat) : Frac := ⟨(rateRow g.rate).num * mult2 m, 2 * (rateRow g.rate).den⟩

/-- One pixel-clock period plus 2 ns, rounded up (R41, R65). -/
def alignTerm (g : Grid) (t : HeadTiming) : Nat :=
  let p := pclk g t
  ceilDiv (1000000000 * p.den) p.num + 2

/-- One head frame period in nanoseconds as a fraction (R46). -/
def framePeriod (g : Grid) (t : HeadTiming) : Frac := ⟨2 * g.p3, 3 * mult2 t.mult⟩

/-- The scheduled departure of pixel `k` of a head frame governed by tick `n`, counted in pixel clocks from the frame
start (R46, R47). `second` is the second frame of a ×2 head's tick. -/
def departure (g : Grid) (t : HeadTiming) (n : Nat) (second : Bool) (k : Nat) : Frac :=
  let m2 := mult2 t.mult
  let px := t.htotal * t.vtotal
  ⟨2 * m2 * px * g.t3 n + 6 * m2 * px * t.phase + (if second then m2 * px * g.p3 else 0) + 4 * g.p3 * k, 6 * m2 * px⟩

/-- The nanoseconds that some pixel clocks of a head take, truncated (R193). -/
def clocksNs (g : Grid) (t : HeadTiming) (k : Nat) : Nat := 2 * g.p3 * k / (3 * mult2 t.mult * (t.htotal * t.vtotal))

/-- The pixel-clock offset of an active pixel from the frame start (R47). -/
def pixelOffset (t : HeadTiming) (x y : Nat) : Nat := y * t.htotal + x

/-- HEAD_FRAME_CNT of a head frame (R194). -/
def frameCntOf (t : HeadTiming) (n : Nat) (second : Bool) : Nat :=
  (if t.mult = 0 then n / 2 else if t.mult = 1 then n else 2 * n + b2n second) % 2 ^ 32

/-- Whether a head starts a frame at a tick (R46). -/
def startsAt (t : HeadTiming) (n : Nat) : Bool := t.mult != 0 || n % 2 == t.parity

/-- The timing rejections of R43, R192 and R193: whether a head's timing may stand under a grid. -/
def timingOk (g : Grid) (t : HeadTiming) : Bool :=
  let p := pclk g t
  let r := headRate g t.mult
  32 ≤ t.hfp + t.hsync + t.hbp && 3 ≤ t.vfp + t.vsync + t.vbp
  && 25000000 * p.den ≤ p.num && p.num ≤ 600000000 * p.den
  && 24 * r.den ≤ r.num && r.num ≤ 120 * r.den
  && (rateRow g.rate).mults.contains t.mult
  && (t.phase + 1) * (framePeriod g t).den ≤ (framePeriod g t).num

/-- The head's tile columns and rows (R2). -/
def tileCols (w : Nat) : Nat := ceilDiv w 64

end Sys2Proof.Machine
end

