-- ==== Sys2Proof/Machine/Ops.lean ====
section
/-! DEFINITION. The named operations that the meanings share: a meaning's frame, accessors, free values, events (R373,
R374), interrupt causes (R376), replies and completions (R356, R366). -/
namespace Sys2Proof.Machine

/-- An ordinary meaning: it cannot touch the queue, the SEAT strap (R226) or the bytes of DRAM (R303). -/
def act (f : State → State) (s : State) : Host.Outcome State Fault Refusal :=
  .next { f s with pending := s.pending, seatB := s.seatB, dram := s.dram }

/-- A meaning that writes DRAM: it cannot touch the queue or the SEAT strap. -/
def actMem (f : State → State) (s : State) : Host.Outcome State Fault Refusal :=
  .next { f s with pending := s.pending, seatB := s.seatB }

/-- The meaning of a reset release, which samples the SEAT strap (R226). -/
def actSeat (seatB : Bool) (f : State → State) (s : State) : Host.Outcome State Fault Refusal :=
  .next { f s with pending := s.pending, seatB := seatB, dram := s.dram }

/-- A head. -/
def State.head (s : State) (i : Nat) : Head := tget headInit s.heads i

/-- The state with a head set. -/
def State.setHead (s : State) (i : Nat) (v : Head) : State := { s with heads := tset i v s.heads }

/-- The state with a head passed through a function. -/
def State.modHead (s : State) (i : Nat) (g : Head → Head) : State := s.setHead i (g (s.head i))

/-- A source. -/
def State.source (s : State) (i : Nat) : SourceRun := tget sourceInit s.sources i

/-- The state with a source set. -/
def State.setSource (s : State) (i : Nat) (v : SourceRun) : State := { s with sources := tset i v s.sources }

/-- The state with a source passed through a function. -/
def State.modSource (s : State) (i : Nat) (g : SourceRun → SourceRun) : State := s.setSource i (g (s.source i))

/-- A stream. -/
def State.stream (s : State) (i : Nat) : Stream := tget streamInit s.streams i

/-- The state with a stream set. -/
def State.setStream (s : State) (i : Nat) (v : Stream) : State := { s with streams := tset i v s.streams }

/-- The state with a stream passed through a function. -/
def State.modStream (s : State) (i : Nat) (g : Stream → Stream) : State := s.setStream i (g (s.stream i))

/-- A decode lane. -/
def State.lane (s : State) (i : Nat) : Lane := tget laneInit s.lanes i

/-- The state with a decode lane set. -/
def State.setLane (s : State) (i : Nat) (v : Lane) : State := { s with lanes := tset i v s.lanes }

/-- The state with a decode lane passed through a function. -/
def State.modLane (s : State) (i : Nat) (g : Lane → Lane) : State := s.setLane i (g (s.lane i))

/-- A source's freeze detector. -/
def State.frz (s : State) (i : Nat) : Freeze := tget freezeInit s.freeze i

/-- The state with a source's freeze detector set. -/
def State.setFrz (s : State) (i : Nat) (v : Freeze) : State := { s with freeze := tset i v s.freeze }

/-- The state with a source's freeze detector passed through a function. -/
def State.modFrz (s : State) (i : Nat) (g : Freeze → Freeze) : State := s.setFrz i (g (s.frz i))

/-- A Ethernet port. -/
def State.ethPort (s : State) (i : Nat) : EthPort := tget ethInit s.eth i

/-- The state with a Ethernet port set. -/
def State.setEthPort (s : State) (i : Nat) (v : EthPort) : State := { s with eth := tset i v s.eth }

/-- The state with a Ethernet port passed through a function. -/
def State.modEthPort (s : State) (i : Nat) (g : EthPort → EthPort) : State := s.setEthPort i (g (s.ethPort i))

/-- A pane's run-time state. -/
def State.pane (s : State) (i : Nat) : PaneRun := tget paneInit s.panes i

/-- The state with a pane's run-time state set. -/
def State.setPane (s : State) (i : Nat) (v : PaneRun) : State := { s with panes := tset i v s.panes }

/-- The state with a pane's run-time state passed through a function. -/
def State.modPane (s : State) (i : Nat) (g : PaneRun → PaneRun) : State := s.setPane i (g (s.pane i))

/-- A flip group. -/
def State.group (s : State) (i : Nat) : Group := tget groupInit s.groups i

/-- The state with a flip group set. -/
def State.setGroup (s : State) (i : Nat) (v : Group) : State := { s with groups := tset i v s.groups }

/-- The state with a flip group passed through a function. -/
def State.modGroup (s : State) (i : Nat) (g : Group → Group) : State := s.setGroup i (g (s.group i))

/-- A host buffer. -/
def State.buf (s : State) (i : Nat) : BufRun := tget bufInit s.bufs i

/-- The state with a host buffer set. -/
def State.setBuf (s : State) (i : Nat) (v : BufRun) : State := { s with bufs := tset i v s.bufs }

/-- The state with a host buffer passed through a function. -/
def State.modBuf (s : State) (i : Nat) (g : BufRun → BufRun) : State := s.setBuf i (g (s.buf i))

/-- A DisplayPort port. -/
def State.dpPort (s : State) (i : Nat) : DpPort := tget dpInit s.dp i

/-- The state with a DisplayPort port set. -/
def State.setDpPort (s : State) (i : Nat) (v : DpPort) : State := { s with dp := tset i v s.dp }

/-- The state with a DisplayPort port passed through a function. -/
def State.modDpPort (s : State) (i : Nat) (g : DpPort → DpPort) : State := s.setDpPort i (g (s.dpPort i))

/-- A check unit. -/
def State.cuUnit (s : State) (i : Nat) : CheckUnit := tget cuInit s.cu i

/-- The state with a check unit set. -/
def State.setCuUnit (s : State) (i : Nat) (v : CheckUnit) : State := { s with cu := tset i v s.cu }

/-- The state with a check unit passed through a function. -/
def State.modCuUnit (s : State) (i : Nat) (g : CheckUnit → CheckUnit) : State := s.setCuUnit i (g (s.cuUnit i))

/-- A reference slot. -/
def State.refSlot (s : State) (i : Nat) : RefSlot := tget refInit s.refs i

/-- The state with a reference slot set. -/
def State.setRefSlot (s : State) (i : Nat) (v : RefSlot) : State := { s with refs := tset i v s.refs }

/-- The state with a reference slot passed through a function. -/
def State.modRefSlot (s : State) (i : Nat) (g : RefSlot → RefSlot) : State := s.setRefSlot i (g (s.refSlot i))

/-- A event input. -/
def State.eviIn (s : State) (i : Nat) : EviInput := tget eviInit s.evi i

/-- The state with a event input set. -/
def State.setEviIn (s : State) (i : Nat) (v : EviInput) : State := { s with evi := tset i v s.evi }

/-- The state with a event input passed through a function. -/
def State.modEviIn (s : State) (i : Nat) (g : EviInput → EviInput) : State := s.setEviIn i (g (s.eviIn i))

/-- A encode session. -/
def State.session (s : State) (i : Nat) : Session := tget sessionInit s.enc i

/-- The state with a encode session set. -/
def State.setSession (s : State) (i : Nat) (v : Session) : State := { s with enc := tset i v s.enc }

/-- The state with a encode session passed through a function. -/
def State.modSession (s : State) (i : Nat) (g : Session → Session) : State := s.setSession i (g (s.session i))

/-- The state at a later instant of the time counter. -/
def atTime (t : Time64) (s : State) : State := { s with time := { s.time with now := t } }

/-- The next free value, below a bound (log entry 3). -/
def freeBelow (n : Nat) (s : State) : Nat × State :=
  (Config.freeValue s.free % n, { s with free := s.free + 1 })

/-- Free bytes, such as a nonce or a challenge (R234, R427). -/
def freeBytes : Nat → State → Bytes × State
  | 0, s => ([], s)
  | n + 1, s =>
    let (v, s1) := freeBelow 256 s
    let (r, s2) := freeBytes n s1
    (BitVec.ofNat 8 v :: r, s2)

/-- What leaves the device is recorded. -/
def emit (o : Out) (s : State) : State := { s with out := s.out ++ [o] }

/-! ## Frames on the Flume (R228 to R231) -/

/-- The number that this seat's next frame of a type carries (R229). -/
def State.nextFseq (s : State) (ty : Nat) : Nat := tget 0 s.twin.fseqs ty

/-- A frame of a tick goes out on the lanes in use with its header, and is counted (R229, R265): a first copy under the next number of its
type, a resent one under the number that it had, with RESEND (R231). -/
def sendFrame (tick : Nat) (again : Option Nat) (b : FlumeBody) (s : State) : State :=
  let q := again.getD (s.nextFseq (flumeType b))
  let h : FlumeHdr := ⟨flumeType b, s.seatB, again.isSome, frameLen (bodyBytes b), q, tick⟩
  let s1 := if again.isSome then s else { s with twin := { s.twin with fseqs := tset (flumeType b) ((q + 1) % 2 ^ 32) s.twin.fseqs } }
  if s1.twin.linkOn && s1.twin.lanes != [] then
    emit (.flume h b (frameOut h (bodyBytes b))) { s1 with twin := { s1.twin with cnt := { s1.twin.cnt with framesTx := (s1.twin.cnt.framesTx + 1) % 2 ^ 64 } } }
  else s1

/-- A frame that belongs to the present tick. -/
def sendFlume (b : FlumeBody) (s : State) : State := sendFrame s.time.tick none b s

/-! ## Codes -/

/-- The opcode of a command (R390). -/
def opcodeOf : Cmd → Nat
  | .sysSet _ => 0x0101
  | .sysProfile _ _ => 0x0102
  | .sysShutdown _ => 0x0103
  | .sysRestart => 0x0104
  | .sysGet _ => 0x0181
  | .sysInfo => 0x0182
  | .sysEventRead _ _ => 0x0183
  | .timeSet _ => 0x0201
  | .timeGet _ => 0x0281
  | .timeStatus => 0x0282
  | .srcSet _ => 0x0301
  | .srcGet _ => 0x0381
  | .srcStats _ _ => 0x0382
  | .srcFreezeStatus _ _ => 0x0383
  | .srcLedgerRead _ _ _ _ => 0x0384
  | .paneCreate _ _ _ _ => 0x0401
  | .paneDelete _ => 0x0402
  | .paneSet _ => 0x0403
  | .layerDeclare _ _ _ _ _ => 0x0404
  | .bufRegister _ _ _ _ _ _ _ => 0x0405
  | .bufUnregister _ => 0x0406
  | .fenceConfig _ _ _ => 0x0407
  | .flip _ _ => 0x0408
  | .paneGet _ => 0x0481
  | .bufState _ _ => 0x0482
  | .groupStatus _ => 0x0483
  | .headSet _ => 0x0501
  | .headDark _ _ => 0x0502
  | .colourStage _ _ _ => 0x0503
  | .colourCommit _ => 0x0504
  | .scalerCoefLoad _ _ => 0x0505
  | .headGet _ => 0x0581
  | .headStats _ _ => 0x0582
  | .dpSinkInfo _ => 0x0583
  | .codecSet _ => 0x0601
  | .encIdr _ => 0x0602
  | .playbackRing _ _ _ _ => 0x0603
  | .decStatsRing _ _ _ => 0x0604
  | .codecGet _ => 0x0681
  | .encStats _ _ => 0x0682
  | .decCounters _ _ => 0x0683
  | .twinSet _ => 0x0701
  | .twinJoin _ => 0x0702
  | .twinLeave => 0x0703
  | .twinTakeover => 0x0704
  | .twinWithdraw => 0x0705
  | .twinReinstate => 0x0706
  | .twinAdopt _ => 0x0707
  | .twinGet _ => 0x0781
  | .twinStats _ _ => 0x0782
  | .touchSet _ => 0x0801
  | .legendRegister _ _ _ => 0x0802
  | .legendDelete _ => 0x0803
  | .touchGet _ => 0x0881
  | .touchRead _ => 0x0882
  | .cuStart _ _ _ _ => 0x0901
  | .cuFeed _ _ _ _ _ => 0x0902
  | .cuCtxRead _ => 0x0903
  | .cuCtxWrite _ _ => 0x0904
  | .cuFinish _ => 0x0905
  | .cuCompare _ _ _ _ _ _ _ => 0x0906
  | .cuStore _ _ => 0x0907
  | .memSet _ => 0x0A01
  | .memSetpoint _ => 0x0A02
  | .memGet _ => 0x0A81
  | .memStats _ _ => 0x0A82
  | .diagDpPattern _ _ _ => 0x0B01
  | .diagEthPrbs _ _ _ => 0x0B02
  | .selftestRun _ _ => 0x0B03
  | .selftestResult => 0x0B81
  | .diagThermal => 0x0B82
  | .lcProvision => 0x0C01
  | .installSet _ _ => 0x0C02
  | .lcField => 0x0C03
  | .lcUnlock _ => 0x0C04
  | .lcDecommission => 0x0C05
  | .fwStage _ _ _ => 0x0C06
  | .fwActivate _ => 0x0C07
  | .attest _ => 0x0C81
  | .certRead => 0x0C82
  | .netSet _ => 0x0D01
  | .netMirrorRing _ _ _ => 0x0D02
  | .netGet _ => 0x0D81
  | .netStats _ _ => 0x0D82

/-- The family of a command: bits [15:8] of its opcode (R355). -/
def familyOf (c : Cmd) : Nat := opcodeOf c / 256

/-- Whether an opcode has QUERY set (R355, R362). -/
def isQuery (c : Cmd) : Bool := bit (opcodeOf c) 7

/-- Whether a command is of the CHECK family (R327). -/
def isCheck (c : Cmd) : Bool := familyOf c == 9

/-- Whether an opcode is marked S (R390). -/
def serviceOnly : Cmd → Bool
  | .diagDpPattern _ _ _ => true
  | .diagEthPrbs _ _ _ => true
  | .selftestRun _ _ => true
  | _ => false

/-- The code of an event (R393). -/
def Ev.code : Ev → Nat
  | .cmdAuthFail => 0x0101
  | .cmdRegApplied => 0x0102
  | .cmdRegRefused => 0x0103
  | .cmdqFault => 0x0104
  | .evqGap => 0x0105
  | .thermalLevel => 0x0106
  | .thermalSensorFault => 0x0107
  | .profileChange => 0x0108
  | .shutdownDone => 0x0109
  | .startDone => 0x010A
  | .timeState => 0x0201
  | .timeSourceChange => 0x0202
  | .timeSlewStart => 0x0203
  | .timeSlewEnd => 0x0204
  | .timeDomainDisagree => 0x0205
  | .captureGrade => 0x0206
  | .captureFuture => 0x0207
  | .ppsInEdge => 0x0208
  | .streamState => 0x0301
  | .streamSession => 0x0302
  | .frameRecordFault => 0x0303
  | .ledgerFault => 0x0304
  | .freezeSet => 0x0305
  | .freezeClear => 0x0306
  | .freezeBaseFault => 0x0307
  | .tokenFault => 0x0308
  | .tokenJump => 0x0309
  | .paneVerdict => 0x0401
  | .paneDeleted => 0x0402
  | .paneUnguarded => 0x0403
  | .paneCropClip => 0x0404
  | .bufRetired => 0x0405
  | .bufModifiedHeld => 0x0406
  | .flipStall => 0x0407
  | .headRetimed => 0x0501
  | .headReady => 0x0502
  | .headUnderflow => 0x0503
  | .weirLow => 0x0504
  | .linkTrainFail => 0x0505
  | .dpLink => 0x0506
  | .dpTopology => 0x0507
  | .decodeUnsupported => 0x0601
  | .decodeOverrate => 0x0602
  | .decodeHashMismatch => 0x0603
  | .decLaneReady => 0x0604
  | .twinMode => 0x0701
  | .twinSeatConflict => 0x0702
  | .twinAuthFail => 0x0703
  | .twinInstallMismatch => 0x0704
  | .twinFwMismatch => 0x0705
  | .twinPartnerReplaced => 0x0706
  | .twinFlumeReady => 0x0707
  | .flumeLanes => 0x0708
  | .twinHbPath => 0x0709
  | .twinPartnerFailed => 0x070A
  | .twinPartnerSeen => 0x070B
  | .twinJoined => 0x070C
  | .twinDarkSkew => 0x070D
  | .twinCmdMismatch => 0x070E
  | .eventReseq => 0x070F
  | .twinInputDiffer => 0x0710
  | .twinOutOfStep => 0x0711
  | .twinXchgLate => 0x0712
  | .twinSigMissing => 0x0713
  | .twinMismatch => 0x0714
  | .twinSelfFault => 0x0715
  | .twinTransient => 0x0716
  | .twinBothFaulty => 0x0717
  | .twinDivergence => 0x0718
  | .twinDivergenceEnd => 0x0719
  | .twinReinstated => 0x071A
  | .twinSnapOld => 0x071B
  | .touchPress => 0x0801
  | .touchRelease => 0x0802
  | .touchStuck => 0x0803
  | .touchStuckEnd => 0x0804
  | .touchRebase => 0x0805
  | .touchFault => 0x0806
  | .touchPresentAtStart => 0x0807
  | .touchDriftUncomp => 0x0808
  | .touchWindow => 0x0809
  | .touchReady => 0x080A
  | .eviChange => 0x080B
  | .eviStuck => 0x080C
  | .cuMismatch => 0x0901
  | .cuFeedFault => 0x0902
  | .memCe => 0x0A01
  | .memCeRate => 0x0A02
  | .memUe => 0x0A03
  | .memAddrFault => 0x0A04
  | .memBasinViolation => 0x0A05
  | .memFatal => 0x0A06
  | .memDerate => 0x0A07
  | .memDerateJump => 0x0A08
  | .memSetpointDone => 0x0A09
  | .memSetpointRetry => 0x0A0A
  | .memSetpointFail => 0x0A0B
  | .selftestDone => 0x0B01
  | .selftestSlice => 0x0B02
  | .diagPatternDone => 0x0B03
  | .lifecycleChange => 0x0C01
  | .flashQueued => 0x0C02
  | .flashWritten => 0x0C03
  | .fwActivated => 0x0C04
  | .netLink => 0x0D01
  | .peer c => c

/-- A status code (R358, R392). -/
def Status.code : Status → Nat
  | .ok => 0
  | .okAdjusted => 1
  | .deferred => 2
  | .rejFormat => 0x100
  | .rejRange => 0x101
  | .rejState => 0x102
  | .rejResource => 0x103
  | .rejBudget => 0x104
  | .rejAuth => 0x105
  | .rejLifecycle => 0x106
  | .fail n => 0x200 + n

/-- A status from its code (a peer's answer, R242). -/
def statusOf (n : Nat) : Status :=
  match n with
  | 0 => .ok
  | 1 => .okAdjusted
  | 2 => .deferred
  | 0x100 => .rejFormat
  | 0x101 => .rejRange
  | 0x102 => .rejState
  | 0x103 => .rejResource
  | 0x104 => .rejBudget
  | 0x105 => .rejAuth
  | 0x106 => .rejLifecycle
  | k => .fail (k - 0x200)

/-- TSTATE (R57). -/
def TState.code : TState → Nat
  | .dual => 0
  | .single => 1
  | .holdover => 2
  | .freeRun => 3

/-- The time state of a code. -/
def tstateOf (n : Nat) : TState := if n = 0 then .dual else if n = 1 then .single else if n = 2 then .holdover else .freeRun

/-- MODE (R265). -/
def TwinMode.code : TwinMode → Nat
  | .solo => 0
  | .hot => 1
  | .coldActive => 2
  | .coldStandby => 3
  | .orphaned => 4

/-- The life-cycle code of LEVELS [4:2] (R370). -/
def LifeState.code : LifeState → Nat
  | .fabricated => 0
  | .provisioned => 1
  | .field => 2
  | .service => 3
  | .decommissioned => 4

/-- The thermal code of R370 and R376. -/
def ThermalLevel.code : ThermalLevel → Nat
  | .normal => 0
  | .warning => 1
  | .throttle => 2

/-- PROFILE (R376, R390). -/
def Profile.code : Profile → Nat
  | .lowLatency => 0
  | .fullDensity => 1
  | .endurance => 2

/-- The profile of a code (R390). -/
def profileOf (n : Nat) : Profile := if n = 0 then .lowLatency else if n = 1 then .fullDensity else .endurance

/-- A verdict's code (R60). -/
def Verdict.code : Verdict → Nat
  | .live => 0
  | .aged => 1
  | .concealed => 2
  | .frozen => 3
  | .stale => 4
  | .unverified => 5
  | .dark => 6

/-- The verdict of a code; code 7 is never written (R60). -/
def verdictOf (n : Nat) : Verdict :=
  match n with
  | 0 => .live
  | 1 => .aged
  | 2 => .concealed
  | 3 => .frozen
  | 4 => .stale
  | 5 => .unverified
  | _ => .dark

/-- The worse of two verdicts: the larger code (R60). -/
def worse (a b : Verdict) : Verdict := if a.code < b.code then b else a

/-- The worst of several verdicts (R60). -/
def worstOf (l : List Verdict) : Verdict := l.foldl worse .live

/-- STATE of a stream (R56, R111). -/
def StreamState.code : StreamState → Nat
  | .idle => 0
  | .priming => 1
  | .flowing => 2
  | .gapped => 3
  | .silent => 4
  | .resync => 5

/-! ## The seat -/

/-- Whether the seat runs in HOT. -/
def State.hot (s : State) : Bool := s.twin.mode == .hot

/-- The worse of two thermal levels (R241). -/
def worseLevel (a b : ThermalLevel) : ThermalLevel := if a.code < b.code then b else a

/-- The level that takes effect at the next decision point: this seat's own, or in HOT the worse of those that the two heartbeats of the
tick carried (R241, R438). -/
def levelDue (s : State) : ThermalLevel := if s.hot then worseLevel s.power.sentLevel s.power.peerLevel else s.power.decided

/-- Whether the device drives its outputs: not held in reset, tripped, without supply, in MEM_FATAL or DECOMMISSIONED (R313, R398,
R405, R413, R425). -/
def State.alive (s : State) : Bool :=
  !s.mem.fatal && s.life.state != .decommissioned && (match s.power.phase with
    | .running => true
    | .stopping _ => true
    | _ => false)

/-- Whether the device takes part in anything at all: it is not held in reset, tripped or without its supply (R398, R405,
R413). -/
def State.powered (s : State) : Bool :=
  match s.power.phase with
  | .held => false
  | .supplyLost => false
  | .tripped => false
  | _ => true

/-! ## Interrupts -/

/-- SYS_IRQ_CAUSE with a bit set (R376). -/
def setIrq (i : Nat) (s : State) : State :=
  { s with cmd := { s.cmd with irqCause := s.cmd.irqCause ||| BitVec.ofNat 32 (2 ^ i) } }

/-- The vector of a ring after an entry was written (R378): at once, but at most once per 10 µs per ring; a message that is still to be sent covers
the entry. The rings are the completion rings of the pairs 0–7 and the event ring, 8. -/
def sendMsix (ring vector : Nat) (s : State) : State :=
  let t := match tfind s.cmd.msixT ring with
    | some u => max s.time.now (u + 10000)
    | none => s.time.now
  if (tfind s.cmd.msixT ring).any (fun u => s.time.now < u) then s
  else emit (.msix vector t) { s with cmd := { s.cmd with msixT := tset ring t s.cmd.msixT } }

/-- Whether IRQ_N is driven low (R378), which it is not in reset (R405). -/
def State.irqLow (s : State) : Bool := s.powered && (s.cmd.irqCause &&& s.cmd.irqMask) != 0

/-! ## Events -/

/-- How many events the Basin history keeps (R374). -/
def historyMax : Nat := 4096

/-- The gap of lost records with one more at its end (R374). -/
def gapWith (q : Nat) : Option (Nat × Nat) → Option (Nat × Nat)
  | none => some (q, q)
  | some (a, _) => some (a, q)

/-- The event store with one more record: the history keeps the last 4,096, and a record that leaves it before it has
been written to the ring is lost (R374). -/
def EventLog.push (e : EventLog) (r : EventRec) : EventLog :=
  let h := e.history ++ [r]
  if h.length ≤ historyMax then { e with history := h, next := r.seq + 1 }
  else
    match h with
    | [] => { e with history := h, next := r.seq + 1 }
    | old :: rest =>
      if old.seq < e.written then { e with history := rest, next := r.seq + 1 }
      else { e with history := rest, next := r.seq + 1, lost := (e.lost + 1) % 2 ^ 32, written := old.seq + 1,
                    gap := gapWith old.seq e.gap }

/-- Whether the seat is in a pair (R237): HOT or COLD. -/
def State.paired (s : State) : Bool := s.twin.mode == .hot || s.twin.mode == .coldActive || s.twin.mode == .coldStandby

/-- The Flume carries frames: its lanes are up, and at least one is in use. -/
def State.linkUsed (s : State) : Bool := s.alive && s.twin.linkOn && s.twin.lanes != []

/-- A frame received (R228, R230): its granules are corrected and counted, and the answer is its header and body where it is whole, of the
type of its row and used in the seat's mode; otherwise it is discarded and counted in FLUME_FRAME_ERR. A frame of an unknown type is of no
row's type. -/
def takeFrame (type : Nat) (ok : Bool) (w : FlumeFrame) (s : State) : Option (FlumeHdr × Bytes) × State :=
  if !s.linkUsed then (none, s)
  else
    let q := frameData w
    let c := { s.twin.cnt with corrected := (s.twin.cnt.corrected + q.2) % 2 ^ 32 }
    match (q.1.bind readFrame).filter (fun f => ok && f.1.ty == type) with
    | some f => (some f, { s with twin := { s.twin with cnt := { c with framesRx := (c.framesRx + 1) % 2 ^ 64 } } })
    | none => (none, { s with twin := { s.twin with cnt := { c with frameErr := (c.frameErr + 1) % 2 ^ 32 } } })

/-- An event numbered and published (R373). -/
def publish (h : HeldEvent) (s : State) : State :=
  { s with events := s.events.push ⟨s.events.next, h.time, h.code, h.seatB, h.tag, h.payload⟩ }

/-- An event of this seat with its time. In HOT it waits for the union of the next decision point and goes to the peer
(R244); otherwise it is numbered at once. -/
def raiseAt (t : Time64) (c : Ev) (tag : Option Nat) (payload : List (Nat × Nat)) (s : State) : State :=
  if s.hot then
    let h : HeldEvent := ⟨t, s.seatB, s.twin.evOrder, c, tag, payload⟩
    sendFlume (.event ⟨t, c.code, payload⟩)
      { s with twin := { s.twin with ownEvents := s.twin.ownEvents ++ [h], evOrder := s.twin.evOrder + 1 } }
  else publish ⟨t, s.seatB, 0, c, tag, payload⟩ s

/-- An event raised now (R373). -/
def raise (c : Ev) (payload : List (Nat × Nat)) (s : State) : State := raiseAt s.time.now c none payload s

/-- A completion event that carries a command's TAG (R373, R406). -/
def raiseTag (c : Ev) (tag : Nat) (payload : List (Nat × Nat)) (s : State) : State :=
  raiseAt s.time.now c (some tag) payload s

/-- The bytes of a payload: the values at their sizes, little-endian (R393). -/
def payloadBytes (p : List (Nat × Nat)) : Bytes := p.flatMap (fun x => le x.1 x.2)

/-- An event record's 64 bytes (R373). -/
def eventBytes (e : EventRec) : Bytes :=
  let p := payloadBytes e.payload
  le 8 e.seq ++ le 8 e.time ++ le 2 e.code.code ++ le 1 (b2n e.seatB + 2 * b2n e.tag.isSome) ++ le 1 (min p.length 40)
  ++ le 2 (e.tag.getD 0) ++ zeros 2 ++ padTo 40 p

/-- The EVQ_GAP record, with the first and last lost numbers (R374). It is no numbered event: it carries the first lost
number as its own. -/
def gapRec (g : Nat × Nat) (t : Time64) (seatB : Bool) : EventRec := ⟨g.1, t, .evqGap, seatB, none, [(8, g.1), (8, g.2)]⟩

/-! ## Replies -/

/-- A reply's bytes on SPI and UDP (R356). -/
def replyBytes (r : Reply) : Bytes :=
  let body := le 2 r.status.code ++ zeros 2 ++ le 4 r.detail ++ le 8 r.eventSeq ++ padTo (pad4 r.result.length) r.result
  let words := (24 + body.length) / 4
  let head := le 1 1 ++ le 1 1 ++ le 2 r.opcode ++ le 2 r.tag ++ le 2 words ++ le 8 r.tick ++ le 4 r.seq
  let crc := (crc32c 0 (head ++ zeros 4 ++ body)).toNat
  head ++ le 4 crc ++ body

/-- A queue pair (R364). -/
def State.queue (s : State) (q : Nat) : QueuePair := tget queueInit s.cmd.queues q

/-- The state with a queue pair set. -/
def State.setQueue (s : State) (q : Nat) (v : QueuePair) : State :=
  { s with cmd := { s.cmd with queues := tset q v s.cmd.queues } }

/-- ENABLE of a pair (R376). -/
def QueuePair.enabled (q : QueuePair) : Bool := q.cfg.getLsbD 0

/-- The size of a pair's rings (R364, R376). -/
def QueuePair.size (q : QueuePair) : Nat := 2 ^ bits q.cfg.toNat 4 1

/-- A completion entry's 32 bytes, and how much of the result is written (R366). -/
def completionBytes (q : QueuePair) (r : Reply) : Bytes :=
  let phase := b2n ((q.cqCount / q.size) % 2 == 0)
  let trunc := b2n (r.resultMax < r.result.length)
  le 2 r.tag ++ le 2 r.status.code ++ le 4 r.detail ++ le 8 r.tick ++ le 8 r.eventSeq ++ le 2 q.sqHead
  ++ le 1 (phase + 2 * trunc) ++ zeros 1 ++ le 4 r.result.length

/-- A pair whose last pending reply has been written stops being enabled, if its ENABLE was cleared (R364). -/
def QueuePair.settle (q : QueuePair) : QueuePair :=
  if q.stopping && q.inFlight == 0 then { q with stopping := false, cfg := q.cfg &&& 0xFFFFFFFE, fetchErr := false } else q

/-- A reply over PCIe: the result, the completion entry with its PHASE, the cause bit and the vector (R366, R378). A
reply to a pair that PERST_N has disabled is discarded (R456). -/
def completePcie (q : Nat) (r : Reply) (s : State) : State :=
  let p := s.queue q
  if p.inFlight = 0 then s
  else
    let p1 := { p with cqCount := p.cqCount + 1, inFlight := p.inFlight - 1 }
    let s1 := if r.resultAddr != 0 && r.result != [] then emit (.hostWrite r.resultAddr (r.result.take r.resultMax)) s else s
    let s2 := emit (.completion q (p.cqCount % p.size) (completionBytes p r)) s1
    setIrq q (sendMsix q (bits p.cfg.toNat 9 5) (s2.setQueue q p1.settle))

/-- A reply on its transport (R363). Over SPI it becomes readable (R367), over UDP it goes to the sender with its own MAC
(R371). A BAR0 write has no reply (its events stand for it, R377), and a peer's command is answered by CMD_ACK (R242). -/
def sendReply (r : Reply) (s : State) : State :=
  let s1 := emit (.reply r) s
  match r.transport with
  | .pcie q => completePcie q r s1
  | .spi =>
    let b := replyBytes r
    let fr := le 2 b.length ++ b
    setIrq 9 { s1 with cmd := { s1.cmd with spi := { s1.cmd.spi with replies := s1.cmd.spi.replies ++ [fr ++ le 4 (frameCrc fr)] } } }
  | .udp c src =>
    let b := le 2 c ++ zeros 2 ++ replyBytes r
    emit (.udp src (b ++ (Config.hmacSha256 s.life.installKey b).take 16)) s1
  | .peer => s1
  | .reg => s1

/-- The reply to a command with its header (R356): EVENT_SEQ is the number the next event will carry. -/
def answer (h : CmdHdr) (op tick : Nat) (st : Status) (detail : Nat) (result : Bytes) (s : State) : State :=
  sendReply ⟨h.transport, op, h.tag, h.seq, tick, st, detail, s.events.next, result, h.resultAddr, h.resultMax⟩ s

/-- The tick of a reply that is sent between decision points: the interval's last decision point (R356, log entry 7). -/
def State.intervalTick (s : State) : Nat := s.time.decided

/-- DETAIL of a rejection: WHERE, and CHECK_LINE where the budget check gives it (R359). -/
def detailOf (line wh : Nat) : Nat := line * 2 ^ 16 + wh

/-- APPLY_MOVED of a command that takes effect at a tick (R359). -/
def movedBit (h : CmdHdr) (tick : Nat) : Nat := if h.applyTick != 0 && h.applyTick != tick then 2 ^ 30 else 0

/-- The BAR0 offset of a register that a write turns into a HEAD command (R377). -/
def regOffset (r : SetRec) : Nat :=
  if r.pid = pLiveMap then 0x500 + 4 * r.index
  else if r.pid = pLiveDarkMap then 0x540 + 4 * r.index
  else 0x550

/-- The register and the value of such a command, as its events carry them. -/
def regPayload (k : Cmd) : List (Nat × Nat) :=
  match k with
  | .headSet (r :: _) => [(4, regOffset r), (4, match r.val with | .num n => n | _ => 0)]
  | _ => []

/-- An accepted command that ends without its effect: its status and tick, or CMD_REG_REFUSED for a BAR0 write (R363, R377, R392). -/
def failReply (a : Accepted) (tick : Nat) (st : Status) (detail : Nat) (s : State) : State :=
  match a.hdr.transport with
  | .reg => raise .cmdRegRefused (regPayload a.cmd) s
  | _ => answer a.hdr (opcodeOf a.cmd) tick st detail [] s

/-- The tick grid in force (R42, R53). -/
def State.grid (s : State) : Grid := cfgGrid s.cfg

end Sys2Proof.Machine
end

