-- ==== Sys2Proof/Machine/Flags.lean ====
section
/-! DEFINITION. Every status word and flag computation: HEAD_STATUS (R223), SYS_STATUS, TIME_STATUS, CMDQ_STATUS (R376),
LIVE_PINS, LIVE_HEADS, the verdict mirror, the SPI status window (R370), U_WALL's saturation (R34), the ledger half-words
(R57) and the running flags of the freeze and twin blocks. -/
namespace Sys2Proof.Machine

/-- Fields of a register: (lowest bit, width, value). -/
def packFields (l : List (Nat × Nat × Nat)) : Nat :=
  l.foldl (fun a f => a + (f.2.2 % 2 ^ f.2.1) * 2 ^ f.1) 0

/-- The tile rows of a head. -/
def Head.rows (h : Head) : Nat := tileCols h.timing.vactive

/-- The tile columns of a head. -/
def Head.cols (h : Head) : Nat := tileCols h.timing.hactive

/-- Whether a tile row is verification-current at a tick for a head frame (R69): its last match within the last 32 ticks, and not missed
twice in a row since (R219); or, in HOT, a match of the twin's signatures in that frame or the last one. -/
def Head.rowCurrent (h : Head) (tick cnt r : Nat) : Bool :=
  ((match tfind h.rowMatch r with | some n => tick ≤ n + 32 | none => false) && tget 0 h.rowMissed r < 2)
  || (match tfind h.pairRows r with | some c => (cnt + 2 ^ 32 - c) % 2 ^ 32 ≤ 1 | none => false)

/-- UNVER_ROWS: the tile rows not verification-current (R223). -/
def Head.unverRows (h : Head) (tick : Nat) : Nat :=
  ((List.range h.rows).filter (fun r => !h.rowCurrent tick h.frameCnt r)).length

/-- Whether the head's port link is trained (R223). -/
def State.linkUp (s : State) (h : Nat) : Bool :=
  match (s.head h).timing.port with
  | some p => (s.dpPort p).trained
  | none => false

/-- HEAD_STATUS[h] (R223). A head without a port has no rows to verify. The sticky bits are WEIR_LOW 19, UNDERFLOW 18 and MISMATCH 20. -/
def headStatus (s : State) (h : Nat) : Nat :=
  let d := s.head h
  packFields [(0, 1, b2n d.enabled), (1, 1, b2n d.blankNow), (2, 1, b2n d.retime.isSome), (3, 1, b2n (s.linkUp h)),
    (4, 1, b2n d.live), (5, 3, d.worst.code), (8, 8, if d.timing.port.isSome then d.unverRows s.time.tick else 0),
    (16, 2, d.timing.mult), (21, 3, d.timing.port.getD 0), (24, 2, d.timing.stream)]
  + d.sticky

/-- The W1C bits of HEAD_STATUS (R223). -/
def headSticky : Nat := 7 * 2 ^ 18

/-- SYS_STATUS (R376). -/
def sysStatus (s : State) : Nat :=
  packFields [(0, 1, b2n s.cmd.ready), (1, 2, s.cfg.profile.code), (3, 1, b2n s.seatB), (4, 3, s.twin.mode.code),
    (7, 3, s.life.state.code), (10, 2, s.power.level.code), (12, 1, b2n s.mem.fatal), (13, 1, b2n s.life.unadopted)]

/-- Whether this seat is the time lead (R48): alone it leads itself, in a pair by the lead's seat. -/
def State.timeLead (s : State) : Bool :=
  match s.twin.mode with
  | .hot => s.time.leadIsB == s.seatB
  | .coldActive => s.time.leadIsB == s.seatB
  | .coldStandby => s.time.leadIsB == s.seatB
  | _ => false

/-- TIME_STATUS (R376). -/
def timeStatus (s : State) : Nat :=
  packFields [(2, 2, s.time.state.code), (4, 1, b2n s.time.slewing), (5, 1, b2n s.timeLead), (6, 1, s.time.servoDom)]

/-- CMDQ_STATUS[q] (R376). -/
def cmdqStatus (q : QueuePair) : Nat :=
  packFields [(0, 16, q.sqHead), (16, 1, b2n q.stalled), (17, 1, b2n q.doorbellErr), (18, 1, b2n q.fetchErr)]

/-- The asserted state of DARK[k] after LIVE_DARK_POL (R79, R376). -/
def State.darkAsserted (s : State) (k : Nat) : Bool := nth false s.pins.dark k != bit s.pins.darkPol k

/-- The asserted state of all four DARK pins. -/
def State.darkMask (s : State) : Nat := maskBy 4 s.darkAsserted

/-- LIVE_HEADS: the per-head live states (R80). -/
def liveHeads (s : State) : Nat := maskBy 32 (fun h => (s.head h).live)

/-- The level LIVE[k] must have (R80, R257): every mapped head live and started while the seat was not withdrawn, the map not
empty, and the device alive. -/
def livePin (s : State) (k : Nat) : Bool :=
  let m := nth 0 s.pins.liveMap k
  m != 0 && s.alive && s.twin.mode != .coldStandby && (maskBits 32 m).all (fun h => (s.head h).live && !(s.head h).startWd)

/-- All sixteen LIVE pins. -/
def livePins (s : State) : Nat := maskBy 16 (livePin s)

/-- The LIVE pins brought to their levels; a change sets SYS_IRQ_CAUSE LIVE (R80, R376). -/
def settlePins (s : State) : State :=
  let v := livePins s
  if v = s.pins.live then s else setIrq 10 { s with pins := { s.pins with live := v } }

/-- LIVE_PINS (R376). -/
def livePinsReg (s : State) : Nat := packFields [(0, 16, s.pins.live), (16, 4, s.darkMask)]

/-- Whether an electrode is reported PRESSED (R353). -/
def pressedReg (s : State) (k : Nat) : Nat := maskBy 32 (fun i => nth false s.touch.pressed (32 * k + i))

/-- EVI_LEVEL (R353). -/
def eviLevel (s : State) : Nat := maskBy 32 (fun i => (s.eviIn i).level)

/-- WORST of the status window: a nibble per head (R370). -/
def windowWorst (s : State) : Nat :=
  (List.range 32).foldl (fun a h => a + (s.head h).worst.code * 2 ^ (4 * h)) 0

/-- U_WALL as it is published: values above 4,294,967,294 ns are unbounded (R34). -/
def satUWall (v : Nat) : Nat := if 4294967294 < v then 0xFFFFFFFF else v

/-- The status window of R370, with WIN_CRC. -/
def statusWindow (s : State) : Bytes :=
  let flags := packFields [(0, 1, b2n s.cmd.ready), (1, 1, b2n (s.cmd.spi.replies != [])),
    (2, 1, b2n (s.events.spiRead < s.events.next)), (3, 1, b2n s.cmd.spi.crcErr),
    (4, 1, b2n s.cmd.spi.overrun), (5, 1, b2n s.mem.fatal)]
  let modes := packFields [(0, 3, s.twin.mode.code), (3, 1, b2n s.seatB), (4, 2, s.time.state.code)]
  let levels := packFields [(0, 2, s.power.level.code), (2, 3, s.life.state.code)]
  let b := le 2 0x4D58 ++ le 1 flags ++ le 1 (4 - s.cmd.spi.held) ++ le 2 s.cmd.spi.lastTag ++ le 1 modes ++ le 1 levels
    ++ le 8 s.time.tick ++ le 4 s.time.uWall ++ le 2 s.pins.live ++ le 1 s.darkMask ++ le 1 0 ++ le 4 (liveHeads s)
    ++ le 16 (windowWorst s) ++ le 8 s.events.next ++ le 8 s.time.now
  b ++ le 4 (crc32c 0 b).toNat

/-! ## The ledger's half-words (R57) -/

/-- TIME_QUAL: grade, time state at grading, declared by the host. -/
def timeQual (grade : Nat) (st : TState) (host : Bool) : Nat := packFields [(0, 2, grade), (2, 2, st.code), (4, 1, b2n host)]

/-- DECODE_STATUS bits in order (R57). -/
def decodeStatus (complete intra entry conc taint subst uncomp host record : Bool) : Nat :=
  packFields [(0, 1, b2n complete), (1, 1, b2n intra), (2, 1, b2n entry), (3, 1, b2n conc), (4, 1, b2n taint),
    (5, 1, b2n subst), (6, 1, b2n uncomp), (7, 1, b2n host), (8, 1, b2n record)]

/-- FREEZE_STATUS bits in order (R57). -/
def freezeStatus (frz payload intra sigrep token seen pos : Bool) : Nat :=
  packFields [(0, 1, b2n frz), (1, 1, b2n payload), (2, 1, b2n intra), (3, 1, b2n sigrep), (4, 1, b2n token),
    (5, 1, b2n seen), (6, 1, b2n pos)]

/-- Whether a frame is clean: COMPLETE set, REF_SUBST, TAINT_ANY and CONC_ANY clear (R247). -/
def FrameHdr.clean (h : FrameHdr) : Bool :=
  bit h.decodeStatus 0 && !bit h.decodeStatus 5 && !bit h.decodeStatus 4 && !bit h.decodeStatus 3

end Sys2Proof.Machine
end

