-- ==== Sys2Proof/Machine/Estimator.lean ====
section
/-! DEFINITION. The estimators' arithmetic (R29, R34): the corrected window, its median, mean and deviation, validity, and
U_WALL. Offsets and phases are in picoseconds, an offset being the time counter minus the master's time. -/
namespace Sys2Proof.Machine

/-- announceReceiptTimeout in Announce intervals (R26): its default, since no parameter of R53 sets it (log entry 106). -/
def announceReceiptTimeout : Nat := 3

/-- The greatest integer whose square is at most `n`, by its bits from `b` down. -/
def sqrtGo : Nat → Nat → Nat → Nat
  | 0, _, acc => acc
  | b + 1, n, acc => sqrtGo b n (if (acc + 2 ^ b) * (acc + 2 ^ b) ≤ n then acc + 2 ^ b else acc)

/-- The integer square root of a number below 2^160. -/
def isqrt (n : Nat) : Nat := sqrtGo 80 n 0

/-- The square root rounded up. -/
def isqrtUp (n : Nat) : Nat := let r := isqrt n; if r * r = n then r else r + 1

/-- An interval of 2^l seconds in nanoseconds. -/
def logIntervalNs (l : Int) : Nat := if 0 ≤ l then 1000000000 * 2 ^ l.toNat else 1000000000 / 2 ^ (-l).toNat

/-- The window's samples corrected by what the servo has applied since each was taken (R29). -/
def Estimator.corrected (e : Estimator) (phase : Int) : List Int := e.window.map (fun x => x.offset + (phase - x.phase))

/-- Whether all samples lie within ±1,000 ns of their own median (R29). Twice the values are compared, so an even count's
median is exact. -/
def withinMedian (l : List Int) : Bool :=
  let m2 := median2Int l
  l.all (fun x => decide (2 * x - m2 ≤ 2000000) && decide (-2000000 ≤ 2 * x - m2))

/-- Whether an estimator is valid (R29). -/
def Estimator.valid (e : Estimator) (now : Time64) (phase : Int) : Bool :=
  (match e.selected, e.lastAnnounce with
    | some m, some t =>
      (match tfind e.masters m with
        | some a => now ≤ t + announceReceiptTimeout * logIntervalNs a.logInterval
        | none => false)
    | _, _ => false)
  && (match e.lastSync with | some t => now ≤ t + 4 * logIntervalNs e.logSync | none => false)
  && e.window.length == 16 && withinMedian (e.corrected phase) && !e.timedOut

/-- The estimator's offset from the servo's current time: the median of the corrected samples, in picoseconds
(R29). -/
def Estimator.offset (e : Estimator) (phase : Int) : Int := median2Int (e.corrected phase) / 2

/-- The sum of a list of integers. -/
def sumInt (l : List Int) : Int := l.foldl (· + ·) 0

/-- The mean of the window in nanoseconds, rounded down. -/
def Estimator.mean (e : Estimator) (phase : Int) : Int :=
  let l := e.corrected phase
  if l == [] then 0 else sumInt l / (1000 * (l.length : Int))

/-- Sixteen times the sum of squares less the square of the sum: 240 times the sample variance of 16 samples. -/
def spread (l : List Int) : Nat := natOf (16 * sumInt (l.map (fun x => x * x)) - sumInt l * sumInt l)

/-- The sample standard deviation of the window in nanoseconds, rounded up (R34, log entry 13 for its rounding in
TIME_STATUS). -/
def Estimator.sd (e : Estimator) (phase : Int) : Nat :=
  let l := e.corrected phase
  if l.length ≤ 1 then 0
  else
    let n := (l.length : Int)
    let v := natOf (n * sumInt (l.map (fun x => x * x)) - sumInt l * sumInt l)
    ceilDiv (isqrtUp (ceilDiv v (l.length * (l.length - 1)))) 1000

/-- U_WALL in DUAL and SINGLE (R34), rounded up to a whole nanosecond, before its saturation. The mean and the deviation are taken over the
offsets as R29 corrects them for what the servo has applied since (log entry 107). -/
def uWallLocked (asym : Nat) (e : Estimator) (phase : Int) (dRem : Int) : Nat :=
  let l := e.corrected phase
  let t := isqrtUp (ceilDiv (48 * spread l) 5)
  ceilDiv (16000 * asym + 16 * dRem.natAbs + (sumInt l).natAbs + t) 16000

/-- U_WALL in HOLDOVER (R34): `t` nanoseconds into it, rounded up. -/
def uWallHold (uEntry rate acc t : Nat) : Nat :=
  uEntry + ceilDiv (2 * rate * t * 1000000000 + acc * t * t) (2 * 1000000000 * 1000000000)

/-- The estimator of a domain slot. -/
def State.est (s : State) (d : Nat) : Estimator := tget estInit s.time.est d

/-- The state with an estimator passed through a function. -/
def State.modEst (s : State) (d : Nat) (f : Estimator → Estimator) : State :=
  { s with time := { s.time with est := tmod estInit d f s.time.est } }

/-- Whether the estimator of a domain slot is valid now. -/
def State.estValid (s : State) (d : Nat) : Bool := (s.est d).valid s.time.now s.time.phase

/-- DOM[d]'s configuration (R53, R383): ports, domain, transport. -/
def domPorts (c : Cfg) (d : Nat) : Nat := bits (pv c pDom d) 3 0

/-- DOM[d]'s domain number. -/
def domNumber (c : Cfg) (d : Nat) : Nat := bits (pv c pDom d) 15 8

/-- DOM[d]'s transport. -/
def domTransport (c : Cfg) (d : Nat) : Nat := bits (pv c pDom d) 17 16

end Sys2Proof.Machine
end

