-- ==== Sys2Proof/Machine/Dram.lean ====
section
/-! DEFINITION. The bytes of DRAM by device address (R301, R302): a list of rising addresses, none of them holding the 0 that an
unlisted address reads as (log entry 5). -/
namespace Sys2Proof.Machine

/-- The byte at an address. -/
def dramGet : List Host.Cell → Nat → Byte
  | [], _ => 0
  | (b, v) :: r, a => if a = b then v else dramGet r a

/-- The cells with a byte written: a 0 leaves the list. -/
def dramSet (a : Nat) (x : Byte) : List Host.Cell → List Host.Cell
  | [] => if x = 0 then [] else [(a, x)]
  | (b, v) :: r =>
    if a < b then (if x = 0 then (b, v) :: r else (a, x) :: (b, v) :: r)
    else if a = b then (if x = 0 then r else (a, x) :: r)
    else (b, v) :: dramSet a x r

/-- The cells with bytes written from an address on. -/
def dramWrite : Nat → Bytes → List Host.Cell → List Host.Cell
  | _, [], m => m
  | a, x :: r, m => dramWrite (a + 1) r (dramSet a x m)

/-- `n` bytes from an address on. -/
def dramRead (m : List Host.Cell) : Nat → Nat → Bytes
  | _, 0 => []
  | a, n + 1 => dramGet m a :: dramRead m (a + 1) n

/-- The canonical form: addresses strictly rise from a bound, and no byte is 0. -/
def dramWfFrom : Nat → List Host.Cell → Bool
  | _, [] => true
  | k, (b, v) :: r => decide (k ≤ b) && v != 0 && dramWfFrom (b + 1) r

/-- Whether DRAM is in canonical form. -/
def Memory.wf (m : List Host.Cell) : Bool := dramWfFrom 0 m

/-- The start of the host region as a device address (R303). -/
def hostBase (c : Cfg) : Nat := pv c pMemHostBase 0 * 2 ^ 20

/-! ## The device address space (R302) -/

/-- The host region: its start and its size (R303). -/
def hostSpan (c : Cfg) : Nat × Nat := (hostBase c, pv c pMemHostSize 0 * 2 ^ 20)

/-- The device addresses (R302). -/
def deviceBytes : Nat := 14 * 2 ^ 30

/-- The CTRL region, at the bottom. -/
def ctrlBytes : Nat := 2 ^ 28

/-- Where the two snapshots begin, at the top of the COLD regions. -/
def wallTop : Nat := deviceBytes - 2 ^ 25

/-- The picture pools that stand: those in use, and old ones that a ledger slot still names (R121). -/
def livePools (s : State) : List Pool :=
  s.mem.pools.filter (fun p => match p.old with
    | none => true
    | some n => s.ledger.any (fun e => e.1 / 4 == p.stream && e.2.oldPool.any (fun q => q.1 == n)))

/-- Whether `n` bytes from an address on lie in the WALL space and meet none of some spans. -/
def spanFree (used : List (Nat × Nat)) (n a : Nat) : Bool :=
  decide (ctrlBytes ≤ a) && decide (a + n ≤ wallTop) && used.all (fun u => decide (a + n ≤ u.1) || decide (u.1 + u.2 ≤ a))

/-- The lowest free address with room for `n` bytes (R302): the start of the WALL space, or the end of a span. -/
def lowestFree (used : List (Nat × Nat)) (n : Nat) : Option Nat :=
  match (ctrlBytes :: used.map (fun u => u.1 + u.2)).filter (spanFree used n) with
  | [] => none
  | a :: r => some (r.foldl Nat.min a)

/-- The window's start S of a set-point switch at a tick (R317). -/
def switchStart (s : State) (n : Nat) : Time64 := s.grid.tickT n + 1000 * pv s.cfg pMemSwitchOfs 0

/-- Whether the lanes stand for a set-point switch: from 100 µs before its start until DRAM is back, at most 160 µs after it (R318). -/
def lanesStand (s : State) : Bool :=
  s.mem.outage || s.mem.switch.any (fun w =>
    decide (switchStart s w.tick ≤ s.time.now + 100000) && decide (s.time.now < switchStart s w.tick + 160000))

end Sys2Proof.Machine
end

