-- ==== Sys2Proof/Machine/Geometry.lean ====
section
/-! DEFINITION. Panes on heads: picture selection and tap folding (R173 to R176), clipping (R162), occlusion culling (R171),
the fetch map (R172) and the filter supports that decide which source tiles contribute (R70, R169, R175). Every
count is exact: visible regions are made of the cells that the panes' edges cut. -/
namespace Sys2Proof.Machine

/-- The pictures a stream's DEC_COMPANION provides (R129), smallest first: 2 QUARTER, 1 HALF, 0 FULL. -/
def provided (comp : Nat) : List Nat :=
  (if comp = 2 || comp = 3 then [2] else []) ++ (if comp = 1 || comp = 3 then [1] else []) ++ [0]

/-- A full-resolution length in a selected picture (R174): divided by 1, 2 or 4, rounded up. -/
def inPic (pic n : Nat) : Nat := ceilDiv n (2 ^ pic)

/-- Whether the ratio destination ÷ crop is below num/den on either axis. -/
def ratioBelow (num den cw ch dw dh : Nat) : Bool := dw * den < cw * num || dh * den < ch * num

/-- The result of R174 and R176 for one pane: a selected picture with its vertical taps and the adjustment bits of
R389, or the rejection. -/
inductive PicSel where
  | sel (pic taps adjust : Nat)
  | rejResource
  | rejRange
  deriving DecidableEq, Repr

/-- The tap folding of R176 for a scaled pane of a line width. -/
def foldTaps (pic adjust l : Nat) : PicSel :=
  if l ≤ 4096 then .sel pic 8 adjust
  else if l ≤ 8192 then .sel pic 4 (adjust ||| 2)
  else if l ≤ 16384 then .sel pic 2 (adjust ||| 4)
  else .rejResource

/-- Whether the crop in a picture has the destination's size (R173). -/
def unscaled (pic cw ch dw dh : Nat) : Bool := inPic pic cw == dw && inPic pic ch == dh

/-- The selection rules 2 to 4 of R174, in order, then R176. -/
def selectFrom (p : Profile) (prov : List Nat) (pic0 cw ch dw dh : Nat) : PicSel :=
  let below := fun (num den pic : Nat) => ratioBelow num den (inPic pic cw) (inPic pic ch) dw dh
  let step2 : Option (Nat × Nat) :=
    if p ≠ .lowLatency ∧ below 1 2 pic0 then
      (prov.find? (fun q => !below 1 2 q)).map (fun q => (q, 1))
    else some (pic0, 0)
  match step2 with
  | none => .rejRange
  | some (pic2, a2) =>
    let step3 : Option (Nat × Nat) :=
      if below 1 8 pic2 then (prov.find? (fun q => q != 0 && !below 1 8 q)).map (fun q => (q, 1))
      else some (pic2, a2)
    match step3 with
    | none => .rejRange
    | some (pic, a) =>
      if 16 * inPic pic cw < dw ∨ 16 * inPic pic ch < dh then .rejRange
      else if unscaled pic cw ch dw dh then .sel pic 8 a
      else foldTaps pic a (inPic pic cw)

/-- The selected picture of a pane (R174). Internal sources are neither scaled nor fetched (R170). -/
def selectPic (c : Cfg) (prof : Profile) (p : Nat) : PicSel :=
  let src := paneSource c p
  let (_, _, cw, ch) := paneCrop c p
  let (_, _, dw, dh) := paneDest c p
  if 192 ≤ src then .sel 0 8 0
  else
    let prov := if src < 128 then provided (pv c pDecCompanion src) else [0]
    match pv c pPaneCompanion p with
    | 0 =>
      let pic := (prov.find? (fun q => dw ≤ inPic q cw && dh ≤ inPic q ch)).getD 0
      selectFrom prof prov pic cw ch dw dh
    | k + 1 => if prov.contains k then selectFrom prof prov k cw ch dw dh else .rejResource

/-- The picture a pane fetches in force (FULL where a forced profile leaves no valid selection: R21 makes no check). -/
def picOf (c : Cfg) (prof : Profile) (p : Nat) : Nat :=
  match selectPic c prof p with
  | .sel pic _ _ => pic
  | _ => 0

/-- The settings of a pane as head frames latch them (R163, R45 step 6), without what it shows. -/
def paneIn (c : Cfg) (prof : Profile) (p : Nat) : PaneIn :=
  { pane := p, source := paneSource c p, guarded := guarded c p, slot := none,
    soft := pv c pPaneSoftLimit p, hard := pv c pPaneHardLimit p, evid := pv c pPaneEvidLimit p,
    policy := pv c pPaneEvidPolicy p, style := pv c pPaneMarkStyle p, scale := pv c pPaneTextScale p,
    crop := paneCrop c p, dest := paneDest c p, z := pv c pPaneZ p, blend := pv c pPaneBlend p,
    alpha := pv c pPaneAlpha p, keyEn := pv c pPaneKeyEn p == 1, key := pv c pPaneKey p,
    keyMask := pv c pPaneKeyMask p, csc := pv c pPaneCsc p, range := pv c pPaneRange p,
    pic := picOf c prof p, filter := pv c pPaneFilter p, silence := false, coef := [],
    colour := pv c pIntColour (paneSource c p), pattern := pv c pIntPattern (paneSource c p), age := none }

/-- The enabled panes of a head in blend order, bottom first (R165, R166). -/
def headPaneIns (c : Cfg) (prof : Profile) (h : Nat) : List PaneIn :=
  let ps := ((headPanes c h).filter (paneOn c)).map (paneIn c prof)
  if pv c pHeadZmode h = 1 then sortBy (fun a b => decide (a.z ≤ b.z)) ps else ps

/-- A rectangle of head pixels: left, top, right and bottom, the last two excluded. -/
structure Rect where
  x0 : Nat
  y0 : Nat
  x1 : Nat
  y1 : Nat
  deriving DecidableEq, Repr

/-- Its area. -/
def Rect.area (r : Rect) : Nat := (r.x1 - r.x0) * (r.y1 - r.y0)

/-- Whether it holds no pixel. -/
def Rect.empty (r : Rect) : Bool := r.x1 ≤ r.x0 || r.y1 ≤ r.y0

/-- What two rectangles share. -/
def Rect.inter (a b : Rect) : Rect := ⟨max a.x0 b.x0, max a.y0 b.y0, min a.x1 b.x1, min a.y1 b.y1⟩

/-- A pane's destination clipped to the active area (R162). -/
def PaneIn.clip (p : PaneIn) (w h : Nat) : Rect :=
  let (x, y, dw, dh) := p.dest
  ⟨min w (natOf x), min h (natOf y), min w (natOf (x + dw)), min h (natOf (y + dh))⟩

/-- Whether the format of a source has no alpha (R168, R170). -/
def noAlpha (layers : Table LayerCfg) (src : Nat) : Bool :=
  if src < 128 then true
  else if src < 192 then (match tfind layers src with | some l => l.format == 2 | none => false)
  else 224 ≤ src && src < 240

/-- Whether a pane is opaque (R171), given the picture's size. -/
def PaneIn.opaqueIn (p : PaneIn) (layers : Table LayerCfg) (pw ph : Nat) : Bool :=
  let (cx, cy, cw, ch) := p.crop
  (p.blend == 0 || noAlpha layers p.source) && p.alpha == 255 && !p.keyEn
  && (192 ≤ p.source || (cx + cw ≤ pw && cy + ch ≤ ph))

/-- A pane with its clipped rectangle and whether it is opaque, in a list kept bottom first. -/
structure Placed where
  p    : PaneIn
  rect : Rect
  opq  : Bool
  deriving DecidableEq, Repr

/-- The cut coordinates of an axis, in rising order without repeats. -/
def cuts (l : List Nat) : List Nat := dedup (sortBy (fun a b => decide (a ≤ b)) l)

/-- Neighbouring cut coordinates as intervals. -/
def intervals : List Nat → List (Nat × Nat)
  | a :: b :: r => (a, b) :: intervals (b :: r)
  | _ => []

/-- The panes visible in a cell, top first, and whether the background is (R171): down to the first opaque pane. -/
def visibleIn : List Placed → List PaneIn × Bool
  | [] => ([], true)
  | q :: r =>
    if q.opq then ([q.p], false)
    else let v := visibleIn r; (q.p :: v.1, v.2)

/-- One cell of a head: its rectangle, the panes visible in it (top first) and whether the background is. -/
structure Cell where
  rect  : Rect
  panes : List PaneIn
  bg    : Bool
  deriving DecidableEq, Repr

/-- The cells of a head's region, cut at every pane edge and at the region's own edges. -/
def cellsOf (region : Rect) (pl : List Placed) : List Cell :=
  let inRegion := pl.map (fun q => { q with rect := q.rect.inter region })
  let live := inRegion.filter (fun q => !q.rect.empty)
  let xs := cuts (region.x0 :: region.x1 :: live.flatMap (fun q => [q.rect.x0, q.rect.x1]))
  let ys := cuts (region.y0 :: region.y1 :: live.flatMap (fun q => [q.rect.y0, q.rect.y1]))
  (intervals ys).flatMap (fun (ya, yb) =>
    (intervals xs).map (fun (xa, xb) =>
      let cover := live.filter (fun q => q.rect.x0 ≤ xa && xb ≤ q.rect.x1 && q.rect.y0 ≤ ya && yb ≤ q.rect.y1)
      let v := visibleIn cover.reverse
      ⟨⟨xa, ya, xb, yb⟩, v.1, v.2⟩))

/-- The panes of a head placed on its active area; `size` gives a source's picture size. -/
def placedOf (layers : Table LayerCfg) (size : Nat → Nat × Nat) (ps : List PaneIn) (w h : Nat) : List Placed :=
  ps.map (fun p => ⟨p, p.clip w h, p.opaqueIn layers (size p.source).1 (size p.source).2⟩)

/-- The filter taps of a pane on an axis (R175, R176): 1 for NEAREST, 2 for BILINEAR, else the folded count. -/
def tapsOf (p : PaneIn) (vertical : Bool) : Nat :=
  let (_, _, cw, _) := p.crop
  if p.filter = 1 then 1
  else if p.filter = 2 then 2
  else if vertical then
    (match foldTaps p.pic 0 (inPic p.pic cw) with | .sel _ t _ => t | _ => 2)
  else 8

/-- Whether a source stores YCbCr with half-resolution chroma (R168). -/
def isYcc (src : Nat) : Bool := src < 128

/-- The samples of one axis that output positions `a` to `b - 1` (counted from the destination's first pixel) read:
first and last, counted from the crop's first sample, before edge repetition. `len` is the crop length in the
selected picture, `dst` the destination length (R70, R175, log entry 27). A scaled pane filters on both axes (R173, R176). -/
def lumaSpan (scaled : Bool) (len dst taps : Nat) (a b : Nat) : Int × Int :=
  if !scaled then ((a : Int), (b : Int) - 1)
  else
    let pos := fun (x : Nat) => ((2 * (x : Int) + 1) * len - dst)
    let den : Int := 2 * dst
    if taps = 1 then ((pos a + dst) / den, (pos (b - 1) + dst) / den)
    else (pos a / den - (taps / 2 : Nat) + 1, pos (b - 1) / den + (taps / 2 : Nat))

/-- The chroma samples of one axis that output positions `a` to `b - 1` read, as luma coordinates counted from the
crop's first sample (R169): horizontally co-sited with even luma samples, vertically centred; bilinear where the pane is not scaled. -/
def chromaSpan (scaled : Bool) (len dst taps : Nat) (vertical : Bool) (a b : Nat) : Int × Int :=
  if !scaled then
    if vertical then ((((a : Int) + 1) / 2 - 1) * 2, (((b : Int) - 1 + 1) / 2) * 2 + 1)
    else (((a : Int) / 2) * 2, ((b : Int) / 2) * 2 + 1)
  else
    let pos := fun (x : Nat) => ((2 * (x : Int) + 1) * len - dst)
    let den : Int := 4 * dst
    let off : Int := if vertical then dst else 0
    let lo := if taps = 1 then (pos a - off + 2 * dst) / den else (pos a - off) / den - (taps / 2 : Nat) + 1
    let hi := if taps = 1 then (pos (b - 1) - off + 2 * dst) / den else (pos (b - 1) - off) / den + (taps / 2 : Nat)
    (2 * lo, 2 * hi + 1)

/-- The first and last sample of an axis in the selected picture that output positions `a` to `b - 1` read, luma and
chroma together, held within the crop (R70, R175). -/
def axisSpan (scaled ycc : Bool) (off len dst taps : Nat) (vertical : Bool) (a b : Nat) : Nat × Nat :=
  let l := lumaSpan scaled len dst taps a b
  let c := if ycc then chromaSpan scaled len dst taps vertical a b else l
  let lo := clampInt 0 ((len : Int) - 1) (min l.1 c.1)
  let hi := clampInt 0 ((len : Int) - 1) (max l.2 c.2)
  (off + natOf lo, off + natOf hi)

/-- The crop's offset and length on an axis of the selected picture (R174). -/
def cropAxis (p : PaneIn) (vertical : Bool) : Nat × Nat :=
  let (cx, cy, cw, ch) := p.crop
  if vertical then (cy / 2 ^ p.pic, inPic p.pic ch) else (cx / 2 ^ p.pic, inPic p.pic cw)

/-- Whether a pane bypasses the scalers (R173). -/
def PaneIn.isUnscaled (p : PaneIn) : Bool :=
  let (_, _, cw, ch) := p.crop
  let (_, _, dw, dh) := p.dest
  unscaled p.pic cw ch dw dh

/-- The samples of the selected picture that a rectangle of head pixels reads from a pane: x first and last, y first
and last. -/
def readSpan (p : PaneIn) (r : Rect) : (Nat × Nat) × (Nat × Nat) :=
  let (dx, dy, dw, dh) := p.dest
  let xa := natOf ((r.x0 : Int) - dx)
  let xb := natOf ((r.x1 : Int) - dx)
  let ya := natOf ((r.y0 : Int) - dy)
  let yb := natOf ((r.y1 : Int) - dy)
  let (ox, lx) := cropAxis p false
  let (oy, ly) := cropAxis p true
  (axisSpan (!p.isUnscaled) (isYcc p.source) ox lx dw (tapsOf p false) false xa xb,
   axisSpan (!p.isUnscaled) (isYcc p.source) oy ly dh (tapsOf p true) true ya yb)

/-- The tiles (64 by 64 in the selected picture) a rectangle reads from a pane, as (row, column) (R172). -/
def readTiles (p : PaneIn) (r : Rect) : List (Nat × Nat) :=
  let ((xa, xb), (ya, yb)) := readSpan p r
  (countFrom (ya / 64) (yb / 64 + 1 - ya / 64)).flatMap (fun ty =>
    (countFrom (xa / 64) (xb / 64 + 1 - xa / 64)).map (fun tx => (ty, tx)))

/-- The source tiles (of the full-resolution picture) a rectangle reads from a pane: a companion sample counts as the
source tile it came from (R130). -/
def readSourceTiles (p : PaneIn) (r : Rect) : List (Nat × Nat) :=
  let ((xa, xb), (ya, yb)) := readSpan p r
  let k := 2 ^ p.pic
  let ta := xa * k / 64
  let tb := xb * k / 64
  let va := ya * k / 64
  let vb := yb * k / 64
  (countFrom va (vb + 1 - va)).flatMap (fun ty => (countFrom ta (tb + 1 - ta)).map (fun tx => (ty, tx)))

/-- The cells of a whole head under a configuration, with declared picture sizes (R189, R190). -/
def headCells (c : Cfg) (prof : Profile) (h : Nat) : List Cell :=
  let t := cfgTiming c h
  cellsOf ⟨0, 0, t.hactive, t.vactive⟩ (placedOf c.layers (declared c) (headPaneIns c prof h) t.hactive t.vactive)

/-- Σ V_p + G_h of a head: the pixels blended in a frame (R190). -/
def blendedPixels (cells : List Cell) : Nat :=
  sumNat (cells.map (fun q => q.rect.area * (q.panes.length + b2n q.bg)))

/-- The largest number of pixels blended on any active line (R190, compose lanes). -/
def widestLine (cells : List Cell) : Nat :=
  maxNat (cells.map (fun q =>
    sumNat ((cells.filter (fun o => o.rect.y0 == q.rect.y0)).map
      (fun o => (o.rect.x1 - o.rect.x0) * (o.panes.length + b2n o.bg)))))

/-- T_p: the distinct tiles of the selected picture in the fetch map of a pane (R172, R190). -/
def fetchCount (cells : List Cell) (p : PaneIn) : Nat :=
  (dedup ((cells.filter (fun q => q.panes.any (fun v => v.pane == p.pane))).flatMap (fun q => readTiles p q.rect))).length

end Sys2Proof.Machine
end

