-- ==== Sys2Proof/Machine/Budget.lean ====
section
/-! DEFINITION. The commit budget check (R18, R20, R96, R125, R189, R190, R206): each line of R190 in the table's order, on
a configuration, with exact arithmetic. -/
namespace Sys2Proof.Machine

/-- The limits of a profile (R20): decode pixel/s, blend pixel/s, streams, usable DRAM byte/s. -/
structure Limits where
  decode  : Nat
  blend   : Nat
  streams : Nat
  dram    : Nat
  deriving DecidableEq, Repr

/-- The rows of R20. -/
def limitsOf (p : Profile) (fsp : Nat) : Limits :=
  match p with
  | .lowLatency => ⟨2700000000, 38400000000, 96, 85000000000⟩
  | .fullDensity => ⟨3000000000, 38400000000, 128, 85000000000⟩
  | .endurance =>
    if fsp = 2 then ⟨1000000000, 19200000000, 64, 31000000000⟩ else ⟨2000000000, 28800000000, 128, 63000000000⟩

/-- The heads that compose in a configuration: enabled, with a port that is not OFF (R190, R199, R202). -/
def composingHeads (c : Cfg) : List Nat :=
  (List.range 32).filter (fun h => pv c pHeadEnable h == 1
    && (match headPort c h with | some p => pv c pDpPortMode p != 0 | none => false))

/-- The heads that have a port. -/
def portedHeads (c : Cfg) : List Nat := (List.range 32).filter (fun h => (headPort c h).isSome)

/-- Whether an enabled pane on an enabled head shows a source (R122). -/
def shownIn (c : Cfg) (src : Nat) : Bool :=
  (sourcePanes c src).any (fun p => paneOn c p && pv c pHeadEnable (paneHead c p) == 1)

/-- The streams a configuration puts in classes 1 to 3 (R122, R125). -/
def decodedStreams (c : Cfg) : List Nat :=
  (enabledStreams c).filter (fun s => !is2110 c s && pv c pDecOrigin s == 0
    && (shownIn c s || pv c pDecPreview s == 1))

/-- A stream's lane share L_s in units of 1 / 750,000,000 lane (R125). -/
def laneShare (c : Cfg) (s : Nat) : Nat :=
  max (3 * pv c pDecMaxW s * pv c pDecMaxH s * pv c pSrcFrameRate s) (2000000 * pv c pSrcMaxRate s)

/-- The enabled lanes of a configuration (R126). -/
def laneCount (c : Cfg) : Nat := (maskBits 12 (pv c pDecLaneEnable 0)).length

/-- Line 1: at most 512 panes, and 32 on any head (R160). -/
def paneLine (c : Cfg) : Bool :=
  c.panes.length ≤ 512 && (List.range 32).all (fun h => (headPanes c h).length ≤ 32)

/-- Line 2: the decode budget (R125). -/
def decodeLine (c : Cfg) : Bool :=
  let l := limitsOf c.profile c.fsp
  let ss := decodedStreams c
  ss.all (fun s => laneShare c s ≤ 750000000)
  && sumNat (ss.map (laneShare c)) + 3000000 * pv c pDecPlaybackRate 0
      ≤ 3 * min l.decode (250000000 * laneCount c)
  && (enabledStreams c).length ≤ l.streams

/-- Line 3: the blend budget. -/
def blendLine (c : Cfg) : Bool :=
  let r := rateRow (pv c pTimeTickRate 0)
  sumNat ((composingHeads c).map (fun h =>
    mult2 (pv c pHeadMult h) * r.num * blendedPixels (headCells c c.profile h)))
    ≤ 2 * r.den * (limitsOf c.profile c.fsp).blend

/-- Places one load on the lane with the least load, ties by lower lane. -/
def placeLoad (loads : List Nat) (v : Nat) : List Nat :=
  let m := loads.foldl Nat.min (nth 0 loads 0)
  match findPos (fun x => x == m) 0 loads with
  | some (i, x) => setNth (x + v) loads i
  | none => loads

/-- Line 4: the compose lanes. Λ_h is taken in units of 1 / (2 × the rate's denominator). -/
def composeLine (c : Cfg) : Bool :=
  let r := rateRow (pv c pTimeTickRate 0)
  let lam := (composingHeads c).map (fun h =>
    mult2 (pv c pHeadMult h) * r.num * (cfgTiming c h).vtotal * widestLine (headCells c c.profile h))
  let loads := (sortBy (fun a b => decide (b ≤ a)) lam).foldl placeLoad (List.replicate 8 0)
  loads.all (fun v => 8 * v ≤ 2 * r.den * (limitsOf c.profile c.fsp).blend)

/-- Whether a pane holds a shared scaler (R173). -/
def isScaled (c : Cfg) (p : Nat) : Bool :=
  let (_, _, cw, ch) := paneCrop c p
  let (_, _, dw, dh) := paneDest c p
  paneSource c p < 192 && !unscaled (picOf c c.profile p) cw ch dw dh

/-- Line 5: the scalers, with the selection of R174 run again for every pane (R19). -/
def scalerLine (c : Cfg) : Option Status :=
  let sels := (paneIds c).map (selectPic c c.profile)
  if sels.contains .rejResource then some .rejResource
  else if sels.contains .rejRange then some .rejBudget
  else if 64 < ((paneIds c).filter (isScaled c)).length then some .rejResource
  else none

/-- Whether the heads of one port fit its link (R202, R206). -/
def portFits (c : Cfg) (p : Nat) : Bool :=
  let hs := (portedHeads c).filter (fun h => headPort c h == some p)
  let g := cfgGrid c
  let on := fun {α : Type} (f : Frac → Nat → Nat → Nat → α) (h : Nat) =>
    f (pclk g (cfgTiming c h)) (pv c pHeadDepth h) (pv c pDpLanes p) (pv c pDpLinkRate p)
  match pv c pDpPortMode p with
  | 0 => true
  | 1 => hs.length ≤ 1 && hs.all (fun h => pv c pHeadStream h == 0 && (on linkShare h).num ≤ (on linkShare h).den)
  | _ => hs.length ≤ 4 && !hasDup (hs.map (fun h => pv c pHeadStream h)) && sumNat (hs.map (on slotCount)) ≤ 63

/-- Line 6: scan-out and links (R206). -/
def linkLine (c : Cfg) : Bool :=
  let g := cfgGrid c
  let r := rateRow g.rate
  sumNat ((portedHeads c).map (fun h => (pclk g (cfgTiming c h)).num)) ≤ 4800000000 * (2 * r.den)
  && (List.range 8).all (portFits c)

/-- Twice the bytes per pixel of a source's stored pictures (R168). -/
def bytes2 (c : Cfg) (src : Nat) : Nat :=
  if src < 128 then
    (if (if is2110 c src then pv c pSrc2110Depth src else pv c pDecMaxDepth src) = 10 then 6 else 3)
  else match tfind c.layers src with
    | some l => (if l.format = 2 then 4 else if l.format = 3 then 2 else 8)
    | none => 0

/-- 32 times the companion write fraction c of a stream (R190). -/
def comp32 (c : Cfg) (s : Nat) : Nat :=
  match pv c pDecCompanion s with
  | 0 => 0 | 1 => 8 | 2 => 2 | _ => 10

/-- The encoded size of a session (R281): width, height. -/
def encSize (c : Cfg) (x : Nat) : Nat × Nat :=
  let a := pv c pEncArea x
  let k := if pv c pEncScale x = 500 then 2 else 1
  (comp16 a 2 / k, comp16 a 3 / k)

/-- The sessions that are enabled. -/
def encSessions (c : Cfg) : List Nat := (List.range 16).filter (fun x => pv c pEncEnable x == 1)

/-- The DRAM terms of R190 in units of 1 / (64 × the tick rate's denominator) byte per second. -/
def dramTotal (c : Cfg) : Nat :=
  let r := rateRow (pv c pTimeTickRate 0)
  let decode := sumNat ((decodedStreams c).map (fun s =>
    pv c pDecMaxW s * pv c pDecMaxH s * bytes2 c s * pv c pSrcFrameRate s * (112 + comp32 c s)))
  let ingest := sumNat (((enabledStreams c).filter (is2110 c)).map (fun s =>
    pv c pSrc2110W s * pv c pSrc2110H s * bytes2 c s * pv c pSrcFrameRate s * (32 + comp32 c s)))
  let compose := sumNat ((composingHeads c).map (fun h =>
    let cells := headCells c c.profile h
    mult2 (pv c pHeadMult h) * r.num * sumNat ((headPaneIns c c.profile h).map (fun p =>
      if p.source < 192 then fetchCount cells p * 4096 * bytes2 c p.source else 0))))
  let encode := sumNat ((encSessions c).map (fun x =>
    256 * (encSize c x).1 * (encSize c x).2 * r.num * mult2 (pv c pHeadMult (pv c pEncHead x)) / pv c pEncCadence x))
  (decode + ingest) * r.den + compose * 17 + encode
    + 64 * r.den * (1000000 * pv c pSysHostDramRate 0 + 2000000000)

/-- Line 7: DRAM. -/
def dramLine (c : Cfg) : Bool :=
  dramTotal c ≤ 64 * (rateRow (pv c pTimeTickRate 0)).den * (limitsOf c.profile c.fsp).dram

/-- L_f of a source (R190). -/
def ledgerBytes (c : Cfg) (src : Nat) : Nat :=
  let d := declared c src
  64 + 4 * tileCols d.2 + 8 * tileCols d.1 * tileCols d.2

/-- Line 8: the ledger. -/
def ledgerLine (c : Cfg) : Bool :=
  sumNat ((enabledStreams c ++ c.layers.map Prod.fst).map (fun src => 2 * ledgerBytes c src)) ≤ partitionBytes .ledger

/-- The ingest buffer budget of R96 and the ingest capacity of R18. The sum of R96 in bits: MAX_RATE × JITTER plus
2,000,000 × MAX_RATE ÷ FRAME_RATE, over one common denominator. -/
def ingestLine (c : Cfg) : Bool :=
  let ss := enabledStreams c
  let comp := ss.filter (fun s => !is2110 c s)
  let den := comp.foldl (fun d s => Nat.lcm d (pv c pSrcFrameRate s)) 1
  let whole := sumNat (ss.map (fun s => pv c pSrcMaxRate s * pv c pSrcJitterUs s))
  let frac := sumNat (comp.map (fun s => 2000000 * pv c pSrcMaxRate s * (den / pv c pSrcFrameRate s)))
  whole * den + frac ≤ 9 * 1024 * 1024 * 8 * den
  && sumNat (ss.map (fun s => pv c pSrcMaxRate s)) ≤ 100000

/-- Whether the enabled sessions fit the four lanes and the encoder partition (R283). Rates are in units of
1 / (2 × the tick rate's denominator × 8) pixel per second. -/
def encFits (c : Cfg) : Bool :=
  let r := rateRow (pv c pTimeTickRate 0)
  let rate := fun (x : Nat) =>
    (encSize c x).1 * (encSize c x).2 * r.num * mult2 (pv c pHeadMult (pv c pEncHead x)) * (8 / pv c pEncCadence x)
  let loads := (sortBy (fun a b => decide (b ≤ a)) ((encSessions c).map rate)).foldl placeLoad (List.replicate 4 0)
  loads.all (fun v => v ≤ 250000000 * 16 * r.den) && sumNat ((encSessions c).map (fun x => (encSize c x).1)) ≤ 14336

/-- The commit budget check: the first line of R190 that fails, with its CHECK_LINE (R359); the ingest budget and the encode capacity (R18), which
are no lines of R190, come last with CHECK_LINE 0. -/
def budgetCheck (c : Cfg) : Option (Status × Nat) :=
  if !paneLine c then some (.rejResource, 1)
  else if !decodeLine c then some (.rejBudget, 2)
  else if !blendLine c then some (.rejBudget, 3)
  else if !composeLine c then some (.rejBudget, 4)
  else match scalerLine c with
    | some st => some (st, 5)
    | none =>
      if !linkLine c then some (.rejBudget, 6)
      else if !dramLine c then some (.rejBudget, 7)
      else if !ledgerLine c then some (.rejResource, 8)
      else if !ingestLine c then some (.rejBudget, 0)
      else if !encFits c then some (.rejResource, 0)
      else none

end Sys2Proof.Machine
end

