-- ==== Sys2Proof/Machine/Operands.lean ====
section
/-! DEFINITION. The operand forms of command packets: parameter records (R381 to R386), the words a fault is reported at
(R357, R359), the configuration a command sets (R24, R163) and the one that stands at a future tick (R189). -/
namespace Sys2Proof.Machine

/-- The words a record's value takes (R381). -/
def valWords : Val → Nat
  | .num _ => 2
  | .addr _ => 10
  | .bytes b => (b.length + 7) / 8 * 2

/-- The records of a block with the word offset of each PARAM_ID, from the first record's word. -/
def recOffsets : Nat → List SetRec → List (Nat × SetRec)
  | _, [] => []
  | w, r :: rest => (w, r) :: recOffsets (w + 2 + valWords r.val) rest

/-- The records of a command with their word offsets: a SET's first record stands at word 7, PANE_CREATE's at word 8 (R381,
R390). The records of PANE_CREATE are those of the pane it creates (log entry 8). -/
def recsOf : Cmd → List (Nat × SetRec)
  | .sysSet l => recOffsets 7 l
  | .timeSet l => recOffsets 7 l
  | .srcSet l => recOffsets 7 l
  | .paneCreate p _ _ l => recOffsets 8 (l.map (fun r => { r with index := p }))
  | .paneSet l => recOffsets 7 l
  | .headSet l => recOffsets 7 l
  | .codecSet l => recOffsets 7 l
  | .twinSet l => recOffsets 7 l
  | .touchSet l => recOffsets 7 l
  | .memSet l => recOffsets 7 l
  | .netSet l => recOffsets 7 l
  | _ => []

/-- The keys of a GET query with their word offsets. -/
def keysOf : Cmd → List (Nat × GetKey)
  | .sysGet l => go 7 l
  | .timeGet l => go 7 l
  | .srcGet l => go 7 l
  | .paneGet l => go 7 l
  | .headGet l => go 7 l
  | .codecGet l => go 7 l
  | .twinGet l => go 7 l
  | .touchGet l => go 7 l
  | .memGet l => go 7 l
  | .netGet l => go 7 l
  | _ => []
where
  /-- The keys from a word offset on, two words each. -/
  go : Nat → List GetKey → List (Nat × GetKey)
    | _, [] => []
    | w, k :: r => (w, k) :: go (w + 2) r

/-- The place of a fault in the order of its class (R357): those of one parameter by their words, those of several settings together
after them, and last those of no parameter at all. -/
def faultRank (w : Nat) : Nat := if w = 0xFFFF then 2 ^ 18 else w

/-- The fault reported within one class (R357), as its WHERE: the first of them in their order. -/
def pickFault (l : List Nat) : Option Nat :=
  match l with
  | [] => none
  | x :: r => some (r.foldl (fun a b => if faultRank b < faultRank a then b else a) x % 2 ^ 16)

/-- The fault of no single parameter, where a condition holds. -/
def whole (b : Bool) : List Nat := if b then [0xFFFF] else []

/-- A fault at a word, where a condition holds. -/
def atWord (w : Nat) (b : Bool) : List Nat := if b then [w] else []

/-- The word of the first record that sets one of the listed parameters, or of no single one (R386, log entry 9). -/
def jointWord (recs : List (Nat × SetRec)) (pids : List Nat) : Nat :=
  match recs.find? (fun r => pids.contains r.2.pid) with
  | some (w, _) => w
  | none => 0xFFFF

/-- A fault of several settings together, which ranks 2^16 above its word; with one parameter it is that parameter's own. -/
def joint (recs : List (Nat × SetRec)) (pids : List Nat) (b : Bool) : List Nat :=
  let w := jointWord recs pids
  if !b then [] else if w = 0xFFFF || pids.length = 1 then [w] else [2 ^ 16 + w]

/-- The instances of a table that a command's records touch: their indices, without repeats. -/
def touched (recs : List (Nat × SetRec)) (pids : List Nat) : List Nat :=
  dedup ((recs.filter (fun r => pids.contains r.2.pid)).map (fun r => r.2.index))

/-- The records of one instance. -/
def recsAt (recs : List (Nat × SetRec)) (i : Nat) : List (Nat × SetRec) := recs.filter (fun r => r.2.index == i)

/-- The faults of form of a command's records: unknown parameters, those of another family, wrong kinds of value and
repeats (R382, R386). -/
def recFormFaults (fam : Nat) (pc : Bool) : List (Nat × Nat × Nat) → List (Nat × SetRec) → List Nat
  | _, [] => []
  | seen, (w, r) :: rest =>
    let key := (r.pid, r.index, r.index2)
    atWord w (seen.contains key || !recFormOk fam pc r.pid (some r.val)) ++ recFormFaults fam pc (key :: seen) rest

/-- The faults of form of a query's keys. -/
def keyFormFaults (fam : Nat) : List (Nat × Nat × Nat) → List (Nat × GetKey) → List Nat
  | _, [] => []
  | seen, (w, k) :: rest =>
    let key := (k.pid, k.index, k.index2)
    atWord w (seen.contains key || !recFormOk fam false k.pid none) ++ keyFormFaults fam (key :: seen) rest

/-- The faults of range of a command's records: an index that names no instance, a value out of range (R357, R381). -/
def recRangeFaults (recs : List (Nat × SetRec)) : List Nat :=
  recs.flatMap (fun r =>
    match paramSpec r.2.pid with
    | some p => atWord r.1 (!idxOk p.idx r.2.index r.2.index2 || !rangeOk p.range r.2.val)
    | none => [])

/-- The faults of range of a query's keys. -/
def keyRangeFaults (keys : List (Nat × GetKey)) : List Nat :=
  keys.flatMap (fun k =>
    match paramSpec k.2.pid with
    | some p => atWord k.1 (!idxOk p.idx k.2.index k.2.index2)
    | none => [])

/-- Whether a parameter belongs to a pane (R61, R161). -/
def isPanePid (pid : Nat) : Bool := pid / 256 == 2 || pid / 256 == 3

/-! ## What a command sets -/

/-- The parameters of a pane, which its deletion removes (R160). -/
def dropPaneParams (p : Nat) (t : Table Val) : Table Val :=
  t.filter (fun e => !(isPanePid (e.1 / 2 ^ 32) && e.1 % 2 ^ 16 == p))

/-- The lowest PANE_Z unused on a head (R161). -/
def freeZ (c : Cfg) (h : Nat) : Nat :=
  let used := (headPanes c h).map (pv c pPaneZ)
  ((List.range 32).find? (fun z => !used.contains z)).getD 0

/-- The configuration with a pane created (R160, R161): its parameters fresh, PANE_Z fixed at the creation, and for an
internal source without a destination the head's whole active area as it then is. -/
def cfgCreate (c : Cfg) (p h src : Nat) (recs : List SetRec) : Cfg :=
  let z := freeZ c h
  let c1 := { c with params := dropPaneParams p c.params }
  let c2 := { c1 with panes := tset p ⟨h, src⟩ c1.panes }
  let c3 := cfgSetRecs c2 (recs.map (fun r => { r with index := p }))
  let c4 := if (pset c3 pPaneZ p 0).isSome then c3 else cfgSetRec c3 ⟨pPaneZ, p, 0, .num z⟩
  if src < 192 || (pset c4 pPaneDest p 0).isSome then c4
  else cfgSetRec c4 ⟨pPaneDest, p, 0, .num (pack4 0 0 (pv c pHeadHactive h) (pv c pHeadVactive h))⟩

/-- The configuration a command leaves (R24, R163). While the throttle forces ENDURANCE, a profile is only recorded
(R390). -/
def applyCfg (forced : Bool) (c : Cfg) (k : Cmd) : Cfg :=
  match k with
  | .sysSet l => cfgSetRecs c l
  | .timeSet l => cfgSetRecs c l
  | .srcSet l => cfgSetRecs c l
  | .paneSet l => cfgSetRecs c l
  | .headSet l => cfgSetRecs c l
  | .codecSet l => cfgSetRecs c l
  | .twinSet l => cfgSetRecs c l
  | .touchSet l => cfgSetRecs c l
  | .memSet l => cfgSetRecs c l
  | .netSet l => cfgSetRecs c l
  | .sysProfile p f => if forced then c else { c with profile := profileOf p, fsp := f }
  | .memSetpoint f => if forced then c else { c with fsp := f }
  | .paneCreate p h src l => cfgCreate c p h src l
  | .paneDelete p => { c with panes := tdel p c.panes, params := dropPaneParams p c.params }
  | .layerDeclare src f w h pal => { c with layers := tset src ⟨f, w, h, pal⟩ c.layers }
  | .bufRegister b f w h o st pal => { c with bufs := tset b ⟨f, w, h, o, st, pal⟩ c.bufs }
  | .bufUnregister b => { c with bufs := tdel b c.bufs }
  | .fenceConfig f loc a => { c with fences := tset f ⟨loc == 1, a⟩ c.fences }
  | .headDark m d => { c with darkCmd := if d = 1 then c.darkCmd ||| m.toNat else c.darkCmd &&& (2 ^ 32 - 1 - m.toNat) }
  | _ => c

/-- The order in which accepted commands take effect: by tick, then by acceptance, and with TWIN_ROUTE BOTH by
sequence field (R24, R243, R361). -/
def acceptedLe (both : Bool) (a b : Accepted) : Bool :=
  if a.tick = b.tick then (if both then a.hdr.seq ≤ b.hdr.seq else a.order ≤ b.order) else a.tick ≤ b.tick

/-- Whether commands go to both seats (R243). -/
def State.routeBoth (s : State) : Bool := s.hot && pv s.cfg pTwinRoute 0 == 1

/-- The configuration that will stand at a tick, with every command accepted for it or before it (R189). -/
def State.cfgAt (s : State) (n : Nat) : Cfg :=
  let l := (sortBy (acceptedLe s.routeBoth) s.cmd.accepted).filter (fun a => a.tick ≤ n)
  l.foldl (fun c a => applyCfg s.power.forced c a.cmd) s.cfg

/-- The configuration at a tick with one more command at its apply tick, after those accepted for that tick (R189). -/
def State.cfgWith (s : State) (n at' : Nat) (k : Cmd) : Cfg :=
  let l := (sortBy (acceptedLe s.routeBoth) s.cmd.accepted).filter (fun a => a.tick ≤ n)
  let before := l.filter (fun a => a.tick ≤ at')
  let after := l.filter (fun a => at' < a.tick)
  let c := before.foldl (fun c a => applyCfg s.power.forced c a.cmd) s.cfg
  after.foldl (fun c a => applyCfg s.power.forced c a.cmd) (applyCfg s.power.forced c k)

/-- A configuration as the budget check sees it: lanes held out by a failed self-test do not count (R126, R420). -/
def State.budgetCfg (s : State) (c : Cfg) : Cfg :=
  if s.test.heldLanes = 0 then c
  else cfgSetRec c ⟨pDecLaneEnable, 0, 0, .num (pv c pDecLaneEnable 0 &&& (4095 - s.test.heldLanes))⟩

/-- Whether a command is one that the commit budget check looks at (R189). -/
def budgeted : Cmd → Bool
  | .sysSet _ => true
  | .sysProfile _ _ => true
  | .timeSet _ => true
  | .srcSet _ => true
  | .paneCreate _ _ _ _ => true
  | .paneDelete _ => true
  | .paneSet _ => true
  | .layerDeclare _ _ _ _ _ => true
  | .headSet _ => true
  | .codecSet _ => true
  | .memSetpoint _ => true
  | _ => false

/-- The commit budget check of a command at its apply tick and at every later tick that a pending command will make
(R189). Under a forced ENDURANCE there is none (R191). -/
def State.budgetOf (s : State) (n : Nat) (k : Cmd) : Option (Status × Nat) :=
  if !budgeted k || s.power.forced then none
  else
    let ticks := dedup (n :: (s.cmd.accepted.map (fun a => a.tick)).filter (fun m => n < m))
    (ticks.filterMap (fun m => budgetCheck (s.budgetCfg (s.cfgWith m n k)))).head?

/-! ## Adjustments (R174, R389) -/

/-- The adjustment bits of a pane's picture selection (R389). -/
def adjustOf (c : Cfg) (p : Nat) : Nat :=
  match selectPic c c.profile p with
  | .sel _ _ a => a
  | _ => 0

/-- The bits of the first pane that is adjusted. -/
def firstAdjust (c : Cfg) (ps : List Nat) : Nat := ((ps.map (adjustOf c)).find? (fun a => a != 0)).getD 0

/-- The panes whose selection a command makes (R174). -/
def selectedPanes (c : Cfg) (k : Cmd) : List Nat :=
  match k with
  | .paneCreate p _ _ _ => [p]
  | .paneSet _ => touched (recsOf k) [pPaneCompanion, pPaneCrop, pPaneDest]
  | .sysProfile _ _ => paneIds c
  | _ => []

/-- The status and WHERE of a command that has taken effect as it was asked or with adjustments (R358, R389). -/
def doneStatus (c : Cfg) (k : Cmd) : Status × Nat :=
  let a := firstAdjust c (selectedPanes c k)
  (if a = 0 then .ok else .okAdjusted, a)

end Sys2Proof.Machine
end

