-- ==== Sys2Proof/Machine/Checks.lean ====
section
/-! DEFINITION. The checks of R357 in their order: form, transport, life cycle, state, range, resources. Each answers the
words at fault; the commit budget check stands in Budget.lean. -/
namespace Sys2Proof.Machine

/-! ## Check 1: form -/

/-- The form of a host layer's or buffer's palette: 1,024 bytes for I8 and none otherwise (R390). -/
def paletteFault (format : Nat) (p : Bytes) : List Nat := whole (p.length != paletteLen format)

/-- The width of an algorithm's running value (R322). -/
def algWidth (a : Nat) : Nat := (crcAlg a).width

/-- The flips whose buffer does not have its layer's format and size (R177), by the word of each layer. -/
def flipFormFaults (c : Cfg) : Nat → List FlipLayer → List Nat
  | _, [] => []
  | w, l :: r =>
    atWord w (match tfind c.layers l.source, tfind c.bufs l.buf with
      | some y, some b => b.format != y.format || b.w != y.w || b.h != y.h
      | _, _ => false) ++ flipFormFaults c (w + 8) r

/-- Check 1 of R357 on a command's parameters, against the configuration its flips will meet. -/
def formFaults (c : Cfg) (k : Cmd) : List Nat :=
  let fam := familyOf k
  let recs := recsOf k
  let pc := match k with | .paneCreate _ _ _ _ => true | _ => false
  recFormFaults fam pc [] recs ++ keyFormFaults fam [] (keysOf k)
  ++ (match k with
    | .layerDeclare _ f _ _ p => paletteFault f p
    | .bufRegister _ f _ _ _ _ p => paletteFault f p
    | .colourStage _ part d =>
      whole (part ≤ 6 && d.length != (if part = 3 then 48 else 2048))
    | .scalerCoefLoad _ d => whole (d.length != 1024)
    | .cuFeed _ kind _ len d => whole (d.length != (if kind = 0 then len else 0))
    | .cuCtxWrite _ x =>
      atWord 7 (3 < x.alg) ++ atWord 9 (x.alg ≤ 3 && 2 ^ algWidth x.alg ≤ x.state.toNat)
    | .flip _ l => flipFormFaults c 7 l
    | .twinAdopt u => whole (u.length != 16)
    | .installSet i y => whole (i.length != 16 || y.length != 32)
    | .attest n => whole (n.length != 32)
    | .lcUnlock t => whole (256 < t.length)
    | .fwStage _ _ d => whole (4000 < d.length)
    | _ => [])

/-! ## Check 2: transport -/

/-- Check 2: a UDP client may carry the families of CMD_UDP_ALLOW, and never a non-query command of SEC/LIFECYCLE (R368,
R386). -/
def transportOk (s : State) (t : Transport) (k : Cmd) : Bool :=
  match t with
  | .udp _ _ =>
    let m := pv s.cfg pCmdUdpAllow 0
    if isQuery k then bit m 0 || bit m (familyOf k) else familyOf k != 12 && bit m (familyOf k)
  | _ => true

/-! ## Check 3: life cycle -/

/-- The opcodes a life-cycle state admits (R388, R390, R426; log entry 10 for those admitted from named states only). -/
def lifecycleOk (l : LifeState) (k : Cmd) : Bool :=
  let fam := familyOf k
  let q := isQuery k
  let shut := match k with | .sysShutdown _ => true | _ => false
  let restart := match k with | .sysRestart => true | _ => false
  match l with
  | .fabricated => (q && (fam == 1 || fam == 12)) || (match k with | .lcProvision => true | _ => false)
  | .provisioned =>
    q || shut || restart || (fam == 12 && (match k with
      | .lcProvision => false | .lcUnlock _ => false | .lcDecommission => false | _ => true))
  | .field =>
    !serviceOnly k && (match k with
      | .lcProvision => false | .installSet _ _ => false | .lcField => false | .lcDecommission => false | _ => true)
  | .service => (match k with | .lcProvision => false | .lcUnlock _ => false | _ => true)
  | .decommissioned => (q && fam == 1) || shut || (match k with | .attest _ => true | .certRead => true | _ => false)

/-- Whether a DEVICE range lies in the host region (R303, R329). -/
def inHostRegion (c : Cfg) (addr len : Nat) : Bool :=
  let base := pv c pMemHostBase 0 * 2 ^ 20
  base ≤ addr && addr + len ≤ base + pv c pMemHostSize 0 * 2 ^ 20

/-- Check 3 of R357, with CU_FEED's DEVICE range in FIELD (R329). -/
def lifecycleFaults (s : State) (k : Cmd) : List Nat :=
  whole (!lifecycleOk s.life.state k)
  ++ (match k with
    | .cuFeed _ 2 addr len _ => atWord 7 (s.life.state == .field && !inHostRegion s.cfg addr len)
    | _ => [])

/-! ## Check 4: state -/

/-- Whether a command is one of the TWIN family. -/
def isTwin (k : Cmd) : Bool := familyOf k == 7

/-- Whether the seat's phase takes a command (R357, R403, R404): the interface is ready, or the device is stopping or
stopped, when only queries and SYS_RESTART pass. -/
def phaseOk (s : State) (k : Cmd) : Bool :=
  let restart := match k with | .sysRestart => true | _ => false
  match s.power.phase with
  | .running => s.cmd.ready
  | .stopping _ => isQuery k || restart
  | .stopped => isQuery k || restart
  | _ => false

/-- Whether the twin mode takes a command from a transport (R225, R242, R260, R327). -/
def twinOk (s : State) (t : Transport) (k : Cmd) : Bool :=
  let own := t != .peer
  match s.twin.mode with
  | .coldStandby => isQuery k || isTwin k
  | .hot =>
    if own && s.seatB && pv s.cfg pTwinRoute 0 == 0 then
      isQuery k || isCheck k || (match k with | .twinWithdraw => true | .twinLeave => true | _ => false)
    else true
  | _ => true

/-- Whether the keeper's join keeps a command of an early tick out (R240 step 2, log entry 11). -/
def joinBlocks (s : State) (k : Cmd) (tick : Nat) : Bool :=
  match s.twin.join with
  | some j =>
    j.keeper && j.sent && !isQuery k && !isCheck k
    && (match j.at' with
      | some a => tick < a
      | none => tick < s.grid.firstDecision (s.time.now + 2000000))
  | none => false

/-- The flip group that commands name by a number: 0–63, or the implicit group of a host layer, which goes by the layer's
source ID (R184, log entry 12). -/
def groupOfLayer (c : Cfg) (src : Nat) : Nat :=
  match (sourcePanes c src).find? (fun p => pv c pPaneGroup p != allOnes) with
  | some p => pv c pPaneGroup p
  | none => src

/-- Whether a layer belongs to the group a FLIP names (R184, R185). -/
def layerInGroup (c : Cfg) (g src : Nat) : Bool :=
  if g < 64 then groupOfLayer c src == g else groupOfLayer c src == src

/-- The buffers a pending flip or an accepted FLIP command already names. -/
def queuedBufs (s : State) : List Nat :=
  s.groups.flatMap (fun g => match g.2.pending with | some p => p.layers.map (fun l => l.buf) | none => [])
  ++ s.cmd.accepted.flatMap (fun a => match a.cmd with | .flip _ l => l.map (fun x => x.buf) | _ => [])

/-- The faults of state of a FLIP's layers: a buffer not IDLE, a layer outside the group (R179, R390). -/
def flipStateFaults (s : State) (c : Cfg) (g : Nat) : Nat → List FlipLayer → List Nat
  | _, [] => []
  | w, l :: r =>
    atWord w (!layerInGroup c g l.source || (tfind c.layers l.source).isNone
      || (tfind c.bufs l.buf).isNone || (s.buf l.buf).state != 0 || (queuedBufs s).contains l.buf)
    ++ flipStateFaults s c g (w + 8) r

/-- Whether the panes of each host layer stand in one group, or all in none (R184). -/
def layersTogether (c : Cfg) : Bool :=
  (c.layers.map Prod.fst).all (fun src =>
    match (sourcePanes c src).map (pv c pPaneGroup) with
    | [] => true
    | g :: r => r.all (· == g))

/-- The panes on a head's session or port that a held-out SerDes group carries: DP ports are groups 4 to 11, Ethernet group 1,
the Flume groups 2 and 3 (R399 step 4, R420). -/
def serdesHeld (s : State) (g : Nat) : Bool := bit s.test.heldSerdes g

/-- The faults of state of a command's records (R53, R62, R303, R420, R434, R452). -/
def recStateFaults (s : State) (c c' : Cfg) (recs : List (Nat × SetRec)) : List Nat :=
  recs.flatMap (fun e =>
    let r := e.2
    let v := match r.val with | .num n => n | _ => 0
    atWord e.1 (
      if r.pid = pPaneGuard then (tfind c.panes r.index).isSome && guarded c r.index && v == 0
      else if r.pid = pTimeHoldRate ∨ r.pid = pTimeHoldAcc ∨ r.pid = pTimeAsym then
        s.time.state == .holdover && v < pv c r.pid 0
      else if r.pid = pMemHostBase ∨ r.pid = pMemHostSize then
        v != pv c r.pid 0 && (c.bufs != [] || c.fences.any (fun f => f.2.device))
      else if r.pid = pHeadEnable then v == 1 && s.test.heldHeads
      else if r.pid = pTouchEnable then v == 1 && !s.power.vddTouch
      else false))
  ++ joint recs [pPaneGroup] (!layersTogether c')

/-- Check 4 of R357: the object's state and the twin mode. `c` is the configuration before the command at its apply tick,
`c'` after it. -/
def stateFaults (s : State) (t : Transport) (tick : Nat) (c c' : Cfg) (k : Cmd) : List Nat :=
  whole (!phaseOk s k || !twinOk s t k || joinBlocks s k tick)
  ++ recStateFaults s c c' (recsOf k)
  ++ (match k with
    | .paneCreate _ _ src _ => whole (128 ≤ src && src < 192 && !layersTogether c')
    | .layerDeclare src _ _ _ _ => atWord 6 (sourcePanes c src != [])
    | .bufUnregister b => atWord 6 ((tfind c.bufs b).isSome && ((s.buf b).state != 0 || (queuedBufs s).contains b))
    | .fenceConfig f _ _ =>
      atWord 6 (s.groups.any (fun g => match g.2.pending with
        | some p => p.layers.any (fun l => l.fence == f)
        | none => false))
    | .flip g l => flipStateFaults s c g 7 l
    | .colourCommit h => atWord 6 (h < 32 && (s.head h).stagedMask != 127)
    | .playbackRing x _ _ _ => atWord 6 (pv c pDecOrigin x != 1)
    | .twinJoin m =>
      whole (!(s.twin.mode == .solo || s.twin.mode == .orphaned) || !s.twin.verified || !s.twin.peerJoinable
        || s.twin.replaced || s.twin.lanesUsed < (if m = 0 then 2 else 1) || s.twin.join.isSome)
    | .twinTakeover => whole (s.twin.mode != .coldActive)
    | .twinWithdraw => whole (s.twin.mode != .hot)
    | .twinReinstate =>
      whole (s.twin.mode != .hot || !(s.twin.withdrawn || s.twin.peerWithdrawn) || s.twin.lanesUsed < 2 || (s.twin.withdrawn && (s.twin.digestFault
        || (match s.twin.lastMismatch with | some n => s.time.tick < n + 16 | none => false))))
    | .twinAdopt u => whole (s.twin.peerUid != u)
    | .legendRegister _ p _ => atWord 6 (!((tfind c.panes p).isSome && 128 ≤ paneSource c p && paneSource c p < 192))
    | .memSetpoint _ => whole (c.profile != .endurance)
    | .diagDpPattern p _ _ => atWord 6 (pv c pDpPortMode p != 0)
    | .diagEthPrbs p _ _ => atWord 6 (pv c pNetPortMode p != 0)
    | .selftestRun _ _ => whole s.test.run.isSome
    | .lcField => whole (s.life.state == .provisioned && s.life.installId.isNone)
    | .fwStage sl _ _ =>
      atWord 6 ((sl == 1) == s.life.activeB && sl ≤ 1) ++ whole (s.power.tj < -400 || 1600 < s.power.tj)
    | .attest _ => whole (s.life.state == .fabricated)
    | _ => [])

/-! ## Check 5: ranges -/

/-- Whether two panes of a LIST head have one PANE_Z (R166). -/
def zClash (c : Cfg) (h : Nat) : Bool := pv c pHeadZmode h == 1 && hasDup ((headPanes c h).map (pv c pPaneZ))

/-- Whether a pane's crop is odd on a source whose chroma is halved both ways (R161). -/
def oddCrop (c : Cfg) (p : Nat) : Bool :=
  let (x, y, w, h) := paneCrop c p
  paneSource c p < 128 && (x % 2 == 1 || y % 2 == 1 || w % 2 == 1 || h % 2 == 1)

/-- Whether a pane's picture selection is out of range (R174). -/
def ratioFault (c : Cfg) (p : Nat) : Bool := selectPic c c.profile p == .rejRange

/-- The faults of range of a pane's settings together (R61, R63, R161, R166, R174): of those that a command sets, or of all at the
pane's creation. -/
def paneRangeFaults (create : Bool) (c' : Cfg) (recs : List (Nat × SetRec)) (p : Nat) : List Nat :=
  let own := recsAt recs p
  let fault := fun (pids : List Nat) (b : Bool) => joint own pids (b && (create || own.any (fun r => pids.contains r.2.pid)))
  fault [pPaneSoftLimit, pPaneHardLimit] (pv c' pPaneHardLimit p < pv c' pPaneSoftLimit p)
  ++ fault [pPaneGuard] (192 ≤ paneSource c' p && guarded c' p)
  ++ fault [pPaneCrop] (oddCrop c' p)
  ++ fault [pPaneZ] (zClash c' (paneHead c' p))
  ++ fault [pPaneCrop, pPaneDest, pPaneCompanion] (ratioFault c' p)

/-- The parameters of a stream that a pane's picture selection rests on (R161, R174): the declared picture and the companions. -/
def picturePids : List Nat := [pSrcFormat, pSrc2110W, pSrc2110H, pDecMaxW, pDecMaxH, pDecCompanion]

/-- Whether a stream's declared picture leaves a pane of it without a crop or a ratio in range (R161, R174). -/
def streamPaneFault (c : Cfg) (x : Nat) : Bool := (sourcePanes c x).any (fun p => oddCrop c p || ratioFault c p)

/-- Whether a mark colour table keeps R78: no two verdicts alike, every largest component at least 128. -/
def marksOk (c : Cfg) (h : Nat) : Bool :=
  let l := (List.range 5).map (fun i => pv2 c pHeadMarkColour h (i + 1))
  !hasDup l && l.all (fun v => 128 ≤ max (bits v 23 16) (max (bits v 15 8) (bits v 7 0)))

/-- The area of a session lies in its head's active area (R281). -/
def areaOk (c : Cfg) (x : Nat) : Bool :=
  let a := pv c pEncArea x
  let h := pv c pEncHead x
  comp16 a 0 + comp16 a 2 ≤ pv c pHeadHactive h && comp16 a 1 + comp16 a 3 ≤ pv c pHeadVactive h

/-- The faults of range of a session's settings together (R281): its area, its encoded size, its SSRC and its endpoints. -/
def encRangeFaults (c : Cfg) (recs : List (Nat × SetRec)) (x : Nat) : List Nat :=
  let z := encSize c x
  joint recs [pEncArea, pEncHead, pEncScale, pEncEnable] (!areaOk c x || 4096 < z.1 || 2304 < z.2)
  ++ joint recs [pEncSsrc, pEncEnable] (pv c pEncEnable x == 1 && pv c pEncSsrc x == 0)
  ++ joint recs [pEncDestA, pEncDestB, pEncEnable]
      (pv c pEncEnable x == 1 && (pa c pEncDestA x).fam == 0 && (pa c pEncDestB x).fam == 0)

/-- The timing terms of a head (R196). -/
def timingPids : List Nat :=
  [pHeadPort, pHeadStream, pHeadMstRad, pHeadHactive, pHeadHfp, pHeadHsync, pHeadHbp, pHeadVactive, pHeadVfp, pHeadVsync,
    pHeadVbp, pHeadSyncPol, pHeadMult, pHeadParity, pHeadPhase, pHeadDepth]

/-- The faults of a head's timing (R43, R192, R193): a phase past the frame period is HEAD_PHASE's own. -/
def timingFaults (g : Grid) (t : HeadTiming) (own : List (Nat × SetRec)) : List Nat :=
  let late := (framePeriod g t).num < (t.phase + 1) * (framePeriod g t).den && own.any (fun r => r.2.pid == pHeadPhase)
  joint own (if late then [pHeadPhase] else timingPids) (!timingOk g t)

/-- The touch slot of R337 in nanoseconds, rounded up. -/
def touchSlotNs (c : Cfg) : Nat := ceilDiv (pv c pTouchCountLimit 0 * 1000000) (pv c pTouchXferRate 0) + 8000

/-- The groups that are measured. -/
def touchGroups (c : Cfg) : List Nat := maskBits 8 (pv c pTouchGroupEn 0)

/-- Whether the scan window fits (R337), in thirds of a nanosecond. -/
def touchFits (c : Cfg) : Bool :=
  let g := cfgGrid c
  3 * (1000 * pv c pTouchScanOfs 0 + (touchGroups c).length * touchSlotNs c) + 3000 * g.leadUs
    ≤ pv c pTouchScanDiv 0 * g.p3

/-- The bounds of MEM_SWITCH_OFS (R317). -/
def switchOfsOk (c : Cfg) : Bool :=
  let g := cfgGrid c
  1000 ≤ pv c pMemSwitchOfs 0 && 3000 * (pv c pMemSwitchOfs 0 + g.leadUs + 1000) ≤ g.p3

/-- The exchange wait ends before compose (R246). -/
def xchgOk (c : Cfg) : Bool := pv c pTwinXchgWait 0 + 200 ≤ pv c pTimeDecideLead 0

/-- The neighbours of an electrode lie in its group (R343). -/
def nbrs (c : Cfg) (e : Nat) : List Nat :=
  ((List.range 4).map (comp16 (pv c pTouchNbr e))).filter (fun n => n != 0xFFFF)

/-- The faults of range of the settings together that a SET leaves (R43, R53, R78, R90, R166, R192, R193, R246, R281, R303, R317,
R337, R341). -/
def jointRangeFaults (tick : Nat) (c c' : Cfg) (recs : List (Nat × SetRec)) : List Nat :=
  let g := cfgGrid c'
  let has := fun (l : List Nat) => recs.any (fun r => l.contains r.2.pid)
  (touched recs (paramTable.filterMap (fun p => if isPanePid p.pid then some p.pid else none))).flatMap (fun p =>
    if (tfind c'.panes p).isSome then paneRangeFaults false c' recs p else [])
  ++ (touched recs [pHeadZmode]).flatMap (fun h => joint (recsAt recs h) [pHeadZmode] (zClash c' h))
  ++ (touched recs [pSrcSilenceUs, pSrcGapTimeoutUs, pSrcFrameRate]).flatMap (fun x =>
      joint (recsAt recs x) [pSrcSilenceUs, pSrcGapTimeoutUs, pSrcFrameRate] (pv c' pSrcSilenceUs x ≤ pv c' pSrcGapTimeoutUs x))
  ++ (touched recs [pSrcJitterUs, pSrcFormat]).flatMap (fun x =>
      joint (recsAt recs x) [pSrcJitterUs, pSrcFormat] (is2110 c' x && 2000 < pv c' pSrcJitterUs x))
  ++ (touched recs [pSrcEnable, pSrcDestA, pSrcDestB]).flatMap (fun x =>
      joint (recsAt recs x) [pSrcEnable, pSrcDestA, pSrcDestB]
        (streamOn c' x && pv c' pDecOrigin x == 0 && (pa c' pSrcDestA x).fam == 0 && (pa c' pSrcDestB x).fam == 0))
  ++ (touched recs picturePids).flatMap (fun x => joint (recsAt recs x) picturePids (streamPaneFault c' x))
  ++ (touched recs timingPids).flatMap (fun h => timingFaults g (cfgTiming c' h) (recsAt recs h))
  ++ joint recs [pTimeTickRate] (has [pTimeTickRate] && (List.range 32).any (fun h => !timingOk g (cfgTiming c' h)))
  ++ joint recs [pTimeTickEpoch] (has [pTimeTickEpoch] && (cfgGrid c).decideT tick < g.epoch)
  ++ (touched recs [pHeadWeirLow, pHeadWeirHigh]).flatMap (fun h =>
      joint (recsAt recs h) [pHeadWeirLow, pHeadWeirHigh] (pv c' pHeadWeirHigh h < pv c' pHeadWeirLow h + 10))
  ++ (touched recs [pHeadMarkColour]).flatMap (fun h => joint (recsAt recs h) [pHeadMarkColour] (!marksOk c' h))
  ++ (touched recs (paramsR281.map (fun p => p.pid))).flatMap (fun x => encRangeFaults c' (recsAt recs x) x)
  ++ (if has timingPids then
        (encSessions c').flatMap (fun x => joint recs timingPids (!areaOk c' x)) else [])
  ++ joint recs [pMemHostBase, pMemHostSize]
      (has [pMemHostBase, pMemHostSize] && (pv c' pMemHostBase 0 == 0 || 14336 < pv c' pMemHostBase 0 + pv c' pMemHostSize 0))
  ++ joint recs [pMemSwitchOfs, pTimeTickRate, pTimeDecideLead]
      (has [pMemSwitchOfs, pTimeTickRate, pTimeDecideLead] && !switchOfsOk c')
  ++ joint recs [pTwinXchgWait, pTimeDecideLead] (has [pTwinXchgWait, pTimeDecideLead] && !xchgOk c')
  ++ joint recs [pTouchScanOfs, pTouchGroupEn, pTouchCountLimit, pTouchXferRate, pTouchScanDiv]
      (has [pTouchScanOfs, pTouchGroupEn, pTouchCountLimit, pTouchXferRate, pTouchScanDiv] && !touchFits c')
  ++ (touched recs [pTouchOn, pTouchOff]).flatMap (fun e =>
      joint (recsAt recs e) [pTouchOn, pTouchOff] (pv c' pTouchOn e < pv c' pTouchOff e + 2))
  ++ (touched recs [pTouchNbr]).flatMap (fun e => joint (recsAt recs e) [pTouchNbr] ((nbrs c' e).any (fun n => n / 16 != e / 16)))

/-- The rows of bytes a buffer of a format takes at least (R168, R178). -/
def rowBytes (format w : Nat) : Nat := w * (if format = 2 then 2 else if format = 3 then 1 else 4)

/-- The end of a registered buffer in the host region. -/
def bufEnd (b : BufCfg) : Nat := b.offset + b.stride * b.h

/-- Whether a buffer overlaps another that is registered (R178). -/
def bufOverlaps (c : Cfg) (id off fin : Nat) : Bool :=
  c.bufs.any (fun e => e.1 != id && off < bufEnd e.2 && e.2.offset < fin)

/-- The sum of the eight signed 10-bit taps of a phase (R175). -/
def phaseSums : Nat → Bytes → List Int
  | 0, _ => []
  | n + 1, d => ((List.range 8).foldl (fun a i => a + ofTwos 16 (fld d (2 * i) 2)) 0) :: phaseSums n (d.drop 16)

/-- The first signed taps of a coefficient table (R175). -/
def tapList : Nat → Bytes → List Int
  | 0, _ => []
  | n + 1, d => ofTwos 16 (fld d 0 2) :: tapList n (d.drop 2)

/-- Whether a coefficient table keeps R175: signed 10-bit taps, each phase summing to 256. -/
def coefOk (d : Bytes) : Bool :=
  (phaseSums 64 d).all (· == 256) && (tapList 512 d).all (fun v => decide (-512 ≤ v) && decide (v ≤ 511))

/-- Ring bounds: a size between two powers, a base 4 KiB aligned (R391). -/
def ringFaults (w lo hi log2 base : Nat) : List Nat := atWord w (log2 < lo || hi < log2) ++ atWord 7 (base % 4096 != 0)

/-- Check 5 of R357 on what a command's parameters say, apart from its apply tick. -/
def rangeFaults (s : State) (tick : Nat) (c c' : Cfg) (k : Cmd) : List Nat :=
  let recs := recsOf k
  recRangeFaults recs ++ keyRangeFaults (keysOf k) ++ jointRangeFaults tick c c' recs
  ++ (match k with
    | .sysProfile p f => atWord 6 (2 < p || (if p = 2 then f != 1 && f != 2 else f != 0))
    | .sysShutdown m => atWord 6 (1 < m)
    | .sysEventRead _ m => atWord 8 (m == 0 || 16 < m)
    | .srcStats o _ => atWord 6 (127 < o)
    | .srcFreezeStatus o _ => atWord 6 (127 < o)
    | .srcLedgerRead src sl _ n => atWord 6 (191 < src || 3 < sl) ++ atWord 7 (499 < n)
    | .paneCreate p h _ l =>
      atWord 6 (511 < p || 31 < h)
      ++ (if p ≤ 511 && h ≤ 31 && l == [] then (paneRangeFaults true c' recs p).map (fun _ => 0xFFFF)
          else if p ≤ 511 && h ≤ 31 then paneRangeFaults true c' recs p else [])
    | .paneDelete p => atWord 6 (511 < p)
    | .layerDeclare src f w h _ => atWord 6 (src < 128 || 191 < src || 3 < f || w == 0 || 16384 < w) ++ atWord 7 (h == 0 || 16384 < h)
    | .bufRegister b f w h o st _ =>
      atWord 6 (1023 < b || 3 < f) ++ atWord 7 (w == 0 || 16384 < w || h == 0 || 16384 < h)
      ++ atWord 8 (o % 256 != 0 || pv c pMemHostSize 0 * 2 ^ 20 < o + st * h)
      ++ atWord 10 (st % 256 != 0 || st < rowBytes f w)
      ++ whole (bufOverlaps c b o (o + st * h))
    | .bufUnregister b => atWord 6 (1023 < b)
    | .fenceConfig _ loc a =>
      atWord 6 (1 < loc) ++ atWord 7 (a % 8 != 0 || (loc == 1 && pv c pMemHostSize 0 * 2 ^ 20 < a + 8))
    | .flip g l => atWord 6 (64 ≤ g && l.any (fun x => x.source < 128 || 191 < x.source))
    | .bufState a n => atWord 6 (1024 < a + n)
    | .groupStatus g => atWord 6 (63 < g)
    | .headDark _ d => atWord 7 (1 < d)
    | .colourStage h p _ => atWord 6 (31 < h || 6 < p)
    | .colourCommit h => atWord 6 (31 < h)
    | .scalerCoefLoad n d => atWord 6 (15 < n) ++ whole (!coefOk d)
    | .headStats o _ => atWord 6 (31 < o)
    | .dpSinkInfo h => atWord 6 (31 < h)
    | .playbackRing x _ l b => atWord 6 (127 < x) ++ ringFaults 6 12 20 l b
    | .decStatsRing _ l b => ringFaults 6 16 26 l b
    | .netMirrorRing _ l b => ringFaults 6 16 26 l b
    | .encStats o _ => atWord 6 (15 < o)
    | .decCounters o _ => atWord 6 (127 < o)
    | .twinJoin m => atWord 6 (1 < m)
    | .legendRegister _ p m =>
      atWord 6 (511 < p)
      ++ atWord 7 (s.legends.any (fun e => (match k with | .legendRegister l _ _ => e.1 != l | _ => false) && e.2.mask &&& m != 0))
    | .touchRead g => atWord 6 (7 < g)
    | .cuStart u a f _ => atWord 6 (7 < u || 3 < a || 1 < f)
    | .cuFeed u kind addr len _ =>
      atWord 6 (7 < u || 2 < kind) ++ atWord 9 (len == 0 || 2 ^ 30 < len)
      ++ atWord 7 (kind == 2 && s.life.state != .field && deviceBytes < addr + len)
    | .cuCtxRead u => atWord 6 (7 < u)
    | .cuCtxWrite u _ => atWord 6 (7 < u)
    | .cuFinish u => atWord 6 (7 < u)
    | .cuCompare u m sl _ _ _ _ => atWord 6 (7 < u || 2 < m || (m == 2 && 63 < sl))
    | .cuStore u sl => atWord 6 (7 < u || 63 < sl)
    | .memSetpoint f => atWord 6 (f != 1 && f != 2)
    | .memStats o _ => atWord 6 (7 < o)
    | .diagDpPattern p q _ => atWord 6 (7 < p || 4 < q)
    | .diagEthPrbs p r o => atWord 6 (3 < p || 1 < r || 1 < o)
    | .selftestRun _ p => atWord 7 (1 < p)
    | .fwStage sl _ _ => atWord 6 (1 < sl)
    | .fwActivate sl => atWord 6 (1 < sl)
    | .netStats o _ => atWord 6 (3 < o)
    | _ => [])

/-! ## Check 6: resources -/

/-- The bytes of a stored picture (R115, R168): NV12, or P010 above 8 bits. -/
def pictureBytes (w h depth : Nat) : Nat := (w * h + 2 * (ceilDiv w 2 * ceilDiv h 2)) * (if depth ≤ 8 then 1 else 2)

/-- The bytes that a stream's picture pool takes (R121): DEC_MAX_DPB + 5 pictures with their companions (R129). -/
def poolBytes (c : Cfg) (x : Nat) : Nat :=
  if !streamOn c x || is2110 c x then 0
  else
    let pics := (provided (pv c pDecCompanion x)).map (fun k =>
      pictureBytes (inPic k (pv c pDecMaxW x)) (inPic k (pv c pDecMaxH x)) (pv c pDecMaxDepth x))
    sumNat pics * (pv c pDecMaxDpb x + 5)

/-- Whether the picture pool of a stream changes (R121): one of the first four parameters of R120. -/
def poolChanged (o c : Cfg) (x : Nat) : Bool :=
  [pDecMaxW, pDecMaxH, pDecMaxDepth, pDecMaxDpb].any (fun p => pv o p x != pv c p x)

/-- The parameters on which the picture pools depend, and the host region (R121, R303). -/
def poolPids : List Nat :=
  [pSrcEnable, pSrcFormat, pDecMaxW, pDecMaxH, pDecMaxDepth, pDecMaxDpb, pDecCompanion, pMemHostBase, pMemHostSize]

/-- The bytes allocated to a stream's pool in use. -/
def poolHas (x : Nat) (ps : List Pool) : Nat := sumNat ((ps.filter (fun p => p.stream == x && p.old.isNone)).map (fun p => p.size))

/-- One stream's pool after a change of configuration at a tick (R121, R302): a changed pool becomes an old one beside the new, the pool of a
stream that has ended is given back, and what is wanting is allocated at the lowest free address. None where it finds no room. -/
def settlePool (o c : Cfg) (n x : Nat) (ps : List Pool) : Option (List Pool) :=
  let need := poolBytes c x
  let own := fun (p : Pool) => p.stream == x && p.old.isNone
  let kept := if need = 0 then ps.filter (fun p => !own p)
    else if streamOn o x && poolChanged o c x then ps.map (fun p => if own p then { p with old := some n } else p)
    else ps
  let more := need - poolHas x kept
  if more = 0 then some kept
  else (lowestFree (hostSpan c :: kept.map (fun p => (p.base, p.size))) more).map (fun a => kept ++ [⟨x, a, more, none⟩])

/-- The picture pools after a change of configuration at a tick, where they all fit beside the host region. -/
def settlePools (o c : Cfg) (n : Nat) (ps : List Pool) : Option (List Pool) :=
  let (b, m) := hostSpan c
  if ps.any (fun p => p.base < b + m && b < p.base + p.size) then none
  else (List.range 128).foldl (fun a x => a.bind (settlePool o c n x)) (some ps)

/-- Whether the picture pools fit after a command, at a tick later than those that stand (R121, R302). `c` is the configuration before it. -/
def poolsFit (s : State) (c c' : Cfg) : Bool :=
  match settlePools s.cfg c (s.time.decided + 1) (livePools s) with
  | some ps => (settlePools c c' (s.time.decided + 2) ps).isSome
  | none => false

/-- The members of a flip group (R184). -/
def groupMembers (c : Cfg) (g : Nat) : List Nat := (paneIds c).filter (fun p => pv c pPaneGroup p == g)

/-- Check 6 of R357: IDs, slots and allocations. -/
def resourceFaults (s : State) (c c' : Cfg) (k : Cmd) : List Nat :=
  let recs := recsOf k
  (match k with
    | .paneSet _ => recs.flatMap (fun r => atWord r.1 (isPanePid r.2.pid && (tfind c.panes r.2.index).isNone))
    | .paneGet _ => (keysOf k).flatMap (fun r => atWord r.1 (isPanePid r.2.pid && (tfind c.panes r.2.index).isNone))
    | .paneCreate p h src _ =>
      atWord 6 ((tfind c.panes p).isSome) ++ whole (512 ≤ c.panes.length || 32 ≤ (headPanes c h).length
        || (128 ≤ src && src < 192 && (tfind c.layers src).isNone))
    | .paneDelete p => atWord 6 (tfind c.panes p).isNone
    | .bufRegister b _ _ _ _ _ _ => atWord 6 (tfind c.bufs b).isSome
    | .bufUnregister b => atWord 6 (tfind c.bufs b).isNone
    | .flip _ l => whole (l.any (fun x => (tfind c.fences x.fence).isNone))
    | .legendDelete l => atWord 6 (tfind s.legends l).isNone
    | .diagDpPattern p _ _ => atWord 6 (serdesHeld s (4 + p))
    | .diagEthPrbs _ _ _ => atWord 6 (serdesHeld s 1)
    | .twinJoin _ => whole (serdesHeld s 2 && serdesHeld s 3)
    | _ => [])
  ++ (touched recs [pPaneCompanion, pPaneCrop, pPaneDest, pPaneEnable]).flatMap (fun p =>
      joint (recsAt recs p) [pPaneCompanion, pPaneCrop, pPaneDest] (selectPic c' c'.profile p == .rejResource))
  ++ (touched recs picturePids).flatMap (fun x => joint (recsAt recs x) picturePids
      ((sourcePanes c' x).any (fun p => selectPic c' c'.profile p == .rejResource)))
  ++ (match k with | .paneCreate p _ _ [] => whole (selectPic c' c'.profile p == .rejResource) | _ => [])
  ++ recs.flatMap (fun r => atWord r.1 (
      if r.2.pid = pDpPortMode then serdesHeld s (4 + r.2.index)
      else if r.2.pid = pNetPortMode then serdesHeld s 1
      else if r.2.pid = pPaneGroup then (match r.2.val with
        | .num g => g < 64 && 64 < (groupMembers c' g).length
        | _ => false)
      else false))
  ++ joint recs poolPids (recs.any (fun r => poolPids.contains r.2.pid) && !poolsFit s c c')
  ++ joint recs ((paramsR281.map (fun p => p.pid)) ++ [pHeadMult])
      (recs.any (fun r => r.2.pid / 256 == 7 || r.2.pid == pHeadMult) && !encFits c')

end Sys2Proof.Machine
end

