-- ==== Sys2Proof/Machine/Query.lean ====
section
/-! DEFINITION. What queries return (R362, R381, R387, R390): the blocks of R56, R59, R111, R158, R224, R265, R299, R321, R418,
R427 and the others, as bytes, and what a statistics query's CLEAR clears. -/
namespace Sys2Proof.Machine

/-! ## Parameters -/

/-- A value's bytes (R383). -/
def valBytes : Val → Bytes
  | .num n => le 8 n
  | .addr a => addrBytes a
  | .bytes b => padTo ((b.length + 7) / 8 * 8) b

/-- VLEN of a value (R381). -/
def valLen : Val → Nat
  | .num _ => 8
  | .addr _ => 40
  | .bytes b => b.length

/-- A record as a GET returns it (R381). -/
def recBytes (c : Cfg) (k : GetKey) : Bytes :=
  match paramSpec k.pid with
  | none => []
  | some p =>
    let v := pval c p k.index k.index2
    le 2 k.pid ++ le 2 (valLen v) ++ le 2 k.index ++ le 1 k.index2 ++ le 1 0 ++ valBytes v

/-- The block a GET returns. -/
def getBytes (c : Cfg) (l : List GetKey) : Bytes := le 2 l.length ++ zeros 2 ++ l.flatMap (recBytes c)

/-! ## The ledger -/

/-- The frame header's 64 bytes with HDR_CRC (R56). -/
def hdrBytes (h : FrameHdr) : Bytes :=
  let b := le 1 h.source ++ le 1 (h.slot + 4 * b2n h.spilled + 8 * b2n h.rowtime) ++ le 1 (h.cols - 1) ++ le 1 (h.rows - 1)
    ++ le 4 h.frameSeq ++ le 8 h.captureT ++ le 8 h.arrivalT ++ le 8 h.evidenceT ++ le 8 h.frzSince ++ le 4 h.uGrade4
    ++ le 2 h.timeQual ++ le 2 h.decodeStatus ++ le 2 h.freezeStatus ++ le 1 h.srcState ++ le 1 0
    ++ le 4 (if h.rowtime then 64 else 0) ++ le 4 h.auCrc
  b ++ le 4 (crc32c 0 b).toNat

/-- A tile record's 64-bit word (R59). -/
def tileWord (t : TileRec) : Nat :=
  packFields [(0, 32, t.sig.toNat), (32, 8, t.quietCnt), (40, 8, t.intraRep), (48, 8, t.repCnt), (56, 1, b2n t.sigrep),
    (57, 1, b2n t.hostmod), (58, 1, b2n t.conc), (59, 1, b2n t.taint), (60, 1, b2n t.valid), (61, 3, t.upv)]

/-- The key of a ledger slot. -/
def slotKey (src slot : Nat) : Nat := 4 * src + slot

/-- A ledger slot, where one is filled (R54). -/
def State.slot (s : State) (src slot : Nat) : Option Slot := tfind s.ledger (slotKey src slot)

/-- SRC_LEDGER_READ (R390): the header and the records asked for; 64 zero bytes for an empty slot. -/
def ledgerRead (s : State) (src slot first count : Nat) : Bytes :=
  match s.slot src slot with
  | none => zeros 64
  | some x => hdrBytes x.hdr ++ ((x.tiles.drop first).take count).flatMap (fun t => le 8 (tileWord t))

/-! ## Statistics blocks -/

/-- The counters of a stream (R111). -/
def streamBlock (x : Stream) : Bytes :=
  let c := x.cnt
  le 8 c.pktAccept ++ le 8 c.pathDup ++ le 8 c.pathOnlyA ++ le 8 c.pathOnlyB
  ++ le 8 (nth 0 c.spill 0) ++ le 8 (nth 0 c.spill 1) ++ le 8 (nth 0 c.spill 2) ++ le 8 (nth 0 c.spill 3)
  ++ le 4 c.auComplete ++ le 4 c.auPartial ++ le 4 c.auPreEntry ++ le 4 c.jbLate ++ le 4 c.admitSkip ++ le 4 c.ledgerFull
  ++ le 4 c.sessions ++ le 4 (match x.pktRate with | some n => n / 2 | none => 0xFFFFFFFF) ++ le 1 x.state.code ++ zeros 3 ++ le 4 x.ssrc
  ++ le 8 (x.lastPkt.getD 0)

/-- The freeze status of a stream under its FRZ_TOKEN (R152, R158). -/
def freezeBlock (tokenUse : Nat) (f : Freeze) : Bytes :=
  le 1 (packFields [(0, 1, b2n f.frz), (1, 1, b2n (tokenUse == 2 || (tokenUse == 1 && f.bearing))), (2, 1, b2n f.base.isSome)]) ++ le 1 f.evLast ++ zeros 2
  ++ le 4 f.frameSeq ++ le 8 f.evidenceT.t ++ le 8 f.frzSince.t ++ le 8 f.baseT.t ++ le 8 f.tokenPosT.t ++ le 4 f.tokenCnt
  ++ le 2 f.tokenStat ++ le 1 (min f.badRun 255) ++ le 1 (min f.statRun 255) ++ le 4 f.payloadRun ++ le 4 f.setCount
  ++ le 4 f.override ++ le 4 f.faults ++ le 4 f.jumps ++ le 4 f.neutral

/-- The head statistics (R224). -/
def headBlock (c : HeadCounters) : Bytes :=
  le 4 c.frames ++ le 4 c.underflow ++ le 4 c.fillRows ++ le 4 c.weirLow ++ le 4 c.mismatch ++ le 4 c.transient ++ le 4 c.verify
  ++ le 4 c.verifyMiss ++ le 4 c.retimes ++ le 4 c.linkEvents ++ le 4 c.leadMin ++ zeros 4

/-- The lane that carries each session (R283): descending encoded rate, ties by lower ID, each on the least loaded. -/
def encLane (c : Cfg) (x : Nat) : Nat :=
  let rate := fun (y : Nat) =>
    (encSize c y).1 * (encSize c y).2 * mult2 (pv c pHeadMult (pv c pEncHead y)) * (8 / pv c pEncCadence y)
  let order := sortBy (fun a b => decide (rate b ≤ rate a)) (encSessions c)
  let step := fun (a : List Nat × List (Nat × Nat)) (y : Nat) =>
    let m := a.1.foldl Nat.min (nth 0 a.1 0)
    match findPos (fun v => v == m) 0 a.1 with
    | some (i, v) => (setNth (v + rate y) a.1 i, a.2 ++ [(y, i)])
    | none => a
  match ((order.foldl step (List.replicate 4 0, [])).2.find? (fun p => p.1 == x)) with
  | some (_, i) => i
  | none => 0

/-- The counters of an encode session (R299). -/
def encBlock (c : EncCounters) (lane : Nat) : Bytes :=
  le 4 c.frames ++ le 4 c.skipped ++ le 4 c.idrs ++ le 4 c.dryRows ++ le 4 c.dryFrames ++ le 4 c.idrOverrun ++ le 4 c.suppressed
  ++ le 4 c.linkDown ++ le 8 c.bits ++ le 8 c.packets ++ le 4 (twos 32 c.levelMin) ++ le 1 c.qpLast ++ le 1 lane ++ zeros 2

/-- The counters of DEC_COUNTERS (R390). -/
def decBlock (c : StreamCounters) (drop : Nat) : Bytes :=
  le 4 c.idleDiscard ++ le 4 c.dropNonref ++ le 4 c.raslSkip ++ le 4 c.hashSkip ++ le 4 drop

/-- The twin counters (R265). -/
def twinBlock (s : State) : Bytes :=
  let t := s.twin
  let c := t.cnt
  le 8 c.framesTx ++ le 8 c.framesRx ++ le 4 c.frameErr ++ le 4 c.corrected ++ le 4 c.xchgLate ++ le 4 c.sigLate ++ le 4 c.mismatch
  ++ le 4 c.transients ++ le 4 c.divergences ++ le 4 c.outOfStep ++ le 8 c.borrowed ++ le 8 c.lent ++ le 4 c.refused
  ++ le 4 c.notHeld ++ le 4 c.hbFlume ++ le 4 c.hbPin ++ le 4 c.hbUdp ++ le 4 c.snapshots ++ le 1 t.lanesUsed ++ le 1 t.mode.code
  ++ le 1 (packFields [(0, 1, b2n t.withdrawn), (1, 1, b2n t.peerWithdrawn), (2, 1, b2n s.timeLead), (3, 1, b2n t.replaced)])
  ++ zeros 5 ++ le 8 (t.snapT.getD 0) ++ t.prbsErr.flatMap (le 4)

/-- The memory counters of a channel (R321). -/
def memBlock (m : Mem) (ch : Nat) : Bytes :=
  let x := tget chanInit m.chans ch
  let c := x.cnt
  le 8 c.readBytes ++ le 8 c.writeBytes ++ le 4 c.ce ++ le 4 c.ue ++ le 4 c.addrFaults ++ le 4 c.overdue ++ le 4 c.forcedRef
  ++ le 4 c.switches ++ le 4 c.switchMax ++ le 1 x.rate ++ le 1 m.fsp ++ le 1 (2 * b2n x.rank1Pd) ++ zeros 1 ++ le 4 c.scanMax
  ++ zeros 4

/-- NET_STATS (R390). -/
def netBlock (s : State) (p : Nat) : Bytes :=
  let e := s.ethPort p
  le 8 e.fcsErr ++ le 8 e.unmatched ++ le 8 e.framesRx ++ le 8 e.framesTx ++ le 4 s.mirrorDrop ++ le 4 s.cmd.authFail
  ++ le 1 (maskBy 4 (fun i => (s.ethPort i).link)) ++ zeros 3

/-! ## Other results -/

/-- TIME_STATUS's answer (R390). -/
def timeStatusBytes (s : State) : Bytes :=
  let dom := fun (d : Nat) =>
    let e := s.est d
    le 1 (b2n (s.estValid d)) ++ le 1 (domNumber s.cfg d) ++ zeros 2 ++ le 4 e.window.length ++ le 8 (e.selected.getD 0)
    ++ le 8 (twos 64 (e.mean s.time.phase)) ++ le 4 (e.sd s.time.phase) ++ le 4 (natOf (e.pathDelay.getD 0 / 1000))
  le 1 s.time.state.code ++ le 1 (b2n s.time.slewing + 2 * s.time.servoDom) ++ zeros 2 ++ le 4 s.time.uWall
  ++ le 8 (twos 64 (s.time.dRem / 1000)) ++ dom 0 ++ dom 1

/-- The digest of the running firmware image (R429). -/
def State.fwDigest (s : State) : Bytes :=
  padTo 32 (Config.sha256 (if s.life.runningB then s.life.slotB else s.life.slotA))

/-- The security version of the running image (R430). -/
def State.secVersion (s : State) : Nat := Config.firmwareSecurity (if s.life.runningB then s.life.slotB else s.life.slotA) % 2 ^ 32

/-- SYS_INFO (R390). -/
def sysInfo (s : State) : Bytes :=
  s.life.uid ++ le 4 s.cmd.sysRev.toNat ++ le 1 (b2n s.power.variantE) ++ zeros 3 ++ s.fwDigest

/-- SYS_EVENT_READ (R375): up to `max` records from a number on, EVQ_GAP first where it is older than the history. -/
def eventRead (s : State) (frm max : Nat) : List EventRec :=
  let h := s.events.history.filter (fun e => frm ≤ e.seq)
  let oldest := match s.events.history with | e :: _ => e.seq | [] => s.events.next
  if frm < oldest then (gapRec (frm, oldest - 1) s.time.now s.seatB :: h).take max else h.take max

/-- The state of a buffer as BUF_STATE codes it (R390). -/
def bufCode (s : State) (b : Nat) : Nat :=
  if (tfind s.cfg.bufs b).isNone then 3 else if (s.buf b).state = 0 && (queuedBufs s).contains b then 1 else (s.buf b).state

/-- GROUP_STATUS (R390). -/
def groupBytes (s : State) (g : Nat) : Bytes :=
  let x := s.group g
  le 1 (b2n x.pending.isSome) ++ zeros 3 ++ le 4 x.stall ++ le 4 x.late
  ++ le 8 (maskOf ((findAll x.notReady (groupMembers s.cfg g)).filter (fun i => i < 64)))
where
  /-- The places in the member list of the panes that are not ready. -/
  findAll (nr members : List Nat) : List Nat :=
    (countFrom 0 members.length).filter (fun i => nr.contains (nth 0 members i))

/-- DP_SINK_INFO (R207, R390). -/
def sinkBytes (s : State) (h : Nat) : Bytes :=
  let p := s.dpPort ((s.head h).timing.port.getD 0)
  let p := if (s.head h).timing.port.isSome then p else dpInit
  let i := if p.mode = 2 then tget ⟨[], []⟩ p.sinks h else ⟨p.dpcd, p.edid⟩
  let e := i.edid.take 512
  padTo 256 i.dpcd ++ le 2 e.length ++ zeros 2 ++ e

/-- TOUCH_READ (R390). -/
def touchBytes (s : State) (g : Nat) : Bytes :=
  (List.range 16).flatMap (fun i =>
    let e := tget electrodeInit s.touch.els (16 * g + i)
    le 2 e.count ++ le 2 (e.base / 16) ++ le 2 (twos 16 ((e.base / 16 : Int) - e.count))
    ++ le 1 (match e.state with | .released => 0 | .pressed => 1 | .stuck => 2 | .fault => 3) ++ zeros 1)

/-- The self-test record's 64 bytes (R418). -/
def testBytes (r : TestRecord) : Bytes :=
  let b := le 1 1 ++ le 1 r.source ++ le 1 r.result ++ le 1 r.precond ++ le 4 r.durationMs ++ le 8 r.endT ++ le 8 r.endOnS
    ++ le 2 r.sramCov ++ le 2 r.stuckCov ++ le 2 r.transCov ++ le 2 r.failDecode ++ le 2 r.failCompose ++ le 2 r.untested
    ++ le 2 r.failSerdes ++ le 2 r.sramFail ++ le 9 r.failScaler ++ zeros 1 ++ le 2 (twos 16 r.tjMin) ++ le 2 (twos 16 r.tjMax)
    ++ zeros 2 ++ le 4 r.recSeq
  b ++ le 4 (crc32c 0 b).toNat

/-- DIAG_THERMAL (R390): sixteen readings, the faulty mask and MR4 of each channel. -/
def thermalBytes (s : State) : Bytes :=
  (List.range 16).flatMap (fun i => le 2 (twos 16 (tget sensorInit s.power.sensors i).reading))
  ++ le 2 (maskBy 16 (fun i => (tget sensorInit s.power.sensors i).faulty))
  ++ (List.range 8).flatMap (fun c => le 1 (tget chanInit s.mem.chans c).rate)

/-- The attestation report (R429). -/
def attestBytes (s : State) (nonce : Bytes) : Bytes :=
  let b := le 1 1 ++ le 1 s.life.state.code
    ++ le 1 (b2n s.life.unadopted + 2 * b2n (match s.test.record with | some r => r.quickOk && !s.test.expired | none => false))
    ++ zeros 1 ++ le 4 s.secVersion ++ s.life.uid ++ (s.life.installId.getD (zeros 16)) ++ nonce ++ s.fwDigest ++ le 8 s.time.now
    ++ s.life.challenge
  b ++ Config.ecdsaSign (Config.sha256 b)

/-- The result of a query (R390). -/
def queryResult (s : State) (k : Cmd) : Bytes :=
  match k with
  | .sysGet l => getBytes s.cfg l
  | .timeGet l => getBytes s.cfg l
  | .srcGet l => getBytes s.cfg l
  | .paneGet l => getBytes s.cfg l
  | .headGet l => getBytes s.cfg l
  | .codecGet l => getBytes s.cfg l
  | .twinGet l => getBytes s.cfg l
  | .touchGet l => getBytes s.cfg l
  | .memGet l => getBytes s.cfg l
  | .netGet l => getBytes s.cfg l
  | .sysInfo => sysInfo s
  | .sysEventRead f m => (eventRead s f m).flatMap eventBytes
  | .timeStatus => timeStatusBytes s
  | .srcStats o _ => streamBlock (s.stream o)
  | .srcFreezeStatus o _ => freezeBlock (pv s.cfg pFrzToken o) (s.frz o)
  | .srcLedgerRead a b c d => ledgerRead s a b c d
  | .bufState a n => (countFrom a n).flatMap (fun b => le 1 (bufCode s b))
  | .groupStatus g => groupBytes s g
  | .headStats o _ => headBlock (s.head o).cnt
  | .dpSinkInfo h => sinkBytes s h
  | .encStats o _ => encBlock (s.session o).cnt (encLane s.cfg o)
  | .decCounters o _ => decBlock (s.stream o).cnt s.decDrop
  | .twinStats _ _ => twinBlock s
  | .touchRead g => touchBytes s g
  | .memStats o _ => memBlock s.mem o
  | .selftestResult => (match s.test.record with | some r => testBytes r | none => zeros 64)
  | .diagThermal => thermalBytes s
  | .attest n => attestBytes s n
  | .certRead => s.life.cert
  | .netStats o _ => netBlock s o
  | _ => []

/-- What a statistics query's CLEAR sets to 0: that block's counters and nothing else (R111, R158, R224, R265, R299, R321,
R387). -/
def queryClear (k : Cmd) (s : State) : State :=
  match k with
  | .srcStats o true => s.modStream o (fun x => { x with cnt := { streamCntInit with
      idleDiscard := x.cnt.idleDiscard, dropNonref := x.cnt.dropNonref, raslSkip := x.cnt.raslSkip, hashSkip := x.cnt.hashSkip } })
  | .srcFreezeStatus o true => s.modFrz o (fun f => { f with setCount := 0, override := 0, faults := 0, jumps := 0, neutral := 0 })
  | .headStats o true => s.modHead o (fun h => { h with cnt := headCntInit })
  | .encStats o true => s.modSession o (fun x => { x with cnt := encCntInit })
  | .decCounters o true =>
    { (s.modStream o (fun x => { x with cnt := { x.cnt with idleDiscard := 0, dropNonref := 0, raslSkip := 0, hashSkip := 0 } }))
      with decDrop := 0 }
  | .twinStats _ true => { s with twin := { s.twin with cnt := twinCntInit, prbsErr := List.replicate 8 0 } }
  | .memStats o true =>
    { s with mem := { s.mem with chans := tmod chanInit o (fun x => { x with cnt := chanInit.cnt }) s.mem.chans } }
  | .netStats o true =>
    { (s.modEthPort o (fun e => { e with fcsErr := 0, unmatched := 0, framesRx := 0, framesTx := 0 }))
      with mirrorDrop := 0, cmd := { s.cmd with authFail := 0 } }
  | _ => s

/-- The newest event a reader over SPI has been given (R370). -/
def noteSpiRead (t : Transport) (k : Cmd) (s : State) : State :=
  match t, k with
  | .spi, .sysEventRead f m =>
    let last := ((eventRead s f m).map (fun e => e.seq + 1)).foldl Nat.max s.events.spiRead
    { s with events := { s.events with spiRead := last } }
  | _, _ => s

end Sys2Proof.Machine
end

