-- ==== Sys2Proof/Machine/Pixels.lean ====
section
/-! DEFINITION. Source pixels and their composition: stored samples and companions (R129, R168), the colour key (R167), conversion
to the working format (R164, R169), scaling (R175) and blending (R165). Components have 12 bits. -/
namespace Sys2Proof.Machine

/-! ## Stored samples -/

/-- Bytes of a stored sample (R168): 1 for NV12, 2 for P010. -/
def Slot.sampleBytes (x : Slot) : Nat := if x.depth ≤ 8 then 1 else 2

/-- A stored sample's value: 8 bits, or the 10 bits in [15:6]. -/
def Slot.sampleAt (x : Slot) (b : Bytes) (i : Nat) : Nat :=
  if x.sampleBytes = 1 then fld b i 1 else fld b (2 * i) 2 / 64

/-- The bytes of a source tile. -/
def Slot.tileBytes (x : Slot) (tx ty : Nat) : Bytes := nth [] x.samples (ty * tileCols x.width + tx)

/-- The luma sample at a position, the picture's edge repeated beyond it. -/
def Slot.lumaAt (x : Slot) (px py : Nat) : Nat :=
  let a := min px (x.width - 1)
  let b := min py (x.height - 1)
  let tw := min 64 (x.width - a / 64 * 64)
  x.sampleAt (x.tileBytes (a / 64) (b / 64)) (b % 64 * tw + a % 64)

/-- The chroma samples Cb and Cr at a chroma position, the edge repeated beyond it. -/
def Slot.chromaAt (x : Slot) (px py : Nat) : Nat × Nat :=
  let a := min px ((x.width + 1) / 2 - 1)
  let b := min py ((x.height + 1) / 2 - 1)
  let tw := min 64 (x.width - a / 32 * 64)
  let th := min 64 (x.height - b / 32 * 64)
  let i := tw * th + 2 * (b % 32 * ((tw + 1) / 2) + a % 32)
  let t := x.tileBytes (a / 32) (b / 32)
  (x.sampleAt t i, x.sampleAt t (i + 1))

/-- The mean of a block, rounded to nearest with ties up (R129). -/
def meanOf (l : List Nat) : Nat := (2 * sumNat l + l.length) / (2 * l.length)

/-- The samples of the block that a companion sample covers (R129). -/
def blockOf (pic : Nat) (f : Nat → Nat → Nat) (px py : Nat) : Nat :=
  let k := 2 ^ pic
  meanOf ((List.range k).flatMap (fun j => (List.range k).map (fun i => f (px * k + i) (py * k + j))))

/-- The luma sample of the selected picture. -/
def Slot.lumaIn (x : Slot) (pic px py : Nat) : Nat := if pic = 0 then x.lumaAt px py else blockOf pic x.lumaAt px py

/-- The chroma samples of the selected picture. -/
def Slot.chromaIn (x : Slot) (pic px py : Nat) : Nat × Nat :=
  if pic = 0 then x.chromaAt px py
  else (blockOf pic (fun a b => (x.chromaAt a b).1) px py, blockOf pic (fun a b => (x.chromaAt a b).2) px py)

/-! ## Host layers -/

/-- The bytes of a pixel of a host format (R168). -/
def formatBytes (f : Nat) : Nat := if f = 2 then 2 else if f = 3 then 1 else 4

/-- The stored pixel word of a buffer (R168), read from DRAM. -/
def hostWord (s : State) (b : BufCfg) (px py : Nat) : Nat :=
  let n := formatBytes b.format
  ofLe (dramRead s.dram (hostBase s.cfg + b.offset + py * b.stride + px * n) n)

/-- 8 bits widened to 12 by bit replication (R169). -/
def widen8 (v : Nat) : Nat := v * 16 + v / 16

/-- 10 bits widened to 12. -/
def widen10 (v : Nat) : Nat := v * 4 + v / 256

/-- 6 bits widened to 12. -/
def widen6 (v : Nat) : Nat := v * 64 + v

/-- 5 bits widened to 12. -/
def widen5 (v : Nat) : Nat := v * 128 + v * 4 + v / 8

/-- A pixel in the working format: R, G, B and alpha. -/
structure Px where
  r : Nat
  g : Nat
  b : Nat
  a : Nat
  deriving DecidableEq, Repr

/-- A transparent pixel. -/
def Px.clear : Px := ⟨0, 0, 0, 0⟩

/-- A component of an RGB source, expanded where the range is LIMITED (R169). -/
def rgbComp (limited : Bool) (depth v : Nat) (widened : Nat) : Nat := if limited then Config.expandLimited depth v else widened

/-- A host pixel in the working format (R168, R169). -/
def hostPx (b : BufCfg) (limited : Bool) (w : Nat) : Px :=
  let rgba := fun (v : Nat) =>
    (⟨rgbComp limited 8 (bits v 7 0) (widen8 (bits v 7 0)), rgbComp limited 8 (bits v 15 8) (widen8 (bits v 15 8)),
      rgbComp limited 8 (bits v 23 16) (widen8 (bits v 23 16)), widen8 (bits v 31 24)⟩ : Px)
  if b.format = 0 then rgba w
  else if b.format = 1 then
    ⟨rgbComp limited 10 (bits w 29 20) (widen10 (bits w 29 20)), rgbComp limited 10 (bits w 19 10) (widen10 (bits w 19 10)),
      rgbComp limited 10 (bits w 9 0) (widen10 (bits w 9 0)), 1365 * bits w 31 30⟩
  else if b.format = 2 then
    ⟨rgbComp limited 5 (bits w 15 11) (widen5 (bits w 15 11)), rgbComp limited 6 (bits w 10 5) (widen6 (bits w 10 5)),
      rgbComp limited 5 (bits w 4 0) (widen5 (bits w 4 0)), 4095⟩
  else rgba (fld b.palette (4 * w) 4)

/-! ## One source pixel -/

/-- Whether the colour key takes a stored value (R167). -/
def keyed (p : PaneIn) (v : Nat) : Bool := p.keyEn && (v &&& p.keyMask) == (p.key &&& p.keyMask)

/-- The stored word of a YCbCr pixel that the key sees (R167, R168, log entry 103): Y in [31:16] as it is stored, Cb in [15:8] or
[15:6], and the upper bits of Cr below. -/
def keyWord (x : Slot) (y cb cr : Nat) : Nat :=
  if x.depth ≤ 8 then y * 65536 + cb * 256 + cr else y * 64 * 65536 + cb * 64 + cr / 16

/-- The matrix of a pane on a source (R169): 1 BT601, 2 BT709, 3 BT2020. -/
def matrixOf (p : PaneIn) (x : Slot) : Nat :=
  if p.csc != 0 then p.csc
  else if x.vuiMatrix = 1 ∨ x.vuiMatrix = 3 then x.vuiMatrix else 2

/-- Whether the range of a pane on a source is full (R169). -/
def fullRange (p : PaneIn) (x : Slot) : Bool := if p.range = 0 then x.vuiFull == 1 else p.range == 2

/-- A chroma position held within the crop on an axis (R175): the crop's edge samples are repeated. -/
def inCrop (p : PaneIn) (vertical : Bool) (c : Nat) : Nat :=
  let (o, l) := cropAxis p vertical
  max (o / 2) (min c ((o + l - 1) / 2))

/-- A network pixel of the selected picture in the working format, unscaled (R169): its chroma is taken from the samples next
to it within the crop (R175). -/
def networkPx (p : PaneIn) (x : Slot) (px py : Nat) : Px :=
  let y := x.lumaIn p.pic px py
  let cx := px / 2
  let nx := inCrop p false (cx + px % 2)
  let cy := py / 2
  let ny := inCrop p true (if py % 2 = 0 then cy - 1 else cy + 1)
  let near := [x.chromaIn p.pic cx cy, x.chromaIn p.pic nx cy, x.chromaIn p.pic cx ny, x.chromaIn p.pic nx ny]
  let v := Config.yccPixel (matrixOf p x) (b2n (fullRange p x)) x.depth y near (px % 2, py % 2)
  ⟨min 4095 v.1, min 4095 v.2.1, min 4095 v.2.2, 4095⟩

/-- The buffer that a host-layer slot names. -/
def slotBuf (s : State) (x : Slot) : Option BufCfg :=
  match x.buf with
  | some b => tfind s.cfg.bufs b
  | none => none

/-- The stored value that the key sees at a position of the selected picture (R167). -/
def storedWord (s : State) (p : PaneIn) (x : Slot) (px py : Nat) : Nat :=
  if p.source < 128 then
    let c := x.chromaIn p.pic (px / 2) (py / 2)
    keyWord x (x.lumaIn p.pic px py) c.1 c.2
  else
    match slotBuf s x with
    | some b => hostWord s b px py
    | none => 0

/-- Whether a source pixel is transparent: outside the picture (R162), or keyed out (R167). -/
def emptyPx (s : State) (p : PaneIn) (x : Slot) (px py : Nat) : Bool :=
  x.width ≤ px * 2 ^ p.pic || x.height ≤ py * 2 ^ p.pic || (p.keyEn && keyed p (storedWord s p x px py))

/-- A pixel of a pane's selected picture in the working format (R164): OPAQUE takes its alpha as 1. -/
def sourcePx (s : State) (p : PaneIn) (x : Slot) (px py : Nat) : Px :=
  if emptyPx s p x px py then Px.clear
  else if p.source < 128 then networkPx p x px py
  else
    match slotBuf s x with
    | some b =>
      let q := hostPx b (p.range == 1) (hostWord s b px py)
      if p.blend = 0 then { q with a := 4095 } else q
    | none => Px.clear

/-! ## One pane pixel on the head -/

/-- The slot that a pane shows in a head frame. -/
def paneSlot (s : State) (p : PaneIn) : Option Slot :=
  match p.slot with
  | some k => s.slot p.source k
  | none => none

/-- The samples of the selected picture that one head pixel reads, chroma apart. -/
def lumaReads (p : PaneIn) (hx hy : Nat) : (Nat × Nat) × (Nat × Nat) :=
  let (dx, dy, dw, dh) := p.dest
  let ox := natOf ((hx : Int) - dx)
  let oy := natOf ((hy : Int) - dy)
  let (cx, lx) := cropAxis p false
  let (cy, ly) := cropAxis p true
  (axisSpan (!p.isUnscaled) false cx lx dw (tapsOf p false) false ox (ox + 1),
   axisSpan (!p.isUnscaled) false cy ly dh (tapsOf p true) true oy (oy + 1))

/-- The chroma samples that one head pixel of a scaled YCbCr pane reads on an axis, first and last (R169): chroma coordinates within the
crop, whose edge samples are repeated (R175). -/
def chromaReads (p : PaneIn) (vertical : Bool) (h : Nat) : Nat × Nat :=
  let (dx, dy, dw, dh) := p.dest
  let o := natOf ((h : Int) - (if vertical then dy else dx))
  let c := chromaSpan true (cropAxis p vertical).2 (if vertical then dh else dw) (tapsOf p vertical) vertical o (o + 1)
  (inCrop p vertical ((cropAxis p vertical).1 / 2 + natOf (c.1 / 2)), inCrop p vertical ((cropAxis p vertical).1 / 2 + natOf ((c.2 - 1) / 2)))

/-- A scaled pixel (R164, R169, R175): a value of its filter support alone. The luma and the chroma samples of a YCbCr source reach the
scaler at their own resolutions, with the transparency of the luma sample; an RGB pixel is converted before it is filtered. Where the support
has one alpha, that is its alpha. -/
def scaledPx (s : State) (p : PaneIn) (x : Slot) (hx hy : Nat) : Px :=
  let ((xa, xb), (ya, yb)) := lumaReads p hx hy
  let at' := (countFrom ya (yb + 1 - ya)).flatMap (fun j => (countFrom xa (xb + 1 - xa)).map (fun i => (i, j)))
  let sup := at'.map (fun q =>
    if p.source < 128 then (if emptyPx s p x q.1 q.2 then [0, 0] else [x.lumaIn p.pic q.1 q.2, 4095])
    else let v := sourcePx s p x q.1 q.2; [v.r, v.g, v.b, v.a])
  let (ca, cb) := chromaReads p false hx
  let (da, db) := chromaReads p true hy
  let chroma := if p.source < 128 then
      (countFrom da (db + 1 - da)).flatMap (fun j => (countFrom ca (cb + 1 - ca)).map (fun i => x.chromaIn p.pic i j))
    else []
  let (dx, dy, dw, dh) := p.dest
  let v := Config.scaledPixel
    [p.filter, tapsOf p true, (cropAxis p false).2, (cropAxis p true).2, dw, dh, natOf ((hx : Int) - dx), natOf ((hy : Int) - dy),
      matrixOf p x, b2n (fullRange p x), x.depth]
    p.coef sup chroma
  let a := match sup.map (fun q => nth 0 q.reverse 0) with
    | [] => 0
    | q :: r => if r.all (fun z => z == q) then q else min 4095 v.2.2.2
  ⟨min 4095 v.1, min 4095 v.2.1, min 4095 v.2.2.1, a⟩

/-- INT_COLOUR as a working pixel (R170, R383): RGBA with R in [31:24]. -/
def intColour (v : Nat) : Px := ⟨widen8 (bits v 31 24), widen8 (bits v 23 16), widen8 (bits v 15 8), widen8 (bits v 7 0)⟩

/-- A pixel from a number of 36 bits, opaque. -/
def rgb36 (v : Nat) : Px := ⟨bits v 35 24, bits v 23 12, bits v 11 0, 4095⟩

/-- A pixel of a pattern source (R170), at its place in the destination and on the head: bars, ramp, grid at the head's tile pitch, cells of
the checkerboard, or the frame counter in glyphs. The colours, the bars' widths and the glyphs' layout are free (log entry 111). -/
def patternPx (kind dw ox oy hx hy frame : Nat) : Px :=
  match kind with
  | 0 => rgb36 (Config.patternColour 0 (Config.barAt dw ox))
  | 1 => let v := min 4095 (Config.rampLevel dw ox); ⟨v, v, v, 4095⟩
  | 2 => rgb36 (Config.patternColour 2 (b2n (hx % 64 == 0 || hy % 64 == 0)))
  | 3 => rgb36 (Config.patternColour 3 ((ox / 64 + oy / 64) % 2))
  | _ => rgb36 (Config.patternColour 4 (b2n (Config.overlayPixel ((Nat.toDigits 10 frame).map Char.toNat) ox oy)))

/-- A pixel of an internal source (R170), with the settings that the head frame has latched: the ground of an age overlay under OPAQUE has a
colour that the spec does not state. -/
def internalPx (frame : Nat) (overlay : PaneIn → List Nat) (p : PaneIn) (hx hy : Nat) : Px :=
  let (dx, dy, dw, _) := p.dest
  let ox := natOf ((hx : Int) - dx)
  let oy := natOf ((hy : Int) - dy)
  if p.source < 224 then intColour p.colour
  else if p.source < 240 then patternPx p.pattern dw ox oy hx hy frame
  else if Config.overlayPixel (overlay p) ox oy then intColour p.colour
  else if p.blend = 0 then rgb36 (Config.overlayGround p.source)
  else Px.clear

/-- A pixel of a pane at a head position, in the working format (R164, R170, R173). `overlay` is the text of an age overlay
(R170). -/
def panePx (s : State) (frame : Nat) (overlay : PaneIn → List Nat) (p : PaneIn) (hx hy : Nat) : Px :=
  let (dx, dy, _, _) := p.dest
  let ox := natOf ((hx : Int) - dx)
  let oy := natOf ((hy : Int) - dy)
  if p.source < 192 then
    match paneSlot s p with
    | some x =>
      if p.isUnscaled then sourcePx s p x ((cropAxis p false).1 + ox) ((cropAxis p true).1 + oy) else scaledPx s p x hx hy
    | none => Px.clear
  else
    let q := internalPx frame overlay p hx hy
    if p.blend = 0 then { q with a := 4095 } else q

/-- The effective alpha of a pane's pixel, in units of 1 / (4095 × 255) (R164). -/
def effAlpha (p : PaneIn) (q : Px) : Nat := q.a * p.alpha

/-- Whether a pane's pixel has no content: its source pixel is keyed out or lies outside the picture (R162, R167). -/
def noContent (s : State) (p : PaneIn) (hx hy : Nat) : Bool :=
  if 192 ≤ p.source then false
  else
    match paneSlot s p with
    | none => true
    | some x =>
      let ((xa, xb), (ya, yb)) := lumaReads p hx hy
      (countFrom ya (yb + 1 - ya)).all (fun j => (countFrom xa (xb + 1 - xa)).all (fun i => emptyPx s p x i j))

/-- One component blended (R165), rounded to nearest: `e` in units of 1 / 1,044,225. -/
def blendComp (p : PaneIn) (e c d : Nat) : Nat :=
  let den := 4095 * 255
  let top := if p.blend = 2 then p.alpha * 4095 * c else e * c
  min 4095 ((2 * (top + (den - e) * d) + den) / (2 * den))

/-- A pane's pixel blended over the colour beneath it (R165). -/
def blendPx (p : PaneIn) (e : Nat) (c d : Px) : Px :=
  ⟨blendComp p e c.r d.r, blendComp p e c.g d.g, blendComp p e c.b d.b, 4095⟩

/-- The head background in the working format (R165). -/
def bgPx (v : Nat) : Px := ⟨widen8 (bits v 23 16), widen8 (bits v 15 8), widen8 (bits v 7 0), 4095⟩

/-- A mid-grey pixel (R309, R313). -/
def greyPx : Px := ⟨2048, 2048, 2048, 4095⟩

/-- The picture at a head position (R165): the panes visible there, bottom first, over the background. The output lines of the panes in `grey`
are mid-grey before they are blended (R313). -/
def composePx (s : State) (frame bg : Nat) (overlay : PaneIn → List Nat) (grey : List Nat) (panes : List PaneIn) (hx hy : Nat) : Px :=
  panes.foldl (fun d p =>
    let q := if grey.contains p.pane then greyPx else if noContent s p hx hy then Px.clear else panePx s frame overlay p hx hy
    blendPx p (effAlpha p q) q d) (bgPx bg)

end Sys2Proof.Machine
end

