-- ==== Sys2Proof/Machine/Sluice.lean ====
section
/-! DEFINITION. The Sluice: which guarded source tiles contribute to an output tile (R70), their ages and verdicts (R41, R65,
R66), the head-level facts (R68, R249, R250), and the marks and labels drawn on the glass (R73 to R78). -/
namespace Sys2Proof.Machine

/-! ## Contributions (R70) -/

/-- The size of the picture that a pane shows in a head frame, 0 by 0 where it shows none. -/
def shownSize (s : State) (p : PaneIn) : Nat × Nat :=
  match paneSlot s p with
  | some x => (x.width, x.height)
  | none => (0, 0)

/-- The panes of a head frame placed on its active area, bottom first, each with the picture it shows (R162, R171). -/
def placedRun (s : State) (ps : List PaneIn) (w h : Nat) : List Placed :=
  ps.map (fun p => ⟨p, p.clip w h, p.opaqueIn s.cfg.layers (shownSize s p).1 (shownSize s p).2⟩)

/-- The rectangle of an output tile (R2). -/
def tileRect (t : HeadTiming) (row col : Nat) : Rect :=
  ⟨64 * col, 64 * row, min t.hactive (64 * col + 64), min t.vactive (64 * row + 64)⟩

/-- The cells of a region of a head frame. -/
def frameCells (s : State) (h : Nat) (fi : FrameIn) (r : Rect) : List Cell :=
  let t := (s.head h).timing
  cellsOf r (placedRun s fi.panes t.hactive t.vactive)

/-- Whether every pixel of a pane has a non-zero effective alpha. -/
def wholeAlpha (s : State) (p : PaneIn) : Bool :=
  p.alpha != 0 && { p with alpha := 255 }.opaqueIn s.cfg.layers (shownSize s p).1 (shownSize s p).2

/-- The pixels of a rectangle. -/
def Rect.pixels (r : Rect) : List (Nat × Nat) :=
  (countFrom r.y0 (r.y1 - r.y0)).flatMap (fun y => (countFrom r.x0 (r.x1 - r.x0)).map (fun x => (x, y)))

/-- Whether a pane contributes to a head pixel at which it is visible (R70). A guarded pane that has shown no frame yet has no
pixels of its own and counts throughout its visible region (R66, R76). -/
def contributesAt (s : State) (fi : FrameIn) (p : PaneIn) (x y : Nat) : Bool :=
  p.guarded && p.alpha != 0
  && (p.slot.isNone || wholeAlpha s p
    || (!noContent s p x y && effAlpha p (panePx s fi.tick (fun _ => []) p x y) != 0))

/-- The source tiles of a pane that contribute through a rectangle of its visible region, as (row, column), or none where
nothing contributes. -/
def rectTiles (s : State) (fi : FrameIn) (p : PaneIn) (r : Rect) : Option (List (Nat × Nat)) :=
  if !p.guarded || p.alpha == 0 then none
  else if p.slot.isNone then some []
  else if wholeAlpha s p then some (readSourceTiles p r)
  else
    match r.pixels.filter (fun q => contributesAt s fi p q.1 q.2) with
    | [] => none
    | l => some (l.flatMap (fun q => readSourceTiles p ⟨q.1, q.2, q.1 + 1, q.2 + 1⟩))

/-- A guarded pane that contributes to an output tile, and its contributing source tiles. -/
structure Contrib where
  pane  : PaneIn
  tiles : List (Nat × Nat)
  deriving DecidableEq, Repr

/-- The contributions of one pane over some cells. -/
def paneContrib (s : State) (fi : FrameIn) (cells : List Cell) (p : PaneIn) : Option Contrib :=
  let l := (cells.filter (fun q => q.panes.any (fun v => v.pane == p.pane))).filterMap (fun q => rectTiles s fi p q.rect)
  let inside := fun (a : Nat × Nat) => match paneSlot s p with
    | some x => a.1 < x.hdr.rows && a.2 < x.hdr.cols
    | none => false
  if l == [] then none else some ⟨p, (dedup l.flatten).filter inside⟩

/-- The contributions to an output tile (R70). -/
def tileContribs (s : State) (h : Nat) (fi : FrameIn) (row col : Nat) : List Contrib :=
  let cells := frameCells s h fi (tileRect (s.head h).timing row col)
  fi.panes.filterMap (paneContrib s fi cells)

/-! ## Ages and source tile verdicts (R41, R65, R66) -/

/-- U_GRADE of a frame in nanoseconds, none where it is unbounded (R36, R56). -/
def FrameHdr.uGrade (x : FrameHdr) : Option Nat := if x.uGrade4 = 0xFFFFFFFF then none else some (4 * x.uGrade4)

/-- The capture grade of a frame (R36, R57). -/
def FrameHdr.grade (x : FrameHdr) : Nat := x.timeQual % 4

/-- U_TOTAL of a frame on a head frame (R41), none where a term is unbounded. -/
def uTotal (g : Grid) (t : HeadTiming) (uWall : Nat) (x : FrameHdr) : Option Nat :=
  match x.uGrade with
  | none => none
  | some u =>
    if 3 ≤ x.grade then some (u + alignTerm g t)
    else if uWall = 0xFFFFFFFF then none
    else some (u + uWall + alignTerm g t)

/-- Whether an age lies beyond a limit (R65): max(0, dep − cap) + u > lim, exactly. -/
def ageBeyond (dep : Frac) (cap : Nat) (u : Option Nat) (lim : Nat) : Bool :=
  match u with
  | none => true
  | some u => lim < u || cap * dep.den + (lim - u) * dep.den < dep.num

/-- Whether a capture time contradicts the wall's clock (R65). -/
def contradicts (dep : Frac) (cap : Nat) (u : Option Nat) : Bool :=
  match u with
  | none => false
  | some u => dep.num + u * dep.den < cap * dep.den

/-- The row capture time of a source tile row (R58). -/
def Slot.rowCapture (x : Slot) (row : Nat) : Nat := x.hdr.captureT + (if x.hdr.rowtime then nth 0 x.rowTimes row else 0)

/-- An upstream verdict as a term (R66): worse than AGED, with DARK mapped to STALE. -/
def upstreamTerm (upv : Nat) : Verdict := if upv ≤ 1 then .live else if 6 ≤ upv then .stale else verdictOf upv

/-- A term that applies under a condition. -/
def term (b : Bool) (v : Verdict) : Verdict := if b then v else .live

/-- Whether the evidence age of a frame, dep − EVIDENCE_T + U_TOTAL, lies beyond a pane's limit (R66). Host layers have none (R64). -/
def evidenceBeyond (dep : Frac) (p : PaneIn) (x : Slot) (u : Option Nat) : Bool :=
  p.source < 128 && (match u with
    | none => true
    | some u => decide ((1000 * p.evid + x.hdr.evidenceT) * dep.den < dep.num + u * dep.den))

/-- The source tile verdict (R66) of tile (row, col) of the frame a pane shows, at an output tile's departure. -/
def sourceVerdict (dep : Frac) (u : Option Nat) (p : PaneIn) (x : Slot) (row col : Nat) : Verdict :=
  match (x.tiles.drop (row * x.hdr.cols + col)).head? with
  | none => .unverified
  | some r =>
    let cap := x.rowCapture row
    if x.unreadable || !r.valid || contradicts dep cap u then .unverified
    else worstOf [
      term p.silence .stale,
      term (ageBeyond dep cap u (1000 * p.hard)) .stale,
      term (bit x.hdr.freezeStatus 0) .frozen,
      term (evidenceBeyond dep p x u) (if p.policy = 0 then .aged else .frozen),
      term (r.taint || r.conc) .concealed,
      term (ageBeyond dep cap u (1000 * p.soft)) .aged,
      upstreamTerm r.upv]

/-- The verdict of one contribution (R66): STALE where the pane has shown no frame. -/
def contribVerdict (s : State) (g : Grid) (t : HeadTiming) (uWall : Nat) (dep : Frac) (k : Contrib) : Verdict :=
  match paneSlot s k.pane with
  | none => .stale
  | some x => worstOf (k.tiles.map (fun q => sourceVerdict dep (uTotal g t uWall x.hdr) k.pane x q.1 q.2))

/-- Whether a contribution's capture time contradicts the wall's clock (R65). -/
def contribFuture (s : State) (g : Grid) (t : HeadTiming) (uWall : Nat) (dep : Frac) (k : Contrib) : Bool :=
  match paneSlot s k.pane with
  | none => false
  | some x => k.tiles.any (fun q => contradicts dep (x.rowCapture q.1) (uTotal g t uWall x.hdr))

/-! ## Output tiles (R68 to R70) -/

/-- The scheduled departure of an output tile's first pixel (R47). -/
def tileDep (s : State) (h : Nat) (fi : FrameIn) (row col : Nat) : Frac :=
  let t := (s.head h).timing
  departure s.grid t fi.tick fi.second (pixelOffset t (64 * col) (64 * row))

/-- The scheduled departure of an output tile's last pixel. -/
def tileEnd (s : State) (h : Nat) (fi : FrameIn) (row col : Nat) : Frac :=
  let t := (s.head h).timing
  let r := tileRect t row col
  departure s.grid t fi.tick fi.second (pixelOffset t (r.x1 - 1) (r.y1 - 1))

/-- Whether a mismatch of an earlier frame holds a tile UNVERIFIED throughout the frame of a number (R72): until the frame after the one in
which a check matched. -/
def tileHeldBefore (d : Head) (cnt row col : Nat) : Bool :=
  d.rechecks.any (fun q => q.row == row && q.col == col && q.frame != cnt && q.passed.all (· == cnt))

/-- Whether a mismatch has been found on a tile in the frame of a number (R72): the frame's row verdicts hold it, its marks do not. -/
def tileHeldNow (d : Head) (cnt row col : Nat) : Bool := d.rechecks.any (fun q => q.row == row && q.col == col && q.frame == cnt)

/-- The head-level facts on a tile (R68, R69, R72, R249, R250). -/
def headFact (s : State) (h : Nat) (fi : FrameIn) (row col : Nat) (cs : List Contrib) : Verdict :=
  let d := s.head h
  worstOf [
    term (!d.rowCurrent fi.tick (frameCntOf d.timing fi.tick fi.second) row) .unverified,
    term (tileHeldBefore d (frameCntOf d.timing fi.tick fi.second) row col) .unverified,
    term (d.episodes.any (fun e => e.row == row && e.ended.all (· == frameCntOf d.timing fi.tick fi.second))) .unverified,
    term (d.rowDiverged.contains row && cs != []) .unverified,
    term (d.lostTiles.contains (row * d.cols + col)) .unverified,
    term (s.hot && s.twin.lateTicks.contains fi.tick && cs != []) .unverified,
    term (s.hot && cs.any (fun k => s.twin.outOfStep.contains k.pane.source)) .unverified]

/-- The verdict of an output tile (R70). -/
def tileVerdict (s : State) (h : Nat) (fi : FrameIn) (row col : Nat) (cs : List Contrib) : Verdict :=
  let t := (s.head h).timing
  worse (headFact s h fi row col cs)
    (worstOf (cs.map (contribVerdict s s.grid t fi.uWall (tileDep s h fi row col))))

/-- An output tile evaluated for a head frame: what it is drawn by (R70), and with a mismatch found in the frame its row verdict (R72). -/
def evalTile (s : State) (h : Nat) (fi : FrameIn) (row col : Nat) : TileOut :=
  let cs := tileContribs s h fi row col
  let v := tileVerdict s h fi row col cs
  let d := s.head h
  ⟨worse v (term (tileHeldNow d (frameCntOf d.timing fi.tick fi.second) row col) .unverified), v, cs != [], false, false, 0, false⟩

/-- The tiles of a head frame's rows, evaluated. Tiles are numbered row by row. -/
def evalRows (s : State) (h : Nat) (fi : FrameIn) (rows : List Nat) : Table TileOut :=
  let d := s.head h
  rows.flatMap (fun r => (List.range d.cols).map (fun c => (r * d.cols + c, evalTile s h fi r c)))

/-- All tiles of a head frame, evaluated (R81). -/
def evalFrame (s : State) (h : Nat) (fi : FrameIn) : Table TileOut := evalRows s h fi (List.range (s.head h).rows)

/-- The sources that contribute to the tiles of some rows, each with whether its capture time contradicts the wall's clock there (R65). -/
def clockChecks (s : State) (h : Nat) (fi : FrameIn) (rows : List Nat) : List (Nat × Bool) :=
  let d := s.head h
  rows.flatMap (fun r => (List.range d.cols).flatMap (fun c =>
    (tileContribs s h fi r c).map (fun k => (k.pane.source, contribFuture s s.grid d.timing fi.uWall (tileDep s h fi r c) k))))

/-- The tiles of a head frame to which a pane contributes. -/
def paneTiles (s : State) (h : Nat) (fi : FrameIn) (p : PaneIn) : List Nat :=
  let d := s.head h
  let clip := p.clip d.timing.hactive d.timing.vactive
  if clip.empty then []
  else
    (countFrom (clip.y0 / 64) ((clip.y1 - 1) / 64 + 1 - clip.y0 / 64)).flatMap (fun r =>
      ((countFrom (clip.x0 / 64) ((clip.x1 - 1) / 64 + 1 - clip.x0 / 64)).filter (fun c =>
        (tileContribs s h fi r c).any (fun k => k.pane.pane == p.pane))).map (fun c => r * d.cols + c))

/-- The worst verdict that a pane's tiles are drawn by, DARK tiles apart (R75), none where it has no such tile. -/
def paneWorst (tiles : Table TileOut) (mine : List Nat) : Option Verdict :=
  match (mine.filterMap (tfind tiles)).filter (fun x => x.verdict != .dark) with
  | [] => none
  | l => some (worstOf (l.map (fun x => x.drawn)))

/-! ## Labels (R75 to R77) -/

/-- The text of a string as character codes. -/
def codesOf (t : String) : List Nat := t.toList.map Char.toNat

/-- The digits of a number. -/
def digits (n : Nat) : List Nat := (Nat.toDigits 10 n).map Char.toNat

/-- The word of a verdict. -/
def Verdict.word : Verdict → List Nat
  | .live => codesOf "LIVE"
  | .aged => codesOf "AGED"
  | .concealed => codesOf "CONCEALED"
  | .frozen => codesOf "FROZEN"
  | .stale => codesOf "STALE"
  | .unverified => codesOf "UNVERIFIED"
  | .dark => codesOf "DARK"

/-- The text of an age (R76), rounded up; none is unbounded. -/
def ageText (a : Option Frac) : List Nat :=
  match a with
  | none => codesOf ">60 min"
  | some f =>
    let ms := ceilDiv f.num (f.den * 1000000)
    let tenths := ceilDiv f.num (f.den * 100000000)
    let mins := ceilDiv f.num (f.den * 60000000000)
    if ms < 1000 then digits ms ++ codesOf " ms"
    else if tenths < 600 then digits (tenths / 10) ++ codesOf "." ++ digits (tenths % 10) ++ codesOf " s"
    else if mins < 60 then digits mins ++ codesOf " min"
    else codesOf ">60 min"

/-- An age of a label, dep − t + u and 0 or more, as a fraction, none where it is unbounded (R76). -/
def ageOf (dep : Frac) (t : Nat) (u : Option Nat) : Option Frac :=
  match u with
  | none => none
  | some u => some ⟨dep.num + u * dep.den - t * dep.den, dep.den⟩

/-- The age in a pane's label at its first pixel's departure (R76): the evidence age where the pane's evidence policy sets the label's
verdict. Where the soft limit and the evidence limit both set AGED, it is the capture age. -/
def labelAge (dep : Frac) (u : Option Nat) (p : PaneIn) (x : Slot) (v : Verdict) : Option Frac :=
  let soft := ageBeyond dep x.hdr.captureT u (1000 * p.soft)
  let evid := evidenceBeyond dep p x u
  if v = .frozen && bit x.hdr.freezeStatus 0 then ageOf dep x.hdr.frzSince (some 0)
  else if evid && ((v = .frozen && p.policy != 0) || (v = .aged && p.policy = 0 && !soft)) then ageOf dep x.hdr.evidenceT u
  else ageOf dep x.hdr.captureT u

/-- A label: its text, its box and its colour. -/
structure Label where
  pane   : Nat
  text   : List Nat
  box    : Rect
  colour : Nat
  scale  : Nat
  deriving DecidableEq, Repr

/-- The first of the texts of R75 whose box fits. -/
def fitText (x0 limit scale : Nat) : List (List Nat) → Option (List Nat)
  | [] => none
  | t :: r => if x0 + t.length * 12 * scale + 8 * scale ≤ limit then some t else fitText x0 limit scale r

/-- The verdict colour of a head frame (R78). -/
def FrameIn.colour (fi : FrameIn) (v : Verdict) : Nat := nth 0 fi.colours v.code

/-- The label of a pane in a head frame whose tiles have been evaluated (R75). -/
def labelOf (s : State) (h : Nat) (fi : FrameIn) (tiles : Table TileOut) (p : PaneIn) : Option Label :=
  let t := (s.head h).timing
  match paneWorst tiles (paneTiles s h fi p) with
  | none => none
  | some .live => none
  | some v =>
    if p.style ≠ 3 then none
    else
      let k := max 1 p.scale
      let clip := p.clip t.hactive t.vactive
      let x0 := clip.x0 + 8 * k
      let y0 := clip.y0 + 8 * k
      let dep := departure s.grid t fi.tick fi.second (pixelOffset t x0 y0)
      let age := match paneSlot s p with
        | some x => ageText (labelAge dep (uTotal s.grid t fi.uWall x.hdr) p x v)
        | none => codesOf "--"
      let texts := [v.word ++ codesOf " " ++ age, v.word, v.word.take 1]
      (fitText x0 (clip.x1 - 8 * k) k texts).map (fun w =>
        ⟨p.pane, w, ⟨x0, y0, x0 + w.length * 12 * k + 8 * k, y0 + 28 * k⟩, fi.colour v, k⟩)

/-- The 35 characters of the glyph ROM (R77). -/
def romCodes : List Nat := codesOf "ACDEFGIKLNORSTUVZmins0123456789.>- "

/-- Whether a pixel of a character's 12 by 20 cell is set (R77): a pixel of its 10 by 16 bitmap, at the bitmap's place in the cell. -/
def cellBit (c gx gy : Nat) : Bool :=
  let ox := min 2 (Config.glyphPlace c).1
  let oy := min 4 (Config.glyphPlace c).2
  romCodes.contains c && ox ≤ gx && gx < ox + 10 && oy ≤ gy && gy < oy + 16 && Config.glyphRom c (gy - oy) (gx - ox)

/-- Whether a glyph pixel of a label stands at a head pixel inside its box (R75, R77). -/
def Label.glyphAt (l : Label) (x y : Nat) : Bool :=
  let gx := (x - l.box.x0) / l.scale
  let gy := (y - l.box.y0) / l.scale
  4 ≤ gx && 4 ≤ gy && gy < 24
  && (match (l.text.drop ((gx - 4) / 12)).head? with
    | some c => cellBit c ((gx - 4) % 12) (gy - 4)
    | none => false)

/-- Whether a rectangle holds a pixel. -/
def Rect.holds (r : Rect) (x y : Nat) : Bool := r.x0 ≤ x && x < r.x1 && r.y0 ≤ y && y < r.y1

/-- The text of an age overlay (R170): the age of the frame that the head frame has latched for it, at the overlay's first pixel. -/
def overlayText (s : State) (h : Nat) (fi : FrameIn) (p : PaneIn) : List Nat :=
  let t := (s.head h).timing
  let clip := p.clip t.hactive t.vactive
  let dep := departure s.grid t fi.tick fi.second (pixelOffset t clip.x0 clip.y0)
  match p.age with
  | some x => ageText (ageOf dep x.captureT (uTotal s.grid t fi.uWall x))
  | none => codesOf "--"

/-! ## Drawing (R73, R74, R78, R209) -/

/-- A FIFO word with the mark tag and a verdict colour (R209). -/
def markWord (colour : Nat) : BitVec 32 := BitVec.ofNat 32 (2 ^ 30 + colour % 2 ^ 24)

/-- A 12-bit component rounded to 10 bits (R209). -/
def round10 (v : Nat) : Nat := min 1023 ((v + 2) / 4)

/-- A FIFO word of a picture pixel (R209). -/
def pictureWord (q : Px) : BitVec 32 := BitVec.ofNat 32 (round10 q.r * 2 ^ 20 + round10 q.g * 2 ^ 10 + round10 q.b)

/-- Whether a pixel lies on the 8-pixel border of its tile's part inside the active area (R73). -/
def onBorder (r : Rect) (x y : Nat) : Bool := x < r.x0 + 8 || r.x1 ≤ x + 8 || y < r.y0 + 8 || r.y1 ≤ y + 8

/-- A DIM component (R73): (c + Y) / 2 with Y = 0.2126 R + 0.7152 G + 0.0722 B, rounded one way or the other. -/
def dimComp (c : Nat) (q : Px) : Nat :=
  let n := 10000 * c + 2126 * q.r + 7152 * q.g + 722 * q.b
  n / 20000 + b2n (n % 20000 != 0 && Config.dimUp c q.r q.g q.b)

/-- The mark of a guarded pixel of a tile with a verdict, in a style (R73, R74): the FIFO word. -/
def markPx (style : Nat) (v : Verdict) (colour : Nat) (r : Rect) (x y : Nat) (q : Px) : BitVec 32 :=
  let border := if onBorder r x y then markWord colour else pictureWord q
  if v = .aged then border
  else
    match style with
    | 0 => if (x + y) % 16 < 4 then markWord colour else pictureWord q
    | 2 =>
      if onBorder r x y then markWord colour else pictureWord ⟨dimComp q.r q, dimComp q.g q, dimComp q.b q, q.a⟩
    | 4 => markWord colour
    | _ => border

/-- The FIFO word of a head pixel: the picture, with the mark of its tile and the label of the pane highest in blend order that
contributes there (R73, R75). DESIGN CHOICE, unsafe: R75 does not say whose label is drawn where several guarded
panes contribute to a pixel inside a lower pane's label box; here that of the highest alone, as R73 settles the style (log entry 112). -/
def drawPx (s : State) (h : Nat) (fi : FrameIn) (tiles : Table TileOut) (labels : List Label) (cells : List Cell) (x y : Nat) :
    BitVec 32 :=
  let d := s.head h
  match cells.find? (fun q => q.rect.holds x y) with
  | none => pictureWord (bgPx fi.bg)
  | some cell =>
    let grey := (d.grey.filter (fun g => g.2.1 ≤ y && y ≤ g.2.2)).map Prod.fst
    let q := composePx s (frameCntOf d.timing fi.tick fi.second) fi.bg (overlayText s h fi) grey cell.panes.reverse x y
    match cell.panes.find? (fun p => contributesAt s fi p x y) with
    | none => pictureWord q
    | some p =>
      let v := (tget ⟨.live, .live, false, false, false, 0, false⟩ tiles (y / 64 * d.cols + x / 64)).drawn
      match labels.find? (fun l => l.pane == p.pane && l.box.holds x y) with
      | some l => markWord (if l.glyphAt x y then 0 else l.colour)
      | none =>
        if v = .live || v = .dark then pictureWord q
        else markPx p.style v (fi.colour v) (tileRect d.timing (y / 64) (x / 64)) x y q

/-- The labels of a head frame. -/
def labelsOf (s : State) (h : Nat) (fi : FrameIn) (tiles : Table TileOut) : List Label :=
  (fi.panes.filter (fun p => p.guarded && p.style == 3)).filterMap (labelOf s h fi tiles)

/-- One line of a head frame as it enters the FIFO (R164, R209). DESIGN CHOICE, unsafe: R75 does not say whether a label's text may change
within a head frame whose tiles change their verdict after compose has begun; here each line decides the labels anew from the tiles as they
then stand (log entry 113). -/
def drawLine (s : State) (h : Nat) (fi : FrameIn) (tiles : Table TileOut) (y : Nat) : List (BitVec 32) :=
  let t := (s.head h).timing
  let cells := frameCells s h fi ⟨0, y, t.hactive, y + 1⟩
  let labels := labelsOf s h fi tiles
  (List.range t.hactive).map (fun x => drawPx s h fi tiles labels cells x y)

/-! ## Fetched source tiles (R59, R172, R181) -/

/-- SIG of a source tile (R59). -/
def tileSig (src row col : Nat) (b : Bytes) : BitVec 32 := crc32c (tripleFold 0 src row col) b

/-- The stored samples of a tile of a host buffer, row by row (R168). -/
def hostTile (s : State) (b : BufCfg) (row col : Nat) : Bytes :=
  let n := formatBytes b.format
  (countFrom (64 * row) (min 64 (b.h - 64 * row))).flatMap (fun y =>
    dramRead s.dram (hostBase s.cfg + b.offset + y * b.stride + 64 * col * n) (min 64 (b.w - 64 * col) * n))

/-- The source tiles of a pane that the lines of a head frame before `y` read (R172). -/
def tilesBefore (s : State) (h : Nat) (fi : FrameIn) (p : PaneIn) (y : Nat) : List (Nat × Nat) :=
  let t := (s.head h).timing
  if y = 0 then []
  else
    dedup (((frameCells s h fi ⟨0, 0, t.hactive, min y t.vactive⟩).filter (fun q => q.panes.any (fun v => v.pane == p.pane))).flatMap
      (fun q => readTiles p q.rect))

/-- Whether a tile of the selected picture feeds a visible pixel of its pane that has a non-zero effective alpha (R182). -/
def litTile (s : State) (h : Nat) (fi : FrameIn) (p : PaneIn) (tile : Nat × Nat) : Bool :=
  let t := (s.head h).timing
  let cells := (frameCells s h fi ⟨0, 0, t.hactive, t.vactive⟩).filter (fun q =>
    q.panes.any (fun v => v.pane == p.pane) && (readTiles p q.rect).contains tile)
  p.alpha != 0 && (wholeAlpha s p || cells.any (fun q => q.rect.pixels.any (fun a =>
    (readTiles p ⟨a.1, a.2, a.1 + 1, a.2 + 1⟩).contains tile && !noContent s p a.1 a.2 && effAlpha p (panePx s fi.tick (fun _ => []) p a.1 a.2) != 0)))

/-- The source tiles of a pane fetched for line `y`: those no earlier line of the frame has read (R172). -/
def newTiles (s : State) (h : Nat) (fi : FrameIn) (p : PaneIn) (y : Nat) : List (Nat × Nat) :=
  let old := tilesBefore s h fi p y
  (tilesBefore s h fi p (y + 1)).filter (fun q => !old.contains q)

/-- The output tiles that a source tile of a source feeds in a head frame, through any pane (R68, R181). -/
def fedTiles (s : State) (h : Nat) (fi : FrameIn) (src row col : Nat) : List Nat :=
  let d := s.head h
  ((List.range d.rows).flatMap (fun r => (List.range d.cols).map (fun c => (r, c)))).filterMap (fun rc =>
    let cells := frameCells s h fi (tileRect d.timing rc.1 rc.2)
    if cells.any (fun q => q.panes.any (fun p => p.source == src && (readSourceTiles p q.rect).contains (row, col))) then
      some (rc.1 * d.cols + rc.2)
    else none)

/-- The output tiles in which a pane is visible. -/
def visibleTiles (s : State) (h : Nat) (fi : FrameIn) (pane : Nat) : List Nat :=
  let d := s.head h
  ((List.range d.rows).flatMap (fun r => (List.range d.cols).map (fun c => (r, c)))).filterMap (fun rc =>
    if (frameCells s h fi (tileRect d.timing rc.1 rc.2)).any (fun q => q.panes.any (fun p => p.pane == pane)) then
      some (rc.1 * d.cols + rc.2)
    else none)

end Sys2Proof.Machine
end

