-- ==== Sys2Proof/Machine/Glass.lean ====
section
/-! DEFINITION. From the head FIFO to the glass: the colour pipeline (R213), dither (R215), marked pixels (R78), and the output
signatures of tiles, rows and frames (R216). -/
namespace Sys2Proof.Machine

/-- The reset contents of a degamma LUT (R213): L[i] = round(i × 65,535 ÷ 1,023). -/
def degammaId (i : Nat) : Nat := (2 * i * 65535 + 1023) / 2046

/-- The reset contents of a regamma LUT (R213): L[i] = round(i × 4,095 ÷ 1,023). -/
def regammaId (i : Nat) : Nat := (2 * i * 4095 + 1023) / 2046

/-- An entry of a degamma LUT of a bank; a LUT that has not been loaded has its reset contents. -/
def ColourBank.degamma (b : ColourBank) (k i : Nat) : Nat :=
  match tfind b.luts k with
  | some l => nth 0 l i
  | none => degammaId i

/-- An entry of a regamma LUT of a bank, with L[1024] taken as L[1023]. -/
def ColourBank.regammaEntry (b : ColourBank) (k i : Nat) : Nat :=
  match tfind b.luts (3 + k) with
  | some l => nth 0 l (min i 1023)
  | none => regammaId (min i 1023)

/-- The regamma stage of R213: interpolation by bits [5:0], rounded down. -/
def ColourBank.regamma (b : ColourBank) (k v : Nat) : Nat :=
  let i := v / 64
  let lo : Int := b.regammaEntry k i
  let hi : Int := b.regammaEntry k (i + 1)
  natOf (lo + ((hi - lo) * (v % 64 : Nat) + 32) / 64)

/-- The matrix stage of R213 for one output component: 14 fractional bits, rounded to nearest and clipped. -/
def ColourBank.matrixOut (b : ColourBank) (k r g bl : Nat) : Nat :=
  let c := fun (j : Nat) => nth 0 b.matrix (3 * k + j)
  let v := c 0 * r + c 1 * g + c 2 * bl + nth 0 b.offsets k * 16384
  natOf (clampInt 0 65535 ((v + 8192) / 16384))

/-- The Bayer threshold of R215. -/
def bayer (x y : Nat) : Nat :=
  nth 0 [0, 8, 2, 10, 12, 4, 14, 6, 3, 11, 1, 9, 15, 7, 13, 5] (y % 4 * 4 + x % 4)

/-- The dither stage (R215): method 0 rounds to nearest, 1 is ORDERED. -/
def dither (method depth x y v : Nat) : Nat :=
  if depth = 8 then min 255 ((v + (if method = 0 then 8 else bayer x y)) / 16)
  else min 1023 ((v + (if method = 0 then 2 else bayer x y / 4)) / 4)

/-- A mark colour component at the output depth, by bit replication (R78). -/
def markComp (depth v : Nat) : Nat := if depth = 8 then v else v * 4 + v / 64

/-- A pixel's output word as OUT_SIG takes it (R216), from its FIFO word. -/
def outWord (bank : ColourBank) (depth method x y : Nat) (w : BitVec 32) : Nat :=
  let v := w.toNat
  let pack := fun (r g b : Nat) => r * 2 ^ 20 + g * 2 ^ 10 + b
  if bit v 30 then pack (markComp depth (bits v 23 16)) (markComp depth (bits v 15 8)) (markComp depth (bits v 7 0))
  else
    let r := bank.degamma 0 (bits v 29 20)
    let g := bank.degamma 1 (bits v 19 10)
    let b := bank.degamma 2 (bits v 9 0)
    let out := fun (k : Nat) => dither method depth x y (bank.regamma k (bank.matrixOut k r g b))
    pack (out 0) (out 1) (out 2)

/-- Whether a pixel of the frame under way is blanked: it leaves at or after the first blanked pixel (R79). -/
def Head.blanked (d : Head) (x y : Nat) : Bool := d.blankPx.any (fun k => decide (k ≤ pixelOffset d.timing x y))

/-- The output words of the pixels of a tile's line, black where no line stands in the FIFO and from the first blanked pixel on. -/
def tileLine (d : Head) (fi : FrameIn) (r : Rect) (y : Nat) : List Nat :=
  match d.lines.find? (fun l => l.1 == y) with
  | some l => ((l.2.drop r.x0).take (r.x1 - r.x0)).zip (countFrom r.x0 (r.x1 - r.x0)) |>.map (fun q =>
      if d.blanked q.2 y then 0 else outWord d.colour d.timing.depth fi.dither q.2 y q.1)
  | none => List.replicate (r.x1 - r.x0) 0

/-- OUT_SIG of a tile (R216). -/
def outSig (h : Nat) (d : Head) (fi : FrameIn) (row col : Nat) : BitVec 32 :=
  let r := tileRect d.timing row col
  crc32c (tripleFold d.frameCnt h row col) ((countFrom r.y0 (r.y1 - r.y0)).flatMap (fun y => (tileLine d fi r y).flatMap (le 4)))

/-- OUT_SIG of a tile whose pixels are all black. -/
def blackSig (h : Nat) (d : Head) (row col : Nat) : BitVec 32 :=
  crc32c (tripleFold d.frameCnt h row col) (zeros (4 * (tileRect d.timing row col).area))

/-- The signature that a tile of the frame under way left with: its own where it was checked, else that of the pixels that left, black
ones where it was blanked. -/
def tileOutSig (h : Nat) (d : Head) (row col : Nat) : BitVec 32 :=
  match d.frame, tfind d.tiles (row * d.cols + col) with
  | some fi, some x => if x.checked then x.outSig else outSig h d fi row col
  | _, _ => blackSig h d row col

/-- ROW_SIG of a tile row (R216). -/
def rowSig (h : Nat) (d : Head) (row : Nat) : BitVec 32 :=
  crc32c (tripleFold d.frameCnt h row 255) ((List.range d.cols).flatMap (fun c => le 4 (tileOutSig h d row c).toNat))

/-- FRAME_SIG of a head frame (R216). -/
def frameSig (h : Nat) (d : Head) : BitVec 32 :=
  crc32c (tripleFold d.frameCnt h 255 255) ((List.range d.rows).flatMap (fun r => le 4 (rowSig h d r).toNat))

/-- The row verdict of a tile row of the frame under way (R71). -/
def Head.rowVerdict (d : Head) (row : Nat) : Verdict :=
  worstOf ((List.range d.cols).map (fun c =>
    match tfind d.tiles (row * d.cols + c) with
    | some x => x.verdict
    | none => .dark))

/-- Whether a tile row of the frame under way is filled (R212). -/
def Head.rowFilled (d : Head) (row : Nat) : Bool :=
  (List.range d.cols).any (fun c => match tfind d.tiles (row * d.cols + c) with | some x => x.filled | none => false)

end Sys2Proof.Machine
end

