-- ==== Sys2Proof/Machine/DpStream.lean ====
section
/-! DEFINITION. What a DisplayPort port sends beside the pixels: the state of its lanes (R201 to R203, R208), time slots and the sideband
messages of MST (R205, R206), and the main stream attributes with the VSC SDP of a head frame (R201). The FIFO that a head receives with its
port (R209). -/
namespace Sys2Proof.Machine

/-- The heads in force on a port. -/
def State.portHeads (s : State) (p : Nat) : List Nat := (List.range 32).filter (fun h => (s.head h).timing.port == some p)

/-- What the lanes of a port carry. -/
inductive LaneOut where
  | electricalIdle
  | training
  | idlePattern
  | testPattern (kind : Nat)
  | streams
  deriving DecidableEq, Repr

/-- The lanes of a port (R202, R203, R208): a test pattern on a disabled port, electrical idle on one that is OFF, the idle pattern where no
head has it, the control cores have stopped (R313), or its link has failed or is lost. -/
def State.laneOut (s : State) (p : Nat) : LaneOut :=
  let d := s.dpPort p
  if d.pattern != 0 then .testPattern d.pattern
  else if d.mode = 0 then .electricalIdle
  else if d.training then .training
  else if !d.trained || s.portHeads p == [] || s.mem.fatal then .idlePattern
  else .streams

/-! ## Time slots and sideband messages (R205, R206) -/

/-- The time slots that a head's stream needs on the link that its port runs. -/
def slotsOf (s : State) (h p : Nat) : Nat :=
  let d := s.dpPort p
  slotCount (pclk s.grid (s.head h).timing) (s.head h).timing.depth d.lanes d.rate

/-- A sideband message of an MST port. -/
def sendSideband (p : Nat) (m : Sideband) (s : State) : State := emit (.sideband p m) s

/-- A head's stream asks for its time slots (R197 step 3, R205). -/
def askSlots (h p : Nat) (s : State) : State :=
  let t := (s.head h).timing
  if (s.dpPort p).mode != 2 then s
  else sendSideband p (.allocatePayload t.rad t.stream (slotsOf s h p)) (sendSideband p (.enumPathResources t.rad) s)

/-- A head's stream has its time slots. -/
def takeSlots (h p : Nat) (s : State) : State :=
  if (s.dpPort p).mode != 2 then s else s.modDpPort p (fun d => { d with slots := tset h (slotsOf s h p) d.slots })

/-- A head releases its time slots on a port (R197): no other head of the port is disturbed. -/
def releaseSlots (h p : Nat) (s : State) : State :=
  let d := s.dpPort p
  if (tfind d.slots h).isNone then s
  else
    let s1 := s.modDpPort p (fun d => { d with slots := tdel h d.slots })
    if d.mode = 2 && d.trained then
      sendSideband p (.allocatePayload (s.head h).timing.rad (s.head h).timing.stream 0) s1
    else s1

/-- What an MST port sends when its link has trained (R205, R207): the topology, a clean payload table, and for each head its path, its
slots and the reads of its sink. DESIGN CHOICE, safe: the spec names the messages and not their order (log entry 114). -/
def openTopology (p : Nat) (s : State) : State :=
  if (s.dpPort p).mode != 2 then s
  else
    (s.portHeads p).foldl (fun a h =>
      let rad := (a.head h).timing.rad
      takeSlots h p (askSlots h p (sendSideband p (.remoteI2cRead rad) (sendSideband p (.remoteDpcdRead rad) a))))
      (sendSideband p .clearPayloadIdTable (sendSideband p .linkAddress s))

/-! ## The main stream attributes (R201) -/

/-- Mvid of a head frame with Nvid 32,768: the pixel clock over the link's symbol clock, a tenth of the lane rate (8b/10b coding), rounded
either way. -/
def mvidOf (s : State) (h p cnt : Nat) : Nat :=
  let k := pclk s.grid (s.head h).timing
  let n := k.num * 32768
  let m := k.den * (s.dpPort p).rate * 100000
  n / m + b2n (n % m != 0 && Config.mvidUp h cnt)

/-- The main stream attributes of a head's frame. -/
def msaOf (s : State) (h p cnt : Nat) : Msa :=
  let t := (s.head h).timing
  { htotal := t.htotal, vtotal := t.vtotal, hstart := t.hsync + t.hbp, vstart := t.vsync + t.vbp, hactive := t.hactive, vactive := t.vactive,
    hsync := t.hsync, vsync := t.vsync, pol := t.pol, depth := t.depth, mvid := mvidOf s h p cnt, nvid := 32768 }

/-- The attributes that leave with a head frame on a trained link, and for BT2020 primaries the VSC SDP of revision 0x05 (R201). -/
def sendMsa (h : Nat) (fi : FrameIn) (s : State) : State :=
  match (s.head h).timing.port with
  | none => s
  | some p =>
    if !(s.dpPort p).trained then s
    else
      let cnt := (s.head h).frameCnt
      let s1 := emit (.msa h cnt (msaOf s h p cnt)) s
      if fi.primaries = 1 then emit (.vscSdp h cnt 5) s1 else s1

/-! ## The head FIFO (R209) -/

/-- The size of a head's FIFO: 200 µs of its pixels at 4 bytes, rounded up to 4 KiB. -/
def fifoSize (g : Grid) (t : HeadTiming) : Nat :=
  let p := pclk g t
  ceilDiv (p.num * 8) (p.den * 10000 * 4096) * 4096

/-- The bytes of the head FIFO partition that heads hold (R22, R209). -/
def fifoUsed (s : State) : Nat := sumNat (s.heads.map (fun e => e.2.fifo))

end Sys2Proof.Machine
end

