-- ==== Sys2Proof/Machine/HeadOps.lean ====
section
/-! DEFINITION. What the meanings of the heads share: blanking (R79, R80, R200), retimes and link training (R196 to R204),
underflow runs (R212), the compose lead (R210, R318) and the rechecks' places (R72, R220). -/
namespace Sys2Proof.Machine

/-! ## Blanking and the live state -/

/-- The per-head live state falls (R80). -/
def dropLive (h : Nat) (s : State) : State := settlePins (s.modHead h (fun d => { d with live := false }))

/-- The pixel clock of a head frame at an instant: the number of pixels, blanking included, that leave before it (R47). -/
def pixelAt (g : Grid) (t : HeadTiming) (fi : FrameIn) (at' : Nat) : Nat :=
  let a := departure g t fi.tick fi.second 0
  let b := departure g t fi.tick fi.second 1
  ceilDiv (at' * a.den - a.num) (b.num - a.num)

/-- The tiles of the frame under way from the first blanked pixel on become DARK (R79, R197): a tile keeps its verdict only where its last
pixel has left before. -/
def darkRest (d : Head) (first : Nat) : Table TileOut :=
  d.tiles.map (fun e =>
    let r := tileRect d.timing (e.1 / d.cols) (e.1 % d.cols)
    (e.1, if pixelOffset d.timing (r.x1 - 1) (r.y1 - 1) < first then e.2 else { e.2 with verdict := .dark, drawn := .dark }))

/-- A head's output is blanked from now on (R68, R79, R80). -/
def blankHead (h : Nat) (s : State) : State :=
  let first := match (s.head h).frame with
    | some fi => pixelAt s.grid (s.head h).timing fi s.time.now
    | none => 0
  let s1 := s.modHead h (fun d =>
    if d.inFrame && !d.blankNow then
      { d with blankNow := true, blankPx := some first, tiles := darkRest d first,
               hist := d.hist.map (fun e => if e.cnt = d.frameCnt && e.blackT.isNone then { e with blackT := some s.time.now } else e) }
    else { d with blankNow := true })
  dropLive h s1

/-- Whether a DARK pin that is asserted is mapped to a head (R79). -/
def State.pinDark (s : State) (h : Nat) : Bool :=
  (List.range 4).any (fun k => s.darkAsserted k && bit (nth 0 s.pins.darkMap k) h)

/-- Two pixel clocks of a head in nanoseconds, rounded up (R79). -/
def twoClocks (g : Grid) (t : HeadTiming) : Nat := let p := pclk g t; ceilDiv (2000000000 * p.den) p.num

/-- The heads follow the DARK pins as they now stand (R79): an assertion blanks, a release lets the head show from the first
frame start two pixel clocks later. -/
def followPins (s : State) : State :=
  (List.range 32).foldl (fun a h =>
    let d := a.head h
    let on := a.pinDark h
    if on == d.darkPin then a
    else if on then blankHead h (a.modHead h (fun d => { d with darkPin := true }))
    else a.modHead h (fun d => { d with darkPin := false, darkFree := a.time.now + twoClocks a.grid d.timing })) s

/-! ## Retimes and link training (R197, R203) -/

/-- A retime with all steps done has its ready instant (R197 step 4), from which on the first new frame may be composed: no row of it has
been verified (R69). -/
def settleRetime (h : Nat) (s : State) : State :=
  match (s.head h).retime with
  | none => s
  | some r =>
    if r.pllDone && r.portDone && r.readyT.isNone then
      s.modHead h (fun d => { d with
        retime := some { r with readyT := some s.time.now }, rowMatch := [], rowMissed := [], pairRows := [], rowDiverged := [],
        rechecks := [], episodes := [] })
    else s

/-- A head enters retiming (R197 step 1): compose stops, its tiles are DARK and its frames are no longer made. -/
def enterRetime (h : Nat) (own train pllDone portDone : Bool) (s : State) : State :=
  let s1 := blankHead h s
  settleRetime h (s1.modHead h (fun d => { d with
    retime := some ⟨own || (match d.retime with | some r => r.own | none => false), train, pllDone, portDone, none⟩,
    running := false, preComposed := 0, preLines := [], preTiles := [], preWeir := false, preLost := [], preGrey := [], preGreySrc := [], resync := true,
    cnt := if own then { d.cnt with retimes := (d.cnt.retimes + 1) % 2 ^ 32 } else d.cnt }))

/-- Whether a head is in a retime whose first new frame is still to come on its own (R197, R198): its port's link runs or trains. -/
def State.retimeRuns (s : State) (h : Nat) : Bool :=
  (s.head h).retime.isSome && (match (s.head h).timing.port with
    | some p => (s.dpPort p).trained || (s.dpPort p).training
    | none => false)

/-- The causes of event DP_LINK (log entry 22): 0 an unplug, 1 a retrain for a new configuration, 2 a loss that IRQ_HPD
reported, 3 HPD's return or a retry. -/
def linkEvent (p cause : Nat) (s : State) : State :=
  let s1 := raise .dpLink [(1, p), (1, cause)] s
  (s.portHeads p).foldl (fun a h => a.modHead h (fun d =>
    { d with cnt := { d.cnt with linkEvents := (d.cnt.linkEvents + 1) % 2 ^ 32 } })) s1

/-- Every head of a port is blanked and waits for the port (R197). -/
def retimePort (p : Nat) (s : State) : State :=
  (s.portHeads p).foldl (fun a h =>
    let pll := match (a.head h).retime with | some r => r.pllDone | none => true
    enterRetime h false true pll false a) s

/-- A port's link no longer runs: its time slots are gone with it. -/
def dropLink (p : Nat) (training : Bool) (s : State) : State :=
  s.modDpPort p (fun d => { d with trained := false, training := training, failedT := none, slots := [] })

/-- A port starts training at its configured rate and lane count (R203): every head of it is blanked and waits for the link. -/
def startTraining (p cause : Nat) (s : State) : State :=
  let d := s.dpPort p
  let s1 := if d.trained || cause != 1 then linkEvent p cause s else s
  retimePort p (dropLink p (d.mode != 0 && !d.unplugged) s1)

/-- A timing commit of every head of a port (R196): each retimes as its own. -/
def retimeHeads (p : Nat) (train portDone : Bool) (s : State) : State :=
  (s.portHeads p).foldl (fun a h => enterRetime h true train false portDone a) s

/-- A test pattern on a port ends as the port is no longer disabled (R208, log entry 115). -/
def stopPattern (p : Nat) (s : State) : State :=
  if (s.dpPort p).pattern = 0 then s
  else raise .diagPatternDone [(1, 0), (1, p)] (s.modDpPort p (fun d => { d with pattern := 0, custom := [] }))

/-- A port takes its configured mode, rate and lanes (R196, R202) as a timing commit of every head that has it, with a retrain where one of
them changes or the link is not trained (R197); OFF sends nothing. -/
def applyPort (p : Nat) (s : State) : State :=
  let m := pv s.cfg pDpPortMode p
  let d := s.dpPort p
  let same := d.mode = m && d.rate = pv s.cfg pDpLinkRate p && d.lanes = pv s.cfg pDpLanes p
  let s1 := s.modDpPort p (fun d => { d with mode := m, rate := pv s.cfg pDpLinkRate p, lanes := pv s.cfg pDpLanes p, pendingCfg := false })
  if m = 0 then retimeHeads p true false (dropLink p false s1)
  else
    let s2 := stopPattern p s1
    if same && d.trained then
      let s3 := retimeHeads p false (m == 1) s2
      (s3.portHeads p).foldl (fun a h => askSlots h p a) s3
    else startTraining p 1 (retimeHeads p true false s2)

/-- The last colour bank among head frames that are not made (R214): their COLOUR_COMMIT is in force all the same. -/
def lastBank (l : List FrameIn) : Option ColourBank := l.foldl (fun a fi => fi.bank.or a) none

/-- Head frames that are not made leave their colour bank to the head. -/
def Head.passBanks (d : Head) (l : List FrameIn) : Head := { d with colour := (lastBank l).getD d.colour }

/-- The inputs of coming head frames under a new timing (R46, R194): those of the frames that the new timing starts at their ticks. -/
def refit (o t : HeadTiming) (l : List FrameIn) : List FrameIn :=
  let l1 := l.filter (fun fi => startsAt t fi.tick)
  if t.mult = 2 then (if o.mult = 2 then l1 else l1.flatMap (fun fi => [fi, { fi with second := true, bank := none }]))
  else l1.filter (fun fi => !fi.second)

/-- A source's capture time contradicts the wall's clock on no frame of a head any more (R65). -/
def leaveFuture (h : Nat) (s : State) : State :=
  { s with sources := s.sources.map (fun e => (e.1, { e.2 with futureHeads := e.2.futureHeads.filter (· != h) })) }

/-- A head takes its shadow timing (R196 to R199) and retimes: the PLL relocks, and the port sends the new MSA, allocates slots or
trains. A head without a port sends nothing, and a head that leaves a port or a stream releases its slots. With a port it has a FIFO
(R209). -/
def takeShadow (h : Nat) (t : HeadTiming) (s : State) : State :=
  let s0 := match (s.head h).timing.port with
    | some p => releaseSlots h p s
    | none => s
  let s1 := blankHead h (s0.modHead h (fun d => { d with shadow := none, shadowDue := false }))
  let keep := fun (d : Head) => if t.port.isSome then refit d.timing t d.nextIn else []
  let s2 := leaveFuture h (s1.modHead h (fun d => { d.passBanks (d.nextIn.filter (fun fi => !(keep d).contains fi)) with
    timing := t, frame := none, nextIn := keep d, inFrame := false, vblank := true, recDone := true,
    lines := [], tiles := [], composed := 0, rechecks := [], episodes := [], lostTiles := [],
    fifo := if t.port.isSome then fifoSize s.grid t else 0 }))
  match t.port with
  | none => s2.modHead h (fun d => { d with retime := none, running := false, enabled := false })
  | some p =>
    let q := s2.dpPort p
    if q.mode = 0 || q.trained || q.training then
      let s3 := enterRetime h true (!q.trained) false (q.trained && q.mode == 1) s2
      if q.trained then askSlots h p s3 else s3
    else
      startTraining p 1 (enterRetime h true true false false s2)

/-! ## Underflow (R212) -/

/-- The event of a run of filled rows that has ended. -/
def endFill (h : Nat) (s : State) : State :=
  let d := s.head h
  match d.fillRun with
  | none => s
  | some (first, rows, cause) =>
    raise .headUnderflow [(1, h), (4, d.frameCnt), (1, first), (1, rows), (1, cause)]
      (s.modHead h (fun d => { d with fillRun := none, cnt := { d.cnt with underflow := (d.cnt.underflow + 1) % 2 ^ 32 } }))

/-- The words of a line whose pixels from `x` on are the fill. -/
def fillWords (d : Head) (colour y x : Nat) : List (BitVec 32) :=
  let old := match d.lines.find? (fun l => l.1 == y) with
    | some l => l.2
    | none => []
  ((old ++ List.replicate d.timing.hactive (markWord 0)).take x) ++ List.replicate (d.timing.hactive - x) (markWord colour)

/-- The fill of R212 from a pixel to the end of its tile row, for an underflow (0) or a lost FIFO word (1). Every tile of the
row is UNVERIFIED, and the live state falls. -/
def fillFrom (h row x y cause : Nat) (s : State) : State :=
  let d := s.head h
  match d.frame with
  | none => s
  | some fi =>
    let s0 := match d.fillRun with
      | some (first, n, k) => if first + n = row && k = cause then s else endFill h s
      | none => s
    let d := s0.head h
    let colour := fi.colour .unverified
    let last := min d.timing.vactive (64 * row + 64)
    let lines := d.lines.filter (fun l => !(y ≤ l.1 && l.1 < last)) ++ (countFrom y (last - y)).map (fun yy =>
      (yy, fillWords d colour yy (if yy = y then x else 0)))
    let tiles := d.tiles.map (fun e =>
      (e.1, if e.1 / d.cols = row && e.2.verdict != .dark then { e.2 with verdict := .unverified, drawn := .unverified, filled := true } else e.2))
    let already := d.rowFilled row
    let s1 := s0.modHead h (fun d => { d with
      lines := lines, tiles := tiles, composed := max d.composed last, sticky := d.sticky ||| 2 ^ 18,
      fillRun := match d.fillRun with
        | some (first, n, k) => some (first, n + b2n (!already), k)
        | none => some (row, 1, cause)
      cnt := { d.cnt with fillRows := (d.cnt.fillRows + b2n (!already)) % 2 ^ 32 } })
    dropLive h s1

/-- The scheduled departure of a line's first pixel (R47), in whole nanoseconds. -/
def lineDep (s : State) (h : Nat) (fi : FrameIn) (y : Nat) : Nat :=
  let t := (s.head h).timing
  (departure s.grid t fi.tick fi.second (pixelOffset t 0 y)).floor

/-! ## The compose lead (R210, R211, R318) -/

/-- The compose lead of a line that departs at an instant, in nanoseconds: HEAD_WEIR_HIGH, and from 400 µs before the switch S of a set point
until 160 µs after it 200 µs, as far as the line had not been composed by then (R318). -/
def composeLead (s : State) (fi : FrameIn) (dep : Nat) : Nat :=
  let high := 1000 * fi.weirHigh
  match s.mem.switch with
  | some w =>
    let at' := switchStart s w.tick
    if dep + 400000 ≤ at' + high || at' + 360000 < dep then high else max high (min 200000 (dep + 400000 - at'))
  | none => high

/-- The levels of a head's lead (R211): at weir-high, down to the mid level, down to weir-low, and below it. -/
inductive LeadLevel where
  | full
  | upper
  | lower
  | low
  deriving DecidableEq, Repr

/-- The level of a lead in nanoseconds under the latched weir levels. -/
def leadLevel (fi : FrameIn) (lead : Nat) : LeadLevel :=
  if lead < 1000 * fi.weirLow then .low
  else if 2 * lead < 1000 * (fi.weirLow + fi.weirHigh) then .lower
  else if lead < 1000 * fi.weirHigh then .upper
  else .full

/-- The least urgency that a lead gives a head's SCAN requests (R211): 0 where the normal rules of R312 stand alone. -/
def LeadLevel.urgency : LeadLevel → Nat
  | .full => 0
  | .upper => 0
  | .lower => 2
  | .low => 3

/-- The place of a lead in the service of a compose lane (R211): the heads below weir-low first, then those below the mid level, then by next
departure; a head at weir-high waits for its next line's schedule. -/
def LeadLevel.rank : LeadLevel → Nat
  | .low => 0
  | .lower => 1
  | .upper => 2
  | .full => 3

/-- The lead of a head (R210): the scheduled departure of the newest pixel in its FIFO less the present time. None while its FIFO holds no
line of the frame under way. -/
def State.lead (s : State) (h : Nat) : Option Nat :=
  let d := s.head h
  match d.frame with
  | some fi =>
    if d.composed = 0 then none
    else some ((departure s.grid d.timing fi.tick fi.second (pixelOffset d.timing (d.timing.hactive - 1) (d.composed - 1))).floor - s.time.now)
  | none => none

/-- The level of a head's lead; a head with no line in its FIFO waits for its first line's schedule. -/
def State.leadLevel (s : State) (h : Nat) : LeadLevel :=
  match (s.head h).frame, s.lead h with
  | some fi, some l => Machine.leadLevel fi l
  | _, _ => .full

/-- The order in which a compose lane serves its heads (R211): by level, and at one level by the departure of the next line. -/
def serveOrder (s : State) (heads : List Nat) : List Nat :=
  let next := fun (h : Nat) =>
    let d := s.head h
    match d.frame with
    | some fi => (departure s.grid d.timing fi.tick fi.second (pixelOffset d.timing 0 d.composed)).floor
    | none => 0
  sortBy (fun a b => (s.leadLevel a).rank < (s.leadLevel b).rank || ((s.leadLevel a).rank == (s.leadLevel b).rank && next a ≤ next b)) heads

/-- A lead seen on a head: LEAD_MIN, and WEIR_LOW once per head frame below weir-low (R211, R224). -/
def noteLead (h lead : Nat) (s : State) : State :=
  let d := s.head h
  match d.frame with
  | none => s
  | some fi =>
    let s1 := s.modHead h (fun d => { d with cnt := { d.cnt with leadMin := min d.cnt.leadMin lead } })
    if lead < 1000 * fi.weirLow && !d.weirSaid then
      raise .weirLow [(1, h), (4, d.frameCnt)]
        (s1.modHead h (fun d => { d with weirSaid := true, sticky := d.sticky ||| 2 ^ 19,
                                         cnt := { d.cnt with weirLow := (d.cnt.weirLow + 1) % 2 ^ 32 } }))
    else s1

/-- The fill of every tile row that holds a line whose departure has passed and that was never composed (R212): compose abandons the rest of
each such row. Rows before `below` are looked at. -/
def starve (h below : Nat) (s : State) : State :=
  (List.range (min below (s.head h).rows)).foldl (fun a row =>
    let d := a.head h
    match d.frame with
    | some fi =>
      if d.inFrame && !d.blankNow && d.composed < d.timing.vactive && d.composed / 64 = row && lineDep a h fi d.composed < a.time.now then
        fillFrom h row 0 d.composed 0 (noteLead h 0 a)
      else a
    | none => a) s

/-! ## Rechecks (R72, R220) -/

/-- The tick and the number of the `k`-th head frame after one of a tick. -/
def laterFrame (t : HeadTiming) (tick : Nat) (second : Bool) (k : Nat) : Nat × Nat :=
  if t.mult = 0 then (tick + 2 * k, frameCntOf t (tick + 2 * k) false)
  else if t.mult = 1 then (tick + k, frameCntOf t (tick + k) false)
  else
    let n := 2 * tick + b2n second + k
    (n / 2, frameCntOf t (n / 2) (n % 2 == 1))

/-- The tile rows that have a place in frames of a tick, across the device: rechecks of R72 and of R181 alike (R220). -/
def placedRows (s : State) (tick : Nat) : List (Nat × Nat) :=
  dedup (s.heads.flatMap (fun e => (e.2.rechecks.filter (fun q => q.tick == tick)).map (fun q => (e.1, q.row))))

/-- The place of a recheck of a head's row (R220): the first later frame whose tick has room and in which compose of the row has
not begun. A row that already has a place in that frame shares it. -/
def recheckPlace (s : State) (h row : Nat) (fi : FrameIn) : Nat × Nat :=
  let d := s.head h
  let ks := (List.range (s.heads.foldl (fun n e => n + e.2.rechecks.length) 2)).map (fun k => k + 1)
  let ok := fun (k : Nat) =>
    let (n, _) := laterFrame d.timing fi.tick fi.second k
    let rows := placedRows s n
    (rows.contains (h, row) || rows.length < 8) && (k != 1 || d.preComposed ≤ 64 * row)
  laterFrame d.timing fi.tick fi.second ((ks.find? ok).getD 1)

/-- A tile's mismatch in the frame under way (R72): UNVERIFIED in its row verdicts, held UNVERIFIED from the next frame on, and a recheck
placed. A tile that waits already is placed again. -/
def holdTile (h row col : Nat) (held : Option (Nat × Nat × Nat)) (twin : Bool) (s : State) : State :=
  let d := s.head h
  match d.frame with
  | none => s
  | some fi =>
    let (n, c) := recheckPlace s h row fi
    let i := row * d.cols + col
    let mine := fun (q : Recheck) => q.row == row && q.col == col && q.held == held && q.twin == twin
    let fails := if d.rechecks.any (fun q => mine q && q.frame != d.frameCnt) then 1 else 0
    let q : Recheck := ⟨row, col, s.recheckN, d.frameCnt, n, c, held, twin, fails, none⟩
    let s1 := { s with recheckN := s.recheckN + 1 }
    dropLive h (s1.modHead h (fun d => { d with
      rechecks := d.rechecks.filter (fun q => !mine q) ++ [q],
      tiles := d.tiles.map (fun e => (e.1, if e.1 = i && col < d.cols && e.2.verdict != .dark then { e.2 with verdict := .unverified } else e.2)) }))

/-- Whether the verification lane's schedule reaches a tile row in a head frame (R218). -/
def scheduled (t : HeadTiming) (h row : Nat) (fi : FrameIn) : Bool :=
  !fi.second && (row % 16 == (fi.tick + h) % 16 || (t.mult == 0 && row % 16 == (fi.tick + 1 + h) % 16))

end Sys2Proof.Machine
end

