-- ==== Sys2Proof/Machine/TwinSig.lean ====
section
/-! DEFINITION. Withdrawal (R257), the signatures that a HOT pair exchanges and their comparison row by row (R254 to R256), and
divergence (R258). -/
namespace Sys2Proof.Machine

/-! ## Withdrawal (R257) -/

/-- The primary sender changes (R296): a session that was suppressed codes its next frame as an IDR. -/
def setPrimary (seatB : Bool) (s : State) : State :=
  if s.twin.primaryB == seatB then s
  else
    let s1 := { s with twin := { s.twin with primaryB := seatB } }
    if seatB == s.seatB then
      { s1 with enc := s1.enc.map (fun (e : Nat × Session) => (e.1, if e.2.suppressed then { e.2 with idrDue := max 1 e.2.idrDue } else e.2)) }
    else s1

/-- This seat withdraws, or where its peer is withdrawn raises TWIN_BOTH_FAULTY and stays (R257). Seat B is the primary sender from
seat A's withdrawal on (R296). -/
def withdraw (s : State) : State :=
  if !s.hot || s.twin.withdrawn then s
  else if s.twin.peerWithdrawn then raise .twinBothFaulty [] s
  else
    let s1 := sendFlume (.state (.withdraw s.time.tick)) { s with twin := { s.twin with withdrawn := true, withdrawTick := s.time.tick } }
    if s.seatB then s1 else setPrimary true s1

/-- An own recheck of a row that a twin mismatch sent to the verification lane has found a mismatch (R256). -/
def selfFault (h row : Nat) (s : State) : State :=
  withdraw (sendFlume (.state .selfFault) (raise .twinSelfFault [(1, h), (1, row), (4, (s.head h).frameCnt)]
    { s with twin := { s.twin with selfFaulted := true } }))

/-! ## The row flags and the own record (R254) -/

/-- ROW_FLAGS of a row of the frame that has just ended. -/
def rowFlags (s : State) (h row : Nat) : BitVec 8 :=
  let d := s.head h
  let tiles := (List.range d.cols).map (fun c => (row * d.cols + c, c))
  let dark := tiles.any (fun q => match tfind d.tiles q.1 with | some x => x.verdict == .dark | none => true)
  let out := match d.frame with
    | some fi => s.twin.outOfStep != [] && tiles.any (fun q =>
        (tileContribs s h fi row q.2).any (fun k => s.twin.outOfStep.contains k.pane.source))
    | none => false
  let own := d.rechecks.any (fun q => q.row == row && q.frame == d.frameCnt && !q.twin && q.held.isNone)
  BitVec.ofNat 8 (packFields [(0, 3, (d.rowVerdict row).code), (3, 1, b2n (d.rowFilled row)), (4, 1, b2n out), (5, 1, b2n dark),
    (6, 1, b2n own)])

/-- Whether every tile of the frame under way is DARK. -/
def Head.allDark (d : Head) : Bool := d.tiles.all (fun e => e.2.verdict == .dark)

/-- The signatures of the frame that has just ended on a head. -/
def sigRecord (s : State) (h : Nat) : SigRecord :=
  let d := s.head h
  let late := match d.frame with
    | some fi => s.twin.lateTicks.contains fi.tick
    | none => false
  ⟨d.frameCnt, d.allDark, frameSig h d, (List.range d.rows).map (rowSig h d), (List.range d.rows).map (rowFlags s h), late, false, s.time.now,
    match d.frame with
    | some fi => fi.tick
    | none => s.time.tick⟩

/-- The SIG frame of a record (R254). -/
def sigFrameOf (s : State) (h : Fin 32) (r : SigRecord) : SigFrame :=
  { head := h, trows := r.rowSigs.length, dark := r.dark, xchgLate := r.late, withdrawn := s.twin.withdrawn,
    selfFault := s.twin.selfFaulted, frameCnt := r.frameCnt, frameSig := r.frameSig, rowSigs := r.rowSigs,
    rowFlags := r.rowFlags, at' := s.time.now }

/-! ## Comparison (R255, R256) -/

/-- How a row of a frame compares (R255): 0 a match, 1 not compared, 2 a mismatch. -/
def rowCompare (s : State) (own peer : SigRecord) (row : Nat) : Nat :=
  let fa := (nth 0 own.rowFlags row).toNat
  let fb := (nth 0 peer.rowFlags row).toNat
  let kept := fun (f : Nat) => !bit f 3 && !bit f 4 && !bit f 5
  if own.dark || peer.dark || own.late || peer.late || s.twin.withdrawn || s.twin.peerWithdrawn || !kept fa || !kept fb then 1
  else if nth 0 own.rowSigs row = nth 0 peer.rowSigs row then 0
  else 2

/-- Whether the peer has declared itself faulty. -/
def State.peerFaulty (s : State) : Bool := s.twin.peerFaulted || s.twin.peerWithdrawn

/-- The episodes of a row end with a frame. -/
def closeRow (h row cnt : Nat) (s : State) : State :=
  s.modHead h (fun d => { d with
    episodes := d.episodes.map (fun x => if x.row = row && x.ended.isNone then { x with ended := some cnt } else x) })

/-- An episode judged once this seat's recheck and the comparison of the next frame are both in (R256). -/
def judgeRow (h row cnt : Nat) (s : State) : State :=
  match (s.head h).episodes.find? (fun e => e.row == row && e.ended.isNone) with
  | none => s
  | some e =>
    let close := closeRow h row cnt
    match e.own, e.cmp with
    | true, some 0 =>
      let s1 := raise .twinTransient [(1, h), (1, row), (4, cnt)] (close s)
      { s1 with twin := { s1.twin with cnt := { s1.twin.cnt with transients := (s1.twin.cnt.transients + 1) % 2 ^ 32 } } }
    | true, some _ => if s.peerFaulty then close s else s
    | _, _ => s

/-- Whether a list of ticks ends in three consecutive ones (R258). -/
def threeInRow (l : List Nat) : Bool :=
  match l.reverse with
  | a :: b :: c :: _ => a == b + 1 && b == c + 1
  | _ => false

/-- The tick that governs a frame of a head, by its number. -/
def tickOfFrame (s : State) (h cnt : Nat) : Nat :=
  match (s.head h).sigs.find? (fun r => r.frameCnt == cnt) with
  | some r => r.tick
  | none => s.time.tick

/-- A row matched (R255, R258). -/
def rowMatched (h row cnt : Nat) (s : State) : State :=
  let d := s.head h
  let s1 := if d.rowDiverged.contains row then raise .twinDivergenceEnd [(1, h), (1, row), (4, cnt)] s else s
  let s2 := s1.modHead h (fun d => { d with
    pairRows := tset row cnt d.pairRows, rowDiverged := d.rowDiverged.filter (· != row),
    episodes := d.episodes.map (fun e => if e.row = row && e.ended.isNone && e.frame != cnt then { e with cmp := some 0 } else e) })
  judgeRow h row cnt s2

/-- A row that could not be compared (R255). -/
def rowSkipped (h row cnt : Nat) (s : State) : State :=
  judgeRow h row cnt (s.modHead h (fun d => { d with
    episodes := d.episodes.map (fun e => if e.row = row && e.ended.isNone && e.frame != cnt then { e with cmp := some 1 } else e) }))

/-- A row that mismatches once more ends its episode where this seat's own recheck has passed and the peer has declared itself faulty (R256). -/
def peersFault (h row cnt : Nat) (s : State) : Bool :=
  s.peerFaulty && (s.head h).episodes.any (fun e => e.row == row && e.ended.isNone && e.own && e.frame != cnt)

/-- A row mismatched (R256, R258): it is held UNVERIFIED and goes to the verification lane, and after three ticks it has
diverged. -/
def rowMismatched (h row cnt : Nat) (s : State) : State :=
  let n := tickOfFrame s h cnt
  let d := s.head h
  let old := match d.episodes.find? (fun e => e.row == row && e.ended.isNone) with
    | some e => e.ticks
    | none => []
  let ticks := if old.contains n then old else old ++ [n]
  let e : RowEpisode := ⟨row, cnt, ticks, false, none, none⟩
  let s0 := raise .twinMismatch [(1, h), (1, row), (4, cnt)] s
  if peersFault h row cnt s then
    let s1 := dropLive h (closeRow h row cnt s0)
    { s1 with twin := { s1.twin with cnt := { s1.twin.cnt with mismatch := (s1.twin.cnt.mismatch + 1) % 2 ^ 32 } } }
  else
  let s1 := holdTile h row 255 none true s0
  let s2 := s1.modHead h (fun d => { d with episodes := d.episodes.filter (fun x => x.row != row) ++ [e] })
  let s3 := dropLive h { s2 with twin := { s2.twin with cnt := { s2.twin.cnt with mismatch := (s2.twin.cnt.mismatch + 1) % 2 ^ 32 } } }
  if threeInRow ticks && !s3.peerFaulty && !s3.twin.selfFaulted && !d.rowDiverged.contains row then
    let s4 := sendFlume (.state .divergence) (raise .twinDivergence [(1, h), (1, row), (4, cnt)] s3)
    let s5 := s4.modHead h (fun d => { d with rowDiverged := row :: d.rowDiverged })
    { s5 with twin := { s5.twin with cnt := { s5.twin.cnt with divergences := (s5.twin.cnt.divergences + 1) % 2 ^ 32 } } }
  else s3

/-- A head DARK on one seat only (R241): TWIN_DARK_SKEW once an episode. -/
def noteSkew (h : Nat) (own peer : SigRecord) (s : State) : State :=
  if own.dark == peer.dark then { s with twin := { s.twin with darkSkew := s.twin.darkSkew.filter (· != h) } }
  else if s.twin.darkSkew.contains h then s
  else raise .twinDarkSkew [(1, h)] { s with twin := { s.twin with darkSkew := h :: s.twin.darkSkew } }

/-- A head frame compared once both seats' signatures are in (R255), and whether all its rows are alike (R240 step 5). -/
def compareFrame (h cnt : Nat) (s : State) : State :=
  let d := s.head h
  match d.sigs.find? (fun r => r.frameCnt == cnt && !r.compared), d.peerSigs.find? (fun r => r.frameCnt == cnt) with
  | some own, some peer =>
    let s1 := noteSkew h own peer (s.modHead h (fun d => { d with
      pairMatch := own.rowSigs == peer.rowSigs && !own.late && !peer.late
      sigs := d.sigs.map (fun r => if r.frameCnt = cnt then { r with compared := true } else r) }))
    (List.range own.rowSigs.length).foldl (fun a r =>
      match rowCompare a own peer r with
      | 0 => rowMatched h r cnt a
      | 1 => rowSkipped h r cnt a
      | _ => rowMismatched h r cnt a)
      { s1 with twin := { s1.twin with sigRun := tset h 0 s1.twin.sigRun } }
  | _, _ => s

/-- Whether the frame that has just ended on a head is one of a pair's last tick, whose SIG still goes out (R236). -/
def lastOfPair (s : State) (h : Nat) : Bool :=
  s.twin.linkDown && s.twin.downHot && (s.head h).frame.any (fun fi => fi.tick ≤ s.twin.downTick)

/-- This seat's record of a head frame: sent to the peer and compared (R254). The last four are kept. -/
def sendSig (h : Fin 32) (s : State) : State :=
  let n := match (s.head h).frame with
    | some fi => fi.tick
    | none => s.time.tick
  if s.hot then
    let r := sigRecord s h
    let s1 := s.modHead h (fun d => { d with sigs := (d.sigs ++ [r]).drop (d.sigs.length - 3) })
    compareFrame h r.frameCnt (sendFrame n none (.sig (sigFrameOf s h r)) s1)
  else if lastOfPair s h then sendFrame n none (.sig (sigFrameOf s h (sigRecord s h))) s
  else s

end Sys2Proof.Machine
end

