-- ==== Sys2Proof/Machine/Heads.lean ====
section
/-! DEFINITION. Head frames: their start (R46, R80, R81, R194, R195), compose of their lines (R172, R181, R210), the departure of
their tiles (R80, R212), their end with the final row verdicts and the Flaund record (R71, R266 to R269), retirement of buffers
(R180), safe points (R199) and retimes (R197). -/
namespace Sys2Proof.Machine

/-! ## Frame start -/

/-- Whether a head frame that starts at an instant is black (R68, R79, R199, R200, R204, R208). -/
def frameBlank (s : State) (h : Nat) (fi : FrameIn) (start : Nat) : Bool :=
  let d := s.head h
  let tested := match d.timing.port with
    | some p => (s.dpPort p).pattern != 0
    | none => false
  !s.alive || d.darkPin || fi.dark || d.unplugged || !fi.on || d.disabling || start < d.darkFree || tested

/-- The tiles of a black frame. -/
def blackTiles (d : Head) : Table TileOut :=
  (List.range (d.rows * d.cols)).map (fun i => (i, ⟨.dark, .dark, false, true, false, 0, false⟩))

/-- The evaluated tiles with those already composed before the frame start at the worse of two verdicts (R81). -/
def mergeTiles (pre new : Table TileOut) : Table TileOut :=
  new.map (fun e => (e.1, match tfind pre e.1 with
    | some x => { e.2 with verdict := worse x.verdict e.2.verdict, drawn := worse x.drawn e.2.drawn }
    | none => e.2))

/-- Whether the per-head live state rises at a frame start (R80): every guarded tile LIVE, and no tile row UNVERIFIED. -/
def mayRise (tiles : Table TileOut) : Bool := tiles.all (fun e => (!e.2.guarded || e.2.verdict == .live) && e.2.verdict != .unverified)

/-- CAPTURE_FUTURE once per source until the contradiction ends on every head (R65), from a whole frame's evaluation. -/
def noteFuture (h : Nat) (fi : FrameIn) (s : State) : State :=
  let seen := clockChecks s h fi (List.range (s.head h).rows)
  let bad := dedup ((seen.filter (fun q => q.2)).map Prod.fst)
  let s1 := { s with sources := s.sources.map (fun e =>
    if bad.contains e.1 then e else (e.1, { e.2 with futureHeads := e.2.futureHeads.filter (· != h) })) }
  bad.foldl (fun a x =>
    let old := (a.source x).futureHeads
    let a1 := a.modSource x (fun r => { r with futureHeads := h :: old.filter (· != h) })
    if old == [] then raise .captureFuture [(1, x)] a1 else a1) s1

/-- Whether a pane's crop extends beyond the picture it shows (R162). -/
def cropClipped (s : State) (p : PaneIn) : Bool :=
  match paneSlot s p with
  | some x => let (cx, cy, cw, ch) := p.crop; x.width < cx + cw || x.height < cy + ch
  | none => false

/-- PANE_CROP_CLIP once per pane until the crop fits again (R162). -/
def noteClips (fi : FrameIn) (s : State) : State :=
  fi.panes.foldl (fun a p =>
    if p.source < 192 then
      let said := (a.pane p.pane).clipSaid
      let now := cropClipped a p
      let a1 := a.modPane p.pane (fun r => { r with clipSaid := now })
      if now && !said then raise .paneCropClip [(2, p.pane)] a1 else a1
    else a) s

/-- What a head shows, as (pane, ledger frame) pairs (R195): the frame by its source, slot and number. -/
def shownKeys (s : State) (fi : FrameIn) : List (Nat × Nat) :=
  fi.panes.filterMap (fun p =>
    match p.slot, paneSlot s p with
    | some k, some x => some (p.pane, (slotKey p.source k) * 2 ^ 32 + x.hdr.frameSeq)
    | _, _ => none)

/-- HEAD_FLIP_CNT and HEAD_FLIP_T (R195). -/
def noteFlip (h : Nat) (fi : FrameIn) (s : State) : State :=
  let d := s.head h
  let keys := shownKeys s fi
  if keys.any (fun k => !d.shownKey.contains k) then
    s.modHead h (fun d => { d with shownKey := keys, flipCnt := d.frameCnt, flipT := d.frameStart })
  else s.modHead h (fun d => { d with shownKey := keys })

/-- The offset in pixel clocks of a pane's first visible pixel in a head frame, where it has one. -/
def firstVisible (s : State) (h : Nat) (fi : FrameIn) (pane : Nat) : Option Nat :=
  let t := (s.head h).timing
  let l := ((frameCells s h fi ⟨0, 0, t.hactive, t.vactive⟩).filter (fun q => q.panes.any (fun p => p.pane == pane))).map
    (fun q => pixelOffset t q.rect.x0 q.rect.y0)
  match l with
  | [] => none
  | a :: r => some (r.foldl Nat.min a)

/-- Legend generations that come on glass with a head frame (R347). The last eight changes are kept. -/
def noteLegends (h : Nat) (fi : FrameIn) (s : State) : State :=
  let t := (s.head h).timing
  { s with legends := s.legends.map (fun e =>
      match e.2.next, fi.panes.find? (fun p => p.pane == e.2.pane) with
      | some (gen, seq), some p =>
        match paneSlot s p, firstVisible s h fi p.pane with
        | some x, some k =>
          if x.hdr.frameSeq = seq then
            let l := ((departure s.grid t fi.tick fi.second k).floor, gen) :: e.2.changes
            (e.1, { e.2 with next := none, changes := l.take 8, dropped := e.2.dropped || 8 < l.length })
          else e
        | _, _ => e
      | _, _ => e) }

/-- The host buffers that a head frame fetches from (R180). -/
def noteScans (h : Nat) (fi : FrameIn) (s : State) : State :=
  let cnt := (s.head h).frameCnt
  (fi.panes.filter (fun p => 128 ≤ p.source && p.source < 192)).foldl (fun a p =>
    match paneSlot a p with
    | some x =>
      match x.buf with
      | some b =>
        if (firstVisible a h fi p.pane).isSome then
          a.modBuf b (fun r => { r with scans := r.scans.filter (fun q => q.1 != h) ++ [(h, cnt)] })
        else a
      | none => a
    | none => a) s

/-- The panes of host layers that are visible in a head frame. -/
def layerPanes (s : State) (h : Nat) (fi : FrameIn) : List Nat :=
  let t := (s.head h).timing
  let cells := frameCells s h fi ⟨0, 0, t.hactive, t.vactive⟩
  (fi.panes.filter (fun p => 128 ≤ p.source && p.source < 192 && cells.any (fun q => q.panes.any (fun x => x.pane == p.pane)))).map
    (fun p => p.pane)

/-- A head frame is noted for the perception instants of later presses (R348); frames older than 2 s are forgotten. -/
def noteFrame (h cnt : Nat) (start : Time64) (black : Bool) (panes : List Nat) (s : State) : State :=
  s.modHead h (fun d => { d with hist :=
    ⟨cnt, start, if black then some start else none, panes, []⟩ :: d.hist.filter (fun e => start < e.start + 2000000000) })

/-- The panes of the head frame that has ended with an UNVERIFIED tile row are noted (R348). -/
def noteUnver (h : Nat) (fi : FrameIn) (s : State) : State :=
  let d := s.head h
  let bad := fun (p : Nat) => (visibleTiles s h fi p).any (fun i => d.rowVerdict (i / d.cols) == .unverified)
  s.modHead h (fun d => { d with hist := d.hist.map (fun e => if e.cnt = d.frameCnt then { e with unver := e.panes.filter bad } else e) })

/-- A head frame begins with its inputs (R46, R80, R81, R194, R196). -/
def beginFrame (h : Nat) (fi : FrameIn) (rest : List FrameIn) (start : Nat) (s : State) : State :=
  let blank := frameBlank s h fi start
  let s1 := s.modHead h (fun d => { d with
    nextIn := rest, frame := some fi, frameCnt := frameCntOf d.timing fi.tick fi.second, frameStart := start,
    inFrame := true, vblank := false, blankNow := blank, darkCmd := fi.dark, enabled := fi.on || d.disabling,
    blankPx := none, grey := d.preGrey, greySrc := d.preGreySrc, preGreySrc := [], colour := fi.bank.getD d.colour,
    rechecks := d.rechecks.filter (fun q => q.passed.all (· == frameCntOf d.timing fi.tick fi.second)),
    episodes := d.episodes.filter (fun e => e.ended.isNone), lostTiles := d.preLost, preLost := [],
    preGrey := [], lines := d.preLines, composed := d.preComposed, preLines := [], preComposed := 0, preTiles := [], weirSaid := d.preWeir, preWeir := false,
    recDone := false, startWd := s.hot && s.twin.withdrawn, fillRun := none, unread := [] })
  if blank then
    settlePins (sendMsa h fi (noteFrame h (s1.head h).frameCnt start true []
      (leaveFuture h (s1.modHead h (fun d => { d with tiles := blackTiles d, lines := [], composed := d.timing.vactive, live := false })))))
  else
    let tiles := mergeTiles (s.head h).preTiles (evalFrame s1 h fi)
    let s2 := s1.modHead h (fun d => { d with
      tiles := tiles, live := d.live || mayRise tiles, restart := false, cnt := { d.cnt with frames := (d.cnt.frames + 1) % 2 ^ 32 } })
    let s3 := noteFrame h (s1.head h).frameCnt start false (layerPanes s2 h fi)
      (noteScans h fi (noteLegends h fi (noteFlip h fi (noteClips fi (noteFuture h fi s2)))))
    let s4 := match (s.head h).reEnable with
      | some tag => if (s.head h).restart then raiseTag .headReady tag [(1, h)] (s3.modHead h (fun d => { d with reEnable := none })) else s3
      | none => s3
    settlePins (sendMsa h fi s4)

/-- The end of a retime, at the first scheduled frame start HEAD_WEIR_HIGH after its steps are done (R197 step 4). -/
def endRetime (h : Nat) (fi : FrameIn) (s : State) : State :=
  raise .headRetimed [(1, h), (4, frameCntOf (s.head h).timing fi.tick fi.second)]
    (s.modHead h (fun d => { d with retime := none, running := true }))

/-- Whether a retime ends with a head frame that starts at an instant: the first one HEAD_WEIR_HIGH after its steps are done (R197). -/
def Retime.endsAt (r : Retime) (fi : FrameIn) (start : Nat) : Bool := r.readyT.any (fun t => decide (t + 1000 * fi.weirHigh ≤ start))

/-- FRAME_START (R46): the next scheduled head frame starts at its instant. A head that is retiming only counts it (R194), and what the tick
set for it is in force: HEAD_ENABLE and a colour set (R214, R223). -/
def execFrameStart (h : Fin 32) (s : State) : Host.Outcome State Fault Refusal :=
  act (fun s =>
    let d := s.head h
    match d.nextIn with
    | [] => s
    | fi :: rest =>
      let start := (departure s.grid d.timing fi.tick fi.second 0).floor
      let s0 := atTime (max s.time.now start) s
      let cnt := frameCntOf d.timing fi.tick fi.second
      let skip := leaveFuture h (noteFrame h cnt start true [] (s0.modHead h (fun d =>
        { d.passBanks [fi] with nextIn := rest, frameCnt := cnt, enabled := fi.on })))
      match d.retime with
      | some r => if r.endsAt fi start then beginFrame h fi rest start (endRetime h fi s0) else skip
      | none => if d.running then beginFrame h fi rest start s0 else skip) s

/-! ## Compose (R181, R210, R309, R313) -/

/-- Tiles of the frame under way that become UNVERIFIED while it is composed or leaves (R80): a black tile stays DARK, and the live state
falls where one of them has begun to leave. -/
def unverifyTiles (h : Nat) (tiles : List Nat) (s : State) : State :=
  let gone := (s.head h).tiles.any (fun e => tiles.contains e.1 && e.2.departed)
  let s1 := s.modHead h (fun d => { d with
    tiles := d.tiles.map (fun e => (e.1, if tiles.contains e.1 then
      { e.2 with verdict := worse e.2.verdict .unverified, drawn := worse e.2.drawn .unverified } else e.2)) })
  if gone then dropLive h s1 else s1

/-- The tiles of the frame in `frame` to which a ledger frame contributes are UNVERIFIED (R55, R82). -/
def faultTiles (src slot h : Nat) (s : State) : State :=
  match (s.head h).frame with
  | some fi =>
    let mine := fi.panes.filter (fun p => p.guarded && p.source == src && p.slot == some slot)
    if mine == [] then s else unverifyTiles h (mine.flatMap (paneTiles s h fi)) s
  | none => s

/-- A source's ledger record that cannot be read (R55): the event, and the frame is UNVERIFIED from then on, on the tiles already judged of the
head frames in which the fault is seen as well. -/
def ledgerFault (src slot : Nat) (heads : List Nat) (s : State) : State :=
  match s.slot src slot with
  | none => s
  | some x =>
    heads.foldl (fun a h => faultTiles src slot h a)
      (raise .ledgerFault [(1, src), (1, slot)] { s with ledger := tset (slotKey src slot) { x with unreadable := true } s.ledger })

/-- The heads whose frame under way has not ended. -/
def scanning (s : State) : List Nat := (s.heads.filter (fun e => e.2.inFrame)).map Prod.fst

/-- Mid-grey in place of a source tile's samples (R309): half the range of each component, alpha full. -/
def greyTile (s : State) (src row col : Nat) : State :=
  if src < 128 then
    { s with ledger := s.ledger.map (fun e =>
        if e.1 / 4 = src then
          let i := row * tileCols e.2.width + col
          let b := nth [] e.2.samples i
          let grey := if e.2.depth ≤ 8 then List.replicate b.length 0x80 else ((List.replicate (b.length / 2) [0x00, 0x80]).flatten : Bytes)
          (e.1, { e.2 with samples := setNth grey e.2.samples i })
        else e) }
  else
    let bufs := s.ledger.filterMap (fun e => if e.1 / 4 = src then e.2.buf.bind (fun b => tfind s.cfg.bufs b) else none)
    bufs.foldl (fun a b =>
      let n := formatBytes b.format
      let word : Nat := if b.format = 0 then 0xFF808080 else if b.format = 1 then 0xE0080200 else if b.format = 2 then 0x8410 else 0x80
      let line := (List.replicate (min 64 (b.w - 64 * col)) (le n word)).flatten
      { a with dram := (countFrom (64 * row) (min 64 (b.h - 64 * row))).foldl (fun m y =>
          dramWrite (hostBase s.cfg + b.offset + y * b.stride + 64 * col * n) line m) a.dram }) s

/-- The source tile that a lost item of a compose line takes out, and the output tiles that the item feeds (R309, R313). -/
def lostEffect (s : State) (h : Nat) (fi : FrameIn) (y : Nat) : LostData → List (Nat × Nat × Nat) × List Nat
  | .fetch src row col => ([(src, row, col)], fedTiles s h fi src row col)
  | .lineBuffer pane => ([], (visibleTiles s h fi pane).filter (fun i => i / (s.head h).cols == y / 64))
  | .ledger _ _ => ([], [])

/-- The effect on the verdicts of data that a compose line lost (R68, R80). -/
def takeLost (h : Nat) (tiles : List Nat) (s : State) : State :=
  unverifyTiles h tiles (s.modHead h (fun d => { d with lostTiles := dedup (d.lostTiles ++ tiles) }))

/-- The output lines of a pane that used a lost word of its scaler's line buffer are mid-grey when they reach the Sluice (R313). Lines of the
frame under way that already stand in the FIFO and have not begun to leave are drawn again. -/
def greyLines (h pane line0 line1 : Nat) (s : State) : State :=
  match (s.head h).frame with
  | none => s
  | some fi =>
    let tiles := (visibleTiles s h fi pane).filter (fun i => line0 / 64 ≤ i / (s.head h).cols && i / (s.head h).cols ≤ line1 / 64)
    let s1 := takeLost h tiles (s.modHead h (fun d => { d with grey := (pane, line0, line1) :: d.grey }))
    s1.modHead h (fun d => { d with lines := d.lines.map (fun l =>
      if line0 ≤ l.1 && l.1 ≤ line1 && s.time.now < lineDep s h fi l.1 && !d.rowFilled (l.1 / 64) then (l.1, drawLine s1 h fi d.tiles l.1) else l) })

/-- A fetched tile of a host buffer, signed and compared (R181). A recheck is the fetch of the first frame in which it has a place (R220). -/
def signTile (h : Nat) (fi : FrameIn) (p : PaneIn) (row col : Nat) (s : State) : State :=
  match p.slot, paneSlot s p with
  | some k, some x =>
    let i := row * x.hdr.cols + col
    match slotBuf s x, (x.tiles.drop i).head? with
    | some b, some r =>
      let sig := tileSig p.source row col (hostTile s b row col)
      let put := fun (r' : TileRec) (s : State) =>
        { s with ledger := tset (slotKey p.source k) { x with tiles := setNth r' x.tiles i } s.ledger }
      let key := some (p.source, row, col)
      if r.repCnt = 0 then put { r with sig := sig, repCnt := 1 } s
      else if sig = r.sig then
        (put { r with repCnt := min 255 (r.repCnt + 1) } s).modHead h (fun d => { d with rechecks := d.rechecks.map (fun q =>
          if q.held = key && q.frame != d.frameCnt && q.passed.isNone && (d.frameCnt + 2 ^ 32 - q.placed) % 2 ^ 32 < 2 ^ 31 then
            { q with passed := some d.frameCnt } else q) })
      else
        let s1 := put { r with hostmod := true, repCnt := min 255 (r.repCnt + 1) } s
        let s2 := raise .bufModifiedHeld [(2, x.buf.getD 0), (1, p.source), (1, row), (1, col), (4, (s.head h).frameCnt)] s1
        (fedTiles s h fi p.source row col).foldl (fun a t =>
          let d := a.head h
          dropLive h (holdTile h (t / d.cols) (t % d.cols) key false a)) s2
    | _, _ => s
  | _, _ => s

/-- The fetches of a line from host buffers, in the panes' order. A tile whose visible pixels are all transparent is not checked (R182). -/
def signLine (h : Nat) (fi : FrameIn) (y : Nat) (s : State) : State :=
  (fi.panes.filter (fun p => 128 ≤ p.source && p.source < 192 && p.slot.isSome)).foldl (fun a p =>
    ((newTiles a h fi p y).filter (litTile a h fi p)).foldl (fun b q => signTile h fi p q.1 q.2 b) a) s

/-- A line of the frame in `frame` composed (R210): the lead as it then stands, which for a frame's first line is that with the line in the
FIFO, verdicts of a tile row with its first line, lost data, the line's words, and the signing of what it fetched. -/
def makeLine (h : Nat) (fi : FrameIn) (y : Nat) (lost : List LostData) (s : State) : State :=
  let d := s.head h
  let dep := (departure s.grid d.timing fi.tick fi.second (pixelOffset d.timing 0 y)).floor
  let s1 := atTime (max s.time.now (dep - composeLead s fi dep)) s
  let s2 := lost.foldl (fun a x => match x with | .ledger src k => ledgerFault src k [h] a | _ => a)
    (if y = 0 then s1 else noteLead h ((s1.lead h).getD 0) s1)
  let s3 := if y % 64 = 0 then
      s2.modHead h (fun d => { d with tiles :=
        (d.tiles.filter (fun e => e.1 / d.cols != y / 64)) ++ evalRows s2 h fi [y / 64] })
    else s2
  let eff := lost.map (lostEffect s3 h fi y)
  let s4 := (takeLost h (eff.flatMap (fun e => e.2)) s3).modHead h (fun d => { d with
    greySrc := dedup (d.greySrc ++ eff.flatMap (fun e => e.1))
    grey := lost.filterMap (fun x => match x with | .lineBuffer pane => some (pane, y, y) | _ => none) ++ d.grey })
  let seen := (s4.head h).greySrc.foldl (fun a q => greyTile a q.1 q.2.1 q.2.2) s4
  let words := drawLine seen h fi (s4.head h).tiles y
  let s5 := s4.modHead h (fun d => { d with lines := d.lines ++ [(y, words)], composed := y + 1 })
  let s6 := signLine h fi y s5
  if y = 0 then noteLead h ((s6.lead h).getD 0) s6 else s6

/-- A head as its next frame is composed ahead of its start: that frame's tiles and lines in place of those under way. -/
def Head.ahead (d : Head) (fi : FrameIn) : Head :=
  { d with frame := some fi, frameCnt := frameCntOf d.timing fi.tick fi.second, tiles := d.preTiles, lines := d.preLines,
           composed := d.preComposed, lostTiles := d.preLost, weirSaid := d.preWeir, preComposed := 0, grey := d.preGrey, greySrc := d.preGreySrc }

/-- The head after its next frame's line was composed: the frame under way as it was, the next frame's results kept. -/
def Head.back (d old : Head) : Head :=
  { d with frame := old.frame, frameCnt := old.frameCnt, tiles := old.tiles, lines := old.lines, composed := old.composed,
           lostTiles := old.lostTiles, weirSaid := old.weirSaid, preWeir := d.weirSaid, preTiles := d.tiles, preLines := d.lines,
           preComposed := d.composed, preLost := d.lostTiles, grey := old.grey, preGrey := d.grey,
           greySrc := old.greySrc, preGreySrc := d.greySrc }

/-- LINE_COMPOSE (R210): the next line of the frame under way, or when that is composed of the next frame, which begins before its
start. Lines whose departure has passed underflow (R212). A frame that will be black is not composed, and in a retime only the first new frame
is (R197). -/
def execLineCompose (h : Fin 32) (y : Nat) (lost : List LostData) (s : State) : Host.Outcome State Fault Refusal :=
  act (fun s =>
    let d := s.head h
    if !s.alive then s
    else if d.running && d.inFrame && d.composed < d.timing.vactive then
      match d.frame with
      | some fi =>
        if d.blankNow || y != d.composed then s
        else if lineDep s h fi y < s.time.now then starve h d.rows s
        else makeLine h fi y lost s
      | none => s
    else
      match d.nextIn with
      | fi :: _ =>
        let start := (departure s.grid d.timing fi.tick fi.second 0).floor
        let comes := match d.retime with
          | some r => r.endsAt fi start
          | none => d.running
        if !comes || y != d.preComposed || d.timing.vactive ≤ y || frameBlank s h fi start then s
        else
          let s0 := s.modHead h (fun d => d.ahead fi)
          let s1 := if y = 0 then s0.modHead h (fun d => { d with tiles := evalFrame s0 h fi }) else s0
          let s2 := makeLine h fi y lost s1
          s2.modHead h (fun e => e.back d)
      | [] => s) s

/-! ## Departure (R80, R212) -/

/-- TILE_DEPARTURE (R80): the first pixel of a tile leaves; a guarded tile that is not LIVE, or one whose data was lost, drops the
live state, and a pixel that is not in the FIFO is an underflow. -/
def execTileDeparture (p : TilePos) (missing : Bool) (s : State) : Host.Outcome State Fault Refusal :=
  act (fun s =>
    let h : Nat := p.head
    let d := s.head h
    let i := p.row * d.cols + p.col
    match d.frame, tfind d.tiles i with
    | some fi, some x =>
      if !d.inFrame || p.col ≥ d.cols || x.departed then s
      else
        let s0 := starve h p.row (atTime (max s.time.now (tileDep s h fi p.row p.col).floor) s)
        let s1 := if x.filled || x.verdict == .dark || d.blankNow then s0
          else if missing || d.composed ≤ 64 * p.row then fillFrom h p.row (64 * p.col) (64 * p.row) 0 (noteLead h 0 s0)
          else if p.col = 0 then endFillAt p.row h s0 else s0
        let s2 := s1.modHead h (fun d => { d with tiles := d.tiles.map (fun e => (e.1, if e.1 = i then { e.2 with departed := true } else e.2)) })
        let y := tget x (s2.head h).tiles i
        if y.verdict != .dark && ((y.guarded && y.verdict != .live) || (s2.head h).lostTiles.contains i) then dropLive h s2 else s2
    | _, _ => s) s
where
  /-- A run of filled rows is over when the next row leaves whole. -/
  endFillAt (row h : Nat) (s : State) : State :=
    match (s.head h).fillRun with
    | some (first, n, _) => if first + n ≤ row then endFill h s else s
    | none => s

/-! ## The end of a frame -/

/-- What a vertical blanking that begins on a head transfers (R196 to R198): the port takes its new configuration, and the head its shadow
set, once the frame that has ended has its record (R71). In a retime whose first new frame is still to come, nothing is transferred. -/
def transferTiming (h : Nat) (s : State) : State :=
  if s.retimeRuns h then s
  else
    let s1 := match (s.head h).timing.port with
      | some p => if (s.dpPort p).pendingCfg then applyPort p s else s
      | none => s
    match (s1.head h).shadow with
    | some x => if (s1.head h).recDone then takeShadow h x s1 else s1.modHead h (fun d => { d with shadowDue := true })
    | none => s1

/-- The instant some pixel clocks after the last active pixel of the frame under way has left (R46, R47). -/
def afterLast (s : State) (h k : Nat) : Time64 :=
  let t := (s.head h).timing
  (s.head h).frameStart + clocksNs s.grid t (pixelOffset t (t.hactive - 1) (t.vactive - 1) + k)

/-- VBLANK_START (R196, R197): once its last active pixel has left, the frame under way has ended, its lines that never came as underflows (R212);
its signatures go to the peer (R254), and what has been committed is transferred. A head that scans no frame, while its link is down, has its
vertical blankings on the tick grid all the same. -/
def execVblankStart (h : Fin 32) (t : Time64) (s : State) : Host.Outcome State Fault Refusal :=
  act (fun s =>
    let d := s.head h
    let s0 := atTime t s
    if d.inFrame then
      if t < afterLast s h 0 then s
      else transferTiming h (sendSig h (endFill h ((starve h d.rows s0).modHead h (fun d => { d with inFrame := false, vblank := true }))))
    else if d.retime.isSome then transferTiming h s0
    else s) s

/-- The worst verdict of a pane's tiles in the frame that has ended, with PANE_VERDICT where it has changed since the pane's
frame before. -/
def notePane (h : Nat) (fi : FrameIn) (p : PaneIn) (s : State) : State :=
  match (paneTiles s h fi p).filterMap (tfind (s.head h).tiles) with
  | [] => s
  | l =>
    let v := worstOf (l.map (fun x => x.verdict))
    let r := s.pane p.pane
    let s1 := s.modPane p.pane (fun r => { r with worst := v, judged := true })
    if r.judged && r.worst != v then raise .paneVerdict [(2, p.pane), (1, r.worst.code), (1, v.code)] s1 else s1

/-- A nibble of a tile row in the verdict summary and the record (R268, R376). -/
def rowNibble (d : Head) (row : Nat) : Nat := if row < d.rows then (d.rowVerdict row).code + 8 * b2n (d.rowFilled row) else 0

/-- HEAD_VSUM of the frame that has ended (R71, R376). -/
def vsumOf (d : Head) : List Nat :=
  (List.range 16).map (fun j => packFields ((List.range 8).map (fun i => (4 * i, 4, rowNibble d (8 * j + i)))))

/-- The Flaund record's body (R268). -/
def flaundBody (s : State) (h : Nat) (fi : FrameIn) : Bytes :=
  let d := s.head h
  let flags := packFields [(0, 1, b2n s.seatB), (1, 1, b2n d.startWd), (2, 1, b2n (s.hot && s.twin.withdrawn)), (3, 1, b2n d.allDark),
    (4, 1, b2n (s.hot && s.twin.lateTicks.contains fi.tick)), (5, 1, b2n (s.hot && s.twin.selfFaulted)), (6, 1, b2n d.resync)]
  let b := le 1 flags ++ le 1 s.twin.mode.code ++ le 1 h ++ le 1 d.rows ++ le 4 d.frameCnt ++ le 8 fi.tick
    ++ le 4 (frameSig h d).toNat ++ (List.range 64).flatMap (fun i => le 1 (rowNibble d (2 * i) + 16 * rowNibble d (2 * i + 1))) ++ zeros 12
  b ++ le 4 (crc32c 0 b).toNat

/-- The five packets of a record (R267). -/
def flaundParts (s : State) (h : Nat) (fi : FrameIn) : List Bytes :=
  let body := flaundBody s h fi
  (List.range 5).map (fun i =>
    le 4 0x4C1F8100 ++ le 3 (pv s.cfg pFlaundId 0) ++ le 4 0x444E4C46 ++ le 1 1 ++ le 1 i ++ zeros 1 ++ le 2 ((s.head h).frameCnt % 65536)
    ++ slice body (20 * i) 20)

/-- Whether the thermal level halves the cadence (R282). -/
def halved (s : State) : Bool := s.power.level != .normal

/-- The cadence in force (R282). -/
def cadence (s : State) (x : Nat) : Nat := pv s.cfg pEncCadence x * (if halved s then 2 else 1)

/-- FRAMES_SKIPPED (R299): a head frame that a running session would take but for the thermal cadence or because it is DARK
throughout. -/
def noteSkipped (h : Nat) (s : State) : State :=
  let d := s.head h
  (encSessions s.cfg).foldl (fun a x =>
    if pv a.cfg pEncHead x = h && (a.session x).running && d.frameCnt % pv a.cfg pEncCadence x = 0
        && (d.allDark || d.frameCnt % cadence a x != 0) then
      a.modSession x (fun e => { e with cnt := { e.cnt with skipped := (e.cnt.skipped + 1) % 2 ^ 32 } })
    else a) s

/-- FLAUND_RECORD_ASSEMBLY (R71, R269): 64 pixel clocks after the last active pixel the row verdicts are final, the summary and WORST are
updated, and the record is sent where the head has one. A shadow set whose vertical blanking has begun is then transferred (R196). -/
def execFlaundRecordAssembly (h : Fin 32) (t : Time64) (s : State) : Host.Outcome State Fault Refusal :=
  act (fun s =>
    let d := s.head h
    match d.frame with
    | none => s
    | some fi =>
      if d.inFrame || d.recDone || t < afterLast s h 64 then s
      else
        let s1 := (atTime t s).modHead h (fun d => { d with
          recDone := true, vsum := vsumOf d, vsumCnt := d.frameCnt,
          worst := worstOf ((List.range d.rows).map (fun r => d.rowVerdict r)) })
        let s2 := (fi.panes.filter (fun p => p.guarded)).foldl (fun a p => notePane h fi p a) (noteUnver h fi s1)
        let s3 := if fi.flaund && s2.linkUp h && s2.alive && d.retime.isNone then
            emit (.flaundRecord h (flaundParts s2 h fi)) (s2.modHead h (fun d => { d with resync := false }))
          else s2.modHead h (fun d => { d with resync := true })
        let s4 := noteSkipped h s3
        match (s4.head h).shadow with
        | some x => if (s4.head h).shadowDue then takeShadow h x s4 else s4
        | none => s4) s

/-! ## Retirement, safe points and retimes -/

/-- Whether a host buffer is still named by a slot that a pane shows, or fetched by a head frame that is under way, or that is to come with
pictures and a visible pane of it (R180). -/
def bufShown (s : State) (b : Nat) : Bool :=
  let names := fun (src : Nat) (k : Option Nat) => match k with
    | some k => (match s.slot src k with | some x => x.buf == some b | none => false)
    | none => false
  s.cfg.panes.any (fun e => names e.2.source (s.pane e.1).shown)
  || s.heads.any (fun e =>
      (e.2.inFrame && (s.buf b).scans.contains (e.1, e.2.frameCnt))
      || e.2.nextIn.any (fun fi => fi.on && !fi.dark && fi.panes.any (fun p => names p.source p.slot && (firstVisible s e.1 fi p.pane).isSome)))

/-- BUF_RETIRED (R180): a held buffer that nothing shows or scans any more is IDLE again. -/
def execBufRetired (b : Fin 1024) (t : Time64) (s : State) : Host.Outcome State Fault Refusal :=
  act (fun s =>
    let r := s.buf b
    if r.state != 2 || bufShown s b then s
    else
      raise .bufRetired ([(2, (b : Nat)), (1, 0)] ++ r.scans.flatMap (fun q => [(1, q.1), (4, q.2)]))
        ((atTime t s).setBuf b bufInit)) s

/-- HEAD_SAFE_POINT (R199): a head that is being disabled stops at the start of vertical blanking, and the frames whose inputs are already
latched are black. A head enabled again meanwhile shows from its next frame. -/
def execHeadSafePoint (h : Fin 32) (t : Time64) (s : State) : Host.Outcome State Fault Refusal :=
  act (fun s =>
    let d := s.head h
    if !d.disabling || d.inFrame then s
    else
      dropLive h ((atTime t s).modHead h (fun d => { d with
        disabling := false, enabled := false, nextIn := d.nextIn.map (fun fi => { fi with on := d.reEnable.isSome }), restart := d.reEnable.isSome, blankNow := true, rowMatch := [], rowMissed := [], pairRows := [], rowDiverged := [], rechecks := [],
        episodes := [], preComposed := 0, preLines := [], preTiles := [], preGrey := [], preGreySrc := [] }))) s

/-- HEAD_PLL_LOCKED (R197 step 2). -/
def execHeadPllLocked (h : Fin 32) (t : Time64) (s : State) : Host.Outcome State Fault Refusal :=
  act (fun s => settleRetime h ((atTime t s).modHead h (fun d => { d with retime := d.retime.map (fun r => { r with pllDone := true }) }))) s

/-- MST_ALLOCATION_DONE (R197 step 3): the stream's time slots are allocated on a link that is trained. -/
def execMstAllocationDone (h : Fin 32) (t : Time64) (s : State) : Host.Outcome State Fault Refusal :=
  act (fun s =>
    match (s.head h).timing.port with
    | none => s
    | some p =>
      if !(s.dpPort p).trained then s
      else settleRetime h (takeSlots h p ((atTime t s).modHead h (fun d =>
        { d with retime := d.retime.map (fun r => { r with portDone := true }) })))) s

end Sys2Proof.Machine
end

