-- ==== Sys2Proof/Machine/Packets.lean ====
section
/-! DEFINITION. What a stream packet and an access unit spell: Ethernet, IP, UDP and RTP (R84, R88), the payload formats (R89), NAL units
and SEI messages (R116, R131, R149), byte streams (R128). -/
namespace Sys2Proof.Machine

/-- A big-endian field of a packet. -/
def fbe (b : Bytes) (off len : Nat) : Nat := ofBe (slice b off len)

/-! ## Ethernet, IP and UDP (R84, R88) -/

/-- The sum of the 16-bit words of a byte string, an odd last byte filled with 0. -/
def wordSum : Bytes → Nat
  | a :: b :: r => a.toNat * 256 + b.toNat + wordSum r
  | [a] => a.toNat * 256
  | [] => 0

/-- A datagram towards a UDP port (R88): whether it keeps the subset, and its UDP payload. A fragment without a UDP header and a packet with
an IPv6 extension header name no port. -/
structure UdpIn where
  vlan : Nat
  src  : Bytes
  dst  : Bytes
  port : Option Nat
  ok   : Bool
  data : Bytes
  deriving DecidableEq, Repr

/-- A UDP datagram under its addresses (R88): the checksum is verified where it is not 0, and required over IPv6. -/
def udpIn (vlan : Nat) (src dst b : Bytes) : UdpIn :=
  let n := fbe b 4 2
  let fits := 8 ≤ n && n ≤ b.length
  let sum := wordSum src + wordSum dst + 17 + n + wordSum (b.take n)
  let sumOk := if fbe b 6 2 = 0 then dst.length == 4 else sum % 65535 == 0
  ⟨vlan, src, dst, some (fbe b 2 2), fits && sumOk, slice b 8 (n - 8)⟩

/-- An IPv4 packet that carries UDP (R88): a fragment is outside the subset. -/
def ip4In (vlan : Nat) (p : Bytes) : Option UdpIn :=
  let ihl := 4 * (fbe p 0 1 % 16)
  let total := fbe p 2 2
  let src := slice p 12 4
  let dst := slice p 16 4
  if fbe p 0 1 / 16 != 4 || ihl < 20 || total < ihl || p.length < total || fbe p 9 1 != 17 then none
  else
    let body := slice p ihl (total - ihl)
    if fbe p 6 2 % 2 ^ 14 != 0 then
      some ⟨vlan, src, dst, if fbe p 6 2 % 2 ^ 13 = 0 then some (fbe body 2 2) else none, false, []⟩
    else some (udpIn vlan src dst body)

/-- The IPv6 extension headers, by their protocol numbers. -/
def ip6Exts : List Nat := [0, 43, 44, 50, 51, 60, 135, 139, 140]

/-- An IPv6 packet that carries UDP (R88): one with an extension header is outside the subset. -/
def ip6In (vlan : Nat) (p : Bytes) : Option UdpIn :=
  let n := fbe p 4 2
  let src := slice p 8 16
  let dst := slice p 24 16
  if fbe p 0 1 / 16 != 6 || p.length < 40 + n then none
  else if fbe p 6 1 = 17 then some (udpIn vlan src dst (slice p 40 n))
  else if ip6Exts.contains (fbe p 6 1) then some ⟨vlan, src, dst, none, false, []⟩
  else none

/-- The datagram of a frame of up to 9,216 bytes with at most one 802.1Q tag (R84). -/
def datagramIn (b : Bytes) : Option UdpIn :=
  if 9216 < b.length then none
  else
    let tagged := fbe b 12 2 = 0x8100
    let vlan := if tagged then fbe b 14 2 % 4096 else 0
    let off := if tagged then 16 else 12
    let p := b.drop (off + 2)
    if fbe b off 2 = 0x0800 then ip4In vlan p else if fbe b off 2 = 0x86DD then ip6In vlan p else none

/-! ## RTP and RTCP (R88) -/

/-- An RTP packet without its padding (R88). -/
structure RtpIn where
  pt     : Nat
  marker : Bool
  seq    : Nat
  ts     : Nat
  ssrc   : Nat
  exts   : List (Nat × Bytes)
  data   : Bytes
  deriving DecidableEq, Repr

/-- The elements of a header extension in the one-byte form of RFC 8285. -/
def extsOne : Nat → Bytes → List (Nat × Bytes)
  | 0, _ => []
  | _, [] => []
  | n + 1, h :: r =>
    if h = 0 then extsOne n r
    else if h.toNat / 16 = 15 then []
    else (h.toNat / 16, r.take (h.toNat % 16 + 1)) :: extsOne n (r.drop (h.toNat % 16 + 1))

/-- The elements of a header extension in the two-byte form. -/
def extsTwo : Nat → Bytes → List (Nat × Bytes)
  | n + 1, h :: l :: r =>
    if h = 0 then extsTwo n (l :: r) else (h.toNat, r.take l.toNat) :: extsTwo n (r.drop l.toNat)
  | _, _ => []

/-- A UDP payload as an RTP packet of the subset (R88): version 2, the CSRC list skipped, header extensions in the two forms of RFC 8285, the
padding removed. -/
def rtpIn (b : Bytes) : Option RtpIn :=
  let h := fbe b 0 1
  let o := 12 + 4 * (h % 16)
  let ext := bit h 4
  let form := fbe b o 2
  let n := 4 * fbe b (o + 2) 2
  let body := if ext then b.drop (o + 4 + n) else b.drop o
  let pad := if bit h 5 then fbe body (body.length - 1) 1 else 0
  if h / 64 != 2 || b.length < o || (ext && b.length < o + 4 + n) || (ext && form != 0xBEDE && form / 16 != 0x100)
      || (bit h 5 && (pad = 0 || body.length < pad)) then none
  else
    let x := slice b (o + 4) n
    some ⟨fbe b 1 1 % 128, bit (fbe b 1 1) 7, fbe b 2 2, fbe b 4 4, fbe b 8 4,
      if !ext then [] else if form = 0xBEDE then extsOne n x else extsTwo n x, body.take (body.length - pad)⟩

/-- Whether a UDP payload is RTCP multiplexed with RTP, by its packet type (R88). -/
def isRtcp (b : Bytes) : Bool := 192 ≤ fbe b 1 1 && fbe b 1 1 < 224

/-- The packets of a compound RTCP datagram: type and bytes, none where a length does not fit. -/
def rtcpPackets : Nat → Bytes → Option (List (Nat × Bytes))
  | _, [] => some []
  | 0, _ => none
  | k + 1, b =>
    let n := 4 * (fbe b 2 2 + 1)
    if fbe b 0 1 / 64 != 2 || b.length < n then none
    else (rtcpPackets k (b.drop n)).map (fun l => (fbe b 1 1, b.take n) :: l)

/-- A sender report (R39). -/
structure SrIn where
  ssrc    : Nat
  ntpSec  : Nat
  ntpFrac : Nat
  rtp     : Nat
  deriving DecidableEq, Repr

/-- The sender reports of a list of RTCP packets. -/
def srsOf (l : List (Nat × Bytes)) : List SrIn :=
  l.filterMap (fun q => if q.1 = 200 && 28 ≤ q.2.length then some ⟨fbe q.2 4 4, fbe q.2 8 4, fbe q.2 12 4, fbe q.2 16 4⟩ else none)

/-! ## Payload formats (R89) -/

/-- The NAL units of an aggregation packet, each after its 16-bit size. -/
def aggregate : Nat → Bytes → Option (List Bytes)
  | _, [] => some []
  | 0, _ => none
  | k + 1, b =>
    let n := fbe b 0 2
    if b.length < 2 + n || n = 0 then none else (aggregate k (b.drop (2 + n))).map (fun l => slice b 2 n :: l)

/-- An H.264 payload (RFC 6184): a single NAL unit, STAP-A or FU-A. -/
def payload264 (b : Bytes) : Option Payload :=
  let k := fbe b 0 1 % 32
  if 1 ≤ k && k ≤ 23 then some (.nals [b])
  else if k = 24 && 3 ≤ b.length then (aggregate b.length (b.drop 1)).map Payload.nals
  else if k = 28 && 3 ≤ b.length && !(bit (fbe b 1 1) 7 && bit (fbe b 1 1) 6) then
    some (.frag (bit (fbe b 1 1) 7) (bit (fbe b 1 1) 6) [BitVec.ofNat 8 (fbe b 0 1 / 32 * 32 + fbe b 1 1 % 32)] (b.drop 2))
  else none

/-- An H.265 payload (RFC 7798) without decoding order numbers: a single NAL unit, an aggregation packet or a fragmentation unit. -/
def payload265 (b : Bytes) : Option Payload :=
  let k := fbe b 0 1 / 2 % 64
  if b.length < 3 then none
  else if k < 48 then some (.nals [b])
  else if k = 48 then (aggregate b.length (b.drop 2)).map Payload.nals
  else if k = 49 && 4 ≤ b.length && !(bit (fbe b 2 1) 7 && bit (fbe b 2 1) 6) then
    some (.frag (bit (fbe b 2 1) 7) (bit (fbe b 2 1) 6)
      [BitVec.ofNat 8 (fbe b 0 1 / 128 * 128 + fbe b 2 1 % 64 * 2 + fbe b 0 1 % 2), BitVec.ofNat 8 (fbe b 1 1)] (b.drop 3))
  else none

/-- The segment headers of an ST 2110-20 payload (RFC 4175): length, line and offset, and what follows them. A set field bit belongs to an
interlaced picture. -/
def segHeads : Nat → Bytes → Option (List (Nat × Nat × Nat) × Bytes)
  | 0, _ => none
  | k + 1, b =>
    let line := fbe b 2 2
    let off := fbe b 4 2
    if b.length < 6 || bit line 15 then none
    else
      let seg := (fbe b 0 2, line, off % 2 ^ 15)
      if bit off 15 then (segHeads k (b.drop 6)).map (fun q => (seg :: q.1, q.2)) else some ([seg], b.drop 6)

/-- The octets, the pixels of one line and the lines that a pixel group of ST 2110-20 covers (R89): 4:2:2 or 4:2:0, at 8 or 10 bits. -/
def pixelGroup (c : Cfg) (x : Nat) : Nat × Nat × Nat :=
  let deep := pv c pSrc2110Depth x = 10
  if pv c pSrc2110Sampling x = 0 then (if deep then (5, 2, 1) else (4, 2, 1)) else if deep then (15, 4, 2) else (6, 2, 2)

/-- The segments with their octets, where the payload holds them and they lie in the picture. -/
def segBodies (c : Cfg) (x : Nat) : List (Nat × Nat × Nat) → Bytes → Option (List Seg)
  | [], _ => some []
  | (n, line, off) :: r, b =>
    let (oct, px, _) := pixelGroup c x
    if b.length < n || n % oct != 0 || pv c pSrc2110H x ≤ line || ceilDiv (pv c pSrc2110W x) px * px < off + n / oct * px then none
    else (segBodies c x r (b.drop n)).map (fun l => ⟨line, off, b.take n⟩ :: l)

/-- An ST 2110-20 payload: its extended sequence bits, and its segments. -/
def payload2110 (c : Cfg) (x : Nat) (b : Bytes) : Option Payload :=
  match segHeads b.length (b.drop 2) with
  | some (hs, body) => (segBodies c x hs body).map Payload.lines
  | none => none

/-- A payload in a stream's format (R89). -/
def payloadOf (c : Cfg) (x : Nat) (b : Bytes) : Option Payload :=
  if pv c pSrcFormat x = 0 then payload264 b else if pv c pSrcFormat x = 1 then payload265 b else payload2110 c x b

/-- Whether a packet leaves a NAL unit open. -/
def Payload.opens : Payload → Bool
  | .frag _ e _ _ => !e
  | _ => false

/-- Whether a packet goes on with a NAL unit. -/
def Payload.goesOn : Payload → Bool
  | .frag b _ _ _ => !b
  | _ => false

/-- The NAL unit header that a fragment carries. -/
def Payload.hdr : Payload → Bytes
  | .frag _ _ h _ => h
  | _ => []

/-- Whether one packet may follow another directly (R110): a fragment goes on exactly where the one before has left its NAL unit open. -/
def Payload.precedes (a b : Payload) : Bool := a.opens == b.goesOn && (!a.opens || a.hdr == b.hdr)

/-! ## NAL units and SEI messages -/

/-- The NAL units of packets in sequence (R89): one with a missing fragment is left out (log entry 117). -/
def assemble : Option (Nat × Bytes) → List Held → List Bytes
  | _, [] => []
  | o, p :: r =>
    match p.pay with
    | .nals l => l ++ assemble none r
    | .lines _ => assemble none r
    | .frag b e h d =>
      let whole := if b then some (h ++ d) else match o with
        | some (k, q) => if k + 1 = p.ext then some (q ++ d) else none
        | none => none
      match whole with
      | some q => if e then q :: assemble none r else assemble (some (p.ext, q)) r
      | none => assemble none r

/-- The NAL units of a byte stream in the form of Annex B (R128): `z` zeros have gone by since the unit's last byte, which stand reversed in
`cur`. -/
def annexB : Nat → Option Bytes → Bytes → List Bytes
  | _, cur, [] => (cur.map List.reverse).toList
  | z, cur, b :: r =>
    if b = 0 then annexB (z + 1) cur r
    else if b = 1 && 2 ≤ z then (cur.map List.reverse).toList ++ annexB 0 (some []) r
    else annexB 0 (cur.map (fun q => b :: (zeros z ++ q))) r

/-- The type of a NAL unit. -/
def nalType (h265 : Bool) (n : Bytes) : Nat := if h265 then fbe n 0 1 / 2 % 64 else fbe n 0 1 % 32

/-- Whether a NAL unit is a slice. -/
def isVcl (h265 : Bool) (n : Bytes) : Bool := if h265 then nalType true n < 32 else 1 ≤ nalType false n && nalType false n ≤ 5

/-- Whether a NAL unit is a parameter set. -/
def isSet (h265 : Bool) (n : Bytes) : Bool :=
  let k := nalType h265 n
  if h265 then 32 ≤ k && k ≤ 34 else k == 7 || k == 8

/-- A payload without its emulation prevention bytes (R149): `z` zeros stand before it. -/
def unescape : Nat → Bytes → Bytes
  | _, [] => []
  | z, b :: r => if b = 3 && 2 ≤ z then unescape 0 r else b :: unescape (if b = 0 then z + 1 else 0) r

/-- A number of an SEI message header: bytes of 255 and the byte after them. -/
def seiNumber : Bytes → Nat × Bytes
  | [] => (0, [])
  | b :: r => if b = 255 then (255 + (seiNumber r).1, (seiNumber r).2) else (b.toNat, r)

/-- The messages of an SEI payload, as type and bytes. -/
def seiMessages : Nat → Bytes → List (Nat × Bytes)
  | 0, _ => []
  | k + 1, b =>
    if b == [] || (fbe b 0 1 == 0x80 && (b.drop 1).all (fun z => z == 0)) then []
    else
      let (ty, r1) := seiNumber b
      let (n, r2) := seiNumber r1
      if r2.length < n then [] else (ty, r2.take n) :: seiMessages k (r2.drop n)

/-- The SEI messages of the NAL units of a type: 6 in H.264, 39 (prefix) and 40 (suffix) in H.265. -/
def seiOf (h265 : Bool) (kind : Nat) (nals : List Bytes) : List (Nat × Bytes) :=
  (nals.filter (fun n => nalType h265 n == kind)).flatMap (fun n =>
    let b := unescape 0 (n.drop (if h265 then 2 else 1))
    seiMessages b.length b)

/-- The SEI messages that belong to a picture ahead of its slices. -/
def prefixSeis (h265 : Bool) (nals : List Bytes) : List (Nat × Bytes) := seiOf h265 (if h265 then 39 else 6) nals

/-- The bits of a byte string, most significant first. -/
def bitList (b : Bytes) : List Bool := b.flatMap (fun v => (List.range 8).map (fun i => v.getMsbD i))

/-- An unsigned Exp-Golomb number. -/
def expGolomb (l : List Bool) : Nat :=
  let z := (l.takeWhile (fun b => !b)).length
  ((l.drop z).take (z + 1)).foldl (fun a b => 2 * a + b2n b) 0 - 1

/-- A signed Exp-Golomb number. -/
def signedGolomb (l : List Bool) : Int :=
  let k := expGolomb l
  if k % 2 = 1 then ((k + 1) / 2 : Nat) else -((k / 2 : Nat) : Int)

/-- recovery_frame_cnt, or recovery_poc_cnt in H.265, of a picture's recovery point message (R116, R131). -/
def recoveryOf (h265 : Bool) (nals : List Bytes) : Option Int :=
  ((prefixSeis h265 nals).find? (fun q => q.1 == 6)).map (fun q =>
    if h265 then signedGolomb (bitList q.2) else ((expGolomb (bitList q.2) : Nat) : Int))

/-- The type of the first slice of an access unit. -/
def sliceType (h265 : Bool) (nals : List Bytes) : Nat := ((nals.filter (isVcl h265)).head?.map (nalType h265)).getD 0

/-- Whether a picture is an IRAP picture (R131): H.264 IDR; H.265 IDR, CRA or BLA. -/
def isIrap (h265 : Bool) (nals : List Bytes) : Bool :=
  let k := sliceType h265 nals
  if h265 then 16 ≤ k && k ≤ 23 else k == 5

/-- Whether an access unit is an entry point (R99, R131). -/
def isEntry (h265 : Bool) (nals : List Bytes) : Bool := isIrap h265 nals || (recoveryOf h265 nals).isSome

/-- The highest temporal sub-layer that the sequence parameter sets of H.265 announce. -/
def topSublayer (sets : List Bytes) : Nat := maxNat ((sets.filter (fun n => nalType true n == 33)).map (fun n => fbe n 2 1 / 2 % 8))

/-- Whether no other picture references a picture (R124): nal_ref_idc 0 in every slice of H.264; a sub-layer non-reference picture of the
highest sub-layer in H.265. -/
def isNonRef (h265 : Bool) (sets nals : List Bytes) : Bool :=
  (nals.filter (isVcl h265)).all (fun n =>
    if h265 then nalType true n < 16 && nalType true n % 2 == 0 && topSublayer (sets ++ nals) + 1 == fbe n 1 1 % 8 else fbe n 0 1 / 32 % 4 == 0)

end Sys2Proof.Machine
end

