-- ==== Sys2Proof/Machine/FreezeDet.lean ====
section
/-! DEFINITION. The freeze detector (R141 to R158): tile records' counters, payload repetition, intra identity, Vorid tokens, and the
decision of R153. -/
namespace Sys2Proof.Machine

/-- A picture as the freeze detector sees it (R142): its number, capture time, size and tiles, what its codec shows, its tokens, and
the positive evidence of its frame record (R148). -/
structure FreezeIn where
  seq      : Nat
  cap      : Dated
  width    : Nat
  height   : Nat
  cols     : Nat
  tiles    : List TileRec
  fullSkip : List Bool
  intra    : Bool
  uncomp   : Bool
  auCrc    : Nat
  moving   : Nat
  units    : Nat
  tokens   : List Bytes
  recBearing : Bool
  recPos   : Bool
  deriving DecidableEq, Repr

/-- What the detector finds (R57, R153). -/
structure FreezeOut where
  tiles  : List TileRec
  status : Nat
  deriving DecidableEq, Repr

/-- "k tiles reach a share of n" (R143). -/
def reaches (k n share : Nat) : Bool := share * n ≤ 100 * k

/-- A tile that counts in tile comparisons (R143). -/
def TileRec.eligible (t : TileRec) : Bool := !t.taint && !t.conc

/-- The records of a picture against those of the picture before (R59): SIGREP, REP_CNT, QUIET_CNT, and INTRA_REP as it was. -/
def carryTiles : List TileRec → List TileRec → List Bool → List TileRec
  | [], _, _ => []
  | t :: r, prev, skip =>
    let p := prev.head?
    let rep := p.any (fun q => q.sig == t.sig)
    let quiet := skip.headD false
    let n (f : TileRec → Nat) : Nat := match p with | some q => min 255 (f q + 1) | none => 1
    { t with
      sigrep := rep, repCnt := if rep then n TileRec.repCnt else 0, quietCnt := if quiet then n TileRec.quietCnt else 0,
      intraRep := match p with | some q => q.intraRep | none => 0 } :: carryTiles r prev.tail skip.tail

/-- INTRA_REP of a picture with INTRA set (R146), against the base's signatures. -/
def intraTiles : List TileRec → List (Option (BitVec 32)) → List TileRec
  | [], _ => []
  | t :: r, base =>
    let v := match t.eligible, base.headD none with
      | true, some g => if g = t.sig then min 255 (t.intraRep + 1) else 0
      | _, _ => 0
    { t with intraRep := v } :: intraTiles r base.tail

/-- The compared tiles (R146): eligible, with a valid base entry. -/
def comparedTiles : List TileRec → List (Option (BitVec 32)) → List TileRec
  | [], _ => []
  | t :: r, base => (if t.eligible && (base.headD none).isSome then [t] else []) ++ comparedTiles r base.tail

/-- The base with the signature of every eligible tile (R146). -/
def rebase : List TileRec → List (Option (BitVec 32)) → List (Option (BitVec 32))
  | [], _ => []
  | t :: r, base => (if t.eligible then some t.sig else base.headD none) :: rebase r base.tail

/-- What a tile test says of a picture. -/
inductive TileTest where
  | evidence
  | positive
  | seed
  | neutral
  deriving DecidableEq, Repr

/-- The intra base test (R146): the tile records, the test's result and the detector's new state. -/
def intraTest (s : State) (x : Nat) (i : FreezeIn) (tiles : List TileRec) : List TileRec × TileTest × State :=
  let f := s.frz x
  let c := s.cfg
  let n := tiles.length
  let base := f.base.map (fun b => b.2.2)
  match base, f.baseBad with
  | some _, true =>
    (intraTiles tiles [], .neutral,
      raise .freezeBaseFault [(1, x)] (s.setFrz x { f with base := none, baseBad := false }))
  | _, _ =>
    let b := base.getD []
    let t1 := intraTiles tiles b
    let elig := (t1.filter TileRec.eligible).length
    let cmp := comparedTiles t1 b
    let f0 := { f with base := base.map (fun b => (i.width, i.height, b)), baseBad := false }
    if 100 * elig < pv c pFrzMinElig x * n then
      (t1, .neutral, s.setFrz x { f0 with neutral := (f0.neutral + 1) % 2 ^ 32 })
    else
      let f1 := { f0 with base := some (i.width, i.height, rebase t1 b) }
      if 100 * cmp.length < pv c pFrzMinElig x * n then (t1, .seed, s.setFrz x { f1 with baseT := i.cap })
      else
        let hit := (cmp.filter (fun t => pv c pFrzIntraCount x ≤ t.intraRep)).length
        let any := (cmp.filter (fun t => 1 ≤ t.intraRep)).length
        if reaches hit cmp.length (pv c pFrzShare x) then (t1, .evidence, s.setFrz x f1)
        else if !reaches any cmp.length (pv c pFrzShare x) then (t1, .positive, s.setFrz x { f1 with baseT := i.cap })
        else (t1, .neutral, s.setFrz x f1)

/-- The signature repetition test of an ST 2110-20 picture (R143, R144). -/
def sigrepTest (s : State) (x : Nat) (i : FreezeIn) (tiles : List TileRec) : TileTest × State :=
  let f := s.frz x
  let c := s.cfg
  let el := tiles.filter TileRec.eligible
  let rep := (el.filter (fun t => t.sigrep)).length
  let hit := (el.filter (fun t => pv c pFrzSigrepFrames x ≤ t.repCnt)).length
  let share := pv c pFrzShare x
  let f1 := if reaches rep el.length share then f else { f with lastMoveT := i.cap }
  if 100 * el.length < pv c pFrzMinElig x * tiles.length then
    (.neutral, s.setFrz x { f1 with neutral := (f1.neutral + 1) % 2 ^ 32 })
  else if reaches hit el.length share then (.evidence, s.setFrz x f1)
  else if !reaches rep el.length share then (.positive, s.setFrz x f1)
  else (.neutral, s.setFrz x f1)

/-! ## Vorid tokens (R149 to R152) -/

/-- The Vorid UUID in byte order (R149). -/
def voridUuid : Bytes := [0x5A, 0x1C, 0x93, 0xE0, 0x7B, 0x42, 0x4F, 0x6D, 0x8A, 0x15, 0xC2, 0xE9, 0x0B, 0x37, 0xD6, 0x48]

/-- A valid token (R149, R150). -/
structure Token where
  counter   : Nat
  stat      : Nat
  statValid : Bool
  restart   : Bool
  test      : Bool
  deriving DecidableEq, Repr

/-- A message with the Vorid UUID, parsed (R149, R150): none of it (no token), a token at fault, or a valid one. -/
def parseToken (b : Bytes) : Option (Option Token) :=
  if b.length < 26 || slice b 0 16 != voridUuid then none
  else if fld b 16 1 = 1 && ofBe (slice b 24 2) = (crc16 (slice b 16 8)).toNat then
    let fl := fld b 17 1
    some (some ⟨ofBe (slice b 18 4), ofBe (slice b 22 2), bit fl 0, bit fl 1, bit fl 2⟩)
  else some none

/-- The user_data_unregistered messages of a picture that are read (R149, R150): those of SEI NAL units in H.264 and of prefix SEI NAL units in
H.265, without their emulation prevention bytes. -/
def tokenMessages (h265 : Bool) (nals : List Bytes) : List Bytes :=
  ((prefixSeis h265 nals).filter (fun q => q.1 == 5)).map Prod.snd

/-- The tokens among the messages of a picture (R150). -/
def readTokens (l : List Bytes) : List (Option Token) := l.filterMap parseToken

/-- The token results of R152. -/
inductive TokResult where
  | positive
  | freeze
  | neutral
  deriving DecidableEq, Repr

/-- A non-advancing token (R152): freeze evidence once TOKEN_BAD_RUN reaches FRZ_TOKEN_COUNT. -/
def notAdvancing (c : Cfg) (x : Nat) (f : Freeze) : TokResult × Freeze :=
  let n := satInc 8 f.badRun
  (if pv c pFrzTokenCount x ≤ n then .freeze else .neutral, { f with badRun := n })

/-- The token result of a picture of a token-bearing stream with a valid token (R152): the rows of the table in order, and whether the
token jumped. -/
def tokenRow (c : Cfg) (x : Nat) (f : Freeze) (cap : Dated) (k : Token) : TokResult × Bool × Freeze :=
  let step := (k.counter + 2 ^ 32 - f.tokenCnt % 2 ^ 32) % 2 ^ 32
  if k.test then (.freeze, false, { f with badRun := satInc 8 f.badRun })
  else if k.restart || !f.seenFirst then (.neutral, false, { f with statRun := 1 })
  else if step = 0 || 2 ^ 31 ≤ step then let (r, g) := notAdvancing c x f; (r, false, g)
  else if pv c pFrzTokenMaxStep x < step then (.neutral, true, { f with jumps := (f.jumps + 1) % 2 ^ 32 })
  else if k.statValid && f.statValid && k.stat = f.tokenStat then
    let n := satInc 8 f.statRun
    (if pv c pFrzTokenStatRepeat x ≤ n then .freeze else .neutral, false, { f with statRun := n })
  else (.positive, false, { f with badRun := 0, statRun := 1, tokenPos := true, tokenPosT := cap })

/-- The tokens of a picture (R150, R152): the result, whether its token has STAT_VALID, and whether a valid one was seen. -/
def tokenTest (x : Nat) (i : FreezeIn) (s : State) : TokResult × Bool × Bool × State :=
  let l := readTokens i.tokens
  let bad := l.filter (fun t => t.isNone)
  let s1 := bad.foldl (fun a _ => raise .tokenFault [(1, x), (4, i.seq)] (a.modFrz x (fun f => { f with faults := (f.faults + 1) % 2 ^ 32 }))) s
  let use' := pv s.cfg pFrzToken x
  let note (k : Token) (f : Freeze) : Freeze := { f with tokenCnt := k.counter, tokenStat := k.stat, statValid := k.statValid }
  match l.filterMap id with
  | k :: _ =>
    if use' = 0 then (.neutral, false, true, s1.modFrz x (fun f => { note k f with seenFirst := true }))
    else
      let f := { s1.frz x with bearing := true }
      let (r, jump, g) := tokenRow s.cfg x f i.cap k
      let s2 := s1.setFrz x { note k g with seenFirst := true }
      (r, k.statValid, true, if jump then raise .tokenJump [(1, x), (4, i.seq)] s2 else s2)
  | [] =>
    let f := s1.frz x
    if use' = 2 || (use' = 1 && f.bearing) then
      let (r, g) := notAdvancing s.cfg x f
      (r, false, false, s1.setFrz x g)
    else (.neutral, false, false, s1)

/-! ## The decision (R153, R154) -/

/-- The earlier of two times. -/
def Dated.earlier (a b : Dated) : Dated := if b.t < a.t then b else a

/-- FRZ_SINCE of a set of evidence kinds (R154). -/
def since (f : Freeze) (cap : Dated) (payload intra sigrep token : Bool) : Dated :=
  let l := (if payload then [f.runStartT] else []) ++ (if intra then [f.baseT] else []) ++ (if sigrep then [f.lastMoveT] else [])
    ++ (if token then [if f.tokenPos then f.tokenPosT else cap] else [])
  match l with
  | [] => cap
  | a :: r => r.foldl Dated.earlier a

/-- FREEZE_EVALUATE (R142 to R154): the picture's tile records and FREEZE_STATUS, and the detector after it. -/
def freezeEval (x : Nat) (i : FreezeIn) (s : State) : FreezeOut × State :=
  let f0 := s.frz x
  let prev := if f0.lastCols = i.cols && f0.lastTiles.length = i.tiles.length then f0.lastTiles else []
  let t0 := carryTiles i.tiles prev i.fullSkip
  -- payload repetition (R145); no base on a record-carrying stream, nor over a change of size (R146, R148)
  let rep := !i.uncomp && f0.lastCrc = some i.auCrc
  let baseKept := !i.recBearing && f0.base.any (fun b => b.1 == i.width && b.2.1 == i.height)
  let f1 := { f0 with
    base := if baseKept then f0.base else none
    baseBad := f0.baseBad && baseKept
    lastCrc := if i.uncomp then none else some i.auCrc
    payloadRun := if rep then (f0.payloadRun + 1) % 2 ^ 32 else 0
    runStartT := if rep then f0.runStartT else i.cap }
  let payload := !i.uncomp && pv s.cfg pFrzPayloadCount x ≤ f1.payloadRun
  let s1 := s.setFrz x f1
  -- tile tests (R144, R146)
  let (t1, test, s2) :=
    if i.uncomp then let (r, a) := sigrepTest s1 x i t0; (t0, r, a)
    else if i.intra && !i.recBearing then intraTest s1 x i t0
    else (t0, .neutral, s1)
  let mot := pv s.cfg pFrzMotionEvid x
  let motion := !i.uncomp && !i.intra && !i.recBearing && mot != 0 && mot * i.units ≤ 1000 * i.moving
  let (tok, statValid, seen, s3) := if i.uncomp then (.neutral, false, false, s2) else tokenTest x i s2
  let f := s3.frz x
  let intra0 := !i.uncomp && test = .evidence
  let sigrep := i.uncomp && test = .evidence
  let token := tok = .freeze
  let overruled := intra0 && pv s.cfg pFrzTokenTrust x = 1 && tok = .positive && statValid
  let intra := intra0 && !overruled
  let pos := test = .positive || motion || (i.recBearing && i.recPos && !i.uncomp) || tok = .positive
  let ev := payload || intra || sigrep || token
  let mask := packFields [(0, 1, b2n payload), (1, 1, b2n intra), (2, 1, b2n sigrep), (3, 1, b2n token), (4, 1, b2n (!ev && pos))]
  let g := { f with
    evLast := mask, frameSeq := i.seq, lastCols := i.cols, lastTiles := t1, override := (f.override + b2n overruled) % 2 ^ 32 }
  let s4 :=
    if ev then
      if g.frz then s3.setFrz x g
      else
        let from' := since g i.cap payload intra sigrep token
        raise .freezeSet [(1, x), (4, i.seq), (1, mask), (8, from'.t)]
          (s3.setFrz x { g with frz := true, frzSince := from', setCount := (g.setCount + 1) % 2 ^ 32 })
    else if pos then
      let g1 := { g with evidenceT := i.cap }
      if g.frz then
        raise .freezeClear [(1, x), (4, i.seq), (1, mask), (8, 0)]
          (s3.setFrz x { g1 with frz := false, frzSince := ⟨0, false⟩ })
      else s3.setFrz x g1
    else if test = .seed && !g.frz then s3.setFrz x { g with evidenceT := i.cap }
    else s3.setFrz x g
  (⟨t1, freezeStatus (s4.frz x).frz payload intra sigrep token seen (!ev && pos)⟩, s4)

end Sys2Proof.Machine
end

