-- ==== Sys2Proof/Machine/TimeUnit.lean ====
section
/-! DEFINITION. The time unit: PTP messages and the estimators' windows (R26 to R29), the servo's source, slew and step (R30,
R31, R33), the time states and U_WALL latched at a decision point (R32 to R35), the common values of a HOT pair (R50), and
the time pins (R52). -/
namespace Sys2Proof.Machine

/-! ## Timestamps -/

/-- TIME_PORT_CORR of a port, in picoseconds (R28, R53). -/
def portCorr (c : Cfg) (p : Nat) : Int := ofTwos 64 (pv c pTimePortCorr p)

/-- A receive timestamp of `t` nanoseconds and `q` quarters, referred to the reference plane, in picoseconds (R28). -/
def rxPs (c : Cfg) (p : Nat) (t : Time64) (q : Nat) : Int := 1000 * (t : Int) + 250 * ((q % 4 : Nat) : Int) - portCorr c p

/-- A receive timestamp referred to the reference plane, as TIME64: truncated to the nanosecond (R28, R51). -/
def rxTime (c : Cfg) (p : Nat) (t : Time64) : Time64 := natOf (rxPs c p t 0 / 1000)

/-- Whether an Ethernet port is in use: NET_PORT_MODE is not OFF and the device has power (R84). -/
def State.portOn (s : State) (p : Nat) : Bool := pv s.cfg pNetPortMode p != 0 && s.powered

/-- Whether DOM[d] listens to a port, domain and transport (R29). -/
def domHears (c : Cfg) (d port domain transport : Nat) : Bool :=
  bit (domPorts c d) port && domNumber c d == domain && domTransport c d == transport

/-- Whether a PTP version is accepted (R26): 2.0 and 2.1, here 20 and 21. -/
def ptpVersionOk (v : Nat) : Bool := v == 20 || v == 21

/-! ## Master selection (R26) -/

/-- Whether one Announce is better than another, or as good: the first field that differs decides, the lower value wins. -/
def betterMaster (a b : PtpAnnounce) : Bool :=
  let ka := [a.priority1, a.clockClass, a.accuracy, a.variance, a.priority2, a.identity]
  let kb := [b.priority1, b.clockClass, b.accuracy, b.variance, b.priority2, b.identity]
  match (ka.zip kb).find? (fun p => p.1 != p.2) with
  | some (x, y) => decide (x < y)
  | none => true

/-- Whether an Announce is still within its receipt timeout at an instant (R29). -/
def announceLive (a : PtpAnnounce) (t : Time64) : Bool := t ≤ a.rx + announceReceiptTimeout * logIntervalNs a.logInterval

/-- The best master heard and not timed out at an instant (R26). -/
def Estimator.best (e : Estimator) (t : Time64) : Option Nat :=
  match (e.masters.map Prod.snd).filter (fun a => announceLive a t) with
  | [] => none
  | a :: r => some (r.foldl (fun b x => if betterMaster b x then b else x) a).master

/-- An estimator that has selected a master. A new one empties the window, and nothing measured against the old one counts
(R29). -/
def Estimator.pick (e : Estimator) (m : Nat) : Estimator :=
  if e.selected = some m then e
  else { e with selected := some m, window := [], twoStep := none, t2mt1 := none, delayReq := none, pathDelay := none,
                lastAnnounce := (tfind e.masters m).map (fun a => a.rx), lastSync := none, timedOut := false }

/-- An Announce heard (R26, R29). -/
def Estimator.announce (e : Estimator) (m : PtpAnnounce) : Estimator :=
  let e1 := { e with masters := tset m.master m e.masters }
  let e2 := match e1.best m.rx with
    | some b => e1.pick b
    | none => e1
  if e2.selected = some m.master then { e2 with lastAnnounce := some m.rx, timedOut := false } else e2

/-! ## Offset samples (R29) -/

/-- An offset sample entered in the window, unless its path delay exceeds 3 times the window's median. -/
def Estimator.enter (e : Estimator) (x : OffSample) : Estimator :=
  let m2 := median2Int (e.window.map (fun y => y.delay))
  if e.window == [] || decide (2 * x.delay ≤ 3 * m2) then
    let w := e.window ++ [x]
    { e with window := w.drop (w.length - 16) }
  else e

/-- A difference t2 − t1 of a Sync: a sample of the offset, once a path delay to this master has been measured (log entry
20). -/
def Estimator.syncSample (e : Estimator) (t2mt1 phase : Int) : Estimator :=
  let e1 := { e with t2mt1 := some t2mt1 }
  match e1.pathDelay with
  | some d => e1.enter ⟨t2mt1 - d, d, phase⟩
  | none => e1

/-- Whether time transfer runs (R48, R49): in a pair, with two lanes in use, on the follower. -/
def State.follows (s : State) : Bool :=
  (s.twin.mode == .hot || s.twin.mode == .coldActive || s.twin.mode == .coldStandby) && !s.timeLead && 2 ≤ s.twin.lanesUsed

/-- Whether TIME64 counts the PTP timescale (TAI): the servo's master has set ptpTimescale (R51). -/
def State.taiTimescale (s : State) : Bool :=
  match (s.est s.time.servoDom).selected with
  | some m => (match tfind (s.est s.time.servoDom).masters m with | some a => a.ptpTimescale | none => false)
  | none => false

/-- The servo's frequency adjustment range, ±200 ppm in hundredths of a part per billion (R30). -/
def freqMax : Int := 20000000

/-- What the servo's frequency adjustment has applied to the counter since it was last accounted (R29, R30). -/
def servoRun (s : State) : State :=
  let x := s.time.phaseRem + s.time.freq * ((s.time.now - s.time.servoT : Nat) : Int)
  { s with time := { s.time with phase := s.time.phase + x / 100000000, phaseRem := x % 100000000, servoT := s.time.now } }

/-- The PI servo at a new measurement (R30): `bw` its loop bandwidth in thousandths of a hertz, `err` the source's time less the counter in
picoseconds, `dt` the nanoseconds since the last one. Its gains are free (log entry 21), and both terms pull towards the source. While a
slew is in progress the adjustment is held (R31). -/
def servoSteer (bw : Nat) (err : Int) (dt : Nat) (s : State) : State :=
  if s.time.slewing then s
  else
    let (kp, ki) := Config.servoGains bw
    let i := clampInt (-freqMax) freqMax (s.time.integ + ki * err * dt / 1000000000000)
    { s with time := { s.time with integ := i, freq := clampInt (-freqMax) freqMax (i + kp * err / 1000) } }

/-- The servo's steering at a Sync of its domain, while it is locked and does not follow the time lead: towards the median offset of its
estimator, at TIME_SERVO_BW (R29, R30, R48). -/
def steer (d interval : Nat) (s : State) : State :=
  if s.time.locked && s.time.servoDom == d && s.estValid d && !s.follows then
    servoSteer (pv s.cfg pTimeServoBw 0) (-((s.est d).offset s.time.phase)) interval s
  else s

/-- An instant of the counter after a step by `d` nanoseconds. -/
def moveT (d : Int) (t : Time64) : Time64 := natOf ((t : Int) + d)

/-- An estimator across a step: receipt times and the message times of an exchange under way. -/
def moveEst (d : Int) (e : Estimator) : Estimator :=
  { e with
    masters := e.masters.map (fun (q : Nat × PtpAnnounce) => (q.1, { q.2 with rx := moveT d q.2.rx }))
    lastAnnounce := e.lastAnnounce.map (moveT d), lastSync := e.lastSync.map (moveT d)
    twoStep := e.twoStep.map (fun q => (q.1, q.2 + 1000 * d)), t2mt1 := e.t2mt1.map (fun v => v + 1000 * d)
    delayReq := e.delayReq.map (fun q => (q.1, q.2 + 1000 * d)) }

/-- The coarse set of R401: before READY, once, from the first accepted Sync of the preferred domain. The counter moves by `ps` picoseconds, to
the Sync's time corrected by the path delay measured so far. No tick number has been used yet, so the tick counters follow. -/
def coarseSet (d : Nat) (ps : Int) (s : State) : State :=
  if s.cmd.ready || s.time.coarseSet || pv s.cfg pTimePrefDom 0 != d then s
  else
    let now := natOf ((1000 * (s.time.now : Int) + ps) / 1000)
    let delta : Int := (now : Int) - s.time.now
    { s with
      power := { s.power with startT := moveT delta s.power.startT }
      time := { s.time with
        now := now, coarseSet := true, phase := s.time.phase + 1000 * delta, servoT := moveT delta s.time.servoT, est := s.time.est.map (fun e => (e.1, moveEst delta e.2))
        tick := s.grid.tickAt now, decided := s.grid.decidedAt now } }

/-- A Sync accepted by DOM[d] (R26, R29): it comes from the selected master, and its interval is one the unit accepts. -/
def syncFor (d : Nat) (m : PtpSync) (s : State) : State :=
  let e := s.est d
  if !domHears s.cfg d m.port m.domain m.transport || !ptpVersionOk m.version || e.selected != some m.master
      || decide (m.logInterval < -7) || decide (1 < m.logInterval) then s
  else
    let raw := rxPs s.cfg m.port m.rx m.rxQ
    let origin : Int := 1000 * (time80 m.origin : Int)
    let s0 := if m.twoStep then s else coarseSet d (origin + m.correction + e.pathDelay.getD 0 - raw) s
    let t2 := raw + 1000 * ((s0.time.now : Int) - s.time.now)
    let at' := natOf (t2 / 1000)
    let interval := match (s0.est d).lastSync with
      | some t => at' - t
      | none => 0
    let s1 := s0.modEst d (fun e => { e with lastSync := some at', logSync := m.logInterval, timedOut := false })
    if m.twoStep then s1.modEst d (fun e => { e with twoStep := some (m.seq, t2 - m.correction) })
    else
      let s2 := s1.modEst d (fun e => e.syncSample (t2 - origin - m.correction) s1.time.phase)
      steer d interval s2

/-- Whether a Follow_Up or Delay_Resp belongs to DOM[d] and to its selected master (R26). -/
def replyFor (d : Nat) (m : PtpReply) (s : State) : Bool :=
  domHears s.cfg d m.port m.domain m.transport && ptpVersionOk m.version && (s.est d).selected == some m.master

/-- A Follow_Up completes a two-step Sync of the same sequence number (R26). -/
def followUpFor (d : Nat) (m : PtpReply) (s : State) : State :=
  let e := s.est d
  match e.twoStep with
  | some (q, t2) =>
    if replyFor d m s && q == m.seq then
      let origin : Int := 1000 * (time80 m.time : Int)
      let s0 := coarseSet d (origin + m.correction + e.pathDelay.getD 0 - t2) s
      let at' := t2 + 1000 * ((s0.time.now : Int) - s.time.now)
      let s1 := s0.modEst d (fun e =>
        { e with twoStep := none }.syncSample (at' - origin - m.correction) s0.time.phase)
      steer d (logIntervalNs e.logSync) s1
    else s
  | none => s

/-- A Delay_Resp completes a path-delay sample (R26, R29): the mean of the two directions. -/
def delayRespFor (d : Nat) (m : PtpReply) (s : State) : State :=
  let e := s.est d
  match e.delayReq, e.t2mt1 with
  | some (q, t3), some x =>
    if replyFor d m s && q == m.seq then
      let t4 := 1000 * (time80 m.time : Int) - m.correction
      s.modEst d (fun e => { e with delayReq := none, pathDelay := some ((x + (t4 - t3)) / 2) })
    else s
  | _, _ => s

/-! ## The servo's source (R30, R31) -/

/-- Whether both estimators are valid and agree within TIME_DOM_AGREE (R32). -/
def State.domsAgree (s : State) : Bool :=
  s.estValid 0 && s.estValid 1
  && ((s.est 0).offset s.time.phase - (s.est 1).offset s.time.phase).natAbs ≤ 1000 * pv s.cfg pTimeDomAgree 0

/-- The servo domain (R30): the preferred one where it is valid, otherwise the other. With both valid but apart, the domain in
force is kept (R32), except at acquisition. -/
def State.servoChoice (s : State) : Nat :=
  let p := pv s.cfg pTimePrefDom 0
  let both := s.estValid 0 && s.estValid 1
  if both && !s.domsAgree && (s.time.own == .dual || s.time.own == .single) then s.time.servoDom
  else if s.estValid p then p
  else if s.estValid (1 - p) then 1 - p
  else s.time.servoDom

/-- Whether the holdover limits of R35 are exceeded at the present instant. -/
def State.holdOver (s : State) : Bool :=
  let t := s.time.now - s.time.holdStart
  pv s.cfg pTimeHoldLimit 0 * 1000000
      < uWallHold s.time.uEntry (pv s.cfg pTimeHoldRate 0) (pv s.cfg pTimeHoldAcc 0) t
    || pv s.cfg pTimeHoldMax 0 * 1000000000 ≤ t

/-- The next time state of this seat's own estimators (R33). -/
def State.nextOwn (s : State) : TState :=
  let any := s.estValid 0 || s.estValid 1
  match s.time.own with
  | .freeRun => if any then .single else .freeRun
  | .holdover => if any then .single else if s.time.holdEnded || s.holdOver then .freeRun else .holdover
  | .single => if !any then .holdover else if s.domsAgree then .dual else .single
  | .dual => if !any then .holdover else if s.domsAgree then .dual else .single

/-- A slew begun or the source taken up without one (R31). `d` is the new source's time less the current time, in
picoseconds. A slew under way gives place to the new one. -/
def beginSlew (d : Int) (s : State) : State :=
  let s0 := if s.time.slewing then raise .timeSlewEnd [] s else s
  if d.natAbs ≤ 20000 then { s0 with time := { s0.time with slewing := false, dRem := 0 } }
  else
    raise .timeSlewStart []
      { s0 with time := { s0.time with slewing := true, dRem := d, slewT := s0.time.now } }

/-- How far a slew can have come since `slewT`, in picoseconds: 1 µs per second (R31). -/
def State.slewReach (s : State) : Nat := (s.time.now - s.time.slewT) / 1000

/-- What the slew has advanced since the last decision point: a free amount of at most 1 µs per second (R31, log entry
21). -/
def slewOn (s : State) : State :=
  if !s.time.slewing then s
  else
    let (v, s1) := freeBelow (min s.slewReach s.time.dRem.natAbs + 1) s
    let step : Int := if s1.time.dRem < 0 then -(v : Int) else v
    { s1 with time := { s1.time with dRem := s1.time.dRem - step, phase := s1.time.phase + step, slewT := s1.time.now } }

/-- The outcome of the acquisition rule (R33): whether the difference is stepped. -/
def State.steps (s : State) (d : Int) : Bool :=
  pv s.cfg pTimeStepEn 0 == 1 && decide (1000 * pv s.cfg pTimeStepLimit 0 < d.natAbs)

/-- A change of source at a decision point (R31, R33): the state with its events, and the step it asks for in
nanoseconds. -/
def sourceChange (dom : Nat) (acquire : Bool) (s : State) : State × Option Int :=
  let d : Int := -((s.est dom).offset s.time.phase)
  let s1 := raise .timeSourceChange []
    { s with time := { s.time with servoDom := dom, servoSrc := some (dom, (s.est dom).selected.getD 0), locked := true } }
  if acquire && s.steps d then
    ({ s1 with time := { s1.time with slewing := false, dRem := 0 } }, some ((d + 500) / 1000))
  else (beginSlew d s1, none)

/-- U_WALL of this seat in a time state (R34). -/
def State.ownUWall (s : State) (st : TState) : Nat :=
  match st with
  | .freeRun => 0xFFFFFFFF
  | .holdover =>
    satUWall (uWallHold s.time.uEntry (pv s.cfg pTimeHoldRate 0) (pv s.cfg pTimeHoldAcc 0) (s.time.now - s.time.holdStart))
  | _ => satUWall (uWallLocked (pv s.cfg pTimeAsym 0) (s.est s.time.servoDom) s.time.phase s.time.dRem)

/-- This seat's own time unit at a decision point (R30 to R34): its source, its state and U_WALL, and a step to be made. While it follows
the time lead its estimators run for monitoring only, and R31 applies to its own source when it steers itself again (R48). -/
def ownLatch (s : State) : State × Nat × Option Int :=
  let s0 := slewOn (servoRun s)
  let nx := s0.nextOwn
  let apart := s0.estValid 0 && s0.estValid 1 && !s0.domsAgree
  let s1 := if apart && !s0.time.disagree then raise .timeDomainDisagree [] s0 else s0
  let s2 := { s1 with time := { s1.time with disagree := apart } }
  let dom := s2.servoChoice
  let locked := (nx == .single || nx == .dual) && !s2.follows
  let change := locked && (s2.time.own == .freeRun || s2.time.own == .holdover
    || s2.time.servoSrc != some (dom, (s2.est dom).selected.getD 0))
  let (s3, step) := if change then sourceChange dom (s2.time.own == .freeRun) s2
    else if s2.follows then ({ s2 with time := { s2.time with servoDom := dom, servoSrc := none } }, none)
    else (s2, none)
  let entering := nx == .holdover && s3.time.own != .holdover
  let s4 := if entering then
      { s3 with time := { s3.time with uEntry := s3.time.uWall, holdStart := s3.time.now, holdEnded := false } }
    else s3
  let s5 := { s4 with time := { s4.time with own := nx, holdEnded := false, xferOn := s4.time.xferOn && s4.follows } }
  (s5, s5.ownUWall nx, step)

/-! ## The values in force at a tick -/

/-- A value the lead carried to both seats, 2 ns added (R50); unbounded stays unbounded. -/
def plus2 (u : Nat) : Nat := if u = 0xFFFFFFFF then u else satUWall (u + 2)

/-- One tick of holdover growth at a rate, rounded up (R50). -/
def tickGrowth (g : Grid) (rate : Nat) : Nat := ceilDiv (rate * g.p3) 3000000000

/-- The state and U_WALL of a HOT pair for a tick (R50): the lead's LEAD_STATE for it, or for a follower that missed it the
last one with a tick's growth for each missed exchange, and HOLDOVER after three. A follower that has received none since the pair was
made uses its own state and its own U_WALL plus 2 ns (log entry 108). While the exchange is missed the follower steers on TIME_OSC. -/
def hotValues (n : Nat) (own : TState) (u : Nat) (s : State) : State × TState × Nat :=
  match s.time.leadRecv with
  | some l =>
    if l.tick = n then ({ s with time := { s.time with leadMissed := 0 } }, tstateOf l.tstate, plus2 l.uWall)
    else if s.timeLead then (s, own, plus2 u)
    else
      let k := s.time.leadMissed + 1
      let grow := k * tickGrowth s.grid (pv s.cfg pTimeHoldRate 0)
      let v := if l.uWall = 0xFFFFFFFF then l.uWall else satUWall (l.uWall + 2 + grow)
      ({ s with time := { s.time with leadMissed := k, xferOn := false } }, if 3 ≤ k then .holdover else tstateOf l.tstate, v)
  | none => (s, own, plus2 u)

/-- A change of the time lead that 8 heartbeats have decided (R48). -/
def leadChange (s : State) : State :=
  if s.twin.lanesUsed < 2 then s
  else if !s.time.leadIsB && 8 ≤ s.time.runB then
    { s with time := { s.time with leadIsB := true, runB := 0, runA := 0, servoSrc := none } }
  else if s.time.leadIsB && 8 ≤ s.time.runA then
    { s with time := { s.time with leadIsB := false, runB := 0, runA := 0, servoSrc := none } }
  else s

/-- Whether PPS_OUT is driven (R52): in FREE-RUN only where TIME_PPS_FREE is 1. -/
def State.ppsDriven (s : State) : Bool := s.alive && (s.time.state != .freeRun || pv s.cfg pTimePpsFree 0 == 1)

/-- The level of PPS_OUT (R52): high for 100 ms from its rise, and low as soon as it is no longer driven. -/
def State.ppsOut (s : State) : Bool :=
  match s.pins.ppsRise with
  | some t => s.ppsDriven && t ≤ s.time.now && s.time.now < t + 100000000
  | none => false

/-- The level of TICK_OUT (R52): high for 1 µs from its rise. -/
def State.tickOut (s : State) : Bool :=
  match s.pins.tickRise with
  | some t => t ≤ s.time.now && s.time.now < t + 1000
  | none => false

/-- A pulse of PPS_OUT that is cut short does not go on (R52): the pin is held low once FREE-RUN has begun. -/
def holdPps (s : State) : State := if s.ppsDriven then s else { s with pins := { s.pins with ppsRise := none } }

/-- Step 1 of R45: the time state and U_WALL latched for tick n, with TIME_STATE on a change (R33); and the step to be made,
if any. -/
def timeLatch (n : Nat) (s : State) : State × Option Int :=
  let (s1, u, step) := ownLatch (leadChange s)
  let (s2, st, v) := if s1.hot then hotValues n s1.time.own u s1 else (s1, s1.time.own, u)
  let s3 := if st != s2.time.state then raise .timeState [(1, s2.time.state.code), (1, st.code), (4, v)] s2 else s2
  (holdPps { s3 with time := { s3.time with state := st, uWall := v } }, step)

/-! ## The happenings -/

/-- PTP_SYNC_RECEIVED (R29). -/
def execPtpSyncReceived (m : PtpSync) (s : State) : Host.Outcome State Fault Refusal :=
  act (fun s =>
    if !s.portOn m.port then s
    else syncFor 1 m (syncFor 0 m (servoRun (atTime (rxTime s.cfg m.port m.rx) s)))) s

/-- PTP_FOLLOW_UP_RECEIVED (R26). -/
def execPtpFollowUpReceived (m : PtpReply) (s : State) : Host.Outcome State Fault Refusal :=
  act (fun s =>
    if !s.portOn m.port then s
    else followUpFor 1 m (followUpFor 0 m (servoRun (atTime (rxTime s.cfg m.port m.rx) s)))) s

/-- PTP_DELAY_RESP_RECEIVED (R29). -/
def execPtpDelayRespReceived (m : PtpReply) (s : State) : Host.Outcome State Fault Refusal :=
  act (fun s =>
    if !s.portOn m.port then s
    else delayRespFor 1 m (delayRespFor 0 m (atTime (rxTime s.cfg m.port m.rx) s))) s

/-- An Announce heard by DOM[d] (R26). -/
def announceFor (d : Nat) (m : PtpAnnounce) (s : State) : State :=
  if domHears s.cfg d m.port m.domain m.transport && ptpVersionOk m.version && decide (-3 ≤ m.logInterval)
      && decide (m.logInterval ≤ 3) then
    s.modEst d (fun e => e.announce { m with rx := rxTime s.cfg m.port m.rx })
  else s

/-- PTP_ANNOUNCE_RECEIVED (R26). -/
def execPtpAnnounceReceived (m : PtpAnnounce) (s : State) : Host.Outcome State Fault Refusal :=
  act (fun s =>
    if !s.portOn m.port then s
    else announceFor 1 m (announceFor 0 m (atTime (rxTime s.cfg m.port m.rx) s))) s

/-- DELAY_REQ_SEND (R26): sent to the selected master on the port it is heard on, multicast or unicast, its transmit timestamp corrected
by TIME_PORT_CORR (R28). -/
def execDelayReqSend (d : Fin 2) (seq : Nat) (i : TxTime) (s : State) : Host.Outcome State Fault Refusal :=
  let tx := i.ns
  let quarter := i.quarter
  act (fun s =>
    let e := s.est d
    match e.selected with
    | some m =>
      match tfind e.masters m with
      | some a =>
        let t3 := 1000 * (tx : Int) + 250 * ((quarter % 4 : Nat) : Int) + portCorr s.cfg a.port
        emit (.delayReq d a.port (Config.delayReqUnicast d) seq (natOf (t3 / 1000))) ((atTime tx s).modEst d (fun e => { e with delayReq := some (seq, t3) }))
      | none => s
    | none => s) s

/-- ANNOUNCE_RECEIPT_TIMEOUT (R29): no Announce within its timeout, or no Sync within 4 intervals. The estimator is not
valid, and another master that is still heard is selected. -/
def execAnnounceReceiptTimeout (d : Fin 2) (t : Time64) (s : State) : Host.Outcome State Fault Refusal :=
  act (fun s =>
    let s1 := atTime t s
    let e := s1.est d
    let late := (match e.selected with
        | some m => (match tfind e.masters m with | some a => !announceLive a t | none => true)
        | none => false)
      || (match e.lastSync with | some x => decide (x + 4 * logIntervalNs e.logSync < t) | none => false)
    if !late then s1
    else s1.modEst d (fun e =>
      let e1 := { e with masters := e.masters.filter (fun a => announceLive a.2 t), timedOut := true }
      match e1.best t with
      | some b => if e1.selected = some b then e1 else e1.pick b
      | none => e1)) s

/-- TIME_SLEW_END (R31): the counter has reached the new source, which it cannot before the rate of the slew allows it. -/
def execTimeSlewEnd (t : Time64) (s : State) : Host.Outcome State Fault Refusal :=
  act (fun s =>
    let s1 := atTime t s
    if !s1.time.slewing || s1.slewReach < s1.time.dRem.natAbs then s1
    else raise .timeSlewEnd [] { s1 with time := { s1.time with
        slewing := false, dRem := 0, phase := s1.time.phase + s1.time.dRem } }) s

/-- HOLDOVER_LIMIT (R35): the limit is exceeded; the state changes at the next decision point (R33). -/
def execHoldoverLimit (t : Time64) (s : State) : Host.Outcome State Fault Refusal :=
  act (fun s =>
    let s1 := atTime t s
    if s1.time.own == .holdover && s1.holdOver then { s1 with time := { s1.time with holdEnded := true } } else s1) s

/-- The follower's offset from the lead in a time-transfer exchange, less the lane asymmetry (R49), in picoseconds. -/
def xferOffset (x : TimeXfer) : Int := ((x.t2 - x.t1) - (x.t4 - x.t3)) / 2 - x.asym

/-- The follower's servo at a time-transfer exchange (R49): its offset from the lead at a bandwidth of 10 Hz. The first exchange after time
transfer has begun, or resumed, is a change of source (R31, R48, R50). -/
def followLead (n : Nat) (x : TimeXfer) (s : State) : State :=
  let err := -(xferOffset x)
  let s1 := { s with twin := { s.twin with xferTick := some n } }
  if s.time.xferOn then servoSteer 10000 err (s.grid.p3 / 3) s1
  else beginSlew err (raise .timeSourceChange [] { s1 with time := { s1.time with xferOn := true } })

/-- TIME_XFER_RECEIVED (R49). On the follower it stands for the exchange of a tick with its four times: the reply of step 3 goes out, and the
servo steers, except while the lead's state is missed (R50). On the lead it is that reply: t1 and t4 go back to the follower. -/
def execTimeXferReceived (i : Framed TimeXfer) (s : State) : Host.Outcome State Fault Refusal :=
  let x := i.msg
  let w := i.frame
  act (fun s =>
    match takeFrame 3 s.paired w (servoRun (atTime x.at' s)) with
    | (none, s1) => s1
    | (some f, s1) =>
      let n := f.1.tick
      if s1.follows then
        if s1.twin.xferTick = some n then s1
        else
          let s2 := sendFrame n none (.timeXfer 2 [x.t2, x.t3]) s1
          if s2.hot && s2.time.leadMissed != 0 then s2 else followLead n x s2
      else if s1.timeLead && 2 ≤ s1.twin.lanesUsed then sendFrame n none (.timeXfer 3 [x.t1, x.t4]) s1
      else s1) s

/-- PPS_IN_EDGE (R52): reported with its offset from the nearest whole second, in quarter nanoseconds. It does not steer. -/
def execPpsInEdge (t : Time64) (quarter : Nat) (s : State) : Host.Outcome State Fault Refusal :=
  act (fun s =>
    if !s.powered then s
    else
      let q := 4 * (t % 1000000000) + quarter % 4
      let off : Int := if 2000000000 < q then (q : Int) - 4000000000 else q
      raiseAt t .ppsInEdge none [(8, twos 64 off)] (atTime t s)) s

/-- PPS_OUT_SECOND (R52): PPS_OUT rises at a whole second of TIME64, where it is driven. -/
def execPpsOutSecond (t : Time64) (s : State) : Host.Outcome State Fault Refusal :=
  act (fun s =>
    let s1 := atTime t s
    if s1.ppsDriven && t % 1000000000 == 0 then emit (.ppsOut t) { s1 with pins := { s1.pins with ppsRise := some t } } else s1) s

end Sys2Proof.Machine
end

