-- ==== Sys2Proof/Machine/Ingest.lean ====
section
/-! DEFINITION. Network ingest: stream endpoints (R85, R88), the merge (R91 to R94), access units and the jitter buffer (R95 to
R98), stream states and sessions (R99, R100), frame records as they arrive (R107 to R109, R292), the Spillway (R110, R112),
sender reports (R39) and the ports (R84, R86, R87). -/
namespace Sys2Proof.Machine

/-! ## Rings in host memory (R391) -/

/-- What the host has read of a ring since the last write: the consumer index stands in host memory, so its advance is free. -/
def ringAdvance (r : Ring) (s : State) : Ring × State :=
  let (v, s1) := freeBelow (r.producer - r.consumer + 1) s
  ({ r with consumer := r.consumer + v }, s1)

/-- Whether a rate-limited ring may still write a record in the running second at an instant (Mbit/s). The spec gives no interval for
NET_MIRROR_RATE and DEC_STATS_RATE: that it is the calendar second of TIME64 is a DESIGN CHOICE (log entry 118). -/
def ringRoom (r : Ring) (t : Time64) (mbit bytes : Nat) : Bool :=
  let used := if t / 1000000000 = r.rateT then r.rateBits else 0
  used + 8 * bytes ≤ mbit * 1000000

/-- A record written to a ring: the record, then the producer index and the vector. -/
def ringPut (kind : Nat) (r : Ring) (t : Time64) (data : Bytes) (s : State) : Ring × State :=
  let sec := t / 1000000000
  let used := if sec = r.rateT then r.rateBits else 0
  let r1 := { r with producer := r.producer + data.length, rateT := sec, rateBits := used + 8 * data.length }
  let at' := r.base + r.producer % 2 ^ r.log2
  (r1, emit (.msix r.vector s.time.now) (emit (.hostWrite (r.base - 64) (le 8 (r1.producer % 2 ^ r.log2))) (emit (.ringRecord kind at' data) s)))

/-! ## The Spillway (R110, R112) -/

/-- A packet addressed to a stream as it came in (R88, R112): its port, its path, its bytes, and its datagram where it is in the subset. -/
structure Inbound where
  port  : Nat
  path  : Nat
  bytes : Bytes
  data  : Option Bytes
  deriving DecidableEq, Repr

/-- A mirror record (R112). -/
def mirrorRecord (x cat : Nat) (p : Inbound) (arr : Time64) : Bytes :=
  let cap := min 2048 p.bytes.length
  let b := le 8 arr ++ le 1 x ++ le 1 p.port ++ le 1 cat ++ le 1 (packFields [(0, 1, p.path), (1, 1, b2n (cap < p.bytes.length))])
    ++ le 2 p.bytes.length ++ le 2 cap ++ zeros 16 ++ p.bytes.take cap
  padTo (ceilDiv b.length 64 * 64) b

/-- A packet copied to the mirror ring, or counted in NET_MIRROR_DROP (R112). -/
def mirrorPut (data : Bytes) (t : Time64) (s : State) : State :=
  match s.mirror with
  | none => s
  | some r =>
    let (r1, s1) := ringAdvance r s
    if ringRoom r1 t (pv s.cfg pNetMirrorRate 0) data.length && r1.producer - r1.consumer + data.length ≤ 2 ^ r1.log2 then
      let (r2, s2) := ringPut 1 r1 t data s1
      { s2 with mirror := some r2 }
    else { s1 with mirror := some r1, mirrorDrop := (s1.mirrorDrop + 1) % 2 ^ 32 }

/-- A packet sent to the Spillway in a category (R110). -/
def spill (x cat : Nat) (p : Inbound) (arr : Time64) (s : State) : State :=
  let s1 := s.modStream x (fun m => { m with cnt := { m.cnt with
    spill := setNth ((nth 0 m.cnt.spill cat + 1) % 2 ^ 64) m.cnt.spill cat } })
  if bit (pv s.cfg pSrcSpillMirror x) cat then mirrorPut (mirrorRecord x cat p arr) arr s1 else s1

/-! ## Stream states (R99) -/

/-- The code of a state change's cause. -/
def StreamCause.code : StreamCause → Nat
  | .packet => 0
  | .release => 1
  | .noEntry => 2
  | .gapTimeout => 3
  | .closedAu => 4
  | .silence => 5
  | .session => 6
  | .decoder => 7
  | .disabled => 8

/-- A stream's time in FLOWING at an instant (R92). -/
def Stream.flowNow (m : Stream) (t : Time64) : Nat := m.flowAcc + (match m.flowSince with | some f => t - f | none => 0)

/-- The time in FLOWING ends at an instant. -/
def Stream.leaveFlow (m : Stream) (t : Time64) : Stream := { m with flowAcc := m.flowNow t, flowSince := none }

/-- PKT_RATE at a decision point (R92), as the packets accepted in the last 2 s spent in FLOWING. -/
def Stream.rateAt (m : Stream) (t : Time64) : Stream :=
  if m.flowSince.isNone then m
  else
    let f := m.flowNow t
    let l := m.flowPkts.filter (fun k => f < k + 2000000000)
    { m with flowPkts := l, pktRate := if 2000000000 ≤ f then some l.length else m.pktRate }

/-- A stream's state change with STREAM_STATE (R99). -/
def setStreamState (x : Nat) (n : StreamState) (c : StreamCause) (s : State) : State :=
  let old := (s.stream x).state
  if old = n then s
  else raise .streamState [(1, x), (1, old.code), (1, n.code), (1, c.code)] (s.modStream x (fun m =>
    { m.leaveFlow s.time.now with state := n, flowSince := if n = .flowing then some s.time.now else none }))

/-! ## Sessions (R100) -/

/-- A new session: sequence extension, the floor and the sender-report mapping restart, what is held is discarded, and decoding
starts again. -/
def newSession (x : Nat) (s : State) : State :=
  let m := s.stream x
  let lost := (m.aus.filter (fun a => a.complete.isNone && !a.closed)).length
  let s1 := s.modStream x (fun m => { m with
    session := true, highExt := none, seen := [], aus := [], lastAuEnd := none, lastAuTs := none, closedHigh := none, floorPts := []
    srMap := none, recBearing := false, newSsrcN := 0, rtpUnwrap := 0, startDecode := true, waitEntry := true, cnt := { m.cnt with auPartial := (m.cnt.auPartial + lost) % 2 ^ 32, sessions := (m.cnt.sessions + 1) % 2 ^ 32 } })
  raise .streamSession [(1, x)] (s1.modFrz x (fun f => { f with seenFirst := false, bearing := false, tokenPos := false }))

/-- Whether resuming packets prove continuity (R100): `t` is the arrival of the resuming packet, and PKT_RATE is held as the packets of 2 s. -/
def continues (m : Stream) (t : Time64) : Bool :=
  match m.pktRate, m.lastPkt with
  | some r, some l => (t - l) * r ≤ 2 * 32768 * 1000000000
  | _, _ => false

/-- Whether a packet resumes a stream that paused for the gap timeout (R100). -/
def resumes (c : Cfg) (x : Nat) (m : Stream) (t : Time64) : Bool :=
  (m.state == .gapped || m.state == .silent)
  && (match m.lastPkt with | some l => l + 1000 * pv c pSrcGapTimeoutUs x ≤ t | none => true)

/-! ## Sequence numbers and the merge (R91, R93) -/

/-- A packet of the stream's format (R88, R89): its RTP header, its payload, and for ST 2110-20 the upper bits of its sequence number. -/
structure StreamPkt where
  rtp   : RtpIn
  pay   : Payload
  extHi : Nat
  bytes : Bytes
  deriving DecidableEq, Repr

/-- A packet's size in bytes, as the port delivers it. -/
def StreamPkt.len (p : StreamPkt) : Nat := p.bytes.length

/-- A packet's extended sequence number, given the highest accepted so far. The first number of a session is offset by one
sequence cycle, so a packet from before it has a number too. -/
def extendSeq (is2110 : Bool) (high : Option Nat) (p : StreamPkt) : Nat :=
  let w := if is2110 then 2 ^ 32 else 2 ^ 16
  let v := if is2110 then p.extHi * 2 ^ 16 + p.rtp.seq else p.rtp.seq
  match high with
  | none => w + v
  | some h =>
    let d := (v + w - h % w) % w
    if d < w / 2 then h + d else h - (w - d)

/-! ## Held packets (R95) -/

/-- The numbers of an access unit's packets. -/
def Au.got (a : Au) : List Nat := a.pkts.map (fun p => p.ext)

/-- An access unit's size in bytes. -/
def Au.size (a : Au) : Nat := sumNat (a.pkts.map (fun p => p.bytes.length))

/-- ARRIVAL_T of an access unit's first packet. -/
def Au.firstT (a : Au) : Time64 := (a.pkts.map (fun p => p.arr)).foldl min ((a.pkts.head?.map (fun p => p.arr)).getD 0)

/-- ARRIVAL_T of its last received packet (R97, R252). -/
def Au.lastT (a : Au) : Time64 := maxNat (a.pkts.map (fun p => p.arr))

/-- An access unit's packets in sequence. -/
def Au.inOrder (a : Au) : List Held := sortBy (fun p q => decide (p.ext ≤ q.ext)) a.pkts

/-- An access unit's lowest and highest received packet. -/
def Au.span (a : Au) : Nat × Nat := (a.got.foldl Nat.min (a.got.headD 0), maxNat a.got)

/-- Whether the line numbers show no line missing at the head of an ST 2110-20 frame (R95). -/
def Au.headOk (a : Au) : Bool :=
  match a.inOrder with
  | p :: _ => (match p.pay with
    | .lines (g :: _) => g.line == 0 && g.off == 0
    | _ => true)
  | [] => true

/-- Whether a payload stands in order beside the packets that are held before and after it (R110). -/
def Au.fits (a : Au) (ext : Nat) (pay : Payload) : Bool :=
  a.pkts.all (fun p => (p.ext + 1 != ext || p.pay.precedes pay) && (p.ext != ext + 1 || pay.precedes p.pay))

/-- What the merge says of a packet with an extended number (R93, R110). -/
inductive MergeOut where
  | first
  | pathDup
  | duplicate
  | late
  deriving DecidableEq, Repr

/-- The highest number whose merge window is over at an instant (R110). -/
def Stream.mergedUpTo (c : Cfg) (x : Nat) (m : Stream) (t : Time64) : Option Nat :=
  ((m.seen.filter (fun e => e.t + 1000 * pv c pSrcPathSkewUs x < t)).map (fun e => e.ext) ++ m.closedHigh.toList).max?

/-- The merge of R93: `path` is 0 for A, 1 for B and 2 for a borrowed packet. A packet from the past is LATE beyond the merge window. A copy
after the window of a number whose access unit has left the buffer is LATE and not DUPLICATE, where R93 and R110 name one each: a
DESIGN CHOICE (log entry 119). -/
def mergeOf (c : Cfg) (x : Nat) (m : Stream) (ext path : Nat) (t : Time64) : MergeOut :=
  match m.seen.find? (fun e => e.ext == ext) with
  | some e => if e.path != path && !e.both && t ≤ e.t + 1000 * pv c pSrcPathSkewUs x then .pathDup else .duplicate
  | none =>
    if m.aus.any (fun a => a.got.contains ext) then .duplicate
    else if m.lastAuEnd.any (fun e => ext ≤ e) || (m.mergedUpTo c x t).any (fun e => ext < e) then .late
    else .first

/-- Whether a stream has both endpoints. -/
def bothPaths (c : Cfg) (x : Nat) : Bool := (pa c pSrcDestA x).fam != 0 && (pa c pSrcDestB x).fam != 0

/-! ## Frame records as they arrive (R107, R108, R292) -/

/-- The row entries of a record. -/
def recRows : Nat → Bytes → List (Nat × Nat)
  | 0, _ => []
  | n + 1, b => (fld b 0 1 % 8, ofBe (slice b 1 4)) :: recRows n (b.drop 5)

/-- A frame record from an extension element's data, where its signature, version, length and CRC are good (R292). -/
def parseRecord (b : Bytes) : Option FrameRecord :=
  let rows := fld b 6 1
  let n := 40 + 5 * rows
  if slice b 0 4 == [0x52, 0x46, 0x52, 0x4D] && fld b 4 1 == 1 && 1 ≤ rows && rows ≤ 36 && b.length == n + 4
      && ofBe (slice b n 4) == (crc32c 0 (b.take n)).toNat then
    let l := recRows rows (b.drop 40)
    some { captureT := ofBe (slice b 32 8), depT := ofBe (slice b 24 8), rowTimes := l.map Prod.snd, verdicts := l.map Prod.fst,
           u := ofBe (slice b 20 4), tbaseOk := bit (fld b 5 1) 3, gm := ofBe (slice b 8 8), domain := fld b 7 1 }
  else none

/-! ## Access units (R95) -/

/-- An RTP timestamp unwrapped against the last one. -/
def unwrapTs (base ts : Nat) : Nat :=
  if base = 0 then 2 ^ 32 + ts % 2 ^ 32
  else
    let d := (ts % 2 ^ 32 + 2 ^ 32 - base % 2 ^ 32) % 2 ^ 32
    if d < 2 ^ 31 then base + d else base - (2 ^ 32 - d)

/-- The access units with their boundaries (R95), in decode order: `prev` is the last packet of the one before, where there is one. Where its end
is lost, every number up to the next unit's packets is missing from that unit too. -/
def boundAus : Option Nat → List Au → List Au
  | _, [] => []
  | prev, a :: r =>
    let last := match a.last with
      | some e => some e
      | none => (match r with
        | b :: _ => if b.span.1 = a.span.2 + 1 then some a.span.2 else none
        | [] => none)
    let first := match prev with
      | some e => some (e + 1)
      | none => a.first
    { a with first := first, last := last } :: boundAus (some (last.getD a.span.2)) r

/-- Whether every packet of an access unit has arrived (R95). -/
def Au.whole (a : Au) : Bool :=
  match a.first, a.last with
  | some f, some l => a.headOk && (countFrom f (l + 1 - f)).all (fun e => a.got.contains e)
  | _, _ => false

/-- Insertion of an access unit in decode order, by its first received packet. -/
def insertAu (a : Au) (l : List Au) : List Au := insertBy (fun x y => decide (x.span.1 ≤ y.span.1)) a l

/-- The extension elements of a packet that may hold a frame record (R107). -/
def recordCopies (c : Cfg) (x : Nat) (p : StreamPkt) : List Bytes :=
  if pv c pSrcRecord x = 0 then [] else (p.rtp.exts.filter (fun e => e.1 == pv c pSrcRecordExtid x)).map Prod.snd

/-- The access units with a packet taken in. -/
def addPacket (c : Cfg) (x : Nat) (m : Stream) (ext ts path : Nat) (p : StreamPkt) (now arr : Time64) : List Au :=
  let up := fun (a : Au) => { a with
    pkts := a.pkts ++ [⟨ext, path, arr, now, p.rtp.marker, p.pay, p.bytes⟩], last := if p.rtp.marker then some ext else a.last
    copies := a.copies ++ recordCopies c x p }
  if m.aus.any (fun a => a.ts == ts) then m.aus.map (fun a => if a.ts = ts then up a else a)
  else
    let first := if m.aus == [] && m.lastAuEnd.isNone then some ext else none
    insertAu (up ⟨ts, first, none, [], none, false, []⟩) m.aus

/-- The floor points of the last 2 s (R95): each completion less its RTP time, in ninths of a nanosecond. -/
def pruneFloor (l : List (Time64 × Int)) (now : Time64) : List (Time64 × Int) := l.filter (fun q => now ≤ q.1 + 2000000000)

/-- The access units that have become complete, with AU_COMPLETE and their floor points. -/
def markComplete (x : Nat) (now : Time64) (s : State) : State :=
  let m := s.stream x
  let aus := boundAus m.lastAuEnd m.aus
  let isNew := fun (a : Au) => a.complete.isNone && !a.closed && a.whole
  let pts := (aus.filter isNew).map (fun a => (now, 9 * (now : Int) - 100000 * (a.ts : Int)))
  let n := pts.length
  s.modStream x (fun m => { m with
    aus := aus.map (fun a => if isNew a then { a with complete := some now } else a)
    floorPts := pruneFloor (m.floorPts ++ pts) now
    cnt := { m.cnt with auComplete := (m.cnt.auComplete + n) % 2 ^ 32 } })

/-- F + m(k) + SRC_JITTER_US of an access unit in ninths of a nanosecond (R95), on the floor as its completion left it. -/
def duePoint (c : Cfg) (x : Nat) (m : Stream) (a : Au) (done : Time64) : Int :=
  let pts := (m.floorPts.filter (fun q => q.1 ≤ done && done ≤ q.1 + 2000000000)).map Prod.snd
  let f := match pts with
    | [] => 9 * (done : Int) - 100000 * (a.ts : Int)
    | q :: r => r.foldl min q
  f + 100000 * (a.ts : Int) + 9000 * (pv c pSrcJitterUs x : Int)

/-- Whether an access unit is complete and its release time has come. -/
def auDue (c : Cfg) (x : Nat) (m : Stream) (t : Time64) (a : Au) : Bool :=
  match a.complete with
  | some d => d ≤ t && decide (duePoint c x m a d ≤ 9 * (t : Int))
  | none => false

/-! ## Taking a packet (R88 to R100, R110) -/

/-- The policer of SRC_MAX_RATE and SRC_MAX_BURST: the level after a packet, in eight-thousandths of a byte, where it fits. -/
def policeOf (c : Cfg) (x : Nat) (m : Stream) (now : Time64) (len : Nat) : Option Nat :=
  let left := m.policer - (now - m.policerT) * pv c pSrcMaxRate x
  if left + 8000 * len ≤ 8000 * pv c pSrcMaxBurst x then some (left + 8000 * len) else none

/-- The bytes held in the network partition (R96): ST 2110-20 lines go to DRAM as they arrive, so only their jitter depth occupies it. -/
def heldBytes (s : State) : Nat :=
  sumNat (s.streams.map (fun e =>
    if is2110 s.cfg e.1 then
      sumNat ((e.2.aus.flatMap (fun a => a.pkts)).map (fun p =>
        if s.time.now < p.got + 1000 * pv s.cfg pSrcJitterUs e.1 then p.bytes.length else 0))
    else sumNat (e.2.aus.map Au.size)))

/-- The room of the partition: 9 MiB, and the 3 MiB reserve during a set-point outage (R96). -/
def ingestRoom (s : State) : Nat := (if s.mem.outage then 12 else 9) * 2 ^ 20

/-- Whether a packet of the stream's format and payload type comes from the session's source (R88, R100). -/
def ssrcOk (c : Cfg) (x : Nat) (m : Stream) (p : StreamPkt) : Bool :=
  let want := pv c pSrcSsrc x
  if want != 0 then p.rtp.ssrc == want else !m.session || m.state == .idle || m.highExt.isNone || p.rtp.ssrc == m.ssrc

/-- The count of packets from a new SSRC with none from the current one (R100). -/
def countNew (m : Stream) (p : StreamPkt) : Stream :=
  if m.newSsrcN != 0 && m.newSsrc = p.rtp.ssrc then { m with newSsrcN := m.newSsrcN + 1 } else { m with newSsrc := p.rtp.ssrc, newSsrcN := 1 }

/-- A packet lent to the peer within the borrowing limit of R232, 781,250 bytes a lane in each window of 1 ms (R252, R253), with its bytes, its
path and its ARRIVAL_T: the answer is 0 the packet, 2 NOT_SENT. -/
def lend (x ext : Nat) (p : BorrowPkt) (s : State) : State :=
  let t := s.time.now
  let s1 := if s.twin.lendT + 1000000 ≤ t then { s with twin := { s.twin with lendT := t, lendBytes := 0 } } else s
  let limit := if s1.twin.lanesUsed < 2 then 0 else 781250 * s1.twin.lanesUsed
  if s1.twin.lendBytes + p.bytes.length ≤ limit then
    sendFlume (.borrowData x ext 0 (some p)) { s1 with twin := { s1.twin with
      lendBytes := s1.twin.lendBytes + p.bytes.length, cnt := { s1.twin.cnt with lent := (s1.twin.cnt.lent + 1) % 2 ^ 64 } } }
  else
    sendFlume (.borrowData x ext 2 none) { s1 with twin := { s1.twin with
      cnt := { s1.twin.cnt with refused := (s1.twin.cnt.refused + 1) % 2 ^ 32 } } }

/-- An accepted packet of a stream that the peer has an open borrow of (R251). -/
def lendAccepted (x ext : Nat) (p : BorrowPkt) (s : State) : State :=
  match tfind s.twin.lendOpen x with
  | some e => if s.hot && s.time.now < e then lend x ext p s else s
  | none => s

/-- What becomes of a packet that the checks have let through: accepted with its extended number and the policer's level, a second copy, or
sent to the Spillway in a category. -/
inductive Fate where
  | accept (ext lvl : Nat)
  | pathDup (ext : Nat)
  | spilled (cat : Nat)
  deriving DecidableEq, Repr

/-- Whether a packet belongs to an access unit that has been released or closed (R110). -/
def Stream.isPast (m : Stream) (ts : Nat) : Bool := m.lastAuTs == some ts || m.aus.any (fun a => a.closed && a.ts == ts)

/-- The fate of a packet (R91, R93, R96, R110): LATE where its access unit is released or closed, MALFORMED for a fragment that is out of order
within its NAL unit, OVER_BUDGET beyond the policer or the partition. -/
def fateOf (x path : Nat) (p : StreamPkt) (now : Time64) (s : State) : Fate :=
  let m := s.stream x
  let ext := extendSeq (is2110 s.cfg x) m.highExt p
  let ts := unwrapTs m.rtpUnwrap p.rtp.ts
  match mergeOf s.cfg x m ext path now with
  | .pathDup => .pathDup ext
  | .duplicate => .spilled 1
  | .late => .spilled 0
  | .first =>
    if m.isPast ts then .spilled 0
    else if m.aus.any (fun a => a.ts == ts && !a.fits ext p.pay) then .spilled 2
    else
      match policeOf s.cfg x m now p.len with
      | none => .spilled 3
      | some lvl => if ingestRoom s < heldBytes s + p.len then .spilled 3 else .accept ext lvl

/-- A packet accepted (R91, R93, R95): `via` is how it came into the merge, `src` its own path. -/
def takeIn (x via src ext lvl : Nat) (p : StreamPkt) (now arr : Time64) (s : State) : State :=
  let m := s.stream x
  let ts := unwrapTs m.rtpUnwrap p.rtp.ts
  let s1 := s.modStream x (fun m => { m with
    highExt := some (max ext (m.highExt.getD ext)), seen := m.seen ++ [⟨ext, via, now, false⟩], lastPkt := some arr
    ownPkt := if via = 2 then m.ownPkt else some now, policer := lvl, policerT := now
    ssrc := p.rtp.ssrc, rtpUnwrap := max ts m.rtpUnwrap
    flowPkts := if m.state = .flowing then m.flowPkts ++ [m.flowNow now] else m.flowPkts
    aus := addPacket s.cfg x m ext ts src p now arr, cnt := { m.cnt with pktAccept := (m.cnt.pktAccept + 1) % 2 ^ 64 } })
  let s2 := markComplete x now s1
  if via = 2 then s2 else lendAccepted x ext ⟨src, arr, p.bytes⟩ s2

/-- A packet that is not accepted: a second copy is counted, any other goes to the Spillway. -/
def turnAway (x : Nat) (p : Inbound) (arr : Time64) (f : Fate) (s : State) : State :=
  match f with
  | .accept _ _ => s
  | .pathDup ext => s.modStream x (fun m => { m with
      seen := m.seen.map (fun e => if e.ext = ext then { e with both := true } else e), cnt := { m.cnt with pathDup := (m.cnt.pathDup + 1) % 2 ^ 64 } })
  | .spilled c => spill x c p arr s

/-- A packet judged in the state `ready` that its acceptance would leave the stream in (R99, R100): only an accepted packet brings it
about. -/
def admitInto (x via : Nat) (i : Inbound) (p : StreamPkt) (now arr : Time64) (ready s : State) : State :=
  match fateOf x via p now ready with
  | .accept ext lvl => takeIn x via i.path ext lvl p now arr ready
  | f => turnAway x i arr f s

/-- A packet in a stream's format, with its payload type (R88, R89), none where it is MALFORMED. -/
def formatIn (c : Cfg) (x : Nat) (i : Inbound) : Option StreamPkt :=
  match i.data.bind rtpIn with
  | none => none
  | some r => if r.pt != pv c pSrcPt x then none else (payloadOf c x r.data).map (fun y => ⟨r, y, fbe r.data 0 2, i.bytes⟩)

/-- A packet of the stream's format from its current SSRC, or its first (R99, R100): it begins a session, resumes one, or goes on with it. -/
def takeCurrent (x via : Nat) (i : Inbound) (p : StreamPkt) (now arr : Time64) (s : State) : State :=
  let m := s.stream x
  let fresh := m.state == .idle || !m.session || (resumes s.cfg x m arr && !continues m arr)
  let s1 := if fresh then newSession x s else s
  let prime := m.state == .idle || m.state == .silent || (m.state == .gapped && fresh)
  let s2 := if prime then setStreamState x .priming (if fresh && m.state != .idle then .session else .packet) s1 else s1
  admitInto x via i p now arr s2 s

/-- A packet of the stream's format from another SSRC (R100): MALFORMED, until the eighth in a row with SRC_SSRC 0 begins a new session. -/
def takeOther (x via : Nat) (i : Inbound) (p : StreamPkt) (now arr : Time64) (s : State) : State :=
  if pv s.cfg pSrcSsrc x != 0 then spill x 2 i arr s
  else
    let m1 := countNew (s.stream x) p
    let s0 := s.setStream x m1
    if m1.newSsrcN < 8 then spill x 2 i arr s0
    else
      let s1 := newSession x (s.setStream x { m1 with newSsrcN := 0, ssrc := p.rtp.ssrc })
      admitInto x via i p now arr (setStreamState x .priming .session s1) s0

/-- A packet addressed to an enabled stream (R88 to R100), `via` path A, B or a borrow: MALFORMED, of another SSRC, or judged by the merge. A
packet of the stream's format from the current SSRC ends a run of packets from another one. -/
def takePacket (x via : Nat) (i : Inbound) (now arr : Time64) (s : State) : State :=
  match formatIn s.cfg x i with
  | none => spill x 2 i arr s
  | some p =>
    if ssrcOk s.cfg x (s.stream x) p then takeCurrent x via i p now arr (s.modStream x (fun m => { m with newSsrcN := 0 }))
    else takeOther x via i p now arr s

/-! ## Endpoints and ports (R85 to R88) -/

/-- Whether an endpoint address record names a datagram's destination; one that shows no port is matched by its addresses alone. -/
def destMatches (a : AddrRec) (d : UdpIn) : Bool :=
  a.fam != 0 && d.port.all (fun k => a.port == k) && a.vlan == d.vlan && a.addr.take d.dst.length == d.dst
  && d.dst.length == (if a.fam = 4 then 4 else 16) && (a.addr2.all (· == 0) || a.addr2.take d.src.length == d.src)

/-- The path of an Ethernet port (R85). -/
def pathOf (c : Cfg) (p : Nat) : Nat := pv c pNetPortPath p

/-- The enabled network stream that a datagram is addressed to. -/
def streamFor (s : State) (port : Nat) (d : UdpIn) : Option Nat :=
  (enabledStreams s.cfg).find? (fun x => pv s.cfg pDecOrigin x == 0
    && destMatches (pa s.cfg (if pathOf s.cfg port = 0 then pSrcDestA else pSrcDestB) x) d)

/-- A received frame is counted on its port. -/
def countRx (p : Nat) (s : State) : State := s.modEthPort p (fun e => { e with framesRx := (e.framesRx + 1) % 2 ^ 64 })

/-- Whether packets of a port are received: its link is up (R85), and the network units run: not in a standby seat (R225), and not before READY or
after a fatal fault. -/
def State.netOn (s : State) (p : Nat) : Bool :=
  s.portOn p && (s.ethPort p).link && s.alive && s.twin.mode != .coldStandby && (match s.power.phase with
    | .stopping k => k == 0
    | _ => true)

/-- The UTC offset in force (R39): the servo master's when it is valid, otherwise TIME_UTC_OFFSET. -/
def utcOffset (s : State) : Int :=
  let e := s.est s.time.servoDom
  match e.selected with
  | some m =>
    (match tfind e.masters m with
      | some a => if a.utcValid then a.utcOffset else ofTwos 64 (pv s.cfg pTimeUtcOffset 0)
      | none => ofTwos 64 (pv s.cfg pTimeUtcOffset 0))
  | none => ofTwos 64 (pv s.cfg pTimeUtcOffset 0)

/-- A sender report's NTP time as TIME64 (R39). -/
def ntpTime (s : State) (r : SrIn) : Int :=
  ((r.ntpSec : Int) - 2208988800 + utcOffset s) * 1000000000 + (r.ntpFrac * 1000000000 / 2 ^ 32 : Nat)

/-- The sender report of a datagram that a stream takes: of its session's SSRC (R39). -/
def usableSr (s : State) (x : Nat) (b : Bytes) : Option SrIn :=
  match rtcpPackets b.length b with
  | some l => (srsOf l).find? (fun r => (s.stream x).session && (s.stream x).ssrc == r.ssrc && decide (0 ≤ ntpTime s r))
  | none => none

/-- An RTCP datagram of a stream (R39, R88): its sender report gives the mapping of the stream's RTP clock; one that gives none is counted
as MALFORMED and ignored (log entry 120). -/
def takeRtcp (x : Nat) (i : Inbound) (b : Bytes) (t : Time64) (s : State) : State :=
  match usableSr s x b with
  | some r => s.modStream x (fun m => { m with srMap := some (natOf (ntpTime s r), r.rtp, t) })
  | none => spill x 2 i t s

/-- A frame that no stream claims on its port (R86). -/
def noteUnmatched (p : Nat) (s : State) : State := s.modEthPort p (fun e => { e with unmatched := (e.unmatched + 1) % 2 ^ 64 })

/-- A frame whose FCS is bad (R84). -/
def noteFcs (p : Nat) (s : State) : State := s.modEthPort p (fun e => { e with fcsErr := (e.fcsErr + 1) % 2 ^ 64 })

/-- A datagram as it reaches a stream. -/
def inbound (c : Cfg) (f : NetFrame) (u : UdpIn) : Inbound := ⟨f.port, pathOf c f.port, f.bytes, if u.ok && !f.basinUe then some u.data else none⟩

/-- What a datagram is claimed as (R86, R88): RTP or RTCP of a stream, or nothing. -/
inductive Claim where
  | rtp (x : Nat)
  | rtcp (x : Nat)
  | none
  deriving DecidableEq, Repr

/-- The claim of a datagram on a port: RTCP comes on the RTP port plus 1, or multiplexed on the RTP port (R88). -/
def claimOf (s : State) (port : Nat) (u : UdpIn) : Claim :=
  match streamFor s port u with
  | some x => if u.ok && isRtcp u.data then .rtcp x else .rtp x
  | none => match streamFor s port { u with port := u.port.map (fun k => k - 1) } with
    | some x => .rtcp x
    | none => .none

/-- A frame towards a stream's endpoint (R84, R88, R93, R110): bad, unmatched (R86), or a packet of the stream that claims it. -/
def streamFrame (f : NetFrame) (s : State) : State :=
  let t := rxTime s.cfg f.port f.rx
  let p : Nat := f.port
  let s1 := atTime t s
  if !f.fcsOk then noteFcs p s1
  else
    let s2 := countRx p s1
    match datagramIn f.bytes with
    | none => noteUnmatched p s2
    | some u =>
      match claimOf s2 p u with
      | .rtp x => takePacket x (pathOf s2.cfg p) (inbound s2.cfg f u) t t s2
      | .rtcp x => takeRtcp x (inbound s2.cfg f u) (if f.basinUe then [] else u.data) t s2
      | .none => noteUnmatched p s2

/-- RTP_PACKET_RECEIVED (R93, R110): lost where the port receives nothing (R85). -/
def execRtpPacketReceived (f : NetFrame) (s : State) : Host.Outcome State Fault Refusal :=
  act (fun s => if s.netOn f.port then streamFrame f s else s) s

/-- RTCP_SR_RECEIVED (R39, R88): lost where the port receives nothing (R85). -/
def execRtcpSrReceived (f : NetFrame) (s : State) : Host.Outcome State Fault Refusal :=
  act (fun s => if s.netOn f.port then streamFrame f s else s) s

/-- Whether a port owns an address (R86). -/
def ownAddress (c : Cfg) (p : Nat) (a : Bytes) : Bool :=
  let is := fun (r : AddrRec) => r.fam != 0 && a.length == (if r.fam = 4 then 4 else 16) && r.addr.take a.length == a
  is (pa c pNetIpv4 p) || is (pa2 c pNetIpv6 p 0) || is (pa2 c pNetIpv6 p 1)

/-- A frame sent on a port. -/
def sendEth (p : Nat) (k : EthKind) (s : State) : State :=
  emit (.frame p k) (s.modEthPort p (fun e => { e with framesTx := (e.framesTx + 1) % 2 ^ 64 }))

/-- How long an older querier is remembered (R87): twice the query interval of 125 s and the response interval of 10 s, the defaults of RFC 3376
and RFC 3810 (log entry 121). -/
def olderQuerierNs : Nat := 260 * 1000000000

/-- The version that a port's membership reports follow at an instant (R87): IGMPv3 and MLDv2, or an older one while an older querier is
remembered. -/
def EthPort.joinVersion (e : EthPort) (v6 : Bool) (t : Time64) : Nat :=
  let live := fun (q : Option Time64) => q.any (fun u => t < u)
  if v6 then (if live e.mld1 then 1 else 2) else if live e.igmp1 then 1 else if live e.igmp2 then 2 else 3

/-- A membership report (R87): the older versions name no source. -/
def sendJoin (p : Nat) (j : Bytes × Bytes) (s : State) : State :=
  let v6 := j.1.length == 16
  let v := (s.ethPort p).joinVersion v6 s.time.now
  emit (.join p v j.1 (if v = (if v6 then 2 else 3) then j.2 else [])) s

/-- The leave of a group (R87): IGMPv1 has none. -/
def sendLeave (p : Nat) (j : Bytes × Bytes) (s : State) : State :=
  let v6 := j.1.length == 16
  let v := (s.ethPort p).joinVersion v6 s.time.now
  if !v6 && v = 1 then s else emit (.leave p v j.1 (if v = (if v6 then 2 else 3) then j.2 else [])) s

/-- A port with a querier of a version heard (R87). -/
def EthPort.heard (e : EthPort) (v6 : Bool) (v : Nat) (t : Time64) : EthPort :=
  let u := some (t + olderQuerierNs)
  if v6 then { e with mld1 := if v = 1 then u else e.mld1 }
  else { e with igmp1 := if v = 1 then u else e.igmp1, igmp2 := if v = 2 then u else e.igmp2 }

/-- A membership query answered (R87): a report for each group of its family that the port has joined. -/
def answerMembership (p : Nat) (v6 : Bool) (v : Nat) (s : State) : State :=
  ((s.ethPort p).joins.filter (fun j => (j.1.length == 16) == v6)).foldl (fun a j => sendJoin p j a)
    (s.modEthPort p (fun e => e.heard v6 v s.time.now))

/-- ETH_FRAME_RECEIVED (R84, R86, R87): a frame that no stream, estimator or command transport claims: bad, answered, a query, or
counted as unmatched. That NET_UNMATCHED counts a frame of more than 9,216 bytes or with two tags is a DESIGN CHOICE (log entry 122): the spec
names no counter for it. -/
def execEthFrameReceived (f : EthFrame) (s : State) : Host.Outcome State Fault Refusal :=
  act (fun s =>
    if !s.netOn f.port then s
    else
      let p : Nat := f.port
      let s1 := atTime (rxTime s.cfg f.port f.rx) s
      if !f.fcsOk then noteFcs p s1
      else
        let s2 := countRx p s1
        let un := noteUnmatched p s2
        if 9216 < f.len || 1 < f.tags then un
        else
          match f.kind with
          | .arpRequest a => if ownAddress s2.cfg p a then sendEth p f.kind s2 else un
          | .neighbourSol a => if ownAddress s2.cfg p a then sendEth p f.kind s2 else un
          | .echoRequest _ a _ => if ownAddress s2.cfg p a then sendEth p f.kind s2 else un
          | .igmpQuery v => answerMembership p false v s2
          | .mldQuery v => answerMembership p true v s2
          | .ptpOther => s2
          | .unmatched => un) s

/-- NET_LINK (R85): the link came up or went down. -/
def execNetLink (p : Fin 4) (up : Bool) (t : Time64) (s : State) : Host.Outcome State Fault Refusal :=
  act (fun s =>
    if (s.ethPort p).link == up || !s.portOn p then s
    else
      raise .netLink [(1, (p : Nat)), (1, pv s.cfg pNetPortMode p), (1, b2n up)]
        ((atTime t s).modEthPort p (fun e => { e with link := up }))) s

/-! ## Multicast groups (R87) -/

/-- The endpoint addresses of an enabled stream on a path, as (group, source). -/
def endpointOf (c : Cfg) (x path : Nat) : List (Bytes × Bytes) :=
  let a := pa c (if path = 0 then pSrcDestA else pSrcDestB) x
  let n := if a.fam = 4 then 4 else 16
  let multi := match a.addr with
    | b :: _ => if a.fam = 4 then 224 ≤ b.toNat && b.toNat < 240 else b.toNat == 255
    | [] => false
  if a.fam = 0 || !multi then [] else [(a.addr.take n, a.addr2.take n)]

/-- The groups a port must have joined. -/
def wantedJoins (c : Cfg) (p : Nat) : List (Bytes × Bytes) :=
  if pv c pNetPortMode p = 0 then []
  else dedup (((enabledStreams c).filter (fun x => pv c pDecOrigin x == 0)).flatMap (fun x => endpointOf c x (pathOf c p)))

/-- The joins and leaves that a configuration change asks for (R87). -/
def settleJoins (s : State) : State :=
  (List.range 4).foldl (fun a p =>
    let old := (a.ethPort p).joins
    let new := wantedJoins a.cfg p
    let a1 := (old.filter (fun j => !new.contains j)).foldl (fun b j => sendLeave p j b) a
    let a2 := (new.filter (fun j => !old.contains j)).foldl (fun b j => sendJoin p j b) a1
    if old = new then a else a2.modEthPort p (fun e => { e with joins := new })) s

/-! ## Release and closing (R95, R97, R98) -/

/-- Whether a picture waits undecoded (R124): none of it has been decoded. -/
def Picture.waiting (q : Picture) : Bool := q.lane.isNone && q.row == 0

/-- The queue without its oldest waiting picture that no other references; the picture behind it has a gap before it. -/
def dropOldest : List Picture → Option (List Picture)
  | [] => none
  | q :: r =>
    if q.waiting && q.nonRef then
      some (match r with
        | n :: r' => { n with gap := true } :: r'
        | [] => [])
    else (dropOldest r).map (fun l => q :: l)

/-- The backlog discards of a stream (R124): at most one for each picture it holds. -/
def dropBacklog (limit rate : Nat) : Nat → List Picture → Nat × List Picture
  | 0, l => (0, l)
  | n + 1, l =>
    if limit * rate < 1000000 * (l.filter Picture.waiting).length then
      match dropOldest l with
      | some l' => let (k, l'') := dropBacklog limit rate n l'; (k + 1, l'')
      | none => (0, l)
    else (0, l)

/-- BACKLOG_DISCARD (R124): not made in HOT. -/
def trimBacklog (x : Nat) (s : State) : State :=
  if s.hot then s
  else
    let m := s.stream x
    let (k, l) := dropBacklog (pv s.cfg pDecBacklogUs x) (pv s.cfg pSrcFrameRate x) m.queue.length m.queue
    if k = 0 then s
    else s.setStream x { m with queue := l, cnt := { m.cnt with dropNonref := (m.cnt.dropNonref + k) % 2 ^ 32 }, gapNext := m.gapNext || l == [] }

/-- Released access units of a stream discarded for want of a decode class (R122), counted in DEC_IDLE_DISCARD. -/
def idleDiscard (x n : Nat) (s : State) : State :=
  s.modStream x (fun m => { m with cnt := { m.cnt with idleDiscard := (m.cnt.idleDiscard + n) % 2 ^ 32 } })

/-- A released picture in its stream's queue (R122 to R124): discarded in class NONE, and at the throttle level in the classes that it
stops (R126), and until an entry point where decoding has to start (R121, R122). -/
def queuePicture (x : Nat) (q : Picture) (s : State) : State :=
  let m := s.stream x
  if m.cls = .none then idleDiscard x 1 (s.setStream x { m with waitEntry := true, startDecode := true, gapNext := true })
  else if s.power.level = .throttle && (m.cls == .preview || m.cls == .playback) then
    s.setStream x { m with waitEntry := true, gapNext := true }
  else if m.waitEntry && !q.entry then idleDiscard x 1 (s.setStream x { m with gapNext := true })
  else trimBacklog x (s.setStream x { m with
    queue := m.queue ++ [{ q with gap := m.gapNext, fresh := m.startDecode }], gapNext := false, waitEntry := false, startDecode := false })

/-- The parameter sets in force before an access unit (R89): those of SRC_SPROP, in the form of Annex B, whose kind has not come in band, then
the ones that came in band. -/
def setsOf (c : Cfg) (x : Nat) (m : Stream) : List Bytes :=
  let h265 := pv c pSrcFormat x == 1
  (annexB 0 none (pb c pSrcSprop x)).filter (fun n => !m.inband.any (fun k => nalType h265 k == nalType h265 n)) ++ m.inband

/-- The parameter sets that an access unit carries take the place of the host's from the next one on (R89). -/
def noteSets (c : Cfg) (x : Nat) (nals : List Bytes) (m : Stream) : Stream :=
  let own := nals.filter (isSet (pv c pSrcFormat x == 1))
  { m with inband := m.inband.filter (fun n => !own.contains n) ++ own }

/-- An access unit or frame as it leaves the jitter buffer. -/
def pictureOf (c : Cfg) (x : Nat) (m : Stream) (a : Au) (t : Time64) (isPartial : Bool) : Picture :=
  let h265 := pv c pSrcFormat x == 1
  let raw := is2110 c x
  let nals := if raw then [] else assemble none a.inOrder
  { ts := a.ts, arrivalT := a.firstT, release := t, entry := raw || isEntry h265 nals, partialAu := isPartial
    nonRef := !raw && isNonRef h265 (setsOf c x m) nals, gap := false, fresh := false, inResync := m.state == .resync, lane := none, row := 0
    copies := a.copies, hostCap := none, nals := nals, sets := setsOf c x m
    segs := a.inOrder.flatMap (fun p => match p.pay with | .lines l => l | _ => []) }

/-- The release of an access unit in the stream's state (R99): it is decoded, or discarded before an entry point. -/
def releaseAu (x : Nat) (a : Au) (t : Time64) (isPartial : Bool) (s : State) : State :=
  let m := s.stream x
  let q := pictureOf s.cfg x m a t isPartial
  let s0 := s.modStream x (noteSets s.cfg x q.nals)
  let drop := fun (s : State) => s.modStream x (fun m => { m with gapNext := true, cnt := { m.cnt with auPreEntry := (m.cnt.auPreEntry + 1) % 2 ^ 32 } })
  match m.state with
  | .priming => if q.entry then queuePicture x q (setStreamState x .flowing .release s0) else drop (setStreamState x .resync .noEntry s0)
  | .resync => if q.entry then queuePicture x { q with inResync := false } (setStreamState x .flowing .release s0) else drop s0
  | .gapped => queuePicture x q (if isPartial then s0 else setStreamState x .flowing .release s0)
  | .idle => s
  | _ => queuePicture x q s0

/-- The first access unit leaves the list, with its last packet as the boundary that the next one counts from (R95). -/
def popAu (x : Nat) (s : State) : State :=
  s.modStream x (fun m =>
    match boundAus m.lastAuEnd m.aus with
    | [] => m
    | a :: r => { m with aus := r, lastAuEnd := some (max (a.last.getD 0) a.span.2), lastAuTs := some a.ts })

/-- Whether an access unit is closed at an instant (R97): SRC_GAP_TIMEOUT_US after its last packet, or at the release time of the complete
one that follows it. -/
def closesNow (c : Cfg) (x : Nat) (m : Stream) (t : Time64) (a : Au) (next : Option Au) : Bool :=
  a.complete.isNone && !a.closed && (a.lastT + 1000 * pv c pSrcGapTimeoutUs x ≤ t || next.any (auDue c x m t))

/-- The access units of a list with those marked that close at an instant. -/
def closeMarks (c : Cfg) (x : Nat) (m : Stream) (t : Time64) : List Au → List Au
  | [] => []
  | a :: r => (if closesNow c x m t a r.head? then { a with closed := true } else a) :: closeMarks c x m t r

/-- The access units that close at an instant are marked and counted (R97, R98), and a FLOWING stream becomes GAPPED (R99). -/
def markClosed (x : Nat) (t : Time64) (s : State) : State :=
  let m := s.stream x
  let l := closeMarks s.cfg x m t m.aus
  let n := (l.filter (fun a => a.closed)).length - (m.aus.filter (fun a => a.closed)).length
  if n = 0 then s
  else
    let s1 := s.modStream x (fun m => { m with aus := l, cnt := { m.cnt with auPartial := (m.cnt.auPartial + n) % 2 ^ 32 } })
    if m.state = .flowing then setStreamState x .gapped .closedAu s1 else s1

/-- The closed access units at the front leave the jitter buffer: dropped, or decoded with their losses concealed (R98). -/
def popClosed (x : Nat) (t : Time64) : Nat → State → State
  | 0, s => s
  | n + 1, s =>
    match (s.stream x).aus with
    | [] => s
    | a :: _ =>
      if !a.closed then s
      else
        let s1 := popAu x s
        popClosed x t n (if pv s.cfg pSrcPartialPolicy x = 1 then releaseAu x a t true s1 else s1.modStream x (fun m => { m with gapNext := true }))

/-- A complete access unit at the front is released (R95, R99). -/
def openAu (x : Nat) (a : Au) (t : Time64) (s : State) : State :=
  let m := s.stream x
  let late := match a.complete with
    | some d => decide (duePoint s.cfg x m a d < 9 * (d : Int))
    | none => false
  releaseAu x a t false ((popAu x s).modStream x (fun m => { m with
    cnt := if late then { m.cnt with jbLate := (m.cnt.jbLate + 1) % 2 ^ 32 } else m.cnt }))

/-- The access unit at the front is released where it is due. -/
def openDue (x : Nat) (t : Time64) (s : State) : State :=
  match (s.stream x).aus with
  | a :: _ => if auDue s.cfg x (s.stream x) t a then openAu x a t s else s
  | [] => s

/-- JITTER_RELEASE (R95, R97): the access unit at the front that is due is released. Incomplete ones that close at this instant are closed, and
leave the front before it. -/
def execJitterRelease (x : Fin 128) (t : Time64) (s : State) : Host.Outcome State Fault Refusal :=
  act (fun s =>
    let s1 := atTime t s
    match (s.stream x).aus with
    | [] => s1
    | a :: _ =>
      if auDue s.cfg x (s.stream x) t a then openAu x a t s1
      else
        let s2 := markClosed x t s1
        openDue x t (popClosed x t (s2.stream x).aus.length s2)) s

/-- GAP_TIMEOUT (R97, R99). -/
def execGapTimeout (x : Fin 128) (t : Time64) (s : State) : Host.Outcome State Fault Refusal :=
  act (fun s =>
    let s0 := markClosed x t (atTime t s)
    let s1 := popClosed x t (s0.stream x).aus.length s0
    let m := s1.stream x
    if m.state = .flowing && m.lastPkt.any (fun l => l + 1000 * pv s1.cfg pSrcGapTimeoutUs x ≤ t) then
      setStreamState x .gapped .gapTimeout s1
    else s1) s

/-- SILENCE_TIMEOUT (R99, R128): for a playback stream the last packet is its last descriptor. -/
def execSilenceTimeout (x : Fin 128) (t : Time64) (s : State) : Host.Outcome State Fault Refusal :=
  act (fun s =>
    let s1 := atTime t s
    let m := s1.stream x
    let waits := m.state == .priming || m.state == .resync || m.state == .gapped
      || (m.state == .flowing && pv s1.cfg pDecOrigin x == 1)
    if waits && m.lastPkt.any (fun l => l + 1000 * pv s1.cfg pSrcSilenceUs x ≤ t) then setStreamState x .silent .silence s1 else s1) s

/-- MERGE_WINDOW_CLOSE (R93): a number seen on one path only is counted, where the stream has both endpoints. -/
def execMergeWindowClose (x : Fin 128) (ext : Nat) (t : Time64) (s : State) : Host.Outcome State Fault Refusal :=
  act (fun s =>
    let s1 := atTime t s
    let m := s1.stream x
    match m.seen.find? (fun e => e.ext == ext) with
    | none => s1
    | some e =>
      if t < e.t + 1000 * pv s1.cfg pSrcPathSkewUs x then s1
      else
        let one := !e.both && bothPaths s1.cfg x
        let cnt (c : StreamCounters) : StreamCounters := { c with
          pathOnlyA := (c.pathOnlyA + b2n (one && e.path == 0)) % 2 ^ 64
          pathOnlyB := (c.pathOnlyB + b2n (one && e.path == 1)) % 2 ^ 64 }
        s1.modStream x (fun m => { m with
          seen := m.seen.filter (fun q => q.ext != ext), closedHigh := some (max ext (m.closedHigh.getD 0)), cnt := cnt m.cnt })) s

end Sys2Proof.Machine
end

