-- ==== Sys2Proof/Machine/Ledger.lean ====
section
/-! DEFINITION. The provenance ledger: capture grades (R36 to R40, R294), row times (R58), the choice of a slot and its writing (R23,
R54, R56), candidates (R101) and their admission, at a decision point or by row deadline (R67, R102, R103, R106). -/
namespace Sys2Proof.Machine

/-! ## Capture times (R36 to R40) -/

/-- A graded capture: the grade, the oldest row's time, the row times from it, U_GRADE in nanoseconds (none unbounded), and whether the
time was read on this machine's counter. -/
structure Capture where
  grade : Nat
  t     : Nat
  rows  : Option (List Nat)
  u     : Option Nat
  loc   : Bool
  deriving DecidableEq, Repr

/-- A capture time that may lie before TIME64 0 (R36): then 0, unbounded. -/
def captureAt (grade : Nat) (t : Int) (u : Option Nat) (loc : Bool) : Capture :=
  if t < 0 then ⟨grade, 0, none, none, loc⟩ else ⟨grade, natOf t, none, u, loc⟩

/-- Row times as a capture (R40, R58): the oldest row, and each row's offset from it, saturating. -/
def captureRows (grade : Nat) (l : List Int) (u : Option Nat) (loc : Bool) : Capture :=
  match l with
  | [] => ⟨grade, 0, none, none, loc⟩
  | a :: r =>
    let lo := r.foldl min a
    let base := natOf lo
    ⟨grade, base, some (l.map (fun v => min 0xFFFFFFFF (natOf v - base))), if lo < 0 then none else u, loc⟩

/-- An uncertainty field, 0xFFFFFFFF meaning unbounded. -/
def uField (n : Nat) : Option Nat := if n = 0xFFFFFFFF then none else some n

/-- A sum of uncertainties, none where a term is unbounded. -/
def uAdd (a : Option Nat) (b : Nat) : Option Nat := a.map (fun v => v + b)

/-- A PTP_RTP capture time (R38), where a count no later than the arrival exists. -/
def ptpRtp (ts arrival : Nat) : Option Nat :=
  let j := (9 * arrival + 8) / 100000
  let d := (j % 2 ^ 32 + 2 ^ 32 - ts % 2 ^ 32) % 2 ^ 32
  if d ≤ j then some ((j - d) * 100000 / 9) else none

/-- An RTCP_SR capture time (R39): extrapolated from the report's pair at 90 kHz. -/
def srCapture (ntp rtp ts : Nat) : Int :=
  (ntp : Int) + ofTwos 32 ((ts % 2 ^ 32 + 2 ^ 32 - rtp % 2 ^ 32) % 2 ^ 32) * 100000 / 9

/-- Whether a valid record's timebase is this machine's (R294). -/
def sameTimebase (s : State) (r : FrameRecord) : Bool :=
  r.tbaseOk && s.time.own != .freeRun
  && domNumber s.cfg s.time.servoDom == r.domain
  && (match (s.est s.time.servoDom).selected with | some m => m == r.gm | none => false)

/-- Whether remote grades are available (R37). -/
def remoteOk (s : State) : Bool := s.time.uWall != 0xFFFFFFFF

/-- ESTIMATED without upstream ages (R36, R109). -/
def estimated (s : State) (x arrival : Nat) : Capture :=
  captureAt 3 ((arrival : Int) - pv s.cfg pTimeEstOffset x) (some (pv s.cfg pTimeEstUnc x)) true

/-- The grade of a picture (R37): `rec` its valid frame record, `bearing` whether the stream is record-carrying (R107). -/
def gradeOf (s : State) (x ts arrival : Nat) (record : Option FrameRecord) (bearing : Bool) : Capture :=
  let c := s.cfg
  match record with
  | some r =>
    if sameTimebase s r && remoteOk s then
      captureRows 0 (r.rowTimes.map (fun o => ((r.captureT + o : Nat) : Int))) (uField r.u) false
    else
      captureRows 3 (r.rowTimes.map (fun o => (arrival : Int) - pv c pTimeEstOffset x - ((r.depT : Int) - (r.captureT + o : Nat))))
        (uAdd (uField r.u) (pv c pTimeEstUnc x)) true
  | none =>
    if bearing then estimated s x arrival
    else if (pv c pSrcPtpRef x == 1 || is2110 c x) && remoteOk s then
      match ptpRtp ts arrival with
      | some t => ⟨1, t, none, some (11112 + pv c pTimeSrcAllow x), false⟩
      | none => ⟨1, 0, none, none, false⟩
    else
      match (s.stream x).srMap with
      | some (ntp, rtp, t) =>
        if remoteOk s && s.time.now ≤ t + 1000000000 * pv c pTimeSrValid x then
          captureAt 2 (srCapture ntp rtp ts) (some (pv c pTimeSrAllow x + 11112)) false
        else estimated s x arrival
      | none => estimated s x arrival

/-- CAPTURE_GRADE on a change (R37). -/
def noteGrade (x g : Nat) (s : State) : State :=
  let s1 := s.modStream x (fun m => { m with grade := some g })
  match (s.stream x).grade with
  | some o => if o = g then s else raise .captureGrade [(1, x), (1, o), (1, g)] s1
  | none => s1

/-- U_GRADE in units of 4 ns, rounded up (R56). -/
def u4 (u : Option Nat) : Nat := match u with | some v => min 0xFFFFFFFF ((v + 3) / 4) | none => 0xFFFFFFFF

/-! ## Slots (R23, R54) -/

/-- Whether a slot is shown by a pane, or by a head frame that is under way or latched (R54, R81, R102). -/
def slotLocked (s : State) (src k : Nat) : Bool :=
  s.cfg.panes.any (fun e => e.2.source == src && (s.pane e.1).shown == some k)
  || s.heads.any (fun e =>
      ((if e.2.inFrame then e.2.frame.toList else []) ++ e.2.nextIn).any (fun fi =>
        fi.panes.any (fun p => p.source == src && p.slot == some k)))

/-- The slot a new frame takes: the first one free from the slot after the newest (R54). -/
def freeSlot (s : State) (src : Nat) : Option Nat :=
  let start := match (s.source src).newest with | some k => k + 1 | none => 0
  ((List.range 4).map (fun i => (start + i) % 4)).find? (fun k => !slotLocked s src k)

/-- Whether a frame number is later than another (R56: 32 bits, wrapping). -/
def laterSeq (a b : Nat) : Bool :=
  let d := (a % 2 ^ 32 + 2 ^ 32 - b % 2 ^ 32) % 2 ^ 32
  0 < d && d < 2 ^ 31

/-- The bytes a frame takes in the ledger (R54). -/
def slotBytes (x : Slot) : Nat := 64 + (if x.hdr.rowtime then 4 * x.hdr.rows else 0) + 8 * x.tiles.length

/-- The bytes of the frames that stand in the Basin. -/
def basinLedger (s : State) : Nat := sumNat ((s.ledger.filter (fun e => !e.2.hdr.spilled)).map (fun e => slotBytes e.2))

/-- The frames of every source that have at least so many newer ones behind them are in DRAM. -/
def spillOlder (n : Nat) (s : State) : State :=
  let newer := fun (src seq : Nat) => ((List.range 4).filter (fun k => match s.slot src k with
    | some y => laterSeq y.hdr.frameSeq seq
    | none => false)).length
  { s with ledger := s.ledger.map (fun e => (e.1, { e.2 with hdr := { e.2.hdr with
    spilled := e.2.hdr.spilled || n ≤ newer (e.1 / 4) e.2.hdr.frameSeq } })) }

/-- Spilling (R23): where the records outgrow the partition, the oldest of the four frames of each source go to DRAM, and the next oldest only
where that is not enough; the two newest always stay (log entry 136). -/
def settleSpill (s : State) : State :=
  let s1 := if partitionBytes .ledger < basinLedger s then spillOlder 3 s else s
  if partitionBytes .ledger < basinLedger s1 then spillOlder 2 s1 else s1

/-- A candidate that no pane has taken and that is overwritten was passed over, where a pane shows its source (R102, R106). -/
def notePassed (src k : Nat) (s : State) : State :=
  match s.slot src k with
  | some y =>
    if !y.taken && !y.resync && src < 128 && s.cfg.panes.any (fun e => e.2.source == src && paneOn s.cfg e.1) then
      s.modStream src (fun m => { m with cnt := { m.cnt with admitSkip := (m.cnt.admitSkip + 1) % 2 ^ 32 } })
    else s
  | none => s

/-- LEDGER_WRITE (R54): the frame in a free slot, or discarded and counted; the answer says which slot. -/
def ledgerWrite (src : Nat) (x : Slot) (s : State) : Option Nat × State :=
  match freeSlot s src with
  | none =>
    (none, (s.modSource src (fun r => { r with ledgerFull := (r.ledgerFull + 1) % 2 ^ 32 })).modStream src (fun m =>
      { m with cnt := { m.cnt with ledgerFull := (m.cnt.ledgerFull + 1) % 2 ^ 32 } }))
  | some k =>
    let s1 := notePassed src k s
    let y := { x with hdr := { x.hdr with slot := k } }
    (some k, settleSpill ({ s1 with ledger := tset (slotKey src k) y s1.ledger }.modSource src (fun r =>
      { r with newest := some k, faultSaid := false })))

/-- The next frame number of a source (R56). -/
def nextSeq (src : Nat) (s : State) : Nat × State :=
  let n := ((s.source src).frameSeq + 1) % 2 ^ 32
  (n, s.modSource src (fun r => { r with frameSeq := n }))

/-! ## Admission (R67, R101 to R103) -/

/-- The newest candidate of a source complete at or before an instant (R101, R102). -/
def newestCandidate (s : State) (src : Nat) (t : Time64) : Option (Nat × Slot) :=
  let l := (List.range 4).filterMap (fun k => (s.slot src k).map (fun y => (k, y)))
  (l.filter (fun q => !q.2.resync && q.2.completeT ≤ t)).foldl (fun a q =>
    match a with
    | some b => if laterSeq q.2.hdr.frameSeq b.2.hdr.frameSeq then some q else a
    | none => some q) none

/-- Whether a frame is later than the one a pane shows (R101). -/
def laterThanShown (s : State) (p src : Nat) (x : Slot) : Bool :=
  match (s.pane p).shown with
  | none => true
  | some k => match s.slot src k with
    | some y => laterSeq x.hdr.frameSeq y.hdr.frameSeq
    | none => true

/-- Whether a stream's state sets or keeps the silence latch (R67). -/
def silentState (m : StreamState) : Bool := m == .silent || m == .resync || m == .idle

/-- Whether a frame clears the silence latch (R67): ENTRY set, TAINT_ANY and CONC_ANY clear. -/
def FrameHdr.cleanEntry (h : FrameHdr) : Bool := bit h.decodeStatus 2 && !bit h.decodeStatus 3 && !bit h.decodeStatus 4

/-- The ledger frame of a slot marked as taken, and the older candidates passed over counted once (R102). -/
def takeSlot (src k : Nat) (s : State) : State :=
  match s.slot src k with
  | none => s
  | some x =>
    let old := (List.range 4).filter (fun j => match s.slot src j with
      | some y => !y.taken && !y.resync && laterSeq x.hdr.frameSeq y.hdr.frameSeq
      | none => false)
    let mark := (k :: old).foldl (fun l j => match tfind l (slotKey src j) with
      | some y => tset (slotKey src j) { y with taken := true } l
      | none => l) s.ledger
    let s1 := { s with ledger := mark }
    if old == [] then s1
    else s1.modStream src (fun m => { m with cnt := { m.cnt with admitSkip := (m.cnt.admitSkip + old.length) % 2 ^ 32 } })

/-- A pane admits a network frame: it shows the slot and locks it, and a clean entry frame clears the silence latch (R54, R67,
R102). -/
def admitPane (p src k : Nat) (s : State) : State :=
  match s.slot src k with
  | none => s
  | some x =>
    let s1 := takeSlot src k (s.modPane p (fun r => { r with shown := some k }))
    if x.hdr.cleanEntry && !silentState (s1.stream src).state then s1.modSource src (fun r => { r with silence := false }) else s1

/-- A head frame with the slot that a pane now shows. -/
def FrameIn.withSlot (fi : FrameIn) (p k : Nat) (silence : Bool) : FrameIn :=
  { fi with panes := fi.panes.map (fun q => if q.pane = p then { q with slot := some k, silence := silence } else q) }

/-- The first destination row of a pane on its head (R103). -/
def firstRow (q : PaneIn) : Nat := natOf q.dest.2.1

/-- The tiles of a row judged again after an admission (R81): a tile that has begun to leave takes the worse of its two verdicts. -/
def rejudge (s : State) (h : Nat) (fi : FrameIn) (row : Nat) (tiles : Table TileOut) : Table TileOut :=
  let d := s.head h
  tiles.map (fun e =>
    if e.1 / d.cols = row && !e.2.filled && e.2.verdict != .dark then
      let n := evalTile s h fi row (e.1 % d.cols)
      let pick := fun (a b : Verdict) => if e.2.departed then worse a b else b
      (e.1, { e.2 with verdict := pick e.2.verdict n.verdict, drawn := pick e.2.drawn n.drawn, guarded := e.2.guarded || n.guarded })
    else e)

/-- A pane of a head admits a candidate into the frame under way, whose compose has not reached the pane (R65, R103, R81, R195). -/
def admitRow (h p src k : Nat) (current : Bool) (s : State) : State :=
  let s1 := admitPane p src k s
  let sil := (s1.source src).silence
  let put := fun (fi : FrameIn) => fi.withSlot p k sil
  let s2 := s1.modHead h (fun d => { d with nextIn := d.nextIn.map put, frame := if current then d.frame.map put else d.frame })
  let d := s2.head h
  let row := fun (fi : FrameIn) => match fi.panes.find? (fun q => q.pane == p) with | some q => firstRow q / 64 | none => 0
  if current then
    match d.frame with
    | none => s2
    | some fi =>
      let tiles := if 64 * row fi < d.composed then rejudge s2 h fi (row fi) d.tiles else d.tiles
      let s3 := noteFuture h fi (noteFlip h fi (s2.modHead h (fun d => { d with tiles := tiles })))
      if tiles.any (fun e => e.2.departed && e.2.guarded && e.2.verdict != .live && e.2.verdict != .dark
          && tget e.2 d.tiles e.1 != e.2) then dropLive h s3 else s3
  else
    match d.nextIn with
    | fi :: _ =>
      if 64 * row fi < d.preComposed then
        let ahead := s2.modHead h (fun d => { d with frameCnt := frameCntOf d.timing fi.tick fi.second, lostTiles := d.preLost })
        s2.modHead h (fun d => { d with preTiles := rejudge ahead h fi (row fi) d.preTiles })
      else s2
    | [] => s2

/-- The frame under way on a head at a completion, and whether it is the one being scanned (R103 step 2). -/
def underWay (d : Head) : Option (FrameIn × Bool) :=
  match d.frame with
  | some fi => if d.inFrame && d.composed < d.timing.vactive then some (fi, true) else d.nextIn.head?.map (fun q => (q, false))
  | none => d.nextIn.head?.map (fun q => (q, false))

/-- ROW_DEADLINE_ADMIT (R103): in LOW-LATENCY, outside HOT, each enabled pane outside a group whose first row compose reaches at
least 1 µs later. -/
def rowDeadline (src k : Nat) (s : State) : State :=
  if s.cfg.profile != .lowLatency || s.hot then s
  else
    s.cfg.panes.foldl (fun a e =>
      let p := e.1
      if e.2.source != src || !paneOn a.cfg p || pv a.cfg pPaneGroup p < 64 then a
      else
        match a.slot src k, underWay (a.head e.2.head) with
        | some x, some (fi, current) =>
          match fi.panes.find? (fun q => q.pane == p) with
          | none => a
          | some q =>
            let t := (a.head e.2.head).timing
            let dep := departure a.grid t fi.tick fi.second (pixelOffset t 0 (firstRow q))
            let lead := composeLead a fi dep.floor
            if x.resync || !laterThanShown a p src x || !x.pics.contains (picOf a.cfg a.cfg.profile p) || dep.num < (a.time.now + 1000 + lead) * dep.den then a
            else admitRow e.2.head p src k current a
        | _, _ => a) s

/-- A network frame written to the ledger becomes a candidate (R101, R103). -/
def writeFrame (src : Nat) (x : Slot) (s : State) : State :=
  match ledgerWrite src x s with
  | (some k, s1) => if x.resync then s1 else rowDeadline src k s1
  | (none, s1) => s1

end Sys2Proof.Machine
end

