-- ==== Sys2Proof/Machine/Planes.lean ====
section
/-! DEFINITION. Whole pictures as samples (R115): units and source tiles of a picture, the picture that an ST 2110-20 frame makes (R89, R98), and
the decoded picture hash (R136). -/
namespace Sys2Proof.Machine

/-- Mid-grey at a depth (R98, R132, R135). -/
def midGrey (depth : Nat) : Nat := if depth ≤ 8 then 128 else 512

/-- A sample of a plane of a width, the plane's edges repeated beyond them. -/
def planeAt (l : List Nat) (w h x y : Nat) : Nat := nth 0 l (min y (h - 1) * w + min x (w - 1))

/-- A rectangle of a plane. -/
def planeRect (l : List Nat) (w x y cols rows : Nat) : List Nat :=
  (countFrom y rows).flatMap (fun j => (l.drop (j * w + x)).take cols)

/-- Half a size, rounded up. -/
def half (n : Nat) : Nat := (n + 1) / 2

/-- A picture of mid-grey. -/
def greyPlanes (w h dl dc : Nat) : Planes :=
  ⟨w, h, List.replicate (w * h) (midGrey dl), List.replicate (half w * half h) (midGrey dc), List.replicate (half w * half h) (midGrey dc)⟩

/-! ## Units -/

/-- The samples of an 8 by 8 unit: luma, Cb, Cr. -/
structure UnitPx where
  luma : List Nat
  cb   : List Nat
  cr   : List Nat
  deriving DecidableEq, Repr

/-- The samples of a unit as one list. -/
def UnitPx.all (u : UnitPx) : List Nat := u.luma ++ u.cb ++ u.cr

/-- A unit of mid-grey. -/
def greyUnit (dl dc : Nat) : UnitPx :=
  ⟨List.replicate 64 (midGrey dl), List.replicate 16 (midGrey dc), List.replicate 16 (midGrey dc)⟩

/-- A unit of a picture. -/
def Planes.unit (p : Planes) (ux uy : Nat) : UnitPx :=
  ⟨planeRect p.luma p.w (8 * ux) (8 * uy) 8 8, planeRect p.cb (half p.w) (4 * ux) (4 * uy) 4 4,
    planeRect p.cr (half p.w) (4 * ux) (4 * uy) 4 4⟩

/-- A plane put together from the units of a picture, `k` samples wide each, row by row. -/
def planeOf (cols rows k : Nat) (f : Nat → List Nat) : List Nat :=
  (List.range rows).flatMap (fun uy => (List.range k).flatMap (fun j =>
    (List.range cols).flatMap (fun ux => ((f (uy * cols + ux)).drop (k * j)).take k)))

/-- A picture put together from its units. -/
def planesOf (cols rows : Nat) (f : Nat → UnitPx) : Planes :=
  ⟨8 * cols, 8 * rows, planeOf cols rows 8 (fun i => (f i).luma), planeOf cols rows 4 (fun i => (f i).cb), planeOf cols rows 4 (fun i => (f i).cr)⟩

/-! ## Source tiles (R59, R168) -/

/-- The part of a coded picture that is its source picture: place and size (R115). -/
structure Window where
  x : Nat
  y : Nat
  w : Nat
  h : Nat
  deriving DecidableEq, Repr

/-- Samples as they are stored (R115, R168): 8 bits, or 10 bits in [15:6] of two bytes; an 8-bit component of a 10-bit picture is shifted left
by 2. -/
def storedSamples (deep : Bool) (depth : Nat) (l : List Nat) : Bytes :=
  if deep then l.flatMap (fun v => le 2 ((if depth = 10 then v else 4 * v) * 64)) else l.map (fun v => BitVec.ofNat 8 v)

/-- The stored samples of a source tile: luma, then chroma interleaved. -/
def Planes.tile (p : Planes) (win : Window) (dl dc row col : Nat) : Bytes :=
  let deep := dl = 10 || dc = 10
  let tw := min 64 (win.w - 64 * col)
  let th := min 64 (win.h - 64 * row)
  let cx := win.x / 2 + 32 * col
  let cy := win.y / 2 + 32 * row
  let cb := planeRect p.cb (half p.w) cx cy (half tw) (half th)
  let cr := planeRect p.cr (half p.w) cx cy (half tw) (half th)
  storedSamples deep dl (planeRect p.luma p.w (win.x + 64 * col) (win.y + 64 * row) tw th)
    ++ storedSamples deep dc ((cb.zip cr).flatMap (fun q => [q.1, q.2]))

/-- The stored samples of every source tile of a window. -/
def Planes.tiles (p : Planes) (win : Window) (dl dc : Nat) : List Bytes :=
  let tc := tileCols win.w
  (List.range (tc * tileCols win.h)).map (fun i => p.tile win dl dc (i / tc) (i % tc))

/-! ## ST 2110-20 frames (R89, R98) -/

/-- The samples that octets hold at a depth, most significant bit first. -/
def sampleFields (depth : Nat) : Nat → Bytes → List Nat
  | 0, _ => []
  | _, [] => []
  | k + 1, b =>
    if depth = 10 then
      let v := ofBe (b.take 5)
      [v / 2 ^ 30 % 1024, v / 2 ^ 20 % 1024, v / 2 ^ 10 % 1024, v % 1024] ++ sampleFields depth k (b.drop 5)
    else fbe b 0 1 :: sampleFields depth k (b.drop 1)

/-- A list cut into pieces of `k`. -/
def pieces (k : Nat) : Nat → List Nat → List (List Nat)
  | 0, _ => []
  | n + 1, l => if l.length < k then [] else l.take k :: pieces k n (l.drop k)

/-- The pixel pairs that a segment carries, by line and pair: Cb Y0 Cr Y1 in 4:2:2; Y00 Y01 Y10 Y11 Cb Cr in 4:2:0. -/
def segPairs (depth : Nat) (full : Bool) (g : Seg) : List (Nat × List Nat) :=
  let l := pieces (if full then 4 else 6) g.data.length (sampleFields depth g.data.length g.data)
  (l.zip (List.range l.length)).map (fun q => (g.line * 65536 + g.off / 2 + q.2, q.1))

/-- A line of an ST 2110-20 frame: its luma samples and the chroma samples that come with it. -/
structure RawLine where
  luma : List Nat
  cb   : List Nat
  cr   : List Nat
  deriving DecidableEq, Repr

/-- A line, or the pair of lines that begins with it in 4:2:0 (`sub` its luma line within the pair), where every pair of its pixels has arrived. -/
def rawLine (t : Table (List Nat)) (w : Nat) (full : Bool) (line sub : Nat) : Option RawLine :=
  let ps := (List.range (half w)).map (fun k => tfind t (line * 65536 + k))
  if ps.all Option.isSome then
    let vs := ps.filterMap id
    some (if full then ⟨(vs.flatMap (fun v => [nth 0 v 1, nth 0 v 3])).take w, vs.map (fun v => nth 0 v 0), vs.map (fun v => nth 0 v 2)⟩
      else ⟨(vs.flatMap (fun v => [nth 0 v (2 * sub), nth 0 v (2 * sub + 1)])).take w, vs.map (fun v => nth 0 v 4), vs.map (fun v => nth 0 v 5)⟩)
  else none

/-- The chroma row of a pair of lines in 4:2:2 (R89): their mean, whose rounding is free. -/
def meanRow (a b : List Nat) : List Nat := (a.zip b).map (fun q => (q.1 + q.2 + b2n ((q.1 + q.2) % 2 == 1 && Config.chromaUp (q.1 + q.2))) / 2)

/-- The picture of an ST 2110-20 frame and its missing lines (R89, R98): a missing line is taken from the previous frame, or is mid-grey. -/
def rawPicture (c : Cfg) (x : Nat) (segs : List Seg) (prev : Option Planes) : Planes × List Nat :=
  let w := pv c pSrc2110W x
  let h := pv c pSrc2110H x
  let depth := pv c pSrc2110Depth x
  let full := pv c pSrc2110Sampling x == 0
  let old := match prev with
    | some p => if p.w = w && p.h = h then p else greyPlanes w h depth depth
    | none => greyPlanes w h depth depth
  let t : Table (List Nat) := (segs.flatMap (segPairs depth full)).foldl (fun t q => tset q.1 q.2 t) []
  let lines := (List.range h).map (fun y => rawLine t w full (if full then y else y / 2 * 2) (if full then 0 else y % 2))
  let fill := (lines.zip (List.range h)).map (fun q => q.1.getD
    ⟨planeRect old.luma w 0 q.2 w 1, planeRect old.cb (half w) 0 (q.2 / 2) (half w) 1, planeRect old.cr (half w) 0 (q.2 / 2) (half w) 1⟩)
  let line := fun (y : Nat) => nth ⟨[], [], []⟩ fill (min y (h - 1))
  let rows := fun (f : RawLine → List Nat) => (List.range (half h)).flatMap (fun k =>
    if full then meanRow (f (line (2 * k))) (f (line (2 * k + 1))) else f (line (2 * k)))
  (⟨w, h, fill.flatMap (fun l => l.luma), rows (fun l => l.cb), rows (fun l => l.cr)⟩,
    ((lines.zip (List.range h)).filter (fun q => q.1.isNone)).map Prod.snd)

/-! ## The decoded picture hash (R116, R136) -/

/-- The bytes of a sample as the hash takes them: two for a depth above 8, the lower one first. -/
def hashBytes (depth v : Nat) : Bytes := if depth ≤ 8 then le 1 v else le 2 v

/-- The CRC method: the bits of the data and sixteen zeros through a register of 16 bits. -/
def hashCrc (depth : Nat) (l : List Nat) : Nat :=
  ((l.flatMap (hashBytes depth)) ++ [0, 0]).foldl (fun (r : Nat) (b : Byte) =>
    (List.range 8).foldl (fun v i => ((2 * v + b2n (b.getMsbD i)) % 65536) ^^^ (if bit v 15 then 0x1021 else 0)) r) 0xFFFF

/-- The checksum method: every byte under a mask of its place. -/
def hashSum (depth w : Nat) (l : List Nat) : Nat :=
  let n := sumNat ((l.zip (List.range l.length)).map (fun q =>
    let x := q.2 % w
    let y := q.2 / w
    let m := (x % 256) ^^^ (y % 256) ^^^ (x / 256) ^^^ (y / 256)
    ((q.1 % 256) ^^^ m) + (if depth ≤ 8 then 0 else (q.1 / 256) ^^^ m)))
  n % 2 ^ 32

/-- What the decoded picture hash message of an H.265 picture says of the picture: none where there is no such message, or MD5. -/
inductive HashCheck where
  | none
  | md5
  | agrees
  | differs
  deriving DecidableEq, Repr

/-- The decoded picture against its hash message (R116, R136). -/
def hashCheck (nals : List Bytes) (p : Planes) (dl dc : Nat) : HashCheck :=
  match (seiOf true 40 nals ++ seiOf true 39 nals).find? (fun q => q.1 == 132) with
  | none => .none
  | some (_, b) =>
    if fbe b 0 1 = 0 then .md5
    else if fbe b 0 1 = 1 then
      if fbe b 1 2 = hashCrc dl p.luma && fbe b 3 2 = hashCrc dc p.cb && fbe b 5 2 = hashCrc dc p.cr then .agrees else .differs
    else if fbe b 0 1 = 2 then
      if fbe b 1 4 = hashSum dl p.w p.luma && fbe b 5 4 = hashSum dc (half p.w) p.cb && fbe b 9 4 = hashSum dc (half p.w) p.cr then .agrees
      else .differs
    else .none

end Sys2Proof.Machine
end

