-- ==== Sys2Proof/Machine/Codec.lean ====
section
/-! DEFINITION. What the codec sequencer and the lane compute of one picture: missing references (R132), taint and concealment (R133 to
R136), tile records (R59, R134) and statistics (R138 to R140). -/
namespace Sys2Proof.Machine

/-! ## The picture's header (R113 to R117) -/

/-- Whether a stream is coded in H.265. -/
def isH265 (c : Cfg) (x : Nat) : Bool := pv c pSrcFormat x == 1

/-- The conformance window of a picture (R115). -/
def codedWindow (q : SeqParams) : Window := ⟨q.left, q.top, q.codedW - q.left - q.right, q.codedH - q.top - q.bottom⟩

/-- The greater of a picture's two depths. -/
def codedDepth (q : SeqParams) : Nat := max q.depthLuma q.depthChroma

/-- What keeps a picture outside the subset of its codec (R113), by a number of the model's (log entry 125): 0 a set missing or malformed, 1 the
profile, 2 the level, 3 the chroma format, 4 field coding, 5 FMO, 6 redundant pictures, 7 SP or SI slices, 8 another tool or extension. -/
def subsetFault (h265 : Bool) (q : SeqParams) : Option Nat :=
  if !q.present then some 0
  else if h265 && !(q.profile == 1 || q.profile == 2) then some 1
  else if !h265 && !(q.profile == 66 || q.profile == 77 || q.profile == 100) then some 1
  else if (if h265 then 186 else 52) < q.level then some 2
  else if q.chroma != 1 then some 3
  else if !q.frameOnly then some 4
  else if !h265 && q.fmo then some 5
  else if !h265 && q.redundant then some 6
  else if !h265 && q.spSi then some 7
  else if q.ext then some 8
  else none

/-- Whether a picture's sets are outside its codec's subset, its size or depth outside the limits, or its buffer outside the stream's picture pool
(R113, R114, R119, R121), with the cause: 0 to 8 of the subset, 16 size, 17 depth, 18 the decoded picture buffer. -/
def pictureFault (c : Cfg) (x : Nat) (q : SeqParams) : Option Nat :=
  let win := codedWindow q
  match subsetFault (isH265 c x) q with
  | some k => some k
  | none =>
    if win.w = 0 || win.h = 0 || min 4096 (pv c pDecMaxW x) < win.w || min 2304 (pv c pDecMaxH x) < win.h then some 16
    else if pv c pDecMaxDepth x < codedDepth q
        || !((q.depthLuma == 8 || (q.depthLuma == 10 && isH265 c x)) && (q.depthChroma == 8 || (q.depthChroma == 10 && isH265 c x))) then some 17
    else if pv c pDecMaxDpb x < q.maxDpb then some 18
    else none

/-! ## References (R132) -/

/-- A reference picture as prediction sees it: its samples and its bad units; every unit of a substitute is bad. -/
structure RefView where
  planes : Planes
  subst  : Bool
  bad    : List Bool
  deriving DecidableEq, Repr

/-- The decoded picture with the greatest picture order count below another. -/
def nearestBelow (dpb : List DpbPic) (poc : Int) : Option DpbPic :=
  (dpb.filter (fun p => p.poc < poc)).foldl (fun a p => match a with
    | some q => if q.poc < p.poc then some p else a
    | none => some p) none

/-- A reference of a picture: from the decoded picture buffer, or what DEC_SUBST puts in its place (R132). -/
def refView (nearest : Bool) (dpb : List DpbPic) (d : CodedPicture) (num : Nat) : RefView :=
  match dpb.find? (fun p => p.picNum == num) with
  | some p => ⟨p.planes, false, p.bad⟩
  | none =>
    let poc := ((d.refs.find? (fun r => r.1 == num)).map Prod.snd).getD d.poc
    match (if nearest then nearestBelow dpb poc else none) with
    | some p => ⟨p.planes, true, []⟩
    | none => ⟨greyPlanes d.seq.codedW d.seq.codedH d.seq.depthLuma d.seq.depthChroma, true, []⟩

/-- Whether a reference of a picture is missing (R132). -/
def missingRef (dpb : List DpbPic) (d : CodedPicture) : Bool :=
  let named := d.refs.map Prod.fst ++ d.units.flatMap (fun u => u.refs.map (fun r => r.pic))
  named.any (fun r => !dpb.any (fun p => p.picNum == r))

/-! ## Taint (R133) -/

/-- The width of a picture in 8 by 8 units. -/
def unitCols (w : Nat) : Nat := ceilDiv w 8

/-- The units that a block of an inter reference reads (R133): its area with the interpolation margin, whole units, within the
coded picture. -/
def refUnits (h265 : Bool) (cols rows : Nat) (r : InterRef) : List Nat :=
  let before : Int := if h265 then 3 else 2
  let after : Int := if h265 then 4 else 3
  let unitOf := fun (n : Nat) (v : Int) => natOf (clampInt 0 ((n : Int) - 1) (v / 8))
  let dx := r.mvx / 4
  let dy := r.mvy / 4
  let x0 := unitOf cols ((r.x : Int) + dx - before)
  let x1 := unitOf cols ((r.x : Int) + r.w - 1 + dx + after)
  let y0 := unitOf rows ((r.y : Int) + dy - before)
  let y1 := unitOf rows ((r.y : Int) + r.h - 1 + dy + after)
  (countFrom y0 (y1 + 1 - y0)).flatMap (fun y => (countFrom x0 (x1 + 1 - x0)).map (fun x => y * cols + x))

/-- The angles of the H.265 intra modes 2 to 34. -/
def intraAngles : List Int :=
  [32, 26, 21, 17, 13, 9, 5, 2, 0, -2, -5, -9, -13, -17, -21, -26, -32, -26, -21, -17, -13, -9, -5, -2, 0, 2, 5, 9, 13, 17, 21, 26, 32]

/-- The inverse angles of the H.265 intra modes 11 to 25. -/
def inverseAngles : List Int := [-4096, -1638, -910, -630, -482, -390, -315, -256, -315, -390, -482, -630, -910, -1638, -4096]

/-- The neighbours that an angular mode of H.265 reads: along the main side (the upper one from mode 18 on) as positive places from the corner on,
and of the other side where the reference is extended. Left samples count down from the corner, upper ones up. -/
def angularReads (n mode : Nat) (chroma : Bool) : List Int :=
  let angle := nth 0 intraAngles (mode - 2)
  let inv := nth 0 inverseAngles (mode - 11)
  let place := fun (r : Int) => if 0 ≤ r then r else -((r * inv + 128) / 256)
  let idx := (List.range n).flatMap (fun (y : Nat) =>
    let p := ((y : Int) + 1) * angle
    (List.range (n + if p % 32 = 0 then 0 else 1)).map (fun (x : Nat) => (x : Int) + p / 32 + 1))
  let edge := if (mode = 26 || mode = 10) && !chroma && n < 32 then (List.range (n + 1)).map (fun (k : Nat) => -(k : Int)) else []
  let all := idx.map place ++ edge
  if 18 ≤ mode then all else all.map (fun v => -v)

/-- The neighbouring samples that an intra mode reads (R133), as places from the corner: -1 on down the left column, 1 on along the upper row. -/
def modeReads (h265 : Bool) (b : IntraBlock) : List Int :=
  let n := b.size
  let left := fun (k : Nat) => (List.range k).map (fun (i : Nat) => -((i : Int) + 1))
  let up := fun (k : Nat) => (List.range k).map (fun (i : Nat) => (i : Int) + 1)
  if h265 then
    if b.mode = 0 then left (n + 1) ++ up (n + 1) else if b.mode = 1 then left n ++ up n else angularReads n b.mode b.chroma
  else if b.chroma then
    (match b.mode with
      | 0 => left n ++ up n
      | 1 => left n
      | 2 => up n
      | _ => left n ++ [0] ++ up n)
  else if n = 16 then
    (match b.mode with
      | 0 => up n
      | 1 => left n
      | 2 => left n ++ up n
      | _ => left n ++ [0] ++ up n)
  else
    match b.mode with
    | 0 => up n
    | 1 => left n
    | 2 => left n ++ up n
    | 3 => up (2 * n)
    | 4 => left n ++ [0] ++ up n
    | 5 => left (n - 1) ++ [0] ++ up n
    | 6 => left n ++ [0] ++ up (n - 1)
    | 7 => up (n + (n - 1) / 2 + 2)
    | _ => left n

/-- The samples that reference smoothing adds (R133): both neighbours of each sample read. -/
def smoothReads (n : Nat) (smooth : Bool) (l : List Int) : List Int :=
  if smooth then dedup (l.flatMap (fun v => ([v - 1, v, v + 1] : List Int).filter (fun w => -(2 * n : Int) ≤ w && w ≤ 2 * n))) else l

/-- Where a neighbouring sample comes from (R133): itself, or the one that the standard's substitution copies where it is not available. -/
def sampleSource (h265 : Bool) (b : IntraBlock) (v : Int) : Option Int :=
  let n := b.size
  let here := fun (w : Int) => nth false b.avail (natOf (w + 2 * n))
  if here v then some v
  else if h265 then
    let below := ((List.range (natOf (v + 2 * n))).map (fun (i : Nat) => (i : Int) - 2 * n)).reverse
    let above := (List.range (4 * n + 1)).map (fun (i : Nat) => (i : Int) - 2 * n)
    (below.find? here).orElse (fun _ => above.find? here)
  else if (n : Int) < v && here n then some n
  else none

/-- The unit that a neighbouring sample lies in. -/
def sampleUnit (cols : Nat) (b : IntraBlock) (v : Int) : Nat :=
  let k := if b.chroma then 4 else 8
  let (px, py) := if v < 0 then ((b.x : Int) - 1, (b.y : Int) - v - 1) else ((b.x : Int) + v - 1, (b.y : Int) - 1)
  natOf py / k * cols + natOf px / k

/-- The units that the intra prediction of a block reads (R133). -/
def intraUnits (h265 : Bool) (cols : Nat) (b : IntraBlock) : List Nat :=
  dedup (((smoothReads b.size b.smooth (modeReads h265 b)).filterMap (sampleSource h265 b)).map (sampleUnit cols b))

/-! ## Reconstruction (R115, R118, R132 to R136) -/

/-- What a lane makes of a unit. -/
structure UnitOut where
  taint : Bool
  conc  : Bool
  px    : UnitPx
  deriving DecidableEq, Repr

/-- Whether a unit is tainted or concealed. -/
def UnitOut.bad (u : UnitOut) : Bool := u.taint || u.conc

/-- What decoding of a picture rests on besides its access unit (R118): the codec, the policies, the decoded picture buffer, the nearest earlier
decoded picture, and the units whose data were lost in memory. -/
structure DecodeCtx where
  h265    : Bool
  nearest : Bool
  copy    : Bool
  dpb     : List DpbPic
  last    : Option Planes
  lost    : List Nat
  deriving DecidableEq, Repr

/-- The concealment of a unit (R135). -/
def concealUnit (k : DecodeCtx) (d : CodedPicture) (ux uy : Nat) : UnitPx :=
  match k.last with
  | some p => if k.copy && p.w = d.seq.codedW && p.h = d.seq.codedH then p.unit ux uy else greyUnit d.seq.depthLuma d.seq.depthChroma
  | none => greyUnit d.seq.depthLuma d.seq.depthChroma

/-- Samples within a component's depth. -/
def cutSamples (depth : Nat) (l : List Nat) : List Nat := l.map (fun v => v % 2 ^ depth)

/-- A unit's samples out of one list. -/
def unitPx (d : CodedPicture) (l : List Nat) : UnitPx :=
  ⟨cutSamples d.seq.depthLuma (l.take 64), cutSamples d.seq.depthChroma ((l.drop 64).take 16), cutSamples d.seq.depthChroma ((l.drop 80).take 16)⟩

/-- A unit of a picture (R132, R133, R135): concealed where its data were lost, tainted where its prediction reads a bad unit, otherwise what
its coded data decodes to. `done` holds the units before it in decode order. -/
def decodeUnit (k : DecodeCtx) (d : CodedPicture) (cols rows : Nat) (done : Table UnitOut) (u : UnitDesc) : UnitOut :=
  if u.lost || k.lost.contains (u.uy * cols + u.ux) then ⟨false, true, concealUnit k d u.ux u.uy⟩
  else
    let own := u.luma ++ u.cb ++ u.cr
    let inter := u.refs.map (fun r => (refView k.nearest k.dpb d r.pic, refUnits k.h265 cols rows r))
    let intra := (u.intra.flatMap (intraUnits k.h265 cols)).filterMap (tfind done)
    let taint := inter.any (fun q => q.1.subst || q.2.any (fun i => nth false q.1.bad i)) || intra.any UnitOut.bad
    let read := inter.flatMap (fun q => q.2.flatMap (fun i => (q.1.planes.unit (i % cols) (i / cols)).all)) ++ intra.flatMap (fun o => o.px.all)
    ⟨taint, false, unitPx d (if taint then Config.damagedUnit own read else own)⟩

/-- The units of a picture in decode order (R133), by their place in raster order. -/
def decodeUnits (k : DecodeCtx) (d : CodedPicture) (cols rows : Nat) : Table UnitOut :=
  d.units.foldl (fun done u => if u.ux < cols && u.uy < rows then tset (u.uy * cols + u.ux) (decodeUnit k d cols rows done u) done else done) []

/-- A decoded picture: its size in units, the descriptions of the units that were decoded from their own data, its taint and concealment maps, its
samples, and what its hash says. -/
structure Decoded where
  cols   : Nat
  rows   : Nat
  descs  : List (Option UnitDesc)
  taint  : List Bool
  conc   : List Bool
  planes : Planes
  hash   : HashCheck
  deriving DecidableEq, Repr

/-- A picture as a lane decodes it (R115, R117, R118, R132 to R136): units that no slice covers are concealed, and where the hash differs
every unit is. -/
def decodePicture (k : DecodeCtx) (check : Bool) (nals : List Bytes) (d : CodedPicture) : Decoded :=
  let cols := unitCols d.seq.codedW
  let rows := unitCols d.seq.codedH
  let all := List.range (cols * rows)
  let done := decodeUnits k d cols rows
  let out := fun (i : Nat) => (tfind done i).getD ⟨false, true, concealUnit k d (i % cols) (i / cols)⟩
  let first := planesOf cols rows (fun i => (out i).px)
  let hash := if k.h265 then hashCheck nals first d.seq.depthLuma d.seq.depthChroma else .none
  let bad := check && hash == .differs
  let conc := all.map (fun i => bad || (out i).conc)
  let desc := fun (i : Nat) => if nth true conc i then none else d.units.find? (fun u => u.uy * cols + u.ux == i)
  { cols := cols, rows := rows, descs := all.map desc, taint := all.map (fun i => (out i).taint), conc := conc
    planes := if bad then planesOf cols rows (fun i => concealUnit k d (i % cols) (i / cols)) else first, hash := hash }

/-! ## Tiles -/

/-- The units of a coded picture that a rectangle of its window touches, by number. -/
def rectUnits (cols : Nat) (x y w h : Nat) : List Nat :=
  if w = 0 || h = 0 then []
  else (countFrom (y / 8) ((y + h - 1) / 8 + 1 - y / 8)).flatMap (fun j =>
    (countFrom (x / 8) ((x + w - 1) / 8 + 1 - x / 8)).map (fun i => j * cols + i))

/-- The units of a source tile, by number (R2: a tile is 8 by 8 units). -/
def tileUnits (cols : Nat) (win : Window) (row col : Nat) : List Nat :=
  rectUnits cols (win.x + 64 * col) (win.y + 64 * row) (min 64 (win.w - 64 * col)) (min 64 (win.h - 64 * row))

/-- The units of the conformance window (R138). -/
def windowUnits (cols : Nat) (win : Window) : List Nat := rectUnits cols win.x win.y win.w win.h

/-- A tile record before the freeze detector. -/
def freshTile (upv : Nat) (taint conc : Bool) (sig : BitVec 32) : TileRec :=
  { upv := upv, valid := true, taint := taint, conc := conc, hostmod := false, sigrep := false, repCnt := 0, intraRep := 0, quietCnt := 0, sig := sig }

/-- The tile records of a decoded picture before the freeze detector (R59, R134): `upv` gives each row's upstream verdict. -/
def pictureTiles (src : Nat) (p : Decoded) (win : Window) (tiles : List Bytes) (upv : Nat → Nat) : List TileRec :=
  let tc := tileCols win.w
  (List.range (tc * tileCols win.h)).map (fun i =>
    let us := tileUnits p.cols win (i / tc) (i % tc)
    freshTile (upv (i / tc)) (us.any (fun u => nth false p.taint u)) (us.any (fun u => nth false p.conc u))
      (tileSig src (i / tc) (i % tc) (nth [] tiles i)))

/-- A unit that counts nowhere: one that was not decoded from its own coded data is of no class (R135, R138). -/
def descsOf (p : Decoded) (us : List Nat) : List UnitDesc := us.filterMap (fun i => nth none p.descs i)

/-- An inter unit other than a skip unit (R138). -/
def UnitDesc.isInter (u : UnitDesc) : Bool := u.inter && !u.skip

/-- An intra unit (R138). -/
def UnitDesc.isIntra (u : UnitDesc) : Bool := !u.inter && !u.skip

/-- Whether every unit of each tile is a skip unit (R140). -/
def fullSkips (p : Decoded) (win : Window) : List Bool :=
  let tc := tileCols win.w
  (List.range (tc * tileCols win.h)).map (fun i =>
    (tileUnits p.cols win (i / tc) (i % tc)).all (fun u => (nth none p.descs u).any (fun d => d.skip)))

/-- A unit's motion magnitude in quarter samples (R138): the larger of its vectors. That the largest counts where a unit holds several
blocks, and not only under bi-prediction, is a DESIGN CHOICE (log entry 126). -/
def UnitDesc.motion (u : UnitDesc) : Nat := maxNat (u.refs.map (fun r => max r.mvx.natAbs r.mvy.natAbs))

/-- A moving unit (R147). -/
def UnitDesc.moving (u : UnitDesc) : Bool :=
  UnitDesc.isInter u && u.refs.any (fun r => r.mvdNonZero && 4 < max r.mvx.natAbs r.mvy.natAbs)

/-! ## Statistics (R138 to R140) -/

/-- The magnitude band of a motion in quarter samples (R138): 0, then up to 1, 2, 4, 8, 16 and 32 samples, then above. -/
def mvBand (m : Nat) : Nat :=
  if m = 0 then 0 else if m ≤ 4 then 1 else if m ≤ 8 then 2 else if m ≤ 16 then 3 else if m ≤ 32 then 4
  else if m ≤ 64 then 5 else if m ≤ 128 then 6 else 7

/-- The mean of a list rounded down, 0 for none. -/
def meanDown (l : List Nat) : Nat := if l == [] then 0 else sumNat l / l.length

/-- The mean of a list rounded to nearest, 0 for none. -/
def meanNear (l : List Nat) : Nat := if l == [] then 0 else (2 * sumNat l + l.length) / (2 * l.length)

/-- MV_HIST counts at a width (R139, R140). -/
def mvHist (width : Nat) (mv : List Nat) : Bytes :=
  (List.range 8).flatMap (fun b => le width ((mv.filter (fun m => mvBand m == b)).length))

/-- A tile entry (R140). -/
def tileStats (p : Decoded) (win : Window) (i : Nat) : Bytes :=
  let tc := tileCols win.w
  let us := tileUnits p.cols win (i / tc) (i % tc)
  let ds := descsOf p us
  let mv := (ds.filter (fun d => !UnitDesc.isIntra d)).map UnitDesc.motion
  let part := win.w < 64 * (i % tc) + 64 || win.h < 64 * (i / tc) + 64
  le 2 (min 65535 (sumNat (ds.map (fun d => d.bytes)))) ++ le 1 (ds.filter (fun d => d.skip)).length
  ++ le 1 (ds.filter UnitDesc.isIntra).length ++ le 2 (min 65535 (meanDown mv)) ++ le 1 (meanNear (ds.map (fun d => d.qp)))
  ++ le 1 (packFields [(0, 1, b2n (us.any (nth false p.taint))), (1, 1, b2n (us.any (nth false p.conc))), (2, 1, b2n part),
    (3, 1, b2n (us.all (fun u => (nth none p.descs u).any (fun d => d.skip))))])
  ++ mvHist 1 mv

/-- A statistics record (R139), with its tile entries where asked for. -/
def statsRecord (withTiles : Bool) (x : Nat) (hdr : FrameHdr) (lane : Nat) (endT : Time64) (q : Picture) (d : CodedPicture) (irap : Bool)
    (p : Decoded) : Bytes :=
  let win := codedWindow d.seq
  let us := descsOf p (windowUnits p.cols win)
  let mv := (us.filter (fun d => !UnitDesc.isIntra d)).map UnitDesc.motion
  let b := le 1 x ++ le 1 (packFields [(0, 2, d.picType), (2, 1, b2n irap), (3, 1, b2n (!q.nonRef))]) ++ le 1 hdr.cols ++ le 1 hdr.rows
    ++ le 4 hdr.frameSeq ++ le 8 hdr.captureT ++ le 8 endT ++ le 4 (sumNat (q.nals.map List.length))
    ++ le 1 (meanNear (us.map (fun u => u.qp))) ++ le 1 lane ++ le 2 hdr.decodeStatus
    ++ le 4 (us.filter (fun d => d.skip)).length ++ le 4 (us.filter UnitDesc.isIntra).length
    ++ le 4 (us.filter UnitDesc.isInter).length ++ le 4 (meanDown mv) ++ mvHist 4 mv
    ++ (if withTiles then (List.range (hdr.cols * hdr.rows)).flatMap (tileStats p win) else [])
  padTo (ceilDiv b.length 64 * 64) b

/-- DECODE_STATS_COPY (R138): every DEC_STATS_EVERY-th record goes to the ring, or is counted as dropped. -/
def statsCopy (x : Nat) (t : Time64) (data : Bool → Bytes) (s : State) : State :=
  let mode := pv s.cfg pDecStats x
  let n := (s.stream x).statsN + 1
  let s1 := s.modStream x (fun m => { m with statsN := if pv s.cfg pDecStatsEvery x ≤ n then 0 else n })
  if mode = 0 || n < pv s.cfg pDecStatsEvery x then s1
  else
    let b := data (mode == 2)
    match s1.decRing with
    | none => { s1 with decDrop := (s1.decDrop + 1) % 2 ^ 32 }
    | some r =>
      let (r1, s2) := ringAdvance r s1
      if ringRoom r1 t (pv s.cfg pDecStatsRate 0) b.length && r1.producer - r1.consumer + b.length ≤ 2 ^ r1.log2 then
        let (r2, s3) := ringPut 2 r1 t b s2
        { s3 with decRing := some r2 }
      else { s2 with decRing := some r1, decDrop := (s2.decDrop + 1) % 2 ^ 32 }

end Sys2Proof.Machine
end

