-- ==== Sys2Proof/Machine/DecodeLanes.lean ====
section
/-! DEFINITION. The decode lanes: which picture a free lane takes (R123), pre-emption (R124), the completion of a picture (R117, R127,
R131, R142) and of an ST 2110-20 frame (R89, R98), safe points (R126) and the playback ring (R128). -/
namespace Sys2Proof.Machine

/-! ## The order of pictures (R123, R127) -/

/-- The order of a stream's class, with an over-declared stream after the first three (R122, R127). -/
def classOrder (m : Stream) : Nat :=
  let k := match m.cls with
    | .guardedVisible => 1
    | .unguardedVisible => 2
    | .preview => 3
    | .playback => 4
    | .none => 9
  if m.overrate && k ≤ 3 then k + 10 else if k = 4 then 20 else k

/-- A picture's deadline (R123): its release and the smaller of one stream frame interval and one tick. -/
def deadline (g : Grid) (rate : Nat) (q : Picture) : Frac :=
  let r := max 1 rate
  ⟨3 * r * q.release + min 3000000000 (g.p3 * r), 3 * r⟩

/-- Whether a stream's class is decoded now (R122, R126). -/
def decodes (s : State) (m : Stream) : Bool :=
  m.cls != .none && !(s.power.level == .throttle && (m.cls == .preview || m.cls == .playback))

/-- The oldest undecoded picture of a stream, where it may be taken by a lane (R123). -/
def eligible (s : State) (x : Nat) : Option Picture :=
  let m := s.stream x
  match m.queue with
  | q :: _ => if q.lane.isNone && decodes s m && !is2110 s.cfg x then some q else none
  | [] => none

/-- Whether stream `a` comes before `b` (R123). -/
def before (s : State) (a b : Nat × Picture) : Bool :=
  let ka := classOrder (s.stream a.1)
  let kb := classOrder (s.stream b.1)
  let da := deadline s.grid (pv s.cfg pSrcFrameRate a.1) a.2
  let db := deadline s.grid (pv s.cfg pSrcFrameRate b.1) b.2
  if ka != kb then ka < kb
  else if da.num * db.den != db.num * da.den then da.num * db.den < db.num * da.den
  else a.1 < b.1

/-- The GUARDED-VISIBLE pictures that are released and undecoded (R123). -/
def guardedWaiting (s : State) : Nat :=
  sumNat (s.streams.map (fun e => if e.2.cls = .guardedVisible && !is2110 s.cfg e.1 then e.2.queue.length else 0))

/-- Whether a lane may take a picture of a stream now (R123): in LOW-LATENCY, one of another class than GUARDED-VISIBLE only while
fewer than two of that class are released and undecoded. -/
def mayTake (s : State) (x : Nat) : Bool :=
  !(s.cfg.profile == .lowLatency && (s.stream x).cls != .guardedVisible && 2 ≤ guardedWaiting s)

/-- The stream whose picture a free lane takes (R123). -/
def choosePicture (s : State) : Option Nat :=
  let l := (s.streams.filter (fun e => mayTake s e.1)).filterMap (fun e => (eligible s e.1).map (fun q => (e.1, q)))
  (l.foldl (fun a q => match a with | some b => if before s q b then some q else a | none => some q) none).map Prod.fst

/-- Whether a lane may take a picture (R126, R318, R421). -/
def laneOpen (s : State) (l : Nat) : Bool :=
  let d := s.lane l
  bit (pv s.cfg pDecLaneEnable 0) l && d.stream.isNone && !d.stopping && !d.stopped && !bit s.test.heldLanes l && !lanesStand s

/-- A lane takes a stream's oldest picture, where it was left (R123, R124). -/
def takePicture (l x : Nat) (s : State) : State :=
  (s.modStream x (fun m => { m with queue := match m.queue with
    | q :: r => { q with lane := some l } :: r
    | [] => [] })).modLane l (fun d => { d with stream := some x })

/-- A lane that is free takes the next picture, after the backlogs are trimmed (R123, R124). -/
def fillLane (l : Nat) (s : State) : State :=
  let s1 := s.streams.foldl (fun a e => trimBacklog e.1 a) s
  if !laneOpen s1 l then s1
  else match choosePicture s1 with
    | some x => takePicture l x s1
    | none => s1

/-- LANE_FREE (R123). -/
def execLaneFree (lane : Fin 12) (t : Time64) (s : State) : Host.Outcome State Fault Refusal :=
  act (fun s => if s.alive then fillLane lane (atTime t s) else s) s

/-- Whether a waiting picture of one class pre-empts one of another (R124). -/
def preempts (p : Profile) (waiting running : StreamClass) : Bool :=
  ((waiting == .guardedVisible || waiting == .unguardedVisible) && (running == .preview || running == .playback))
  || (p == .lowLatency && waiting == .guardedVisible && running == .unguardedVisible)

/-- DECODE_PREEMPT (R124): at a row boundary a picture of a better class takes the lane; the other resumes from that row. A lane that has been
disabled goes on to the end of its picture (R126). -/
def execDecodePreempt (lane : Fin 12) (row : Nat) (t : Time64) (s : State) : Host.Outcome State Fault Refusal :=
  act (fun s =>
    let l : Nat := lane
    match (s.lane l).stream with
    | none => s
    | some x =>
      let s1 := atTime t s
      match choosePicture s1 with
      | none => s1
      | some y =>
        if (s.lane l).stopping then s1
        else if preempts s1.cfg.profile (s1.stream y).cls (s1.stream x).cls then
          let s2 := s1.modStream x (fun m => { m with queue := match m.queue with
            | q :: r => { q with lane := none, row := max q.row row } :: r
            | [] => [] })
          fillLane l (s2.modLane l (fun d => { d with stream := none }))
        else s1) s

/-! ## A picture completes (R117, R119, R131) -/

/-- The picture a lane decodes leaves the stream's queue, and the lane is free. -/
def finishPicture (l x : Nat) (s : State) : State :=
  (s.modStream x (fun m => { m with queue := m.queue.tail, lostUnits := [] })).modLane l (fun d => { d with stream := none })

/-- What waits in a stream's queue before the next entry point is discarded, and decoding starts afresh there (R121). After DECODE_UNSUPPORTED
(R119) the same is a DESIGN CHOICE (log entry 127): the spec does not say what becomes of the access units that wait, nor whether the decoded
picture buffer is emptied. -/
def dropToEntry (x : Nat) (s : State) : State :=
  let m := s.stream x
  let rest := m.queue.dropWhile (fun q => !q.entry)
  let n := m.queue.length - rest.length
  let s1 := s.setStream x { m with
    queue := match rest with
      | q :: r => { q with fresh := true } :: r
      | [] => []
    waitEntry := m.waitEntry || rest == [], startDecode := m.startDecode || rest == [], gapNext := m.gapNext || rest == [] }
  if n = 0 then s1 else idleDiscard x n s1

/-- Whether a picture has reached a recovery's recovery_frame_cnt (R131): by frame_num in H.264, by the order count in H.265. -/
def recovered (h265 : Bool) (d : CodedPicture) (r : Recovery) : Bool :=
  if h265 then decide (r.start + r.count ≤ d.poc)
  else
    let m : Int := max 1 d.maxFrameNum
    decide (r.count ≤ (((d.frameNum : Int) - r.start) % m + m) % m)

/-- The recoveries under way after a picture (R131), each with whether every picture from its recovery point on was received and decoded, and
whether one completes with this picture. -/
def recoverStep (h265 : Bool) (m : Stream) (q : Picture) (d : CodedPicture) : List Recovery × Bool :=
  if isIrap h265 q.nals then ([], false)
  else
    let going : List Recovery := if q.fresh then [] else m.recovery.map (fun r => { r with whole := r.whole && !q.gap })
    let l := match recoveryOf h265 q.nals with
      | some n => going ++ [(⟨if h265 then d.poc else (d.frameNum : Int), n, true⟩ : Recovery)]
      | none => going
    (l.filter (fun r => !recovered h265 d r), l.any (fun r => recovered h265 d r && r.whole))

/-- The window of completions of the last second, ending at an instant (R127). -/
def lastSecond (l : List Time64) (t : Time64) : List Time64 := l.filter (fun c => t < c + 1000000000)

/-- DECODE_OVERRATE (R127). -/
def noteRate (x : Nat) (t : Time64) (s : State) : State :=
  let m := s.stream x
  let l := lastSecond (m.completions ++ [t]) t
  let tooFast := 105 * pv s.cfg pSrcFrameRate x < 100 * l.length
  let s1 := s.setStream x { m with completions := l, overrate := tooFast }
  if tooFast && !m.overrate then raise .decodeOverrate [(1, x)] s1 else s1

/-- The VUI matrix by the codes of PANE_CSC (R169), 0 where the source gives none. -/
def vuiCode (k : Nat) : Nat := if k = 1 then 2 else if k = 5 || k = 6 then 1 else if k = 9 then 3 else 0

/-- The first valid copy of a frame record for a picture of so many tile rows, and the copies after it (R108). -/
def firstRecord (rows : Nat) : List Bytes → Option (FrameRecord × Bytes × List Bytes)
  | [] => none
  | b :: r =>
    match parseRecord b with
    | some f => if f.rowTimes.length = rows then some (f, b, r) else firstRecord rows r
    | none => firstRecord rows r

/-- The use a picture's frame record has (R107 to R109): the record where it is valid, whether the stream is record-carrying, and the
reason of a fault: 0 absent, 1 invalid, 2 contradicted by a later copy. -/
def recordUse (c : Cfg) (x : Nat) (m : Stream) (q : Picture) (rows : Nat) : Option FrameRecord × Bool × Option Nat :=
  let mode := pv c pSrcRecord x
  let first := firstRecord rows q.copies
  let bearing := mode == 2 || (mode == 1 && (m.recBearing || first.isSome))
  if !bearing then (none, false, none)
  else match first with
    | some (f, b, r) => if r.all (fun k => k == b) then (some f, true, none) else (none, true, some 2)
    | none => (none, true, some (if q.copies == [] then 0 else 1))

/-- The newest row capture time of a record (R148). -/
def newestRow (r : FrameRecord) : Time64 := r.captureT + maxNat r.rowTimes

/-- What a finished picture is, whether compressed or not, as far as its ledger frame needs it. -/
structure Finished where
  pic      : Picture
  width    : Nat
  height   : Nat
  depth    : Nat
  matrix   : Nat
  full     : Nat
  tiles    : (Nat → Nat) → List TileRec
  fullSkip : List Bool
  samples  : List Bytes
  intra    : Bool
  entry    : Bool
  complete : Bool
  subst    : Bool
  uncomp   : Bool
  auCrc    : Nat
  moving   : Nat
  units    : Nat
  tokens   : List Bytes
  coded    : Planes

/-- The ledger frame of a finished picture (R56 to R59, R107 to R109, R142): graded, judged by the freeze detector and written. The
header goes back for the statistics record. -/
def ledgerFrame (x : Nat) (f : Finished) (t : Time64) (s : State) : FrameHdr × State :=
  let rows := tileCols f.height
  let m := s.stream x
  let (record, bearing, bad) := recordUse s.cfg x m f.pic rows
  let s1 := match bad with
    | some k => raise .frameRecordFault [(1, x), (1, k)] s
    | none => s
  let cap := match f.pic.hostCap with
    | some (ct, u) => captureAt 3 ct (uField u) false
    | none => gradeOf s1 x f.pic.ts f.pic.arrivalT record bearing
  let s2 := noteGrade x cap.grade s1
  let (seq, s3) := nextSeq x s2
  let dated : Dated := ⟨cap.t, cap.loc⟩
  let upv := fun (row : Nat) => match record with
    | some r => nth 0 r.verdicts row
    | none => if bad.isSome then 5 else 0
  let recPos := match record with
    | some r => m.recNewest.any (fun o => o < newestRow r)
    | none => false
  let s4 := s3.modStream x (fun m => { m with
    recBearing := bearing, recNewest := match record with | some r => some (newestRow r) | none => m.recNewest })
  let tiles := f.tiles upv
  let (fo, s5) := freezeEval x {
    seq := seq, cap := dated, width := f.width, height := f.height, cols := tileCols f.width, tiles := tiles, fullSkip := f.fullSkip,
    intra := f.intra, uncomp := f.uncomp, auCrc := f.auCrc, moving := f.moving, units := f.units, tokens := f.tokens,
    recBearing := bearing, recPos := recPos } s4
  let fz := s5.frz x
  let hdr : FrameHdr := {
    source := x, slot := 0, spilled := false, rowtime := cap.rows.isSome, cols := tileCols f.width, rows := rows, frameSeq := seq,
    captureT := cap.t, arrivalT := f.pic.arrivalT, evidenceT := fz.evidenceT.t, frzSince := if fz.frz then fz.frzSince.t else 0,
    uGrade4 := u4 cap.u, timeQual := timeQual cap.grade s5.time.state f.pic.hostCap.isSome,
    decodeStatus := decodeStatus f.complete f.intra f.entry (tiles.any (fun q => q.conc)) (tiles.any (fun q => q.taint)) f.subst
      f.uncomp false record.isSome
    freezeStatus := fo.status, srcState := (s5.stream x).state.code, auCrc := f.auCrc }
  (hdr, writeFrame x {
    hdr := hdr, rowTimes := cap.rows.getD [], tiles := fo.tiles, width := f.width, height := f.height, depth := f.depth,
    vuiMatrix := f.matrix, vuiFull := f.full, samples := f.samples, coded := f.coded, pics := provided (pv s.cfg pDecCompanion x), buf := none, unreadable := false, oldPool := none,
    completeT := t, resync := f.pic.inResync, rtpTs := f.pic.ts % 2 ^ 32, taken := false, capLocal := cap.loc,
    evLocal := fz.evidenceT.local', sinceLocal := fz.frzSince.local' } s5)

/-- A picture whose parameter sets or size the stream cannot use (R119): discarded, and the stream waits for an entry point. The request for
RESYNC acts in FLOWING, the one state whose row of R99 leaves to RESYNC on it (log entry 128). -/
def rejectPicture (l x cause : Nat) (s : State) : State :=
  let s1 := raise .decodeUnsupported [(1, x), (1, cause)] (dropToEntry x (finishPicture l x s))
  if (s1.stream x).state = .flowing then setStreamState x .resync .decoder s1 else s1

/-- Whether RASL pictures are skipped after a picture (R131): from a BLA picture, or a CRA picture at which decoding starts, to the next IRAP
picture. -/
def raslAfter (q : Picture) (old : Bool) : Bool :=
  let k := sliceType true q.nals
  if (16 ≤ k && k ≤ 18) || (q.fresh && k == 21) then true else if isIrap true q.nals then false else old

/-- Whether a picture is a RASL picture of H.265. -/
def isRasl (h265 : Bool) (q : Picture) : Bool := h265 && (sliceType true q.nals == 8 || sliceType true q.nals == 9)

/-- What decoding of a stream's picture rests on besides its access unit (R118). -/
def decodeCtx (c : Cfg) (x : Nat) (m : Stream) (q : Picture) : DecodeCtx :=
  { h265 := isH265 c x, nearest := pv c pDecSubst x == 0, copy := pv c pDecConceal x == 0, dpb := if q.fresh then [] else m.dpb
    last := if q.fresh then none else m.lastPic, lost := m.lostUnits }

/-- The stream's decode context after a picture (R117, R131). -/
def notePicture (h265 : Bool) (q : Picture) (d : CodedPicture) (p : Decoded) (m : Stream) : Stream :=
  let kept := (if q.fresh then [] else m.dpb).filter (fun r => !d.dropped.contains r.picNum && r.picNum != d.picNum)
  let bad := (p.taint.zip p.conc).map (fun b => b.1 || b.2)
  { m with
    raslSkip := h265 && raslAfter q m.raslSkip, recovery := (recoverStep h265 m q d).1, decOrder := m.decOrder + 1, lastPic := some p.planes
    dpb := if q.nonRef then kept else kept ++ [⟨d.picNum, d.poc, bad, p.planes, m.decOrder⟩]
    cnt := if p.hash = .md5 then { m.cnt with hashSkip := (m.cnt.hashSkip + 1) % 2 ^ 32 } else m.cnt }

/-- A decoded picture as the ledger takes it (R56 to R59, R131, R134, R142, R145). -/
def finishedOf (c : Cfg) (x : Nat) (m : Stream) (q : Picture) (d : CodedPicture) (p : Decoded) : Finished :=
  let h265 := isH265 c x
  let win := codedWindow d.seq
  let tiles := p.planes.tiles win d.seq.depthLuma d.seq.depthChroma
  let us := windowUnits p.cols win
  let entry := isIrap h265 q.nals || (recoverStep h265 m q d).2
  { pic := q, width := win.w, height := win.h, depth := codedDepth d.seq, matrix := vuiCode d.seq.matrix, full := d.seq.full
    tiles := pictureTiles x p win tiles, fullSkip := fullSkips p win, samples := tiles, coded := p.planes, intra := entry, entry := entry
    complete := p.conc.all (fun b => !b), subst := missingRef (if q.fresh then [] else m.dpb) d, uncomp := false
    auCrc := (crc32c 0 (q.nals.filter (isVcl h265)).flatten).toNat, moving := ((descsOf p us).filter UnitDesc.moving).length
    units := us.length, tokens := tokenMessages h265 q.nals }

/-- A decoded picture (R117, R131 to R140): the decoded picture buffer, statistics, the freeze detector, the ledger. -/
def completePicture (l x : Nat) (q : Picture) (d : CodedPicture) (t : Time64) (s : State) : State :=
  let m := s.stream x
  let h265 := isH265 s.cfg x
  if isRasl h265 q && m.raslSkip then
    finishPicture l x (s.setStream x { m with cnt := { m.cnt with raslSkip := (m.cnt.raslSkip + 1) % 2 ^ 32 } })
  else
    let check := pv s.cfg pDecHashCheck x == 1
    let p := decodePicture (decodeCtx s.cfg x m q) check q.nals d
    let s1 := s.setStream x (notePicture h265 q d p m)
    let s2 := if check && p.hash == .differs then raise .decodeHashMismatch [(1, x), (4, ((s.source x).frameSeq + 1) % 2 ^ 32)] s1 else s1
    let (hdr, s3) := ledgerFrame x (finishedOf s.cfg x m q d p) t s2
    let s4 := statsCopy x t (fun all => statsRecord all x hdr l t q d (isIrap h265 q.nals) p) s3
    noteRate x t (finishPicture l x s4)

/-- DECODE_COMPLETE (R117): the picture a lane decodes. Units whose data were lost in memory meanwhile are concealed (R309, R313). -/
def execDecodeComplete (lane : Fin 12) (d : CodedPicture) (t : Time64) (s : State) : Host.Outcome State Fault Refusal :=
  act (fun s =>
    let l : Nat := lane
    match (s.lane l).stream with
    | none => s
    | some x =>
      let s1 := atTime t s
      match (s1.stream x).queue with
      | [] => s1.modLane l (fun d => { d with stream := none })
      | q :: _ =>
        match pictureFault s1.cfg x d.seq with
        | some k => rejectPicture l x k s1
        | none => completePicture l x q d t s1) s

/-- An ST 2110-20 frame as the ledger takes it (R89, R98): a tile with a missing line has CONC. -/
def finishedRaw (c : Cfg) (x : Nat) (m : Stream) (q : Picture) : Finished :=
  let w := pv c pSrc2110W x
  let h := pv c pSrc2110H x
  let depth := pv c pSrc2110Depth x
  let (p, missing) := rawPicture c x q.segs m.lastPic
  let samples := p.tiles ⟨0, 0, w, h⟩ depth depth
  let tc := tileCols w
  { pic := q, width := w, height := h, depth := depth, matrix := pv c pSrc2110Colorimetry x + 1, full := pv c pSrc2110Range x
    tiles := fun upv => (List.range (tc * tileCols h)).map (fun i =>
      freshTile (upv (i / tc)) false (missing.any (fun y => y / 64 == i / tc)) (tileSig x (i / tc) (i % tc) (nth [] samples i)))
    fullSkip := [], samples := samples, coded := p, intra := false, entry := true, complete := missing == [], subst := false, uncomp := true
    auCrc := 0, moving := 0, units := 0, tokens := [] }

/-- INGEST_FRAME_COMPLETE (R89, R98): the oldest released frame of an ST 2110-20 stream, named by its RTP timestamp, is converted,
signed and written. -/
def execIngestFrameComplete (x : Fin 128) (ts : Nat) (t : Time64) (s : State) : Host.Outcome State Fault Refusal :=
  act (fun s =>
    let s1 := atTime t s
    match (s1.stream x).queue with
    | [] => s1
    | q :: rest =>
      if !is2110 s1.cfg x || q.ts % 2 ^ 32 != ts then s1
      else
        let f := finishedRaw s1.cfg x (s1.stream x) q
        let s2 := s1.modStream x (fun m => { m with queue := rest, lastPic := some f.coded })
        noteRate x t (ledgerFrame x f t s2).2) s

/-- DEC_LANE_SAFE_POINT (R126): a disabled lane stops after its picture, and starts again where it was enabled meanwhile. -/
def execDecLaneSafePoint (lane : Fin 12) (t : Time64) (s : State) : Host.Outcome State Fault Refusal :=
  act (fun s =>
    let l : Nat := lane
    let d := s.lane l
    if !d.stopping || d.stream.isSome then s
    else
      let s1 := atTime t s
      if d.restart then
        let s2 := s1.setLane l ⟨none, false, false, false⟩
        match s2.cmd.deferred.find? (fun q => q.1 == .lane l) with
        | some (_, h, _) =>
          raiseTag .decLaneReady h.tag [(1, l)]
            { s2 with cmd := { s2.cmd with deferred := s2.cmd.deferred.filter (fun q => q.1 != .lane l) } }
        | none => raise .decLaneReady [(1, l)] s2
      else s1.setLane l ⟨none, false, true, false⟩) s

/-! ## The playback ring (R128, R391) -/

/-- A descriptor of the playback ring (R128). -/
structure PlaybackDesc where
  auAddr     : Nat
  auLen      : Nat
  newSession : Bool
  captureT   : Time64
  uDecl      : Nat
  deriving DecidableEq, Repr

/-- The 32 bytes of a descriptor (R128); its reserved words are not read. -/
def playbackDesc (b : Bytes) : PlaybackDesc := ⟨fld b 0 8, fld b 8 4, bit (fld b 12 4) 0, fld b 16 8, fld b 24 4⟩

/-- One posted descriptor taken (R128): the access unit is read over PCIe and released at once. One that is too long or cannot be read is lost. -/
def takeDesc (x : Nat) (t : Time64) (k : PlaybackDesc × Option Bytes) (s : State) : State :=
  let d := k.1
  let s0 := emit (.hostRead d.auAddr d.auLen) s
  let s1 := if d.newSession || !(s.stream x).session then newSession x s0 else s0
  let s2 := setStreamState x .flowing .packet (s1.modStream x (fun m => { m with lastPkt := some t }))
  match (if 4194304 < d.auLen then none else k.2) with
  | none => s2.modStream x (fun m => { m with gapNext := true })
  | some b =>
    let h265 := isH265 s.cfg x
    let m := s2.stream x
    let nals := annexB 0 none b
    queuePicture x {
      ts := 0, arrivalT := t, release := t, entry := isEntry h265 nals, partialAu := false, nonRef := isNonRef h265 (setsOf s.cfg x m) nals
      gap := false, fresh := false, inResync := false, lane := none, row := 0, copies := [], hostCap := some (d.captureT, d.uDecl), nals := nals
      sets := setsOf s.cfg x m, segs := [] } (s2.setStream x (noteSets s.cfg x nals m))

/-- PLAYBACK_POLL (R128, R391): the descriptors posted since the last read. -/
def execPlaybackPoll (x : Fin 128) (r : PlaybackRead) (t : Time64) (s : State) : Host.Outcome State Fault Refusal :=
  act (fun s =>
    let m := s.stream x
    match m.ring with
    | none => s
    | some g =>
      if pv s.cfg pSrcEnable x = 0 || pv s.cfg pDecOrigin x != 1 || !s.alive then s
      else
        let n := ((r.producer + 2 ^ g.log2 - g.consumer) % 2 ^ g.log2) / 32
        let descs := (List.range n).map (fun i => (playbackDesc (slice r.ring (32 * i) 32), nth none r.aus i))
        if descs == [] then atTime t s
        else
          let g1 := { g with producer := r.producer % 2 ^ g.log2, consumer := (g.consumer + 32 * descs.length) % 2 ^ g.log2 }
          let s1 := (atTime t s).setStream x { m with ring := some g1 }
          let s2 := emit (.hostWrite (g.base - 56) (le 8 g1.consumer)) s1
          descs.foldl (fun a d => takeDesc x t d a) s2) s

end Sys2Proof.Machine
end

