-- ==== Sys2Proof/Machine/Flash.lean ====
section
/-! DEFINITION. Records written to flash, and the temperature window of flash writes (R414, R425, R432). -/
namespace Sys2Proof.Machine

/-- The flash-write window: Tj between −25 °C and +100 °C (R414). -/
def State.flashWindow (s : State) : Bool := -400 ≤ s.power.tj && s.power.tj ≤ 1600

/-- The kind of a record, as the log of flash writes names it. -/
def FlashRec.kind : FlashRec → Nat
  | .touch _ => 0
  | .test _ => 1
  | .partner _ => 2
  | .lifecycle _ => 3
  | .counters _ => 4

/-- The size of a record: a self-test record has 64 bytes (R418), and the spec gives no other size (log entry 24). -/
def FlashRec.size : FlashRec → Nat
  | .test _ => 64
  | r => Config.flashRecordSize r.kind

/-- Whether new flash writes may start: the supply is good (R398), the device is not held in reset (R405), and the life-cycle
state lets it write its sealed records (R425). -/
def State.flashAllowed (s : State) : Bool :=
  s.power.pwrGood && s.powered && (s.life.state == .field || s.life.state == .service)

/-- A record stands in flash. -/
def flashPut (r : FlashRec) (s : State) : State :=
  let s1 := emit (.flashWrite r.kind r.size) s
  match r with
  | .touch b => { s1 with touch := { s1.touch with saved := some b } }
  | .test x => { s1 with test := { s1.test with written := some x } }
  | .partner u => { s1 with twin := { s1.twin with partnerFlash := some u } }
  | .lifecycle _ => s1
  | .counters n => { s1 with test := { s1.test with savedOn := n } }

/-- The queue of the firmware partition, 256 KiB in all (R414). -/
def flashQueueBytes : Nat := 2 ^ 18

/-- The position of the oldest queued record of a kind. -/
def oldestOf (kind : Nat) (q : List FlashRec) : Option Nat := (findPos (fun x => x.kind == kind) 0 q).map Prod.fst

/-- A record outside the window is queued (R414): in a full queue it takes the place of the oldest of its kind, and where there
is none FLASH_QUEUED says so. -/
def flashQueue (r : FlashRec) (s : State) : State :=
  let q := s.power.flashQ
  if sumNat (q.map FlashRec.size) + r.size ≤ flashQueueBytes then
    raise .flashQueued [(1, 0)] { s with power := { s.power with flashQ := q ++ [r] } }
  else
    match oldestOf r.kind q with
    | some i => raise .flashQueued [(1, 0)] { s with power := { s.power with flashQ := q.eraseIdx i ++ [r] } }
    | none => raise .flashQueued [(1, 1)] s

/-- A record to be written (R414). -/
def flashStore (r : FlashRec) (s : State) : State :=
  if !s.flashAllowed then s else if s.flashWindow && s.power.flashQ == [] then flashPut r s else flashQueue r s

/-- FLASH_QUEUE_DRAIN (R414): the oldest queued record is written once Tj is back in the window. A write that fails leaves it queued
(log entry 24). -/
def execFlashQueueDrain (ok : Bool) (t : Time64) (s : State) : Host.Outcome State Fault Refusal :=
  act (fun s =>
    match s.power.flashQ with
    | [] => s
    | r :: q =>
      if !s.flashAllowed || !s.flashWindow || !ok then s
      else raise .flashWritten [] (flashPut r { (atTime t s) with power := { s.power with flashQ := q } })) s

end Sys2Proof.Machine
end

