-- ==== Sys2Proof/Machine/SelfTest.lean ====
section
/-! DEFINITION. The self-test: preconditions and runs (R415, R416), the record and its validity (R418, R419), units held out of
service (R420), slices in service (R421 to R423) and the SERVICE run (R424). -/
namespace Sys2Proof.Machine

/-! ## The record's age (R419) -/

/-- Seven days in seconds. -/
def weekS : Nat := 604800

/-- The lifetime powered-on seconds (R418). -/
def State.onNow (s : State) : Nat := s.test.onSeconds + (s.time.now - s.power.startT) / 1000000000

/-- Whether a record has reached 7 days, by powered-on time, or by TIME64 where the time state is no longer FREE-RUN (R419). -/
def State.recordOld (s : State) (r : TestRecord) : Bool :=
  r.endOnS + weekS ≤ s.onNow
  || (s.time.state != .freeRun && r.endT != 0 && r.endT + weekS * 1000000000 ≤ s.time.now)

/-- Whether a record is valid for quick start (R419). -/
def State.recordValid (s : State) : Bool :=
  match s.test.record with
  | some r => r.quickOk && !s.test.expired && !s.recordOld r
  | none => false

/-- Slice mode begins, with a fresh sweep (R420, R421). -/
def startSweep (s : State) : State :=
  { s with test := { s.test with
    sliceMode := true, swept := [], sweepFail := ⟨0, 0, 0, 0, 0⟩, sweepTj := (s.power.tj, s.power.tj), sweepT := s.time.now } }

/-- The record in use reaches 7 days of age: slice mode begins at once (R419, R420). -/
def judgeAge (s : State) : State :=
  match s.test.record with
  | some r =>
    if r.quickOk && !s.test.expired && s.recordOld r then startSweep { s with test := { s.test with expired := true } } else s
  | none => s

/-! ## A test's end (R416, R418, R420) -/

/-- What a test found, with the compose lanes it left untested. -/
structure TestFound where
  out      : SelftestOutcome
  untested : Nat
  deriving DecidableEq, Repr

/-- Whether a test found a failing unit. -/
def outcomeFails (o : SelftestOutcome) : Bool :=
  o.failDecode != 0 || o.failCompose != 0 || o.failSerdes != 0 || o.sramFail != 0 || o.failScaler != 0

/-- RESULT (R418). -/
def testResult (abandoned : Bool) (precond : Nat) (f : TestFound) : Nat :=
  if abandoned then 2 else if precond != 0 then 3 else if outcomeFails f.out then 1 else if f.untested != 0 then 4 else 0

/-- Every region that a SERVICE run can name (R424). -/
def allRegions : Nat := 2 ^ 25 - 1

/-- Whether a record may stand for a quick start apart from its age (R419). -/
def quickRecord (r : TestRun) (result : Nat) : Bool :=
  result == 0 && (r.source != 3 || (r.regions == allRegions && r.pattern == 0))

/-- A coverage of the tested part in units of 0.01 %: at least a bound, and free within it; of a run that ended early, free (R416). -/
def coverage (whole : Bool) (least : Nat) (s : State) : Nat × State :=
  if whole && least = 10000 then (10000, s)
  else
    let lo := if whole then least else 0
    let (v, s1) := freeBelow (10001 - lo) s
    (lo + v, s1)

/-- The coverages of a run: SRAM, stuck-at and transition. A part that the run does not name is not covered. -/
def coverages (r : TestRun) (result : Nat) (s : State) : Nat × Nat × Nat × State :=
  let whole := result != 2 && result != 3
  let sram := r.source != 3 || bit r.regions 23
  let logic := r.source != 3 || bits r.regions 22 0 != 0
  let (a, s1) := if sram then coverage whole 10000 s else (0, s)
  let (b, s2) := if logic then coverage whole 9500 s1 else (0, s1)
  let (c, s3) := if logic then coverage whole 8000 s2 else (0, s2)
  (a, b, c, s3)

/-- The decode lanes and SerDes groups that a run tests. -/
def TestRun.tests (r : TestRun) : Nat × Nat :=
  if r.source = 3 then (bits r.regions 11 0, if bit r.regions 24 then 4095 else 0)
  else (4095, if r.source = 2 then 0 else 4095)

/-- Units held out of service (R420): a power-up test after a recorded failure that fails as well holds them, and a later test that passes
them lets them go. -/
def holdUnits (r : TestRun) (hold : Bool) (result : Nat) (o : SelftestOutcome) (s : State) : State :=
  if result = 2 || result = 3 then s
  else
    let (dec, ser) := r.tests
    let keep := fun (old tested fail : Nat) => maskBy 12 (fun i => bit old i && (!bit tested i || bit fail i))
    let heads := o.failCompose != 0 || o.sramFail != 0 || o.failScaler != 0
    let full := r.source != 3 || bits r.regions 23 12 == 4095
    { s with test := { s.test with
      heldLanes := if hold then o.failDecode else keep s.test.heldLanes dec o.failDecode
      heldSerdes := if hold then o.failSerdes else keep s.test.heldSerdes ser o.failSerdes
      heldHeads := if hold then heads else s.test.heldHeads && (heads || !full) } }

/-- The record of a run that has ended, written under R414 (R416, R418). -/
def endRun (r : TestRun) (f : TestFound) (s : State) : State :=
  let result := testResult r.abandoned r.precond f
  let hold := r.source == 1 && (s.test.fullNext || (match s.test.record with | some o => o.result == 1 | none => false))
  let (a, b, c, s1) := coverages r result s
  let x : TestRecord := {
    source := r.source, result := result, precond := r.precond, durationMs := f.out.durationMs,
    endT := if s1.time.state == .freeRun then 0 else s1.time.now, endOnS := s1.onNow, sramCov := a, stuckCov := b, transCov := c,
    failDecode := f.out.failDecode, failCompose := f.out.failCompose, untested := f.untested, failSerdes := f.out.failSerdes,
    sramFail := min 65535 f.out.sramFail, failScaler := f.out.failScaler, tjMin := f.out.tjMin, tjMax := f.out.tjMax,
    recSeq := s1.test.recSeq + 1, quickOk := quickRecord r result }
  let s2 := holdUnits r hold result f.out s1
  let s3 := { s2 with test := { s2.test with
    record := some x, recSeq := x.recSeq, expired := false, run := none
    fullNext := s2.test.fullNext && (r.source != 1 || result == 2 || result == 3) } }
  let s4 := if x.quickOk then { s3 with test := { s3.test with sliceMode := false } } else startSweep s3
  let s5 := flashStore (.test x) s4
  match r.hdr with
  | some (h, _) => raiseTag .selftestDone h.tag [] s5
  | none => s5

/-- The preconditions that fail as last checked (R415): the clock and the core supply, and Tj. -/
def State.precondNow (s : State) : Nat := s.test.lastPre ||| (if s.power.tj < -320 || 1680 < s.power.tj then 4 else 0)

/-- A run begins, its preconditions checked (R415). A core supply that has failed its read-backs makes the next shutdown self-test fail them
(R396). -/
def beginRun (source regions pattern : Nat) (hdr : Option (CmdHdr × Cmd)) (s : State) : State :=
  let pre := if source = 3 then 0 else s.precondNow ||| (if source = 0 && s.power.avsFail then 2 else 0)
  { s with
    test := { s.test with run := some ⟨source, regions, pattern, hdr, s.time.now, pre, false⟩ }
    power := if source = 0 then { s.power with avsFail := false } else s.power }

/-- A run of the whole part whose last segment, or the segment at which it stopped, has ended (R415, R416). -/
def finishRun (o : SelftestOutcome) (s : State) : State :=
  match s.test.run with
  | some r => endRun r ⟨o, 0⟩ s
  | none => s

/-- SELFTEST_PRECOND_CHECK (R415): before a test and every 10 ms during it. A check that fails stops the run at its next segment
boundary; a run in slices skips its slices instead (R422). -/
def execSelftestPrecondCheck (clocksOk vddOk : Bool) (t : Time64) (s : State) : Host.Outcome State Fault Refusal :=
  act (fun s =>
    if !s.powered then s
    else
      let s1 := { (atTime t s) with test := { s.test with lastPre := b2n (!clocksOk) + 2 * b2n (!vddOk) } }
      { s1 with test := { s1.test with run := s1.test.run.map (fun r =>
        if r.source = 3 then r else { r with precond := r.precond ||| s1.precondNow }) } }) s

/-! ## Slices (R421 to R424) -/

/-- The number a slice's part is counted by, and how many slices that part has (R421). A SerDes group of a SERVICE run has one
(R424). -/
def slicePart : SliceUnit → Nat × Nat
  | .decodeLane l => (l, 400)
  | .composeLane l => (100 + l, 400)
  | .scaler i => (200 + i, 16)
  | .serdes g => (300 + g, 1)
  | .basin r => (1000 + r, 1)

/-- Whether the lanes of a SerDes group, or some of them, are in mode OFF (R424). -/
def serdesOff (s : State) (g : Nat) : Bool :=
  if g = 0 then false
  else if g = 1 then (List.range 4).any (fun p => pv s.cfg pNetPortMode p == 0)
  else if g < 4 then !s.twin.linkOn
  else pv s.cfg pDpPortMode (g - 4) == 0

/-- The parts that a SERVICE run has to test (R424). -/
def runParts (s : State) (regions : Nat) : List (Nat × Nat) :=
  ((List.range 12).filter (fun l => bit regions l)).map (fun l => (l, 400))
  ++ ((List.range 9).filter (fun l => bit regions (12 + l))).map (fun l => (100 + l, 400))
  ++ ((List.range 72).filter (fun i => bit regions (if i < 64 then 21 else 22))).map (fun i => (200 + i, 16))
  ++ (if bit regions 23 then (List.range 768).map (fun r => (1000 + r, 1)) else [])
  ++ (if bit regions 24 then ((List.range 12).filter (serdesOff s)).map (fun g => (300 + g, 1)) else [])

/-- The parts of a sweep (R421): every one but the SerDes. -/
def sweepParts (s : State) : List (Nat × Nat) := runParts s (2 ^ 24 - 1)

/-- The SERVICE run under way. -/
def State.serviceRun (s : State) : Option TestRun :=
  match s.test.run with
  | some r => if r.source = 3 then some r else none
  | none => none

/-- Whether parts have all their slices. -/
def partsDone (s : State) (l : List (Nat × Nat)) : Bool := l.all (fun p => p.2 ≤ tget 0 s.test.swept p.1)

/-- The faults of a sweep or a SERVICE run as the outcome of a test. -/
def sliceOutcome (s : State) : SelftestOutcome :=
  let f := s.test.sweepFail
  ⟨(s.time.now - s.test.sweepT) / 1000000, f.decode, f.compose, f.serdes, f.sram, f.scaler, s.test.sweepTj.1, s.test.sweepTj.2⟩

/-- A sweep or a SERVICE run ends when its parts have all their slices, a sweep also when its whole time has passed and only compose
lanes have found no window (R421, R422, R424). An abandoned SERVICE run ends at once. -/
def settleSweep (s : State) : State :=
  match s.test.run with
  | some r =>
    if r.source = 3 && (r.abandoned || partsDone s (runParts s r.regions)) then endRun r ⟨sliceOutcome s, 0⟩ s
    else s
  | none =>
    if !s.test.sliceMode then s
    else
      let parts := sweepParts s
      let (lanes, rest) := (parts.filter (fun p => 100 ≤ p.1 && p.1 < 200), parts.filter (fun p => !(100 ≤ p.1 && p.1 < 200)))
      let timeUp := 10320 * 16 * s.grid.p3 ≤ 3 * (s.time.now - s.test.sweepT)
      if partsDone s rest && (partsDone s lanes || timeUp) then
        let un := maskBy 9 (fun l => tget 0 s.test.swept (100 + l) < 400)
        endRun ⟨2, 0, 0, none, s.test.sweepT, 0, false⟩ ⟨sliceOutcome s, un⟩ s
      else s

/-- Whether the window of a slice's unit is open as far as the state shows it (R422): a decode lane has no picture and none waits, and in
COLD-STANDBY only Basin regions are tested (R440). The windows of compose lanes and scalers are the happening's own. -/
def sliceWindow (s : State) : SliceUnit → Bool
  | .decodeLane l => s.twin.mode != .coldStandby && (s.lane l).stream.isNone && (choosePicture s).isNone
  | .serdes g => s.twin.mode != .coldStandby && serdesOff s g
  | .basin _ => true
  | _ => s.twin.mode != .coldStandby

/-- Whether a slice may run now (R421, R422, R424): its part is named and not complete, at most one slice in 16 ticks or one a tick in a
SERVICE run, the level normal and the preconditions met. -/
def sliceAllowed (s : State) (u : SliceUnit) : Bool :=
  let (part, total) := slicePart u
  let (parts, gap) := match s.serviceRun with
    | some r => (if r.abandoned then [] else runParts s r.regions, 1)
    | none => (if s.test.sliceMode && s.test.run.isNone then sweepParts s else [], 16)
  s.alive && s.power.phase == .running && parts.contains (part, total) && tget 0 s.test.swept part < total
  && (match s.test.sliceTick with | some n => n + gap ≤ s.time.tick | none => true)
  && s.power.level == .normal && s.precondNow == 0 && s.mem.switch.all (fun w => s.time.tick < w.tick) && sliceWindow s u

/-- The result of a slice noted (R423). -/
def SliceFaults.note (f : SliceFaults) (u : SliceUnit) (words : Nat) : SliceFaults :=
  match u with
  | .decodeLane l => { f with decode := f.decode ||| 2 ^ l.val }
  | .composeLane l => { f with compose := f.compose ||| 2 ^ l.val }
  | .scaler i => { f with scaler := f.scaler ||| 2 ^ i.val }
  | .serdes g => { f with serdes := f.serdes ||| 2 ^ g.val }
  | .basin _ => { f with sram := min 65535 (f.sram + words) }

/-- The unit of SELFTEST_SLICE: its kind and number, 0 Basin regions, 1 decode lanes, 2 compose lanes, 3 scalers, 4 SerDes groups (log
entry 29). -/
def sliceCode : SliceUnit → Nat × Nat
  | .basin r => (0, r)
  | .decodeLane l => (1, l)
  | .composeLane l => (2, l)
  | .scaler i => (3, i)
  | .serdes g => (4, g)

/-- A failed slice (R423): it is recorded, so that the next start tests everything, and a decode lane is taken out and held out. -/
def sliceFailed (u : SliceUnit) (s : State) : State :=
  let (w, s1) := freeBelow 4096 s
  let (kind, num) := sliceCode u
  let s2 := raise .selftestSlice [(1, kind), (2, num), (1, 1)]
    { s1 with test := { s1.test with sweepFail := s1.test.sweepFail.note u (w + 1), fullNext := true } }
  match u with
  | .decodeLane l => { s2 with test := { s2.test with heldLanes := s2.test.heldLanes ||| 2 ^ l.val } }
  | _ => s2

/-- SELFTEST_SLICE (R421 to R424). -/
def execSelftestSlice (u : SliceUnit) (pass : Bool) (t : Time64) (s : State) : Host.Outcome State Fault Refusal :=
  act (fun s =>
    let s1 := atTime t s
    if !sliceAllowed s1 u then s
    else
      let part := (slicePart u).1
      let (lo, hi) := s1.test.sweepTj
      let s2 := { s1 with test := { s1.test with
        sliceTick := some s1.time.tick, swept := tset part (tget 0 s1.test.swept part + 1) s1.test.swept
        sweepTj := (min lo s1.power.tj, max hi s1.power.tj) } }
      settleSweep (if pass then s2 else sliceFailed u s2)) s

/-- SELFTEST_RECORD_AGE (R419). -/
def execSelftestRecordAge (t : Time64) (s : State) : Host.Outcome State Fault Refusal :=
  act (fun s => if s.powered then judgeAge (atTime t s) else s) s

/-- SELFTEST_RUN at its apply tick (R424): its slices begin. -/
def applySelftestRun (h : CmdHdr) (k : Cmd) (regions pattern : Nat) (s : State) : State :=
  let s1 := beginRun 3 regions pattern (some (h, k)) (startSweep s)
  { s1 with test := { s1.test with sliceMode := s.test.sliceMode, sliceTick := none } }

/-- A run that the host directed is abandoned at its slice boundary (R406, R422, R426). -/
def abandonRun (s : State) : State :=
  settleSweep { s with test := { s.test with run := s.test.run.map (fun r => if r.source = 3 then { r with abandoned := true } else r) } }

end Sys2Proof.Machine
end

