-- ==== Sys2Proof/Machine/Life.lean ====
section
/-! DEFINITION. The life cycle (R425 to R427), the installation binding and adoption (R431, R434), firmware slots (R430) and the test
patterns of SERVICE (R84, R208). -/
namespace Sys2Proof.Machine

/-- A change of the life-cycle state, with LIFECYCLE_CHANGE from the old to the new (R426), and its record in flash where it is not the
volatile SERVICE (R414, log entry 38). -/
def toLife (new : LifeState) (s : State) : State :=
  let s1 := raise .lifecycleChange [(1, s.life.state.code), (1, new.code)] { s with life := { s.life with state := new } }
  if new = .service || s.life.state = .service then s1 else flashStore (.lifecycle new.code) s1

/-! ## Test patterns (R84, R208) -/

/-- DIAG_PATTERN_DONE when a running pattern ends (log entry 31): the kind of port, 0 DisplayPort and 1 Ethernet, and the port. -/
def patternDone (kind p : Nat) (s : State) : State := raise .diagPatternDone [(1, kind), (1, p)] s

/-- DIAG_DP_PATTERN (R208): every head on the port is DARK while a pattern runs. -/
def setDpPattern (p pattern : Nat) (custom : Bytes) (s : State) : State :=
  let old := (s.dpPort p).pattern
  let s1 := s.modDpPort p (fun d => { d with pattern := pattern, custom := custom })
  let s2 := (s1.portHeads p).foldl (fun a h => if pattern = 0 then a else blankHead h a) s1
  if old != 0 && pattern = 0 then patternDone 0 p s2 else s2

/-- DIAG_ETH_PRBS (R84). -/
def setEthPrbs (p : Nat) (rate : Option Nat) (s : State) : State :=
  let old := (s.ethPort p).prbs
  let s1 := s.modEthPort p (fun e => { e with prbs := rate })
  if old.isSome && rate.isNone then patternDone 1 p s1 else s1

/-- Every test pattern ends. -/
def endPatterns (s : State) : State :=
  let s1 := (List.range 8).foldl (fun a p => if (a.dpPort p).pattern = 0 then a else setDpPattern p 0 [] a) s
  (List.range 4).foldl (fun a p => if (a.ethPort p).prbs.isSome then setEthPrbs p none a else a) s1

/-! ## SERVICE (R426, R427) -/

/-- The pending S commands fail (R426). -/
def failService (s : State) : State :=
  let (drop, keep) := s.cmd.accepted.partition (fun a => serviceOnly a.cmd)
  (sortBy (acceptedLe false) drop).foldl (fun b a => failReply a b.intervalTick (.fail 0) 0 b)
    { s with cmd := { s.cmd with accepted := keep } }

/-- SERVICE returns to FIELD (R426): pending S commands fail, a run that the host directed is abandoned, and the patterns end (log entry
31). -/
def leaveService (s : State) : State :=
  endPatterns (abandonRun (failService (toLife .field { s with life := { s.life with serviceEnd := none } })))

/-- A new unlock challenge is drawn (R427). -/
def drawChallenge (s : State) : State :=
  let (c, s1) := freeBytes 16 s
  { s1 with life := { s1.life with challenge := c } }

/-- Whether an unlock token is valid for this part now (R427). -/
def tokenOk (s : State) (t : Bytes) : Bool :=
  let body := t.take 40
  let auth := t.drop 40
  let d := fld t 4 4
  fld t 0 1 == 1 && fld t 2 2 == 0 && 60 ≤ d && d ≤ 86400 && slice t 8 16 == s.life.uid && slice t 24 16 == s.life.challenge
  && (match fld t 1 1 with
    | 0 => auth.length == 32 && s.life.installId.isSome && auth == padTo 32 (Config.hmacSha256 s.life.installKey body)
    | 1 => auth.length == 64 && Config.serviceVerify body auth
    | _ => false)

/-- LC_UNLOCK (R426, R427). -/
def applyUnlock (t : Bytes) (s : State) : Status × State :=
  if tokenOk s t then
    (.ok, drawChallenge (toLife .service { s with life := { s.life with serviceEnd := some (s.time.now + fld t 4 4 * 1000000000) } }))
  else (.fail 11, s)

/-- SERVICE_TOKEN_EXPIRY (R426). -/
def execServiceTokenExpiry (t : Time64) (s : State) : Host.Outcome State Fault Refusal :=
  act (fun s =>
    match s.life.state, s.life.serviceEnd with
    | .service, some e => if s.powered && !s.mem.fatal && e ≤ t then leaveService (atTime t s) else s
    | _, _ => s) s

/-! ## Binding and the other states (R425, R426, R431, R434) -/

/-- LC_PROVISION (R426, R428): the device key is generated and the certificate installed. -/
def applyProvision (s : State) : State := toLife .provisioned { s with life := { s.life with cert := Config.partCert } }

/-- LC_FIELD (R426). -/
def applyField (s : State) : State := if s.life.state = .service then leaveService s else toLife .field s

/-- INSTALL_SET (R431, R434): the binding, and a fresh sealed state where the records could not be opened. -/
def applyInstall (id key : Bytes) (s : State) : State :=
  { s with life := { s.life with installId := some (padTo 16 id), installKey := padTo 32 key, unadopted := false } }

/-- The sealed records are erased (R425). -/
def eraseRecords (s : State) : State :=
  { s with
    life := { s.life with installId := none, installKey := [] }
    touch := { s.touch with saved := none }
    test := { s.test with written := none, savedOn := 0 }
    twin := { s.twin with partner := none, partnerFlash := none, snapFlash := none }
    power := { s.power with cfgSaved := none, cfgSavedT := none, cfgDirty := false, flashQ := [] } }

/-- LC_DECOMMISSION (R425, R426): heads DARK, every output idle, the sealed records erased, twin operation refused. -/
def applyDecommission (s : State) : State :=
  let s1 := endPatterns (abandonRun (failService s))
  let s2 := (List.range 32).foldl (fun a h => blankHead h (a.modHead h (fun d => { d with running := false }))) s1
  let s3 := toLife .decommissioned (eraseRecords { s2 with life := { s2.life with serviceEnd := none } })
  settlePins { s3 with twin := { s3.twin with verified := false, linkOn := false, lanes := [] } }

/-! ## Firmware (R430) -/

/-- FW_STAGE (R430): data written into the inactive slot. -/
def applyStage (slot off : Nat) (data : Bytes) (s : State) : State :=
  let put := fun (b : Bytes) => padTo off b ++ data ++ b.drop (off + data.length)
  { s with life := if slot = 1 then { s.life with slotB := put s.life.slotB } else { s.life with slotA := put s.life.slotA } }

/-- FW_ACTIVATE (R430). -/
def applyActivate (slot : Nat) (s : State) : Status × State :=
  if Config.firmwareVerify (if slot = 1 then s.life.slotB else s.life.slotA) then
    (.ok, { s with life := { s.life with activeB := slot == 1 } })
  else (.fail 10, s)

/-- The boot ROM chooses the slot at a start (R430): the active one where it verifies and is new enough, otherwise the other with
FW_ACTIVATED. -/
def bootFirmware (s : State) : State :=
  let image := if s.life.activeB then s.life.slotB else s.life.slotA
  if Config.firmwareVerify image && s.life.minVersion ≤ Config.firmwareSecurity image then
    { s with life := { s.life with runningB := s.life.activeB } }
  else raise .fwActivated [(1, b2n (!s.life.activeB)), (1, 1)] { s with life := { s.life with runningB := !s.life.activeB } }

/-- The fused minimum is raised at the first START_DONE that the running image reaches (R430). -/
def raiseMinimum (s : State) : State :=
  { s with life := { s.life with minVersion := max s.life.minVersion s.secVersion } }

end Sys2Proof.Machine
end

