-- ==== Sys2Proof/Machine/Encode.lean ====
section
/-! DEFINITION. Encode sessions: which head frames a session takes (R282), the bucket and its rows (R287, R288, R290), content frames and
the frame record (R289, R291 to R293), tokens (R286), sending and suppression (R295, R296), and sender reports. -/
namespace Sys2Proof.Machine

/-! ## The session's frames (R282, R285) -/

/-- The encoded tile rows of a session. -/
def encRows (c : Cfg) (x : Nat) : Nat := tileCols (encSize c x).2

/-- The area of a session: left, top, width and height in head pixels. -/
def encArea (c : Cfg) (x : Nat) : Nat × Nat × Nat × Nat :=
  let a := pv c pEncArea x
  (comp16 a 0, comp16 a 1, comp16 a 2, comp16 a 3)

/-- The head tile rows that an encoded tile row covers (R282). -/
def headRows (c : Cfg) (x row : Nat) : List Nat :=
  let y := (encArea c x).2.1 / 64
  if pv c pEncScale x = 500 then [y + 2 * row, y + 2 * row + 1] else [y + row]

/-- The head pixels of an encoded tile row. -/
def encRowRect (s : State) (x row : Nat) : Rect :=
  let (l, t, w, h) := encArea s.cfg x
  let k := if pv s.cfg pEncScale x = 500 then 128 else 64
  ⟨l, t + k * row, l + w, min (t + h) (t + k * row + k)⟩

/-! ## The bucket (R287) -/

/-- The bits that one encoded frame adds to the bucket, rounded down. -/
def frameBits (s : State) (x : Nat) : Nat :=
  let r := headRate s.grid (s.head (pv s.cfg pEncHead x)).timing.mult
  1000 * pv s.cfg pEncRate x * cadence s x * r.den / r.num

/-- The bucket's size S in bits. -/
def bucketSize (c : Cfg) (x : Nat) : Nat := pv c pEncRate x * pv c pEncVbvMs x

/-- The level before a frame: raised and capped at S. -/
def raiseLevel (s : State) (x : Nat) (l : Int) : Int := min (bucketSize s.cfg x : Int) (l + frameBits s x)

/-- The frame target T, bounded (R287). -/
def frameTarget (s : State) (x : Nat) (l : Int) : Int :=
  let b : Int := frameBits s x
  min (l - 1024 * encRows s.cfg x) (max (b / 4) (b + (l - (bucketSize s.cfg x : Int) / 2) / 8))

/-- The weight w_r of a row (R287), from the last frame of the same type. -/
def rowWeight (last : Table Nat) (rows row : Nat) : Nat :=
  let sum := sumNat ((List.range rows).map (fun r => tget 0 last r))
  max (tget 0 last row) (sum / (4 * max 1 rows))

/-- The target of a row (R287). -/
def rowTarget (last : Table Nat) (rows row : Nat) (target : Int) : Int :=
  let all := sumNat ((List.range rows).map (rowWeight last rows))
  if all = 0 then target / (max 1 rows : Nat) else target * rowWeight last rows row / all

/-- The bits of a row coded normally at a QP. -/
def rowSize (r : RowCoded) (qp : Nat) : Nat := nth 0 r.sizes qp

/-- The QP of a row (R287, R290): within a range, the firmware's pick where the row meets its target with it, otherwise the lowest that meets it, and
the highest of the range where none does (log entry 151). -/
def rowQp (lo hi : Nat) (goal : Int) (r : RowCoded) : Nat :=
  let ok := (countFrom lo (hi + 1 - lo)).filter (fun q => decide ((rowSize r q : Int) ≤ goal))
  if ok.contains r.qp then r.qp else ok.headD hi

/-- The bits that a row may take (R288): those left in the level, less 1,024 for each row after it. -/
def rowCap (l : Int) (e : EncFrame) (rows row : Nat) : Int := l - e.bits - 1024 * ((rows - 1 - row : Nat) : Int)

/-! ## Content frames (R289, R293) -/

/-- The contributions to a rectangle of a head frame with the guarded condition left out (R293). -/
def openContribs (s : State) (h : Nat) (fi : FrameIn) (r : Rect) : List Contrib :=
  let all := { fi with panes := fi.panes.map (fun p => { p with guarded := true }) }
  let cells := frameCells s h all r
  (fi.panes.filter (fun p => p.source < 192)).filterMap (fun p =>
    (paneContrib s all cells { p with guarded := true }).map (fun k => { k with pane := p }))

/-- The capture times that an encoded row's contributing source tiles carry, each with its U_TOTAL. -/
def rowCaptures (s : State) (h : Nat) (fi : FrameIn) (l : List Contrib) : List (Nat × Option Nat) :=
  l.flatMap (fun k => match paneSlot s k.pane with
    | some x => k.tiles.map (fun q => (x.rowCapture q.1, uTotal s.grid (s.head h).timing fi.uWall x.hdr))
    | none => [])

/-- The larger of two uncertainties. -/
def uMax (a b : Option Nat) : Option Nat :=
  match a, b with
  | some x, some y => some (max x y)
  | _, _ => none

/-- Whether a pane of an internal source contributes to a rectangle of a head frame (R292): at a pixel where it is visible with an
effective alpha above 0. -/
def internalShows (s : State) (h : Nat) (fi : FrameIn) (r : Rect) (p : PaneIn) : Bool :=
  192 ≤ p.source && (frameCells s h fi r).any (fun q => q.panes.any (fun v => v.pane == p.pane)
    && q.rect.pixels.any (fun a => effAlpha p (panePx s (s.head h).frameCnt (overlayText s h fi) p a.1 a.2) != 0))

/-- What the receiver holds in a row coded from the frame under way (R289, R293). -/
def contentOf (s : State) (h : Nat) (fi : FrameIn) (x row cnt : Nat) : ContentRow :=
  let r := encRowRect s x row
  let l := openContribs s h fi r
  let caps := rowCaptures s h fi l
  let dep := (departure s.grid (s.head h).timing fi.tick fi.second (pixelOffset (s.head h).timing r.x0 r.y0)).floor
  let unguard := l.any (fun k => !k.pane.guarded) || fi.panes.any (internalShows s h fi r)
  match caps with
  | [] => ⟨cnt, dep, true, some 0, .live, unguard⟩
  | c :: q =>
    let t := q.foldl (fun a v => min a v.1) c.1
    ⟨cnt, t, false, ((c :: q).filter (fun v => v.1 == t)).foldl (fun a v => uMax a v.2) (some 0), .live, unguard⟩

/-! ## The encoder's input (R12, R282, R284) -/

/-- A head FIFO word as 10-bit R, G and B: a picture pixel's own, a mark's verdict colour by bit replication (R209, R284). -/
def wordRgb (w : BitVec 32) : Nat × Nat × Nat :=
  let v := w.toNat
  if bit v 30 then (markComp 10 (bits v 23 16), markComp 10 (bits v 15 8), markComp 10 (bits v 7 0)) else (bits v 29 20, bits v 19 10, bits v 9 0)

/-- The Sluice output of a pixel of the frame under way on a head, before the colour pipeline (R12); black where no line of it was composed. -/
def sluiceRgb (d : Head) (x y : Nat) : Nat × Nat × Nat :=
  match d.lines.find? (fun l => l.1 == y) with
  | some l => wordRgb (nth 0 l.2 x)
  | none => (0, 0, 0)

/-- The rounded mean of four values. -/
def mean4 (a b c d : Nat) : Nat := (a + b + c + d + 2) / 4

/-- An encoded pixel before its conversion (R282): the head pixel, or at ENC_SCALE ½ the rounded mean of the four that it covers. -/
def encRgb (c : Cfg) (d : Head) (x px py : Nat) : Nat × Nat × Nat :=
  let (l, t, _, _) := encArea c x
  if pv c pEncScale x = 500 then
    let q := fun (i j : Nat) => sluiceRgb d (l + 2 * px + i) (t + 2 * py + j)
    (mean4 (q 0 0).1 (q 1 0).1 (q 0 1).1 (q 1 1).1, mean4 (q 0 0).2.1 (q 1 0).2.1 (q 0 1).2.1 (q 1 1).2.1,
      mean4 (q 0 0).2.2 (q 1 0).2.2 (q 0 1).2.2 (q 1 1).2.2)
  else sluiceRgb d (l + px) (t + py)

/-- The matrix coefficients of R and B by ENC_CSC, in 1/10000: BT601, BT709, BT2020. -/
def encKrKb (csc : Nat) : Nat × Nat := if csc = 0 then (2990, 1140) else if csc = 2 then (2627, 593) else (2126, 722)

/-- An 8-bit component at limited range (R284): an exact fraction above 16 or 128, rounded one way or the other (log entry 135). -/
def encComp (base : Int) (num : Int) (den : Nat) : Nat :=
  let v := num / (den : Int)
  natOf (clampInt 0 255 (base + v + (if num % (den : Int) != 0 && Config.encUp num den then 1 else 0)))

/-- Y, Cb and Cr of an RGB pixel at limited range (R284). -/
def encYcc (csc : Nat) (q : Nat × Nat × Nat) : Nat × Nat × Nat :=
  let (kr, kb) := encKrKb csc
  let r : Int := q.1
  let g : Int := q.2.1
  let b : Int := q.2.2
  let y : Int := kr * r + (10000 - kr - kb : Nat) * g + kb * b
  (encComp 16 (219 * y) (10000 * 1023), encComp 128 (224 * (10000 * b - y)) (2 * (10000 - kb) * 1023),
    encComp 128 (224 * (10000 * r - y)) (2 * (10000 - kr) * 1023))

/-- The samples of an encoded tile row (R282, R284): 8-bit YCbCr 4:2:0, chroma the rounded mean of each 2 × 2 block. -/
def encRowInput (s : State) (x h row : Nat) : Planes :=
  let (w, ht) := encSize s.cfg x
  let n := min 64 (ht - 64 * row)
  let at' := fun (px py : Nat) => encYcc (pv s.cfg pEncCsc x) (encRgb s.cfg (s.head h) x px (64 * row + py))
  let chroma := fun (f : Nat × Nat × Nat → Nat) => (List.range (n / 2)).flatMap (fun j => (List.range (w / 2)).map (fun i =>
    mean4 (f (at' (2 * i) (2 * j))) (f (at' (2 * i + 1) (2 * j))) (f (at' (2 * i) (2 * j + 1))) (f (at' (2 * i + 1) (2 * j + 1)))))
  { w := w, h := n, luma := (List.range n).flatMap (fun j => (List.range w).map (fun i => (at' i j).1)), cb := chroma (fun v => v.2.1),
    cr := chroma (fun v => v.2.2) }

/-! ## Rows (R288, R290) -/

/-- The picture that a session starts with its first row. -/
def startPicture (s : State) (x h : Nat) (fi : FrameIn) (e : Session) : Session :=
  let d := s.head h
  let (l, t, _, _) := encArea s.cfg x
  let dep := (departure s.grid d.timing fi.tick fi.second (pixelOffset d.timing l t)).floor
  let lvl := raiseLevel s x e.level
  let period := pv s.cfg pEncIdrPeriod x
  let idr := e.first || e.idrDue != 0 || (period != 0 && period ≤ e.sinceIdr)
  { e with
    level := lvl
    cur := some ⟨d.frameCnt, dep, fi.uWall, idr, !idr && decide (lvl ≤ 0), [], 0, 0, frameTarget s x lvl, 0, [], [], 0, 0, [], false, false⟩ }

/-- What the next row of the picture under way may take (R287): its target, with what the row before has left of its own. -/
def rowGoal (s : State) (x : Nat) (e : Session) (c : EncFrame) (row : Nat) : Int :=
  c.spare + rowTarget (if c.idr then e.lastIdr else e.lastP) (encRows s.cfg x) row c.target

/-- The QP at which the next row is coded. -/
def pickQp (s : State) (x : Nat) (r : RowCoded) (e : Session) (c : EncFrame) : Nat :=
  rowQp (pv s.cfg pEncQpMin x) (pv s.cfg pEncQpMax x) (rowGoal s x e c r.row) r

/-- A row of the picture under way: dry where it may not be coded (R288) or data of the lane were lost (R313), otherwise normal; an IDR has no dry
row (R290). -/
def addRow (s : State) (x h : Nat) (fi : FrameIn) (r : RowCoded) (e : Session) (c : EncFrame) : Session :=
  let rows := encRows s.cfg x
  let qp := pickQp s x r e c
  let normal := rowSize r qp
  let dry := !c.idr && (c.allDry || c.lost || c.rows.any (fun q => q.2) || decide (rowCap e.level c rows r.row < normal))
  let bits := if dry then r.dryBits else normal
  let now := contentOf s h fi x r.row c.frameCnt
  { e with
    content := if dry then e.content else tset r.row now e.content
    cnt := if dry then { e.cnt with dryRows := (e.cnt.dryRows + 1) % 2 ^ 32 } else e.cnt
    cur := some { c with
      net := c.net || !now.noCapture
      input := tset r.row (encRowInput s x h r.row) c.input
      rows := c.rows ++ [(r.row, dry)], bits := c.bits + bits, bits51 := c.bits51 + rowSize r 51, rowBits := tset r.row bits c.rowBits
      rowBits51 := tset r.row (rowSize r 51) c.rowBits51, spare := max 0 (rowGoal s x e c r.row - normal)
      qpSum := if dry then c.qpSum else c.qpSum + qp, qpRows := if dry then c.qpRows else c.qpRows + 1 } }

/-- The parameter sets that go before an IDR (R284, R285), with the matrix, the range and the primaries in their VUI. -/
def startSets (x : Nat) (idr : Bool) (s : State) : State :=
  if idr then emit (.encSets x (pv s.cfg pEncCodec x) (pv s.cfg pEncCsc x) false (encSize s.cfg x)) s else s

/-- ENC_ROW_CODED (R288): the next row of the picture that a session takes of the frame under way on its head. A picture whose head frame
was cut short gives way to the next. -/
def execEncRowCoded (x : Fin 16) (r : RowCoded) (t : Time64) (s : State) : Host.Outcome State Fault Refusal :=
  act (fun s =>
    let e := s.session x
    let h := pv s.cfg pEncHead x
    let d := s.head h
    match d.frame with
    | none => s
    | some fi =>
      let cut := e.cur.any (fun c => c.frameCnt != d.frameCnt && c.rows.length < encRows s.cfg x)
      if !e.running || (e.stopping && e.cur.isNone) || d.allDark || !d.inFrame || d.frameCnt % cadence s x != 0 || encRows s.cfg x ≤ r.row then s
      else
        let s1 := atTime t s
        match if cut then none else e.cur with
        | none => if r.row != 0 then s else
            let e1 := startPicture s1 x h fi e
            match e1.cur with
            | some c => startSets x c.idr (s1.setSession x (addRow s1 x h fi r e1 c))
            | none => s1
        | some c => if c.frameCnt != d.frameCnt || c.rows.length != r.row then s else s1.setSession x (addRow s1 x h fi r e c)) s

/-! ## The frame record (R291 to R293) -/

/-- Big-endian bytes of an uncertainty, 0xFFFFFFFF for an unbounded one or one that does not fit. -/
def uBytes (u : Option Nat) : Bytes := be 4 (match u with | some v => min 0xFFFFFFFF v | none => 0xFFFFFFFF)

/-- U_REC of a record (R293). -/
def recordU (uWall : Nat) (rows : List ContentRow) : Option Nat :=
  if uWall = 0xFFFFFFFF then none
  else uAdd (rows.foldl (fun a r => if r.noCapture then a else uMax a r.u) (some 0)) uWall

/-- A frame record (R292) over its rows, each with whether it is dry. -/
def recordBytes (s : State) (c : EncFrame) (rows : List (ContentRow × Bool)) : Bytes :=
  let base := match rows with
    | [] => 0
    | q :: l => l.foldl (fun a v => min a v.1.capT) q.1.capT
  let flags := packFields [(0, 1, b2n s.seatB), (1, 1, b2n s.hot), (2, 1, b2n (rows.any (fun q => q.2))),
    (3, 1, b2n (s.time.state != .freeRun)), (4, 2, s.time.state.code)]
  let row := fun (q : ContentRow × Bool) =>
    le 1 (packFields [(0, 3, q.1.verdict.code), (3, 1, b2n q.2), (4, 1, b2n q.1.unguard), (5, 1, b2n q.1.noCapture)])
      ++ be 4 (min 0xFFFFFFFF (q.1.capT - base))
  let b := [0x52, 0x46, 0x52, 0x4D] ++ le 1 1 ++ le 1 flags ++ le 1 rows.length ++ le 1 (domNumber s.cfg s.time.servoDom)
    ++ be 8 ((s.est s.time.servoDom).selected.getD 0) ++ be 4 c.frameCnt ++ uBytes (recordU c.uWall (rows.map Prod.fst)) ++ be 8 c.depT
    ++ be 8 base ++ rows.flatMap row
  b ++ be 4 (crc32c 0 b).toNat

/-- The verdict of a row of the frame as it stands at assembly (R293). -/
def assembledVerdict (s : State) (x h row : Nat) : Verdict :=
  let d := s.head h
  worstOf ((headRows s.cfg x row).filterMap (fun r => if r < d.rows then
    some (worse (d.rowVerdict r) (term (d.episodes.any (fun e => e.row == r && e.frame == d.frameCnt)) .unverified)) else none))

/-- The rows of a record with their content, and the session's content with the verdicts sent (R289, R293). -/
def recordRows (s : State) (x h : Nat) (e : Session) (c : EncFrame) : List (ContentRow × Bool) :=
  c.rows.map (fun q =>
    let k := tget ⟨c.frameCnt, c.depT, true, some 0, .stale, false⟩ e.content q.1
    if q.2 then ({ k with verdict := worse .stale k.verdict }, true) else ({ k with verdict := assembledVerdict s x h q.1 }, false))

/-- The Vorid token of an access unit (R149, R286). -/
def encToken (counter : Nat) (restart test : Bool) : Bytes :=
  let b := le 1 1 ++ le 1 (packFields [(1, 1, b2n restart), (2, 1, b2n test)]) ++ be 4 counter ++ be 2 0
  voridUuid ++ b ++ be 2 (crc16 b).toNat

/-! ## Suppression (R296) -/

/-- Whether this seat is the primary sender (R296). -/
def primarySender (s : State) : Bool := s.twin.primaryB == s.seatB

/-- How the session's area compared in a frame (R296): none where the peer's signatures are not in. -/
def areaMatched (s : State) (x h cnt : Nat) : Option Bool :=
  let d := s.head h
  match d.sigs.find? (fun r => r.frameCnt == cnt), d.peerSigs.find? (fun r => r.frameCnt == cnt) with
  | some own, some peer =>
    some (!s.peerFaulty && ((List.range (encRows s.cfg x)).flatMap (headRows s.cfg x)).all (fun r =>
      own.rowSigs.length ≤ r || rowCompare s own peer r == 0))
  | _, _ => none

/-- Whether a session is suppressed after an assembly (R257, R296): always on a withdrawn seat, and on one that has become the primary
sender until the IDR it then codes. -/
def suppressedNow (s : State) (x h cnt : Nat) (idr : Bool) (e : Session) : Bool :=
  if s.hot && s.twin.withdrawn then true
  else if !s.hot then false
  else if primarySender s then e.suppressed && !idr
  else match areaMatched s x h cnt with
    | some false => true
    | some true => e.suppressed && !idr
    | none => e.suppressed

/-! ## Sending (R295) -/

/-- The port that a path's packets leave by (R295): the lowest-numbered one of the path whose link is up. -/
def pathPort (s : State) (path : Nat) : Option Nat :=
  (List.range 4).find? (fun p => (s.ethPort p).link && s.portOn p && pathOf s.cfg p == path)

/-- A session's endpoint on a path. -/
def encDest (c : Cfg) (x path : Nat) : AddrRec := pa c (if path = 0 then pEncDestA else pEncDestB) x

/-- The SSRC that a session sends with (R296, R297). -/
def encSsrc (s : State) (x : Nat) : Nat :=
  pv s.cfg (if (s.session x).altSsrc then pEncSsrcAlt else pEncSsrc) x

/-- An access unit's packets on one path (R295): sent from an instant on and spread over ENC_PACE_US (R291), or counted as not sent. -/
def sendPath (x path n seq : Nat) (s : State) : State :=
  if (encDest s.cfg x path).fam = 0 then s
  else match pathPort s path with
    | some p =>
      emit (.encSent x p (encDest s.cfg x path) (encSsrc s x) (pv s.cfg pEncPt x) seq n (s.session x).rtpTs s.time.now (pv s.cfg pEncPaceUs x))
        ((s.modEthPort p (fun e => { e with framesTx := (e.framesTx + n) % 2 ^ 64 })).modSession x (fun e =>
        { e with cnt := { e.cnt with packets := (e.cnt.packets + n) % 2 ^ 64 } }))
    | none => s.modSession x (fun e => { e with cnt := { e.cnt with linkDown := (e.cnt.linkDown + n) % 2 ^ 32 } })

/-- The session after its picture: the bucket, the last frame's row bits, the IDR count and the counters (R287, R290, R299). -/
def settlePicture (s : State) (x : Nat) (e : Session) (c : EncFrame) (rows : List (ContentRow × Bool)) : Session :=
  let size : Int := bucketSize s.cfg x
  let again := c.idr && decide (e.level - c.bits < -size)
  let bits := if again then c.bits51 else c.bits
  let each := if again then c.rowBits51 else c.rowBits
  let lvl := e.level - bits
  let dryAll := rows.all (fun q => q.2)
  { e with
    level := lvl, content := (c.rows.zip rows).foldl (fun t q => tset q.1.1 q.2.1 t) e.content
    lastIdr := if c.idr then each else e.lastIdr, lastP := if c.idr then e.lastP else each
    sinceIdr := if c.idr then 1 else e.sinceIdr + 1, idrDue := if c.idr then e.idrDue - 1 else e.idrDue, first := false, cur := none,
    lastCounter := if dryAll then e.lastCounter else c.frameCnt, rtpTs := c.depT * 9 / 100000 % 2 ^ 32,
    cnt := { e.cnt with
      idrs := (e.cnt.idrs + b2n c.idr) % 2 ^ 32, dryFrames := (e.cnt.dryFrames + b2n dryAll) % 2 ^ 32
      idrOverrun := (e.cnt.idrOverrun + b2n c.allDry) % 2 ^ 32, bits := (e.cnt.bits + bits) % 2 ^ 64
      levelMin := min e.cnt.levelMin lvl
      qpLast := if again then 51 else if c.qpRows = 0 then e.cnt.qpLast else (2 * c.qpSum + c.qpRows) / (2 * c.qpRows) } }

/-- Whether the record of a picture may be assembled (R291): 64 pixel clocks after the area's last pixel, in HOT once the peer's SIG frame is in or
20 µs have passed. -/
def assemblyDue (s : State) (x h : Nat) (c : EncFrame) (t : Time64) : Bool :=
  let d := s.head h
  let (l, y, w, ht) := encArea s.cfg x
  let at' := d.frameStart + clocksNs s.grid d.timing (pixelOffset d.timing (l + w - 1) (y + ht - 1) + 64)
  d.frameCnt != c.frameCnt || (at' ≤ t && (!s.hot || (areaMatched s x h c.frameCnt).isSome || at' + 20000 ≤ t))

/-- The decoded picture hash of an access unit (R285): H.265 only, the CRCs of what the decoder gets, which rest on the lossy coding and are free
values. -/
def sendHash (x : Nat) (s : State) : State :=
  if pv s.cfg pEncHash x = 1 && pv s.cfg pEncCodec x = 0 then
    let (a, s1) := freeBelow 65536 s
    let (b, s2) := freeBelow 65536 s1
    let (c, s3) := freeBelow 65536 s2
    emit (.encHash x [a, b, c]) s3
  else s

/-- The fewest packets that an access unit can take (R295): ENC_MTU is the largest IP packet, of which the headers take at least 40 bytes, and a start
code of 4 bytes of each NAL unit stays behind. -/
def leastPackets (c : Cfg) (x bits rows : Nat) : Nat := max 1 (ceilDiv (bits / 8 - 4 * (rows + 5)) (pv c pEncMtu x - 40))

/-- ENC_RECORD_ASSEMBLY (R291): the record, the token and the hash are formed, and the access unit is sent on each path unless the session is
suppressed. How many packets it takes beyond the fewest is open. -/
def execEncRecordAssembly (x : Fin 16) (t : Time64) (s : State) : Host.Outcome State Fault Refusal :=
  act (fun s =>
    let e := s.session x
    let h := pv s.cfg pEncHead x
    match e.cur with
    | none => s
    | some c =>
      if c.rows.length < encRows s.cfg x || !assemblyDue s x h c t then s
      else
        let s1 := atTime t s
        let rows := recordRows s1 x h e c
        let test := !c.net
        let e1 := settlePicture s1 x e c rows
        let sup := suppressedNow s1 x h c.frameCnt c.idr e
        let s2 := emit (.encRecord x (pv s1.cfg pEncRecordExtid x) (recordBytes s1 c rows)) <| emit (.encPicture x c.rows c.input)
          (sendHash x (if pv s1.cfg pEncToken x = 1 then emit (.encToken x (encToken e1.lastCounter e.first test)) s1 else s1))
        let (k, s3) := freeBelow 65535 s2
        let n := leastPackets s1.cfg x (natOf (e.level - e1.level)) c.rows.length + k
        let e2 := { e1 with suppressed := sup, seq := (e1.seq + n) % 65536 }
        if sup then s3.setSession x { e2 with cnt := { e2.cnt with suppressed := (e2.cnt.suppressed + 1) % 2 ^ 32 } }
        else
          sendPath x 1 n e.seq (sendPath x 0 n e.seq (s3.setSession x { e2 with cnt := { e2.cnt with frames := (e2.cnt.frames + 1) % 2 ^ 32 } }))) s

/-- A session that starts: an IDR first, and a sequence number drawn at random (R285, R295). -/
def startSession (x : Nat) (s : State) : State :=
  let (v, s1) := freeBelow 65536 s
  s1.modSession x (fun e => { sessionInit with running := true, seq := v, cnt := e.cnt, srT := s.time.now })

/-- ENC_SESSION_SAFE_POINT (R406): a session that is being disabled has sent its access unit and stops; one enabled again meanwhile
starts, with START_DONE. -/
def execEncSessionSafePoint (x : Fin 16) (t : Time64) (s : State) : Host.Outcome State Fault Refusal :=
  act (fun s =>
    let e := s.session x
    if !e.stopping || e.cur.isSome then s
    else
      let s1 := (atTime t s).setSession x { sessionInit with cnt := e.cnt }
      if !e.restart then s1
      else
        let s2 := startSession x s1
        match s2.cmd.deferred.find? (fun q => q.1 == .session x) with
        | some (_, h, _) =>
          raiseTag .startDone h.tag [(1, (x : Nat))]
            { s2 with cmd := { s2.cmd with deferred := s2.cmd.deferred.filter (fun q => q.1 != .session x) } }
        | none => raise .startDone [(1, (x : Nat))] s2) s

/-- A sender report on one path (R295): to the endpoint's port plus 1, with the NTP time of an instant and the RTP time of the same instant. -/
def sendSr (x path : Nat) (t : Time64) (s : State) : State :=
  let a := encDest s.cfg x path
  if a.fam = 0 then s
  else match pathPort s path with
    | some p =>
      emit (.rtcpSr x p { a with port := a.port + 1 } (encSsrc s x) (natOf (((t / 1000000000 : Nat) : Int) - utcOffset s + 2208988800) % 2 ^ 32)
        (t % 1000000000 * 2 ^ 32 / 1000000000) (t * 9 / 100000 % 2 ^ 32)) s
    | none => s

/-- RTCP_SR_SEND (R295): every second, from a session that sends. -/
def execRtcpSrSend (x : Fin 16) (t : Time64) (s : State) : Host.Outcome State Fault Refusal :=
  act (fun s =>
    let e := s.session x
    if !e.running || e.suppressed || t < e.srT + 1000000000 || s.twin.mode == .coldStandby then s
    else sendSr x 1 t (sendSr x 0 t ((atTime t s).setSession x { e with srT := t }))) s

end Sys2Proof.Machine
end

