-- ==== Sys2Proof/Machine/Mem.lean ====
section
/-! DEFINITION. Memory (R301 to R319): where a device address lies, what a granule read does to its requester, the scrubbers, Basin
faults, refresh and derating, power-down of the cold rank, BAR2 accesses and set-point switches. -/
namespace Sys2Proof.Machine

/-! ## Addresses (R305, R307) -/

/-- Where a device address lies: channel, segment, granule in the segment, and the byte in the granule. -/
structure Place where
  ch   : Nat
  seg  : Nat
  gi   : Nat
  byte : Nat
  deriving DecidableEq, Repr

/-- The channel and segment place of a device address (R305). -/
def placeOf (m : Mem) (a : Nat) : Place :=
  let g := Nat.log2 m.interleave
  let ch := bits a (g + 2) g
  let ch1 := if m.hashEn then ch ^^^ bits a (g + 5) (g + 3) ^^^ bits a (g + 8) (g + 6) ^^^ bits a (g + 11) (g + 9) else ch
  let l := a / 2 ^ (g + 3) * 2 ^ g + a % 2 ^ g
  ⟨ch1, l / 896, l % 896 / 16, l % 16⟩

/-- The rank, bank, row and column of a place (R305). -/
def Place.raw (p : Place) : Nat × Nat × Nat × Nat :=
  let r := p.seg * 1024 + p.gi * 16
  (bits r 30 30, bits r 14 11 ^^^ bits r 18 15, bits r 29 15, bits r 10 0)

/-- The granule address GA (R307). -/
def gaOf (ch seg gi : Nat) : Nat := ch * 2 ^ 32 + seg * 64 + gi

/-- The granule address of a place. -/
def Place.ga (p : Place) : Nat := gaOf p.ch p.seg p.gi

/-- H(GA) (R307): bits [15:0] of the CRC-32C of no data with fold word GA. -/
def granuleHash (ga : Nat) : BitVec 16 := (crc32c (BitVec.ofNat 64 ga) []).setWidth 16

/-- The check bits a granule is stored with (R307). -/
def storedCheck (ga : Nat) (data : BitVec 128) : BitVec 16 := Config.codeCheck data ^^^ granuleHash ga

/-- The tag of a segment of a class, from offset 1,008 on (R308): SEG_INDEX, CLASS, one POISON bit per granule, and TAG_CRC with the
channel as its fold word. -/
def segmentTag (ch seg cls : Nat) (poison : List Nat) : Bytes :=
  let bitmap := sumNat ((List.range 56).map (fun i => if poison.contains (gaOf ch seg i) then 2 ^ i else 0))
  let body := le 3 seg ++ le 1 cls ++ le 7 bitmap ++ zeros 1
  body ++ le 4 (crc32c (BitVec.ofNat 64 ch) body).toNat

/-- The segments of a channel (R305). -/
def segments : Nat := 2 ^ 21

/-- The device address of a channel-local offset (R305). -/
def addrOf (m : Mem) (ch l : Nat) : Nat :=
  let g := Nat.log2 m.interleave
  let hi := l / 2 ^ g * 2 ^ (g + 3)
  let ch1 := if m.hashEn then ch ^^^ bits hi (g + 5) (g + 3) ^^^ bits hi (g + 8) (g + 6) ^^^ bits hi (g + 11) (g + 9) else ch
  hi + ch1 * 2 ^ g + l % 2 ^ g

/-- The region class of a device address (R302, R308): 0 CTRL, 1 WALL in a picture pool, 2 HOST, 3 COLD in the two snapshots; none where nothing
is allocated. -/
def addrClass (s : State) (a : Nat) : Option Nat :=
  let (b, n) := hostSpan s.cfg
  if a < ctrlBytes then some 0
  else if b ≤ a && a < b + n then some 2
  else if wallTop ≤ a && a < deviceBytes then some 3
  else if (livePools s).any (fun p => p.base ≤ a && a < p.base + p.size) then some 1
  else none

/-- Whether a segment's tag, as it is read from offset 1,008 on, agrees with the allocation (R308, R310): its length, SEG_INDEX, the CLASS of the
segment's first data byte (log entry 138) and TAG_CRC. A segment that is not allocated has none to agree with. -/
def tagOk (s : State) (ch seg : Nat) (tag : Bytes) : Bool :=
  match addrClass s (addrOf s.mem ch (896 * seg)) with
  | none => true
  | some c => tag.length == 16 && fld tag 0 3 == seg && fld tag 3 1 == c && fld tag 12 4 == (crc32c (BitVec.ofNat 64 ch) (tag.take 12)).toNat

/-- A DRAM channel (R314 to R316, R321). -/
def State.chan (s : State) (i : Nat) : Chan := tget chanInit s.mem.chans i

/-- A channel passed through a function. -/
def modChan (ch : Nat) (f : Chan → Chan) (s : State) : State :=
  { s with mem := { s.mem with chans := tmod chanInit ch f s.mem.chans } }

/-- The counters of a channel passed through a function. -/
def modChanCnt (ch : Nat) (f : ChanCounters → ChanCounters) (s : State) : State := modChan ch (fun c => { c with cnt := f c.cnt }) s

/-! ## MEM_FATAL (R313) -/

/-- The control cores stop (R313): every head is DARK, heartbeats stop, and only RESET_N restarts the device. -/
def memFatal (s : State) : State :=
  if s.mem.fatal then s
  else
    let s1 := raise .memFatal [] s
    let s2 := setIrq 11 { s1 with mem := { s1.mem with fatal := true } }
    (List.range 32).foldl (fun a h => blankHead h (a.modHead h (fun d => { d with running := false }))) s2

/-! ## Granule reads (R309) -/

/-- MEM_CE at most once a second with the count since, and MEM_CE_RATE once an hour of a channel whose errors exceed the threshold
(R309, log entry 27). -/
def noteCe (ch : Nat) (s : State) : State :=
  let t := s.time.now
  let c := s.chan ch
  let fresh := c.hourT + 3600000000000 ≤ t || c.hourCe == 0
  let hour := if fresh then 1 else c.hourCe + 1
  let said := if fresh then false else c.rateSaid
  let tell : Bool := match c.ceEventT with
    | some u => u + 1000000000 ≤ t
    | none => true
  let s1 := modChan ch (fun c => { c with
    ceSince := if tell then 0 else c.ceSince + 1, ceEventT := if tell then some t else c.ceEventT
    hourT := if fresh then t else c.hourT, hourCe := hour, rateSaid := said || pv s.cfg pMemCeThreshold 0 < hour
    cnt := { c.cnt with ce := (c.cnt.ce + 1) % 2 ^ 32 } }) s
  let s2 := if tell then raise .memCe [(1, ch), (4, (c.ceSince + 1) % 2 ^ 32)] s1 else s1
  if pv s.cfg pMemCeThreshold 0 < hour && !said then raise .memCeRate [(1, ch)] s2 else s2

/-- An uncorrectable granule: POISON and MEM_UE (R309). -/
def noteUe (ch seg gi port : Nat) (s : State) : State :=
  let s1 := modChanCnt ch (fun c => { c with ue := (c.ue + 1) % 2 ^ 32 })
    { s with mem := { s.mem with poison := dedup (s.mem.poison ++ [gaOf ch seg gi]) } }
  raise .memUe [(1, ch), (4, seg), (1, gi), (1, port)] s1

/-- Whether a granule has a write queued (R312). -/
def writeQueued (s : State) (ch seg gi : Nat) : Bool :=
  (s.chan ch).writes.any (fun w => decide ((placeOf s.mem w.addr).seg = seg) && decide ((placeOf s.mem w.addr).gi = gi))

/-- A granule read with what the code found (R309), and whether its data are lost. A granule with a write queued is answered from the queue
(R312); one whose POISON bit is set is lost without a new event. A read of rank 1 wakes it (R314). -/
def readGranule (ch seg gi port : Nat) (r : ReadResult) (s : State) : Bool × State :=
  if writeQueued s ch seg gi then (false, s) else
  let s1 := modChan ch (fun c => { c with
    rank1Pd := c.rank1Pd && seg < 2 ^ 20, rank1T := if seg < 2 ^ 20 then c.rank1T else s.time.now
    cnt := { c.cnt with readBytes := (c.cnt.readBytes + 16) % 2 ^ 64 } }) s
  if s.mem.poison.contains (gaOf ch seg gi) then (true, s1)
  else
    match r with
    | .ok => (false, s1)
    | .corrected =>
      let s2 := noteCe ch s1
      (false, { s2 with mem := { s2.mem with rewrites := dedup (s2.mem.rewrites ++ [(ch, seg * 64 + gi)]) } })
    | .uncorrectable => (true, noteUe ch seg gi port s1)

/-- The QoS port of a requester, numbered in the order of R311. -/
def portOf : Requester → Fin 9
  | .scan _ _ _ _ => 0
  | .verify _ _ => 1
  | .decRef _ _ => 2
  | .decBits _ => 2
  | .encRef _ => 3
  | .bar2 => 5
  | .control _ => 6
  | .ledgerSpill _ _ => 6
  | .intraBase _ => 6
  | .other p => p

/-- Output tiles of a frame that a head composes ahead of its start are UNVERIFIED (R68, R81). -/
def preLose (h : Nat) (tiles : List Nat) (s : State) : State :=
  s.modHead h (fun d => { d with
    preLost := dedup (d.preLost ++ tiles)
    preTiles := d.preTiles.map (fun e => (e.1, if tiles.contains e.1 then
      { e.2 with verdict := worse e.2.verdict .unverified, drawn := worse e.2.drawn .unverified } else e.2)) })

/-- A source tile that a head's compose fetch lost (R309): its samples are mid-grey in the lines composed from then on, and every output tile
that it feeds is UNVERIFIED in that head frame (R68, R80): the frame under way, or the next one when that is being composed. -/
def loseSource (h src row col : Nat) (s : State) : State :=
  let d := s.head h
  match d.inFrame && d.composed < d.timing.vactive, d.frame, d.nextIn with
  | true, some fi, _ =>
    takeLost h (fedTiles s h fi src row col) (s.modHead h (fun d => { d with greySrc := dedup (d.greySrc ++ [(src, row, col)]) }))
  | false, _, fi :: _ =>
    preLose h (fedTiles s h fi src row col) (s.modHead h (fun d => { d with preGreySrc := dedup (d.preGreySrc ++ [(src, row, col)]) }))
  | _, _, _ => s

/-- What a requester does with lost data (R309). -/
def loseTo (q : Requester) (s : State) : State :=
  match q with
  | .scan h src row col => loseSource h src row col s
  | .verify h row => s.modHead h (fun d => { d with unread := dedup (d.unread ++ [row]) })
  | .decRef x us => s.modStream x (fun m => { m with lostUnits := dedup (m.lostUnits ++ us) })
  | .decBits x => s.modStream x (fun m => { m with queue := match m.queue with
      | p :: r => { p with partialAu := true } :: r
      | [] => [] })
  | .ledgerSpill src slot => ledgerFault src slot (scanning s) s
  | .intraBase x => s.modFrz x (fun f => { f with baseBad := true })
  | .encRef x => s.modSession x (fun e => { e with idrDue := max e.idrDue 1 })
  | .bar2 => s
  | .control copy => if copy then s else memFatal s
  | .other _ => s

/-! ## The channel queues (R311, R312) -/

/-- How many requests a queue holds (R312). -/
def queueMax : Nat := 64

/-- The head whose compose asks. -/
def headOf : Option Requester → Option Nat
  | some (.scan h _ _ _) => some h.val
  | _ => none

/-- The age of a request at the present time. -/
def reqAge (s : State) (w : MemReq) : Nat := s.time.now - w.arr

/-- Whether a request is past its port's target (R311). -/
def overdue (s : State) (w : MemReq) : Bool := decide (pv s.cfg pMemPortTarget w.port < reqAge s w)

/-- The urgency of a request (R311): from its age against its port's target, for SCAN at least what its head's lead asks (R211). -/
def urgencyOf (s : State) (w : MemReq) : Nat :=
  let n := pv s.cfg pMemPortTarget w.port
  let a := 100 * reqAge s w
  let own := if 90 * n ≤ a then 3 else if 75 * n ≤ a then 2 else if 50 * n ≤ a then 1 else 0
  match headOf w.q with
  | some h => max own (s.leadLevel h).urgency
  | none => own

/-- The bank of a request's granule and its row (R305). -/
def bankRow (s : State) (w : MemReq) : Nat × Nat :=
  let p := (placeOf s.mem w.addr).raw
  (p.1 * 16 + p.2.1, p.2.2.1)

/-- Whether a request hits the open row of its bank. -/
def rowHit (s : State) (c : Chan) (w : MemReq) : Bool := tfind c.openRows (bankRow s w).1 == some (bankRow s w).2

/-- The oldest of some requests; at equal age the port that R311 names first. -/
def oldestReq : List MemReq → Option MemReq
  | [] => none
  | w :: r =>
    match oldestReq r with
    | some v => if v.arr < w.arr || (v.arr == w.arr && decide (v.port < w.port)) then some v else some w
    | none => some w

/-- Whether two requests name one granule. -/
def sameGranule (a b : MemReq) : Bool := a.addr / 16 == b.addr / 16

/-- Whether a request may be served: none of its own port to its granule is before it (R312). -/
def inOrder (all : List MemReq) (w : MemReq) : Bool := !all.any (fun v => v.port == w.port && sameGranule v w && decide (v.arr < w.arr))

/-- Row hits first, then the oldest. -/
def hitsFirst (s : State) (c : Chan) (l : List MemReq) : Option MemReq :=
  match oldestReq (l.filter (rowHit s c)) with
  | some w => some w
  | none => oldestReq l

/-- The reads' turn (R312): a run of row hits ends after 16 while a request of urgency 2 waits on another row (log entry 137). -/
def nextRead (s : State) (c : Chan) (l : List MemReq) : Option MemReq :=
  let other := l.filter (fun w => !rowHit s c w)
  if 16 ≤ c.hits && other.any (fun w => 2 ≤ urgencyOf s w) then oldestReq other else hitsFirst s c l

/-- Whether every head in operation has its lead back at HEAD_WEIR_HIGH (R318). -/
def leadsBack (s : State) : Bool :=
  s.heads.all (fun e => !e.2.running || !e.2.inFrame || (match e.2.frame, s.lead e.1 with
    | some fi, some l => 1000 * fi.weirHigh ≤ l
    | _, _ => true))

/-- Whether SCAN is served before all else: after a set-point switch, until every lead is back (R318). -/
def scanLeads (s : State) : Bool := s.mem.scanFirst && !leadsBack s

/-- The order of R312 among the requests that may be served. -/
def pickRequest (s : State) (c : Chan) (writes : Nat) (all : List MemReq) : Option MemReq :=
  match oldestReq (all.filter (overdue s)) with
  | some w => some w
  | none =>
    match oldestReq (all.filter (fun w => 3 ≤ urgencyOf s w)) with
    | some w => some w
    | none =>
      let w' := all.filter (fun w => w.q.isNone)
      let r' := all.filter (fun w => w.q.isSome)
      if 48 ≤ writes || r' == [] then hitsFirst s c w' else nextRead s c r'

/-- The request that a channel serves at a command slot (R312, R318). -/
def nextRequest (s : State) (c : Chan) : Option MemReq :=
  let rs := c.reads.take queueMax
  let ws := c.writes.take queueMax
  let all := (rs ++ ws).filter (inOrder (rs ++ ws))
  match if scanLeads s then oldestReq (all.filter (fun w => w.port == 0)) else none with
  | some w => some w
  | none => pickRequest s c ws.length all

/-- A request leaves its queue as it is served: the row that is open, the run of hits, and what the counters say of it (R312, R321). -/
def serve (ch : Nat) (w : MemReq) (s : State) : State :=
  modChan ch (fun c =>
    let b := bankRow s w
    let hit := rowHit s c w
    { c with
      reads := c.reads.erase w, writes := if w.q.isNone then c.writes.erase w else c.writes
      openRows := tset b.1 b.2 c.openRows, hits := if hit then c.hits + 1 else 0
      cnt := { c.cnt with
        overdue := (c.cnt.overdue + b2n (overdue s w)) % 2 ^ 32
        writeBytes := (c.cnt.writeBytes + 16 * b2n w.q.isNone) % 2 ^ 64
        scanMax := if (headOf w.q).isSome then max c.cnt.scanMax (reqAge s w) else c.cnt.scanMax } }) s

/-- The writes that come before the next read are served. -/
def serveWrites : Nat → Nat → State → State
  | 0, _, s => s
  | n + 1, ch, s =>
    match nextRequest s (s.chan ch) with
    | some w => if w.q.isNone then serveWrites n ch (serve ch w s) else s
    | none => s

/-- Requests reach their channel. -/
def enqueueReqs (ch : Nat) (l : List MemReq) (s : State) : State :=
  let own := l.filter (fun w => w.addr < deviceBytes && (placeOf s.mem w.addr).ch == ch)
  modChan ch (fun c => { c with
    reads := c.reads ++ own.filter (fun w => w.q.isSome), writes := c.writes ++ own.filter (fun w => w.q.isNone) }) s

/-- The requests that have arrived, and with them a read that none of them announced, stand in their channel's queues. -/
def arrive (ch addr : Nat) (q : Requester) (arrived : List MemReq) (t : Time64) (s : State) : State :=
  let s0 := enqueueReqs ch arrived (atTime t s)
  let s1 := if scanLeads s0 then s0 else { s0 with mem := { s0.mem with scanFirst := false } }
  if (s1.chan ch).reads.any (fun w => w.q == some q && w.addr == addr) then s1 else enqueueReqs ch [⟨some q, portOf q, addr, t⟩] s1

/-- The channel when a read comes to its turn: what has arrived stands in the queues, and the writes before the next read are served. -/
def readTurn (ch addr : Nat) (q : Requester) (arrived : List MemReq) (t : Time64) (s : State) : State :=
  let s1 := arrive ch addr q arrived t s
  serveWrites (s1.chan ch).writes.length ch s1

/-- MEM_READ_RESULT (R309, R312): after the requests that have arrived, the read of a granule for a requester takes its turn on its channel, and
its requester takes the result. A read that no arrival has announced arrives with it. Where another read is before it, and in the outage of a
set-point switch (R318), it waits. -/
def execMemReadResult (ch : Fin 8) (addr : Nat) (r : ReadResult) (i : ReadFor) (t : Time64) (s : State) : Host.Outcome State Fault Refusal :=
  let q := i.q
  let arrived := i.arrived
  if deviceBytes ≤ addr then .fault .badAddress
  else
    act (fun s =>
      let p := placeOf s.mem addr
      if p.ch != ch || s.mem.fatal then s
      else if s.mem.outage then arrive ch addr q arrived t s
      else
        let s1 := readTurn ch addr q arrived t s
        match nextRequest s1 (s1.chan ch) with
        | some w =>
          if w.q != some q || w.addr != addr then s1
          else
            let (lost, s2) := readGranule p.ch p.seg p.gi (portOf q) r (serve ch w s1)
            if lost then loseTo q s2 else s2
        | none => s1) s

/-- CE_REWRITE (R309): a corrected granule has been rewritten. -/
def execCeRewrite (ch : Fin 8) (addr : Nat) (t : Time64) (s : State) : Host.Outcome State Fault Refusal :=
  if deviceBytes ≤ addr then .fault .badAddress
  else
    act (fun s =>
      let p := placeOf s.mem addr
      let e : Nat × Nat := (p.ch, p.seg * 64 + p.gi)
      if p.ch != ch || !s.mem.rewrites.contains e then s
      else modChanCnt ch (fun c => { c with writeBytes := (c.writeBytes + 16) % 2 ^ 64 })
        { (atTime t s) with mem := { s.mem with rewrites := s.mem.rewrites.filter (fun x => x != e) } }) s

/-- SCRUB_SEGMENT (R310): the patrol scrubber checks a segment's tag and its 56 granules. A rank in power-down waits until it is
woken, and so does one in self-refresh (R318). -/
def execScrubSegment (ch : Fin 8) (seg : Nat) (tag : Bytes) (results : List ReadResult) (t : Time64) (s : State) :
    Host.Outcome State Fault Refusal :=
  if segments ≤ seg then .fault .badAddress
  else
    act (fun s =>
      let c := s.chan ch
      if s.mem.fatal || s.mem.outage || (2 ^ 20 ≤ seg && c.rank1Pd) then s
      else
        let s1 := atTime t s
        if !tagOk s1 ch seg tag then
          let s2 := modChanCnt ch (fun c => { c with addrFaults := (c.addrFaults + 1) % 2 ^ 32 }) s1
          raise .memAddrFault [(1, (ch : Nat)), (4, seg)]
            { s2 with mem := { s2.mem with poison := dedup (s2.mem.poison ++ (List.range 56).map (gaOf ch seg)) } }
        else
          ((results.take 56).zip (List.range 56)).foldl (fun a e =>
            let b := (readGranule ch seg e.2 8 e.1 a).2
            { b with mem := { b.mem with rewrites := b.mem.rewrites.filter (fun x => x != ((ch : Nat), seg * 64 + e.2)) } }) s1) s

/-! ## Basin faults (R313) -/

/-- A packet held in the Basin is lost (R313): it is discarded and counted as MALFORMED. -/
def losePacket (x ext : Nat) (s : State) : State :=
  if (s.stream x).aus.any (fun a => a.got.contains ext) then
    s.modStream x (fun m => { m with
      aus := m.aus.map (fun a => if a.got.contains ext then { a with pkts := a.pkts.filter (fun p => p.ext != ext), complete := none } else a)
      cnt := { m.cnt with spill := setNth ((nth 0 m.cnt.spill 2 + 1) % 2 ^ 64) m.cnt.spill 2 } })
  else s

/-- The partition of a lost word, in the order of R22. -/
def partitionCode : Partition → Nat
  | .headFifo => 0
  | .scalerLines => 1
  | .ledger => 2
  | .netJitter => 3
  | .decCache => 4
  | .encoder => 5
  | .firmware => 6
  | .reserve => 7

/-- The effect of an uncorrectable Basin word by its partition (R313). -/
def basinLoss : BasinWord → State → State
  | .headFifo h y x, s =>
    if (s.head h).inFrame && !(s.head h).blankNow then fillFrom h (y / 64) x y 1 s else s
  | .scalerLines h pane a b, s => greyLines h pane a b s
  | .ledger src slot, s => ledgerFault src slot (scanning s) s
  | .netJitter x ext, s => losePacket x ext s
  | .decCache x us, s => s.modStream x (fun m => { m with lostUnits := dedup (m.lostUnits ++ us) })
  | .encoder x, s => s.modSession x (fun e => { e with cur := e.cur.map (fun c => { c with lost := true }) })
  | .firmware, s => memFatal s
  | .reserve w, s => basinLoss w s
  | .violation p block, s =>
    raise .memBasinViolation [(1, partitionCode p), (1, block)] { s with mem := { s.mem with violations := s.mem.violations + 1 } }

/-- BASIN_SCRUB (R313): a word is read by the scrubber; a correctable one is rewritten, which nothing shows. -/
def execBasinScrub (w : BasinWord) (r : ReadResult) (t : Time64) (s : State) : Host.Outcome State Fault Refusal :=
  act (fun s =>
    if s.mem.fatal then s
    else
      match r with
      | .uncorrectable => basinLoss w (atTime t s)
      | .corrected => atTime t s
      | .ok => atTime t s) s

/-- BASIN_UE (R313): an uncorrectable word met by its owner, or a write outside the owner's partition, which is dropped. -/
def execBasinUe (w : BasinWord) (t : Time64) (s : State) : Host.Outcome State Fault Refusal :=
  act (fun s => if s.mem.fatal then s else basinLoss w (atTime t s)) s

/-! ## Refresh and derating (R315, R316) -/

/-- The cap on owed refreshes at a rate. -/
def refreshCap (rate : Nat) : Nat := if rate = 0 then 8 else if rate = 1 then 4 else 2

/-- All-bank refreshes issued ahead of every request. -/
def forceRefresh (ch n : Nat) (s : State) : State :=
  if n = 0 then s
  else emit (.forcedRefresh ch n) (modChan ch (fun c => { c with
      openRows := [], hits := 0, cnt := { c.cnt with forcedRef := (c.cnt.forcedRef + n) % 2 ^ 32 } }) s)

/-- Whether a channel holds a request of urgency 2 or more (R315). -/
def urgentWaits (s : State) (ch : Nat) : Bool := ((s.chan ch).reads ++ (s.chan ch).writes).any (fun w => 2 ≤ urgencyOf s w)

/-- Whether a channel holds a SCAN request. -/
def scanWaits (s : State) (ch : Nat) : Bool := ((s.chan ch).reads ++ (s.chan ch).writes).any (fun w => w.port == 0)

/-- The time between two refreshes that are due, at a rate (R315). -/
def refreshPeriod (rate : Nat) : Nat := if rate = 0 then 3906 else if rate = 1 then 1953 else 977

/-- REFRESH_DUE (R315): the next refresh of a channel is due. It is postponed while urgent requests wait, or forced at the cap; otherwise the owed
ones are repaid, and this one is issued too unless SCAN requests wait. In self-refresh none is due (R318). -/
def execRefreshDue (ch : Fin 8) (scanUrgent : Bool) (t : Time64) (s : State) : Host.Outcome State Fault Refusal :=
  act (fun s =>
    if s.mem.outage || t < (s.chan ch).refT + refreshPeriod (s.chan ch).rate then s
    else
      let s1 := modChan ch (fun c => { c with refT := t }) (atTime t s)
      if scanUrgent || urgentWaits s1 ch then
        if (s.chan ch).owed < refreshCap (s.chan ch).rate then modChan ch (fun c => { c with owed := c.owed + 1 }) s1
        else forceRefresh ch 1 s1
      else if scanWaits s1 ch then modChan ch (fun c => { c with owed := 1 }) s1
      else serveWrites (s.chan ch).writes.length ch (modChan ch (fun c => { c with owed := 0 }) s1)) s

/-- A derating rate takes effect on a channel (R316). -/
def takeRate (ch rate : Nat) (s : State) : State :=
  let c := s.chan ch
  if rate = c.rate then s
  else
    let n := c.owed - refreshCap rate
    let s1 := modChan ch (fun c => { c with rate := rate, owed := c.owed - n }) s
    let s2 := raise .memDerate [(1, ch), (1, rate)] (forceRefresh ch n s1)
    if c.rate = 0 && rate = 2 then raise .memDerateJump [(1, ch)] s2 else s2

/-- MR4_READ (R315, R316): the derating that a channel reports, every millisecond. A reading during a set-point switch is acted on at
self-refresh exit. -/
def execMr4Read (ch : Fin 8) (rate : Nat) (t : Time64) (s : State) : Host.Outcome State Fault Refusal :=
  act (fun s =>
    let r := min rate 2
    if t < (s.chan ch).mr4T + 1000000 then s
    else
      let s1 := modChan ch (fun c => { c with mr4T := t }) (atTime t s)
      if s.mem.outage then modChan ch (fun c => { c with mr4Held := some r }) s1 else takeRate ch r s1) s

/-! ## The cold rank (R314) -/

/-- Whether rank 1 holds only COLD segments: the host region and the picture pools lie below 7 GiB (R302, R305, R314). -/
def coldRank (s : State) : Bool :=
  let (b, n) := hostSpan s.cfg
  decide (b + n ≤ 7 * 2 ^ 30) && (livePools s).all (fun p => decide (p.base + p.size ≤ 7 * 2 ^ 30))

/-- COLD_RANK_IDLE (R314): rank 1 has had no request for MEM_COLD_IDLE and enters power-down where it holds only COLD regions. -/
def execColdRankIdle (ch : Fin 8) (t : Time64) (s : State) : Host.Outcome State Fault Refusal :=
  act (fun s =>
    if coldRank s && !s.mem.fatal && decide ((s.chan ch).rank1T + 1000000 * pv s.cfg pMemColdIdle 0 ≤ t) then
      modChan ch (fun c => { c with rank1Pd := true }) (atTime t s)
    else s) s

/-- RANK_WAKE (R314): a request wakes a rank in power-down. -/
def execRankWake (ch : Fin 8) (t : Time64) (s : State) : Host.Outcome State Fault Refusal :=
  act (fun s => modChan ch (fun c => { c with rank1Pd := false }) (atTime t s)) s

/-! ## BAR2 (R303, R304) -/

/-- The size of the aperture. -/
def apertureBytes : Nat := 2 ^ 28

/-- The device address of an offset in the aperture. -/
def bar2Addr (s : State) (off : Nat) : Nat := hostBase s.cfg + s.cmd.bar2Base.toNat * 2 ^ 20 + off

/-- The aligned granules that an access touches. -/
def granulesOf (addr len : Nat) : List Nat := if len = 0 then [] else (countFrom (addr / 16) ((addr + len - 1) / 16 + 1 - addr / 16)).map (fun k => 16 * k)

/-- BAR2_WRITE (R303, R304): the writes join their channels' queues, from which reads are answered (R312), so that the bytes stand in DRAM for
every reader; a granule that is written whole is no longer POISON, and one that waits to be rewritten need not be any more (R309). In the outage of a
set-point switch, when nothing reads DRAM, a write that the spec holds is taken at once (log entry 153). -/
def execBar2Write (offset : Nat) (data : Bytes) (s : State) : Host.Outcome State Fault Refusal :=
  if apertureBytes < offset + data.length then .fault .badAddress
  else
    actMem (fun s =>
      if !s.cmd.ready || !s.powered || s.power.perst || s.mem.fatal then s
      else
        let a := bar2Addr s offset
        let all := granulesOf a data.length
        let clean := (all.filter (fun g => a ≤ g && g + 16 ≤ a + data.length)).map (fun g => (placeOf s.mem g).ga)
        let s1 := all.foldl (fun b g => modChan (placeOf b.mem g).ch (fun c => { c with
          rank1Pd := c.rank1Pd && (placeOf b.mem g).seg < 2 ^ 20, rank1T := if (placeOf b.mem g).seg < 2 ^ 20 then c.rank1T else s.time.now
          writes := c.writes ++ [⟨none, 5, g, s.time.now⟩]
          cnt := { c.cnt with
            readBytes := (c.cnt.readBytes + if a ≤ g && g + 16 ≤ a + data.length then 0 else 16) % 2 ^ 64 } }) b) s
        let met := all.map (fun g => ((placeOf s.mem g).ch, (placeOf s.mem g).seg * 64 + (placeOf s.mem g).gi))
        { s1 with
          mem := { s1.mem with
            poison := s1.mem.poison.filter (fun g => !clean.contains g), rewrites := s1.mem.rewrites.filter (fun e => !met.contains e) }
          dram := dramWrite a data s1.dram }) s

/-- The granules of a BAR2 read with what the code found of each; whether any is lost. -/
def readAll : List Nat → List ReadResult → State → Bool × State
  | [], _, s => (false, s)
  | g :: gs, rs, s =>
    let p := placeOf s.mem g
    let (lost, s1) := readGranule p.ch p.seg p.gi 5 (rs.head?.getD .ok) s
    let (more, s2) := readAll gs rs.tail s1
    (lost || more, s2)

/-- A BAR2 read is carried out. -/
def doRead (q : HeldRead) (s : State) : State :=
  let a := bar2Addr s q.offset
  let (lost, s1) := readAll (granulesOf a q.len) q.granules s
  if lost then emit .completerAbort s1 else emit (.bar2Data (dramRead s1.dram a q.len)) s1

/-- BAR2_READ (R304): the data after correction, or a completer abort where a granule is uncorrectable. In the outage of a set-point switch it is
held (R318). -/
def execBar2Read (offset len : Nat) (granules : List ReadResult) (s : State) : Host.Outcome State Fault Refusal :=
  if apertureBytes < offset + len then .fault .badAddress
  else
    act (fun s =>
      if !s.cmd.ready || !s.powered || s.power.perst || s.mem.fatal then s
      else if s.mem.outage then { s with mem := { s.mem with held := s.mem.held ++ [⟨offset, len, granules⟩] } }
      else doRead ⟨offset, len, granules⟩ s) s

/-- The BAR2 reads held in an outage are carried out in their order (R318). -/
def releaseReads (s : State) : State :=
  s.mem.held.foldl (fun a q => doRead q a) { s with mem := { s.mem with held := [] } }

/-! ## Set-point switches (R317 to R319) -/

/-- The next switch, where one waits, runs at the first tick whose window is free (R319). -/
def nextSwitch (s : State) : State :=
  match s.mem.queued with
  | [] => { s with mem := { s.mem with switch := none } }
  | w :: r => { s with mem := { s.mem with switch := some { w with tick := s.time.tick + 1 }, queued := r } }

/-- The reply of a command whose switch has ended. -/
def answerSwitch (w : Switch) (st : Status) (s : State) : State :=
  match w.hdr with
  | some (h, c) =>
    let (st', a) := if st = .ok then doneStatus s.cfg c else (st, 0)
    answer h (opcodeOf c) w.tick st' (movedBit h w.tick + a) [] s
  | none => s

/-- A switch has failed (R319): the set point and profile before it stay in force. -/
def failSwitch (w : Switch) (code : Nat) (ev : Ev) (s : State) : State :=
  let s1 := raiseAt s.time.now ev w.tag [(1, w.target)] s
  let s2 := if w.forced then s1 else { s1 with cfg := { s1.cfg with profile := w.back.1, fsp := w.back.2 } }
  nextSwitch (answerSwitch w (.fail code) s2)

/-- A failed check (R319): the switch is retried at a later tick, with 8 failed ticks at most for a command and without limit for a forced
switch. -/
def retrySwitch (w : Switch) (next : Nat) (s : State) : State :=
  if !w.forced && 8 ≤ w.fails + 1 then failSwitch w 5 .memSetpointRetry s
  else raise .memSetpointRetry [(1, w.target)] { s with mem := { s.mem with switch := some { w with fails := w.fails + 1, tick := next } } }

/-- The check at −10 µs (R318): every head in operation has a lead of at least 190 µs, and every queue is empty. -/
def switchReady (s : State) : Bool :=
  s.heads.all (fun e => !e.2.running || !e.2.inFrame || (s.lead e.1).all (fun l => 190000 ≤ l))
  && (List.range 8).all (fun ch => (s.chan ch).reads.isEmpty && (s.chan ch).writes.isEmpty)

/-- SETPOINT_SWITCH (R318, R319): the window of an armed switch: the owed refreshes are issued, and the check is made. After a failed check it is retried in the next tick; a target that does not
lock returns to the set point before. A trip ends it (R441). -/
def execSetpointSwitch (ready : Bool) (outageUs : Nat) (lock : Bool) (t : Time64) (s : State) : Host.Outcome State Fault Refusal :=
  act (fun s =>
    match s.mem.switch with
    | none => s
    | some w =>
      if s.mem.outage || s.mem.fatal || !s.powered || t + 10000 < switchStart s w.tick then s
      else
        let s1 := atTime t s
        let s2 := (List.range 8).foldl (fun a ch => modChan ch (fun c => { c with owed := 0 }) a) s1
        if !ready || !switchReady s2 then retrySwitch w (w.tick + 1) s2
        else
          if lock then { s2 with mem := { s2.mem with outage := true, outageUs := outageUs } }
          else failSwitch w 6 .memSetpointFail s2) s

/-- MEM_SETPOINT_DONE (R318): the switch is complete; held BAR2 reads are carried out, held MR4 readings are acted on, and the command is
answered. -/
def execMemSetpointDone (t : Time64) (s : State) : Host.Outcome State Fault Refusal :=
  act (fun s =>
    match s.mem.switch with
    | none => s
    | some w =>
      if !s.mem.outage || !s.powered then s
      else
        let us := s.mem.outageUs
        let s1 := { (atTime t s) with mem := { s.mem with outage := false, fsp := w.target, scanFirst := true } }
        let s2 := (List.range 8).foldl (fun a ch =>
          let held := (a.chan ch).mr4Held
          let b := modChan ch (fun c => { c with mr4Held := none, cnt := { c.cnt with
            switches := (c.cnt.switches + 1) % 2 ^ 32, switchMax := max c.cnt.switchMax (1000 * us) } }) a
          match held with
          | some r => takeRate ch r b
          | none => b) (releaseReads s1)
        nextSwitch (answerSwitch w .ok (raiseAt t .memSetpointDone w.tag [(4, 1000 * us)] s2))) s

end Sys2Proof.Machine
end

