-- ==== Sys2Proof/Machine/Thermal.lean ====
section
/-! DEFINITION. Thermal management (R396, R407 to R413): the die sensors, the junction temperature, the levels and what they do at a
decision point (R411), the trip, and the core voltage's read-back. -/
namespace Sys2Proof.Machine

/-- A die sensor. -/
def State.sensor (s : State) (i : Nat) : Sensor := tget sensorInit s.power.sensors i

/-- The neighbours of a sensor in the 4 by 4 grid (R407). -/
def sensorNbrs (i : Nat) : List Nat :=
  (if 4 ≤ i then [i - 4] else []) ++ (if i < 12 then [i + 4] else []) ++ (if i % 4 != 0 then [i - 1] else [])
  ++ (if i % 4 != 3 then [i + 1] else [])

/-- The readings of those of some sensors that are not faulty. -/
def goodReadings (t : Table Sensor) (l : List Nat) : List Int :=
  (l.filter (fun j => !(tget sensorInit t j).faulty)).map (fun j => (tget sensorInit t j).reading)

/-- The largest of some readings. -/
def maxInt : List Int → Option Int
  | [] => none
  | x :: r => some (r.foldl max x)

/-- A sensor's comparison with the median of its good neighbours (R408): more than 10 °C apart in four samples is faulty. -/
def judgeSensor (t : Table Sensor) (i : Nat) : Sensor :=
  let x := tget sensorInit t i
  match goodReadings t (sensorNbrs i) with
  | [] => { x with badRun := 0 }
  | l =>
    let d := 2 * x.reading - median2Int l
    if d < -320 || 320 < d then { x with badRun := x.badRun + 1, faulty := x.faulty || 4 ≤ x.badRun + 1 } else { x with badRun := 0 }

/-- The reading of a sensor's region (R408): that of the sensor, or where it is faulty the largest of its good neighbours, else of all
good sensors, plus 5 °C. With no good sensor at all the region reads at the trip level. -/
def regionReading (t : Table Sensor) (i : Nat) : Int :=
  let x := tget sensorInit t i
  if !x.faulty then x.reading
  else
    match maxInt (goodReadings t (sensorNbrs i)) with
    | some v => v + 80
    | none => match maxInt (goodReadings t (List.range 16)) with
      | some v => v + 80
      | none => 2000

/-- The thresholds of an ordering code in sixteenths of a degree (R1, R410): warning and throttle. -/
def thresholds (variantE : Bool) : Int × Int := if variantE then (1680, 1792) else (1520, 1632)

/-- The level by the thresholds and their hysteresis of 5 °C (R410). -/
def levelBy (variantE : Bool) (old : ThermalLevel) (tj : Int) : ThermalLevel :=
  let (w, h) := thresholds variantE
  if h ≤ tj || (old = .throttle && h - 80 ≤ tj) then .throttle
  else if w ≤ tj || (old != .normal && w - 80 ≤ tj) then .warning
  else .normal

/-- What holds the level at throttle or above (R408, R409): five faulty sensors, or a channel above 105 °C. -/
def heldThrottle (s : State) (t : Table Sensor) : Bool :=
  5 ≤ (t.filter (fun e => e.2.faulty)).length || s.mem.chans.any (fun e => e.2.rate == 2)

/-- The trip (R413): every head goes DARK, the LIVE pins go low, THERMTRIP_N is asserted, and every unit stops. -/
def tripDevice (s : State) : State :=
  let s1 := emit (.thermtrip true) { s with power := { s.power with thermtrip := true, phase := .tripped } }
  (List.range 32).foldl (fun a h => blankHead h (a.modHead h (fun d => { d with running := false }))) s1

/-- THERMAL_SAMPLE (R407 to R410, R413): one sample of the sixteen sensors. -/
def execThermalSample (readings : List Int) (t : Time64) (s : State) : Host.Outcome State Fault Refusal :=
  act (fun s =>
    match s.power.phase with
    | .supplyLost => s
    | _ =>
      let s1 := atTime t s
      let raw := (List.range 16).map (fun i => (i, { s.sensor i with reading := nth 0 readings i }))
      let ss := raw.map (fun e => (e.1, judgeSensor raw e.1))
      let regions := (List.range 16).map (regionReading ss)
      let tj := (maxInt regions).getD 0
      let hot := ((findPos (fun v => v == tj) 0 regions).map Prod.fst).getD 0
      let lvl := if heldThrottle s ss then .throttle else levelBy s.power.variantE s.power.decided tj
      let run := if 2000 ≤ tj then s.power.tripRun + 1 else 0
      let since := if lvl = .throttle && s.power.decided != .throttle then s1.time.now else s.power.throttleT
      let s2 := { s1 with power := { s1.power with
        sensors := ss, tj := tj, hottest := hot, decided := lvl, throttleT := since, tripRun := run } }
      let new := (List.range 16).filter (fun i => (tget sensorInit ss i).faulty && !(s.sensor i).faulty)
      if !s.powered then s2
      else
        let s3 := new.foldl (fun a i => raise .thermalSensorFault [(1, i)] a) s2
        if 2 ≤ run then tripDevice s3 else s3) s

/-- THERMAL_LEVEL with the level, Tj and the region (R410), or 0xFF for the cause VDD_CORE (R396, log entry 28). -/
def raiseLevelEvent (level : ThermalLevel) (region : Nat) (s : State) : State :=
  raise .thermalLevel [(1, level.code), (2, twos 16 s.power.tj), (1, region)]
    { s with power := { s.power with levelT := s.time.now } }

/-- THERMAL_LEVEL_REPEAT (R412): every 10 s while Tj is above the operating range. -/
def execThermalLevelRepeat (t : Time64) (s : State) : Host.Outcome State Fault Refusal :=
  act (fun s =>
    let top : Int := if s.power.variantE then 1840 else 1680
    if !s.powered || s.power.tj ≤ top || s.power.level != .throttle || t < s.power.levelT + 10000000000 then s
    else raiseLevelEvent s.power.level s.power.hottest (atTime t s)) s

/-- AVS_READBACK (R396): a voltage outside ±2.5 % of V_AVS in four consecutive readings. -/
def execAvsReadback (mv : Nat) (t : Time64) (s : State) : Host.Outcome State Fault Refusal :=
  act (fun s =>
    if !s.powered then s
    else
      let v := s.power.vAvs
      let bad := 40 * mv < 39 * v || 41 * v < 40 * mv
      let n := if bad then s.power.avsBad + 1 else 0
      let s1 := { (atTime t s) with power := { s.power with avsBad := n, avsFail := s.power.avsFail || 4 ≤ n } }
      if n = 4 then raiseLevelEvent s.power.level 0xFF s1 else s1) s

/-! ## The levels at a decision point (R411) -/

/-- A switch of the set point is armed for a tick, behind one that is under way (R317, R319). -/
def armSwitch (w : Switch) (s : State) : State :=
  match s.mem.switch with
  | none => { s with mem := { s.mem with switch := some w } }
  | some _ => { s with mem := { s.mem with queued := s.mem.queued ++ [w] } }

/-- The set point that will be in force when the switches under way are done. -/
def fspComing (s : State) : Nat :=
  match s.mem.queued.getLast? with
  | some w => w.target
  | none => match s.mem.switch with
    | some w => w.target
    | none => s.mem.fsp

/-- The set point of a profile (R20, R390). -/
def fspOf (p : Profile) (f : Nat) : Nat := if p = .endurance then f else 0

/-- The throttle level forces ENDURANCE (R21): the profile changes without a budget check, and the DRAM switches to FSP[1] at the first
tick whose decision point lies at least 1 ms after the throttle decision, the one under way where that is so (R317). In HOT that decision is the
decision point at which the pair's level takes effect (R438). -/
def forceEndurance (n : Nat) (s : State) : State :=
  if s.power.forced then s
  else
    let old := s.cfg.profile
    let s1 := { s with
      power := { s.power with forced := true, hostProfile := (s.cfg.profile, s.cfg.fsp) }
      cfg := { s.cfg with profile := .endurance, fsp := 1 } }
    let s2 := if old = .endurance then s1 else raise .profileChange [(1, old.code), (1, Profile.endurance.code)] s1
    if fspComing s2 = 1 then s2
    else armSwitch ⟨1, max n (s2.grid.firstDecision ((if s.hot then s.grid.decideT n else s.power.throttleT) + 1000000)), 0, none, none, (old, s.cfg.fsp), true⟩ s2

/-- The profile the host last selected returns at the first decision point after the throttle at which its budget check passes
(R21). -/
def returnProfile (n : Nat) (s : State) : State :=
  let (p, f) := s.power.hostProfile
  let c := { s.cfg with profile := p, fsp := f }
  if !s.power.forced || s.power.level = .throttle || (budgetCheck (s.budgetCfg c)).isSome then s
  else
    let old := s.cfg.profile
    let s1 := { s with power := { s.power with forced := false }, cfg := c }
    let s2 := if old = p then s1 else raise .profileChange [(1, old.code), (1, p.code)] s1
    if fspComing s2 = fspOf p f then s2 else armSwitch ⟨fspOf p f, n, 0, none, none, (p, f), true⟩ s2

/-- PREVIEW and PLAYBACK decode stops (R126, R411): what waits is discarded, and decoding resumes at an entry point. -/
def stopLowClasses (s : State) : State :=
  (s.streams.map Prod.fst).foldl (fun a x =>
    let m := a.stream x
    if m.cls == .preview || m.cls == .playback then
      a.setStream x { m with
        queue := m.queue.filter (fun q => q.lane.isSome), waitEntry := true
        gapNext := m.gapNext || m.queue.any (fun r => r.lane.isNone) }
    else a) s

/-- One step of the thermal level up or down, with its event and its actions (R410, R411). -/
def stepLevel (n : Nat) (lvl : ThermalLevel) (s : State) : State :=
  let s1 := setIrq 12 (raiseLevelEvent lvl s.power.hottest { s with power := { s.power with level := lvl } })
  match lvl with
  | .throttle => forceEndurance n (stopLowClasses s1)
  | _ => s1

/-- The thermal level takes effect at a decision point, every step between in order (R410). -/
def applyThermal (n : Nat) (s : State) : State :=
  let s1 := match s.power.level, levelDue s with
    | .normal, .warning => stepLevel n .warning s
    | .normal, .throttle => stepLevel n .throttle (stepLevel n .warning s)
    | .warning, .throttle => stepLevel n .throttle s
    | .warning, .normal => stepLevel n .normal s
    | .throttle, .warning => stepLevel n .warning s
    | .throttle, .normal => stepLevel n .normal (stepLevel n .warning s)
    | _, _ => s
  returnProfile n s1

end Sys2Proof.Machine
end

