-- ==== Sys2Proof/Machine/Touch.lean ====
section
/-! DEFINITION. The touch unit (R336 to R348): the scan of a measurement group, the electrodes' states and baselines, legends at
the perception instant, and the unit's safe point. -/
namespace Sys2Proof.Machine

/-- An electrode. -/
def State.electrode (s : State) (e : Nat) : Electrode := tget electrodeInit s.touch.els e

/-- The state with an electrode passed through a function. -/
def State.modElectrode (s : State) (e : Nat) (g : Electrode → Electrode) : State :=
  { s with touch := { s.touch with els := tset e (g (s.electrode e)) s.touch.els } }

/-- TOUCH_PRESSED: an electrode as it was last reported (R353). -/
def notePressed (e : Nat) (b : Bool) (s : State) : State :=
  { s with touch := { s.touch with pressed := setNth b s.touch.pressed e } }

/-- The classes of TOUCH_CLASS (R352). -/
def classOf (c : Cfg) (e : Nat) : Nat := pv c pTouchClass e

/-- The electrodes of a group that have a class. -/
def groupEls (c : Cfg) (g : Nat) : List Nat := (countFrom (16 * g) 16).filter (fun e => classOf c e != 0)

/-! ## Legends at the perception instant (R347, R348) -/

/-- The legend of an electrode. -/
def legendOf (s : State) (e : Nat) : Option (Nat × Legend) := s.legends.find? (fun l => bit l.2.mask e)

/-- The head frame on a head at an instant. -/
def frameAt (d : Head) (t : Time64) : Option FrameNote := d.hist.find? (fun f => f.start ≤ t)

/-- Whether a pane's head frame had an UNVERIFIED tile row with the pane's visible pixels: as it ended, or as it stands. -/
def paneUnver (s : State) (h pane : Nat) (f : FrameNote) : Bool :=
  let d := s.head h
  f.unver.contains pane
  || (match d.frame with
    | some fi => d.frameCnt == f.cnt && f.panes.contains pane
        && (visibleTiles s h fi pane).any (fun i => d.rowVerdict (i / d.cols) == .unverified)
    | none => false)

/-- What a press reports of its legend: the flags [2:0], the generation and the head frame (R348). A generation that is no longer
retained is a free value (log entry 25). -/
def legendAt (l : Legend) (touchT : Time64) (s : State) : (Nat × Nat × Nat) × State :=
  let p := touchT - 1000000 * pv s.cfg pTouchPercept 0
  let h := paneHead s.cfg l.pane
  let f := frameAt (s.head h) p
  let on := l.changes.find? (fun x => x.1 ≤ p)
  let gone := match l.changes.getLast? with
    | some x => p < x.1
    | none => false
  let ambiguous := gone || l.changes.any (fun x => p < x.1 && x.1 ≤ touchT)
  let black := match f with
    | some x => !x.panes.contains l.pane || (match x.blackT with | some b => b ≤ p | none => false)
    | none => true
  let notShown := black || (on.isNone && !l.dropped)
  let unver := match f with
    | some x => paneUnver s h l.pane x
    | none => false
  let (gen, s1) := match on with
    | some x => (x.2, s)
    | none => if gone && l.dropped then freeBelow (2 ^ 32) s else (0, s)
  let cnt := match f with
    | some x => x.cnt
    | none => 0
  ((b2n ambiguous + 2 * b2n notShown + 4 * b2n unver, gen, cnt), s1)

/-! ## Events -/

/-- A touch event's payload (R354). -/
def touchPayload (c : Cfg) (e kind cause lflags legend gen cnt : Nat) (x : Electrode) (t : Time64) : List (Nat × Nat) :=
  [(1, e), (1, kind), (1, cause), (1, lflags + 8 * b2n (classOf c e == 2)), (2, x.count), (2, x.base / 16), (8, t), (1, legend),
    (3, 0), (4, gen), (4, cnt), (4, 0)]

/-- The legend ID of an electrode, 0xFF when none (R354). -/
def legendId (s : State) (e : Nat) : Nat := match legendOf s e with | some l => l.1 | none => 0xFF

/-- An event of an electrode other than a press, with the instant of its last measurement. -/
def raiseTouch (c : Cfg) (ev : Ev) (kind cause e : Nat) (s : State) : State :=
  let x := s.electrode e
  raise ev (touchPayload c e kind cause 0 (legendId s e) 0 0 x x.touchT) s

/-- TOUCH_PRESS with what the operator saw (R341, R348). -/
def raisePress (c : Cfg) (e : Nat) (s : State) : State :=
  let x := s.electrode e
  match legendOf s e with
  | some l =>
    let ((fl, gen, cnt), s1) := legendAt l.2 x.onT s
    notePressed e true (raise .touchPress (touchPayload c e 0 0 fl l.1 gen cnt x x.onT) s1)
  | none => notePressed e true (raise .touchPress (touchPayload c e 0 0 0 0xFF 0 0 x x.onT) s)

/-- The causes of TOUCH_RELEASE (R354): 0 LIFT, 1 RECONFIG, 2 DISABLED, 3 NO_SCAN, 4 FAULT. -/
def raiseRelease (c : Cfg) (cause e : Nat) (s : State) : State :=
  notePressed e false (raiseTouch c .touchRelease 1 cause e s)

/-! ## One electrode in one scan (R339 to R342, R344) -/

/-- The seed of an electrode from the saved record (R344), in sixteenths of a count. -/
def seedBase (s : State) (b : SavedBase) (e : Nat) : Nat :=
  natOf (((tget 0 b.bases e : Nat) : Int) + ofTwos 32 (pv s.cfg pTouchTempco 0) * (s.power.tj - b.tj) / 16)

/-- The saved record, where it is valid (R344). -/
def validSaved (s : State) : Option SavedBase :=
  match s.touch.saved with
  | some b =>
    if b.classes == (List.range 128).map (classOf s.cfg) && b.groupEn == pv s.cfg pTouchGroupEn 0
        && s.time.now ≤ b.savedT + 30 * 86400 * 1000000000 && b.tj ≤ s.power.tj + 480 && s.power.tj ≤ b.tj + 480
    then some b else none
  | none => none

/-- The delta of an electrode in whole counts (R336, R340). -/
def Electrode.delta (x : Electrode) : Int := (x.base / 16 : Nat) - (x.count : Int)

/-- An acquisition scan (R344): the first seeds the baseline, the fourth reports an electrode that reads touched. -/
def acquire (c : Cfg) (e : Nat) (s : State) : State :=
  let x := s.electrode e
  let base := match x.acq, validSaved s with
    | 0, some b => seedBase s b e
    | 0, none => 16 * x.count
    | _, _ => x.base
  let s1 := s.modElectrode e (fun x => { x with base := base, acq := x.acq + 1 })
  let y := s1.electrode e
  if y.acq = 4 && (pv c pTouchOn e : Int) ≤ y.delta then
    (raiseTouch c .touchPresentAtStart 6 0 e s1).modElectrode e (fun x => { x with base := 16 * x.count })
  else s1

/-- A scan of an electrode that is RELEASED (R340, R341). `done` is the instant of the event, the end of the slot. -/
def scanReleased (c : Cfg) (e : Nat) (t done : Time64) (s : State) : State :=
  let x := s.electrode e
  let d := x.delta
  if (pv c pTouchOn e : Int) ≤ d then
    let run := x.onRun + 1
    let s1 := s.modElectrode e (fun x => { x with onRun := run, onT := if run = 1 then t else x.onT })
    if pv c pTouchDebOn e ≤ run then
      let ns := (nbrs c e).map (fun n => (n, (s.electrode n).base))
      (raisePress c e s1).modElectrode e (fun x => { x with
        state := .pressed, onRun := 0, onT := done, offRun := 0, holdBase := x.base, nbrBase := ns, noNbrT := none, driftSaid := false })
    else s1
  else
    let s1 := s.modElectrode e (fun x => { x with onRun := 0 })
    if d ≤ -(pv c pTouchNeg e : Int) then
      let s2 := s1.modElectrode e (fun x => { x with negRun := x.negRun + 1 })
      if pv c pTouchDebOff e ≤ x.negRun + 1 then
        raiseTouch c .touchRebase 4 0 e (s2.modElectrode e (fun x => { x with base := 16 * x.count }))
      else s2
    else if d < (pv c pTouchOff e : Int) then
      s1.modElectrode e (fun x => { x with
        base := natOf ((x.base : Int) + (16 * (x.count : Int) - x.base) / 2 ^ pv c pTouchBaseShift 0) })
    else s1

/-- A scan of an electrode that is PRESSED (R341). -/
def scanPressed (c : Cfg) (e : Nat) (s : State) : State :=
  let x := s.electrode e
  if x.delta < (pv c pTouchOff e : Int) then
    let s1 := s.modElectrode e (fun x => { x with offRun := x.offRun + 1 })
    if pv c pTouchDebOff e ≤ x.offRun + 1 then
      (raiseRelease c 0 e s1).modElectrode e (fun x => { x with state := .released, offRun := 0 })
    else s1
  else s.modElectrode e (fun x => { x with offRun := 0 })

/-- A scan of an electrode that is STUCK (R341, R342): it ends by the fast re-baseline. -/
def scanStuck (c : Cfg) (e : Nat) (s : State) : State :=
  let x := s.electrode e
  if x.delta ≤ -(pv c pTouchNeg e : Int) then
    let s1 := s.modElectrode e (fun x => { x with negRun := x.negRun + 1 })
    if pv c pTouchDebOff e ≤ x.negRun + 1 then
      raiseTouch c .touchStuckEnd 3 0 e (s1.modElectrode e (fun x => { x with base := 16 * x.count, state := .released }))
    else s1
  else s

/-- An electrode that has been out of range in four scans fails to released (R339). -/
def failElectrode (c : Cfg) (cause e : Nat) (s : State) : State :=
  let s1 := if (s.electrode e).state = .pressed then raiseRelease c 4 e s else s
  raiseTouch c .touchFault 5 cause e (s1.modElectrode e (fun x => { x with
    state := .fault, onRun := 0, offRun := 0, negRun := 0, okRun := 0 }))

/-- The runs of R339, with a count taken. -/
def Electrode.measured (x : Electrode) (limit least count : Nat) (t : Time64) : Electrode :=
  { x with
    count := count, touchT := t
    openRun := if count = limit then x.openRun + 1 else 0
    shortRun := if count < least then x.shortRun + 1 else 0
    okRun := if count = limit || count < least then 0 else x.okRun + 1 }

/-- One scan of one electrode: faults first (R339), then acquisition (R344), then its state (R340, R341). -/
def scanElectrode (c : Cfg) (t done : Time64) (e count : Nat) (s : State) : State :=
  let s1 := s.modElectrode e (fun x => x.measured (pv c pTouchCountLimit 0) (pv c pTouchMinCount 0) count t)
  let x := s1.electrode e
  if x.state = .fault then
    if 4 ≤ x.okRun then
      raiseTouch c .touchRebase 4 1 e (s1.modElectrode e (fun x => { x with state := .released, base := 16 * x.count, acq := 4 }))
    else s1
  else if 4 ≤ x.openRun then failElectrode c 0 e s1
  else if 4 ≤ x.shortRun then failElectrode c 1 e s1
  else if x.acq < 4 then acquire c e s1
  else
    let s2 := match x.state with
      | .released => scanReleased c e t done s1
      | .pressed => scanPressed c e s1
      | .stuck => scanStuck c e s1
      | .fault => s1
    if -(pv c pTouchNeg e : Int) < x.delta then s2.modElectrode e (fun x => { x with negRun := 0 }) else s2

/-- The baseline of a HOLD electrode that is held: it follows the mean change of its RELEASED neighbours since the press (R343). -/
def followHold (e : Nat) (s : State) : State :=
  let x := s.electrode e
  let ns := x.nbrBase.filter (fun n => (s.electrode n.1).state == .released)
  if ns == [] then s.modElectrode e (fun x => { x with noNbrT := some (x.noNbrT.getD s.time.now) })
  else
    let sum := ns.foldl (fun a n => a + ((s.electrode n.1).base : Int) - n.2) (0 : Int)
    s.modElectrode e (fun x => { x with base := natOf ((x.holdBase : Int) + sum / ns.length), noNbrT := none })

/-! ## Scans (R337, R338, R343) -/

/-- The position of a group among the enabled ones. -/
def groupPlace (c : Cfg) (g : Nat) : Nat := ((touchGroups c).filter (fun k => k < g)).length

/-- The offset of a group's slot from its tick, in nanoseconds (R337). -/
def slotOffset (c : Cfg) (g : Nat) : Nat := 1000 * pv c pTouchScanOfs 0 + groupPlace c g * touchSlotNs c

/-- The tick of the scan that a measurement of a group belongs to. -/
def scanTick (c : Cfg) (g : Nat) (t : Time64) : Nat := (cfgGrid c).tickAt (t - slotOffset c g)

/-- The configuration a measurement is made under: one parameter set for a whole window (R338). -/
def touchCfg (s : State) (g : Nat) (t : Time64) : Cfg :=
  match s.touch.prev with
  | some (m, ps) =>
    let c := { s.cfg with params := ps }
    if scanTick c g t ≤ m then c else s.cfg
  | none => s.cfg

/-- Whether a group is measured at an instant: a scan tick's slot, in a window that began after the last change of the grid, not
measured yet. -/
def slotDue (s : State) (c : Cfg) (g : Nat) (t : Time64) : Bool :=
  let n := scanTick c g t
  let g0 := cfgGrid c
  (touchGroups c).contains g && n % pv c pTouchScanDiv 0 == 0 && g0.tickT n + slotOffset c g ≤ t + 1
  && t < g0.tickT n + slotOffset c g + touchSlotNs c
  && s.touch.abandonT ≤ g0.tickT n + 1000 * pv c pTouchScanOfs 0
  && (tget touchGroupInit s.touch.groups g).lastTick != some n

/-- TOUCH_SLOT_MEASURE (R336 to R344): the counts of a group's sixteen electrodes, taken at the start of its slot and acted on at its
end. -/
def execTouchSlotMeasure (g : Fin 8) (counts : List Nat) (t : Time64) (s : State) : Host.Outcome State Fault Refusal :=
  act (fun s =>
    let c := touchCfg s g t
    if !s.touch.running || s.touch.suspended || !slotDue s c g t then s
    else
      let done := t + touchSlotNs c
      let s1 := { (atTime done s) with touch := { s.touch with groups := tset g ⟨some (scanTick c g t), 0⟩ s.touch.groups } }
      let s2 := (groupEls c g).foldl (fun a e =>
        scanElectrode c t done e (min (nth 0 counts (e % 16)) (pv c pTouchCountLimit 0)) a) s1
      ((groupEls c g).filter (fun e => classOf c e == 2)).foldl (fun a e =>
        if (a.electrode e).state = .pressed then followHold e a else a) s2) s

/-- At the start of a scan tick: a group not measured in two scheduled scans drops its HOLD keys (R343). -/
def noteScanTick (n : Nat) (s : State) : State :=
  if !s.touch.running || n % pv s.cfg pTouchScanDiv 0 != 0 then s
  else
    (touchGroups s.cfg).foldl (fun a g =>
      let x := tget touchGroupInit a.touch.groups g
      let a1 := if 2 ≤ x.missed then
          ((groupEls a.cfg g).filter (fun e => classOf a.cfg e == 2 && (a.electrode e).state == .pressed)).foldl (fun b e =>
            (raiseRelease b.cfg 3 e b).modElectrode e (fun x => { x with state := .released, onRun := 0, offRun := 0 })) a
        else a
      { a1 with touch := { a1.touch with groups := tset g { x with missed := x.missed + 1 } a1.touch.groups } }) s

/-- TOUCH_MAX_HOLD (R342): a MOMENTARY electrode held too long is STUCK, and its baseline is the present count. -/
def execTouchMaxHold (e : Fin 128) (t : Time64) (s : State) : Host.Outcome State Fault Refusal :=
  act (fun s =>
    let x := s.electrode e
    if x.state != .pressed || classOf s.cfg e != 1 || t < x.onT + 1000000 * pv s.cfg pTouchMaxHold 0 then s
    else
      notePressed e false (raiseTouch s.cfg .touchStuck 2 0 e ((atTime t s).modElectrode e (fun x => { x with
        state := .stuck, base := 16 * x.count, negRun := 0 })))) s

/-- TOUCH_DRIFT_UNCOMP (R343): 60 s of a held HOLD key without a RELEASED neighbour, once per press. -/
def execTouchDriftUncomp (e : Fin 128) (t : Time64) (s : State) : Host.Outcome State Fault Refusal :=
  act (fun s =>
    let x := s.electrode e
    match x.noNbrT with
    | some u =>
      if x.state != .pressed || classOf s.cfg e != 2 || x.driftSaid || t < u + 60000000000 then s
      else raiseTouch s.cfg .touchDriftUncomp 7 0 e ((atTime t s).modElectrode e (fun x => { x with driftSaid := true }))
    | none => s) s

/-! ## Saving, starting and stopping (R344, R345) -/

/-- The baselines as they are saved (R345). -/
def savedBase (s : State) : SavedBase :=
  ⟨s.touch.els.map (fun e => (e.1, e.2.base)), (List.range 128).map (classOf s.cfg), pv s.cfg pTouchGroupEn 0, s.time.now, s.power.tj⟩

/-- TOUCH_SAVE (R345): the baselines and the die temperature go to flash every TOUCH_SAVE_PERIOD. -/
def execTouchSave (t : Time64) (s : State) : Host.Outcome State Fault Refusal :=
  act (fun s =>
    if !s.touch.running || t < s.touch.saveT + 60000000000 * pv s.cfg pTouchSavePeriod 0 then s
    else
      let s1 := atTime t s
      flashStore (.touch (savedBase s1)) { s1 with touch := { s1.touch with saveT := t } }) s

/-- The touch unit starts: every electrode is acquired anew (R344). -/
def startTouch (s : State) : State :=
  { s with touch := { s.touch with running := true, stopping := false, restart := false, els := [], groups := [], saveT := s.time.now, prev := none } }

/-- Every pressed key is reported released (R345). -/
def releaseAll (cause : Nat) (s : State) : State :=
  (s.touch.els.filter (fun e => e.2.state == .pressed)).foldl (fun a e =>
    (raiseRelease a.cfg cause e.1 a).modElectrode e.1 (fun x => { x with state := .released })) s

/-- The touch unit has stopped (R345): its keys are released with cause DISABLED, and where it was enabled again meanwhile
TOUCH_READY follows and it acquires anew. -/
def stopTouch (s : State) : State :=
  let again := s.touch.restart
  let s1 := releaseAll 2 s
  let s2 := { s1 with touch := { s1.touch with running := false, stopping := false, restart := false, els := [], groups := [], prev := none } }
  if again then
    let tag := match s2.cmd.deferred.find? (fun q => q.1 == .touch) with
      | some q => some q.2.1.tag
      | none => none
    let s3 := { s2 with cmd := { s2.cmd with deferred := s2.cmd.deferred.filter (fun q => q.1 != .touch) } }
    startTouch (raiseAt s3.time.now .touchReady tag [] s3)
  else s2

/-- The instant at which the window of a scan tick ends. -/
def windowEnd (c : Cfg) (n : Nat) : Time64 :=
  (cfgGrid c).tickT n + 1000 * pv c pTouchScanOfs 0 + (touchGroups c).length * touchSlotNs c

/-- Whether the scan window in which the touch unit was disabled has ended (R345). -/
def windowOver (s : State) (t : Time64) : Bool :=
  match s.touch.prev with
  | some (m, ps) => decide (windowEnd { s.cfg with params := ps } m ≤ t)
  | none => true

/-- TOUCH_SAFE_POINT (R345): the end of the scan window in progress when touch was disabled. -/
def execTouchSafePoint (t : Time64) (s : State) : Host.Outcome State Fault Refusal :=
  act (fun s => if !s.touch.stopping || !windowOver s t then s else stopTouch (atTime t s)) s

/-- The last scan tick whose window began before an instant. -/
def lastScan (c : Cfg) (t : Time64) : Nat :=
  let n := (cfgGrid c).tickAt (t - 1000 * pv c pTouchScanOfs 0)
  n - n % pv c pTouchScanDiv 0

/-- Whether a scan window is in progress (R338). -/
def inWindow (c : Cfg) (t : Time64) : Bool :=
  let n := lastScan c t
  (cfgGrid c).tickT n + 1000 * pv c pTouchScanOfs 0 < t && t < windowEnd c n

/-- After touch parameters changed from those of `old` at a decision point (R338, R345): a window that is under way keeps its
parameters, electrodes that lost or changed their class or group are released, and the unit starts or stops. -/
def touchChanged (old : Cfg) (tag : Option (CmdHdr × Cmd)) (s : State) : State :=
  let t := s.time.now
  let s1 := if s.touch.running && inWindow old t && s.touch.prev.isNone then
      { s with touch := { s.touch with prev := some (lastScan old t, old.params) } }
    else s
  let gone := fun (c : Cfg) (e : Nat) => classOf c e == 0 || !(touchGroups c).contains (e / 16)
  let s2 := s1.touch.els.foldl (fun a e =>
    let changed := classOf old e.1 != classOf a.cfg e.1 || gone a.cfg e.1
    let held := e.2.state == .pressed || e.2.state == .stuck
    let a1 := if changed && held then
        (raiseRelease old 1 e.1 a).modElectrode e.1 (fun x => { x with
          state := .released, base := 16 * x.count, onRun := 0, offRun := 0, negRun := 0 })
      else a
    if gone a.cfg e.1 then { a1 with touch := { a1.touch with els := tdel e.1 a1.touch.els } } else a1) s1
  let was := pv old pTouchEnable 0
  let now := pv s.cfg pTouchEnable 0
  if was = now then s2
  else if now = 0 then
    let s3 := { s2 with touch := { s2.touch with stopping := s2.touch.running, restart := false } }
    if inWindow old t && s3.touch.running then s3 else stopTouch s3
  else if s2.touch.stopping then
    { s2 with
      touch := { s2.touch with restart := true }
      cmd := { s2.cmd with deferred := s2.cmd.deferred ++ (match tag with | some q => [(.touch, q)] | none => []) } }
  else if s2.power.vddTouch then startTouch s2 else s2

/-- After the grid changed (R338): a window in progress is abandoned, and scanning is suspended while the window does not fit. -/
def touchFit (s : State) : State :=
  let fits := touchFits s.cfg
  if !s.touch.running then { s with touch := { s.touch with suspended := false } }
  else if fits then { s with touch := { s.touch with suspended := false } }
  else if s.touch.suspended then s
  else raise .touchWindow [] { s with touch := { s.touch with suspended := true } }

/-- The windows that began before now are abandoned (R338). -/
def abandonScan (s : State) : State := { s with touch := { s.touch with abandonT := s.time.now, prev := none } }

end Sys2Proof.Machine
end

