-- ==== Sys2Proof/Machine/ApplyCfg.lean ====
section
/-! DEFINITION. What a change of configuration sets going at its apply tick, one operation for each kind of unit: streams (R90, R99, R100,
R121), decode lanes (R126), panes (R62, R160), heads and ports (R196 to R199), pins (R79, R80), Ethernet ports (R84, R87), encode sessions (R406),
the tick grid (R44) and the profile (R19, R317). Each compares the configuration before the command with the one in force. -/
namespace Sys2Proof.Machine

/-! ## Streams -/

/-- Whether a change starts a new session (R90): the format, an endpoint, the payload type or a non-zero SSRC. A change between network
and host origin does too. -/
def sessionChanged (o c : Cfg) (x : Nat) : Bool :=
  pv o pSrcFormat x != pv c pSrcFormat x || pa o pSrcDestA x != pa c pSrcDestA x || pa o pSrcDestB x != pa c pSrcDestB x
  || pv o pSrcPt x != pv c pSrcPt x || (pv c pSrcSsrc x != 0 && pv o pSrcSsrc x != pv c pSrcSsrc x)
  || pv o pDecOrigin x != pv c pDecOrigin x

/-- The lane that decodes a stream is free, and its picture is discarded. -/
def abandonDecode (x : Nat) (s : State) : State :=
  let s1 := { s with lanes := s.lanes.map (fun (e : Nat × Lane) => if e.2.stream = some x then (e.1, { e.2 with stream := none }) else e) }
  s1.modStream x (fun m => { m with queue := m.queue.filter Picture.waiting, dpb := [], recovery := [], lostUnits := [] })

/-- A stream is disabled (R99): IDLE, with nothing held. That LAST_PKT_T then reads 0 is a DESIGN CHOICE (log entry 123): the spec does not say
what it reads. -/
def stopStream (x : Nat) (s : State) : State :=
  (abandonDecode x (setStreamState x .idle .disabled s)).modStream x (fun m => { m with
    session := false, highExt := none, seen := [], aus := [], lastAuEnd := none, lastAuTs := none, closedHigh := none, inband := [], lastPic := none
    floorPts := [], lastPkt := none, ownPkt := none, flowAcc := 0, flowSince := none, flowPkts := [], pktRate := none, newSsrcN := 0, queue := [], cls := .none, waitEntry := true, startDecode := true,
    completions := [], overrate := false })

/-- A new session at the apply tick (R90, R100). A stream that is IDLE begins one with its first packet anyway. -/
def restartStream (x : Nat) (s : State) : State :=
  if (s.stream x).state = .idle then s else setStreamState x .priming .session (newSession x s)

/-- The picture pool of a running stream changes (R121): the picture being decoded and the references are discarded, decoding starts
again at the next entry point, and frames in ledger slots keep the old pool. -/
def renewPool (o : Cfg) (x : Nat) (s : State) : State :=
  let mark := fun (e : Slot) => if e.oldPool.isNone then { e with oldPool := some (s.time.decided, poolBytes o x) } else e
  let s1 := { s with ledger := s.ledger.map (fun e => if e.1 / 4 = x then (e.1, mark e.2) else e) }
  (dropToEntry x (abandonDecode x s1)).modStream x (fun m => { m with raslSkip := false })

/-- A stream after a change. -/
def settleStream (o : Cfg) (x : Nat) (s : State) : State :=
  if streamOn o x && !streamOn s.cfg x then stopStream x s
  else if streamOn o x && streamOn s.cfg x then
    let s1 := if sessionChanged o s.cfg x then restartStream x s else s
    if poolChanged o s.cfg x then renewPool o x s1 else s1
  else s

/-- The picture pools follow a change of configuration, where they fit (R121, R302). `o` is the configuration before it. -/
def allocPools (o : Cfg) (s : State) : State :=
  match settlePools o s.cfg s.time.decided (livePools s) with
  | some ps => { s with mem := { s.mem with pools := ps } }
  | none => s

/-- The streams that a command's records name. -/
def setStreams (recs : List (Nat × SetRec)) : List Nat :=
  touched recs [pSrcEnable, pSrcFormat, pSrcDestA, pSrcDestB, pSrcPt, pSrcSsrc, pDecOrigin, pDecMaxW, pDecMaxH, pDecMaxDepth, pDecMaxDpb]

/-! ## Decode lanes -/

/-- Whether a lane enabled again has not yet reached its safe point (R126). -/
def laneDeferred (o : Cfg) (s : State) (c : Cfg) (l : Nat) : Bool :=
  !bit (pv o pDecLaneEnable 0) l && bit (pv c pDecLaneEnable 0) l && (s.lane l).stopping

/-- What waits for a unit is forgotten: the unit is disabled again. -/
def dropDeferred (k : DeferKey) (s : State) : State :=
  { s with cmd := { s.cmd with deferred := s.cmd.deferred.filter (fun q => q.1 != k) } }

/-- A command waits for a unit's completion event (R406). -/
def deferFor (k : DeferKey) (h : CmdHdr) (c : Cmd) (s : State) : State :=
  { s with cmd := { s.cmd with deferred := s.cmd.deferred ++ [(k, h, c)] } }

/-- A lane after a change of DEC_LANE_ENABLE (R126): one with a picture stops at its safe point, an idle one at once. -/
def settleLane (o : Cfg) (h : CmdHdr) (k : Cmd) (l : Nat) (s : State) : State :=
  let d := s.lane l
  match bit (pv o pDecLaneEnable 0) l, bit (pv s.cfg pDecLaneEnable 0) l with
  | true, false =>
    if d.stream.isSome then dropDeferred (.lane l) (s.setLane l { d with stopping := true, restart := false })
    else s.setLane l ⟨none, false, true, false⟩
  | false, true =>
    if laneDeferred o s s.cfg l then deferFor (.lane l) h k (s.setLane l { d with restart := true }) else s.setLane l laneInit
  | _, _ => s

/-! ## Panes -/

/-- The guarded-history latch of a source is set (R62). -/
def latchGuard (src : Nat) (s : State) : State := if src < 192 then s.modSource src (fun r => { r with guardedHist := true }) else s

/-- A pane has been created (R62, R160): the latch, or PANE_UNGUARDED on a source whose latch is set. -/
def paneCreated (tag p src : Nat) (s : State) : State :=
  let s1 := s.setPane p paneInit
  if guarded s.cfg p then latchGuard src s1
  else if src < 192 && (s1.source src).guardedHist then
    let other := s.cfg.panes.any (fun e => e.2.source == src && guarded s.cfg e.1)
    raiseTag .paneUnguarded tag [(2, p), (1, src), (2, if other then 0xFFFF else (s1.source src).lastDeleted.getD 0xFFFF)] s1
  else s1

/-- A pane has been deleted (R160): PANE_DELETED with its source and PANE_GUARD, and the source remembers a guarded one (R62). -/
def paneDeleted (o : Cfg) (tag p : Nat) (s : State) : State :=
  let src := paneSource o p
  let s1 := { s with panes := tdel p s.panes }
  let s2 := if guarded o p then s1.modSource src (fun r => { r with lastDeleted := some p }) else s1
  raiseTag .paneDeleted tag [(2, p), (1, src), (1, b2n (guarded o p))] s2

/-! ## Heads and ports -/

/-- Whether a head sends a timing (R196, R199, R202): it has a port, and the port is not OFF. -/
def State.hasTiming (s : State) (h : Nat) : Bool :=
  match (s.head h).timing.port with
  | some p => (s.dpPort p).mode != 0
  | none => false

/-- A timing commit of a head (R196, R198): it takes the shadow set at a vertical blanking. A head that sends no timing has none to wait for
(log entry 116). -/
def commitTiming (h : Nat) (s : State) : State :=
  let t := cfgTiming s.cfg h
  if s.hasTiming h then s.modHead h (fun d => { d with shadow := some t, shadowDue := false }) else takeShadow h t s

/-- The configured port parameters wait for the first vertical blanking of a head of the port, or apply at the decision point where no head of
it sends a timing (R196). -/
def commitPort (p : Nat) (s : State) : State :=
  if (s.portHeads p).any s.hasTiming then s.modDpPort p (fun d => { d with pendingCfg := true }) else applyPort p s

/-- Whether a head enabled again has not yet reached its safe point (R199). -/
def headDeferred (o : Cfg) (s : State) (c : Cfg) (h : Nat) : Bool :=
  pv o pHeadEnable h == 0 && pv c pHeadEnable h == 1 && (s.head h).disabling

/-- A head after a change of HEAD_ENABLE (R199): one that shows frames stops at its safe point, and one enabled again before it waits
for its completion event. -/
def settleHead (o : Cfg) (tag h : Nat) (s : State) : State :=
  let d := s.head h
  match pv o pHeadEnable h, pv s.cfg pHeadEnable h with
  | 1, 0 =>
    if d.running then s.setHead h { d with disabling := true, reEnable := none, restart := false }
    else s.setHead h { d with enabled := false, disabling := false, reEnable := none, restart := false }
  | 0, 1 =>
    if headDeferred o s s.cfg h then s.setHead h { d with reEnable := some tag }
    else if !d.running && d.retime.isNone && d.timing.port.isSome then takeShadow h d.timing s
    else s
  | _, _ => s

/-- The timing parameters of a head (R196). -/
def isTimingPid (p : Nat) : Bool := timingPids.contains p

/-- The pin maps and the pin polarity in force (R79, R80, R377). -/
def settleMaps (s : State) : State :=
  let s1 := { s with pins := { s.pins with
    liveMap := (List.range 16).map (pv s.cfg pLiveMap), darkMap := (List.range 4).map (pv s.cfg pLiveDarkMap),
    darkPol := pv s.cfg pLiveDarkPol 0 } }
  settlePins (followPins s1)

/-- The heads after HEAD_SET: port parameters, timing commits, HEAD_ENABLE and the pins, in that order. -/
def settleHeads (o : Cfg) (tag : Nat) (recs : List (Nat × SetRec)) (s : State) : State :=
  let s1 := (touched recs [pDpPortMode, pDpLinkRate, pDpLanes]).foldl (fun a p => commitPort p a) s
  let s2 := (touched recs timingPids).foldl (fun a h => commitTiming h a) s1
  let s3 := (touched recs [pHeadEnable]).foldl (fun a h => settleHead o tag h a) s2
  if recs.any (fun r => r.2.pid == pLiveMap || r.2.pid == pLiveDarkMap || r.2.pid == pLiveDarkPol) then settleMaps s3 else s3

/-! ## Ethernet ports -/

/-- A port after a change of NET_PORT_MODE (R84, R85): its link is down until it comes up in the new mode, and a test pattern stops. -/
def settleEth (o : Cfg) (p : Nat) (s : State) : State :=
  if pv o pNetPortMode p = pv s.cfg pNetPortMode p then s
  else
    let s1 := s.modEthPort p (fun e => { e with link := false, prbs := none })
    if (s.ethPort p).link then raise .netLink [(1, p), (1, pv s.cfg pNetPortMode p), (1, 0)] s1 else s1

/-! ## Encode sessions -/

/-- Whether a session enabled again has not yet reached its safe point (R406). -/
def sessionDeferred (o : Cfg) (s : State) (c : Cfg) (x : Nat) : Bool :=
  pv o pEncEnable x == 0 && pv c pEncEnable x == 1 && (s.session x).stopping

/-- A session after a change of ENC_ENABLE (R281, R406). -/
def settleSession (o : Cfg) (h : CmdHdr) (k : Cmd) (x : Nat) (s : State) : State :=
  match pv o pEncEnable x, pv s.cfg pEncEnable x with
  | 1, 0 => dropDeferred (.session x) (s.modSession x (fun e => { e with stopping := e.running, restart := false }))
  | 0, 1 =>
    if sessionDeferred o s s.cfg x then deferFor (.session x) h k (s.modSession x (fun e => { e with restart := true }))
    else startSession x s
  | _, _ => s

/-! ## The tick grid (R44) -/

/-- Whether the tick boundaries move: the rate or the epoch. -/
def gridMoved (o c : Cfg) : Bool := pv o pTimeTickRate 0 != pv c pTimeTickRate 0 || pv o pTimeTickEpoch 0 != pv c pTimeTickEpoch 0

/-- Every head that has a port is re-timed without a link retrain (R33, R44). A shadow set that waits goes with it, and inputs of
coming frames, which stand at old tick numbers, are dropped. -/
def retimeAll (s : State) : State :=
  (List.range 32).foldl (fun a h =>
    let d := a.head h
    if d.timing.port.isSome then takeShadow h (d.shadow.getD d.timing) (a.modHead h (fun d => { d.passBanks d.nextIn with nextIn := [] })) else a) s

/-- The tick numbers of a grid at the present instant (R44): the first tick is the first boundary not yet passed, and the first
decision point the first that is not. Where T(0) itself is that boundary, it is still to come. -/
def renumber (s : State) : State :=
  let g := s.grid
  let first := ceilDiv (3 * s.time.now - 3 * g.epoch) g.p3
  { s with time := { s.time with tick := first - 1, beforeZero := first == 0, decided := g.firstDecision s.time.now - 1 } }

/-- The tick numbers that this seat remembers, when the numbering moves by `k` (R33, R44): the twin's heartbeats, exchange, join, takeover and
withdrawal, the set-point switch that waits, the self-test's slice and the start's snapshot. -/
def shiftTicks (k : Int) (s : State) : State :=
  let mv := fun (n : Nat) => moveT k n
  { s with
    twin := { s.twin with
      hbLast := s.twin.hbLast.map (fun (q : Option Nat) => q.map mv), takeover := s.twin.takeover.map mv
      join := s.twin.join.map (fun (j : Join) => { j with tick := mv j.tick, at' := j.at'.map mv }), lastMismatch := s.twin.lastMismatch.map mv
      xferTick := s.twin.xferTick.map mv, withdrawTick := mv s.twin.withdrawTick, lateTicks := s.twin.lateTicks.map mv
      xchgTick := s.twin.xchgTick.map mv, ownAdmit := s.twin.ownAdmit.map (fun (a : Admit) => { a with tick := mv a.tick })
      peerAdmit := s.twin.peerAdmit.map (fun (a : Admit) => { a with tick := mv a.tick }) }
    mem := { s.mem with switch := s.mem.switch.map (fun (w : Switch) => { w with tick := mv w.tick }) }
    test := { s.test with sliceTick := s.test.sliceTick.map mv }
    power := { s.power with startSnap := s.power.startSnap.map (fun q => (mv q.1, q.2)) } }

/-- A change of tick rate or epoch takes effect (R44): the commands of later ticks fail, and every head with a port is re-timed. A
set-point switch that waits follows the new numbers. -/
def moveGrid (s : State) : State :=
  let n := s.time.decided
  let (late, keep) := s.cmd.accepted.partition (fun a => n < a.tick)
  let s1 := { s with cmd := { s.cmd with accepted := keep } }
  let s2 := (sortBy (acceptedLe s.routeBoth) late).foldl (fun a q => failReply q n (.fail 1) 0 a) s1
  let s2' := renumber s2
  let s3 := touchFit (abandonScan (retimeAll (shiftTicks ((s2'.time.tick : Int) - s.time.tick) s2')))
  { s3 with mem := { s3.mem with switch := s3.mem.switch.map (fun w => { w with tick := s3.grid.firstDecision s3.time.now }) } }

/-! ## The profile and the set point (R19, R317, R319) -/

/-- A set-point change of a command (R317): the switch is armed for the command's tick. `wait` says that the command is answered
when the switch is complete; behind another switch it is DEFERRED, and the completion event carries its TAG (R319). -/
def commandSwitch (h : CmdHdr) (k : Cmd) (n target : Nat) (back : Profile × Nat) (s : State) : State × Bool :=
  if fspComing s = target then (s, false)
  else
    let behind := s.mem.switch.isSome
    let w : Switch := ⟨target, n, 0, if behind then none else some (h, k), if behind then some h.tag else none, back, false⟩
    (armSwitch w s, true)

/-! ## All of them -/

/-- Everything that a command's change of configuration sets going, apart from the set point. `o` is the configuration before it. -/
def settleConfig (o : Cfg) (h : CmdHdr) (k : Cmd) (s : State) : State :=
  let recs := recsOf k
  let any := fun (l : List Nat) => recs.any (fun r => l.contains r.2.pid)
  let s0 := if any poolPids then allocPools o s else s
  let s1 := (setStreams recs).foldl (fun a x => settleStream o x a) s0
  let s2 := if any [pDecLaneEnable] then (List.range 12).foldl (fun a l => settleLane o h k l a) s1 else s1
  let s3 := (touched recs [pPaneGuard]).foldl (fun a p => if guarded a.cfg p then latchGuard (paneSource a.cfg p) a else a) s2
  let s4 := if familyOf k = 5 then settleHeads o h.tag recs s3 else s3
  let s5 := (touched recs [pNetPortMode]).foldl (fun a p => settleEth o p a) s4
  let s6 := (touched recs [pEncEnable]).foldl (fun a x => settleSession o h k x a) s5
  let s7 := if familyOf k = 8 && recs != [] then touchChanged o (some (h, k)) s6 else s6
  let s8 := (touched recs [pDom]).foldl (fun a d => if pv o pDom d != pv a.cfg pDom d then a.modEst d (fun _ => estInit) else a) s7
  let s9 := if gridMoved o s8.cfg then moveGrid s8
    else if familyOf k = 2 || familyOf k = 8 then touchFit s8
    else s8
  settleJoins s9

end Sys2Proof.Machine
end

