-- ==== Sys2Proof/Machine/Snapshot.lean ====
section
/-! DEFINITION. Snapshots (R261): what one carries, how it stands as bytes, and how a seat takes up its configuration at a start (R400), a
join (R240) or a takeover (R263). -/
namespace Sys2Proof

/-- A snapshot as it is sent and stored (R261). The spec gives what it carries and no layout (log entry 32). -/
opaque Config.snapshotBytes : Machine.Snapshot → Bytes

/-- The snapshot that a byte string is, where it is one. -/
opaque Config.snapshotOf : Bytes → Option Machine.Snapshot

namespace Machine

/-- The colour bank a head has, a committed one included. -/
def Head.bank (d : Head) : ColourBank := d.commitBank.getD d.colour

/-- A snapshot taken at a tick (R261). -/
def takeSnapshot (n : Nat) (s : State) : Snapshot :=
  { tick := n, time := s.time.now, cfg := s.cfg, waiting := s.cmd.accepted.filter (fun a => n < a.tick), coef := s.coef,
    colours := s.heads.map (fun e => (e.1, e.2.bank)), bufs := s.bufs, groups := s.groups, freeze := s.freeze,
    sources := s.sources, panes := s.panes, outbound := s.enc.map (fun e => (e.1, (e.2.seq, e.2.rtpTs))),
    eventSeq := s.events.next, bases := s.touch.els.map (fun e => (e.1, e.2.base)),
    legends := s.legends.map (fun e => (e.1, ⟨e.2.pane, e.2.mask, none, [], false⟩)) }

/-! ## Units off (R260, R403, R404) -/

/-- A head that is off. Its counters and its staged colours stay. -/
def headOff (d : Head) : Head :=
  { headInit with cnt := d.cnt, frameCnt := d.frameCnt, colour := d.colour, staged := d.staged, stagedMask := d.stagedMask, darkPin := d.darkPin }

/-- A DisplayPort port that is off, with the sink as it was last read. -/
def dpOff (d : DpPort) : DpPort := { dpInit with unplugged := d.unplugged, dpcd := d.dpcd, edid := d.edid, sinks := d.sinks }

/-- Every unit of the picture path is off, and what was in it is gone. Counters stay. -/
def unitsOff (s : State) : State :=
  settlePins { s with
    streams := s.streams.map (fun (e : Nat × Stream) => (e.1, { streamInit with cnt := e.2.cnt, ring := e.2.ring }))
    lanes := [], ledger := [], panes := [], groups := []
    heads := s.heads.map (fun (e : Nat × Head) => (e.1, headOff e.2))
    dp := s.dp.map (fun (e : Nat × DpPort) => (e.1, dpOff e.2))
    enc := s.enc.map (fun (e : Nat × Session) => (e.1, { sessionInit with cnt := e.2.cnt }))
    sources := s.sources.map (fun (e : Nat × SourceRun) => (e.1, { e.2 with newest := none }))
    mem := { s.mem with pools := [] }
    cmd := { s.cmd with deferred := [] } }

/-! ## Taking up a configuration -/

/-- The ports and heads of the configuration start: every port in its mode, every head with a port training or relocking (R197, R203). -/
def startHeads (s : State) : State :=
  let s1 := (List.range 8).foldl (fun a p => a.modDpPort p (fun d => { d with
    mode := pv a.cfg pDpPortMode p, rate := pv a.cfg pDpLinkRate p, lanes := pv a.cfg pDpLanes p })) s
  (List.range 32).foldl (fun a h => if (headPort a.cfg h).isSome then takeShadow h (cfgTiming a.cfg h) a else a) s1

/-- The DRAM switches to the set point that is due (R317, R319, R20): the profile's, or the lowest in standby (R260). -/
def settleSetpoint (n target : Nat) (s : State) : State :=
  if fspComing s = target then s else armSwitch ⟨target, n, 0, none, none, (s.cfg.profile, s.cfg.fsp), true⟩ s

/-- The units of a configuration start, from all of them off: network ports and joins, the touch unit, and but in standby the heads, the
decode lanes and the encode sessions (R260, R400). `o` is the configuration before. -/
def bringUp (o : Cfg) (standby : Bool) (n : Nat) (s : State) : State :=
  let s1 := (List.range 4).foldl (fun a p => settleEth o p a) s
  let s2 := (List.range 2).foldl (fun a d => if pv o pDom d != pv a.cfg pDom d then a.modEst d (fun _ => estInit) else a) s1
  let s3 := settleMaps (settleJoins s2)
  let s4 := if gridMoved o s3.cfg then abandonScan (renumber s3) else s3
  let s5 := touchFit (touchChanged o none s4)
  if standby then settleSetpoint n 2 s5
  else
    let s6 := startHeads (allocPools s5.cfg s5)
    let s7 := (List.range 16).foldl (fun a x => if pv a.cfg pEncEnable x = 1 then startSession x a else a) s6
    let lanes := pv s7.cfg pDecLaneEnable 0
    let s8 := (List.range 12).foldl (fun a l => if bit lanes l then a else a.setLane l ⟨none, false, true, false⟩) s7
    settleSetpoint n (fspOf s8.cfg.profile s8.cfg.fsp) s8

/-- A command of a snapshot as it waits here: its reply went with the transport it came on (log entry 33). -/
def inherited (a : Accepted) : Accepted := { a with hdr := { a.hdr with transport := .peer }, fseq := none, acked := true, peer := true }

/-- A freeze detector as a snapshot hands it over (R155, R158, R261): FRZ and its time, EVIDENCE_T, the intra base and the token state; the
counters of R158 stay those of this seat. -/
def inheritFreeze (old new : Freeze) : Freeze :=
  { freezeInit with
    frz := new.frz, frzSince := new.frzSince, evidenceT := new.evidenceT, base := new.base, baseBad := new.baseBad, baseT := new.baseT
    bearing := new.bearing, seenFirst := new.seenFirst, tokenCnt := new.tokenCnt, tokenStat := new.tokenStat, statValid := new.statValid
    badRun := new.badRun, statRun := new.statRun, tokenPos := new.tokenPos, tokenPosT := new.tokenPosT
    setCount := old.setCount, override := old.override, faults := old.faults, jumps := old.jumps, neutral := old.neutral }

/-- The freeze detectors that a snapshot brings, beside those of this seat. -/
def loadFreeze (new old : Table Freeze) : Table Freeze :=
  new.foldl (fun (t : Table Freeze) e => tset e.1 (inheritFreeze (tget freezeInit old e.1) e.2) t)
    (old.map (fun (e : Nat × Freeze) => (e.1, inheritFreeze e.2 freezeInit)))

/-- What a snapshot brings, before any unit starts (R240, R261). Frames are never included, so no pane has shown one and no buffer is
held outside lockstep. Its waiting commands come before those accepted here. -/
def loadSnapshot (p : Snapshot) (hot : Bool) (s : State) : State :=
  let s1 := unitsOff s
  let order := maxNat (p.waiting.map (fun a => a.order + 1))
  { s1 with
    cfg := p.cfg
    cmd := { s1.cmd with
      accepted := p.waiting.map inherited ++ s1.cmd.accepted.map (fun (a : Accepted) => { a with order := a.order + order })
      order := s1.cmd.order + order }
    coef := p.coef
    heads := p.colours.foldl (fun (t : Table Head) (e : Nat × ColourBank) => tmod headInit e.1 (fun d => { d with colour := e.2 }) t) s1.heads
    bufs := p.bufs.map (fun (e : Nat × BufRun) => (e.1, if e.2.state = 2 && !hot then bufInit else { e.2 with scans := [] }))
    groups := p.groups
    freeze := loadFreeze p.freeze s1.freeze
    sources := p.sources.map (fun (e : Nat × SourceRun) => (e.1, { e.2 with newest := none }))
    panes := p.cfg.panes.map (fun (e : Nat × PaneCfg) => (e.1, { (tget paneInit p.panes e.1) with shown := none }))
    events := { s1.events with next := max s1.events.next p.eventSeq }
    legends := p.legends }

/-- Where the snapshot left each session's numbers (R261, R297). -/
def loadOutbound (p : Snapshot) (s : State) : State :=
  p.outbound.foldl (fun a e => a.modSession e.1 (fun x => { x with seq := e.2.1, rtpTs := e.2.2 })) s

/-- The electrodes take the baselines of a snapshot (R261). -/
def loadBases (p : Snapshot) (s : State) : State :=
  if !s.touch.running then s
  else p.bases.foldl (fun a e => a.modElectrode e.1 (fun x => { x with base := e.2, acq := max x.acq 4 })) s

/-- A seat takes up a snapshot and starts its units (R240 step 4, R263 step 3, R400). `fresh` says that the touch unit acquires anew, as
at every start (R344). -/
def adoptSnapshot (p : Snapshot) (hot standby fresh : Bool) (n : Nat) (s : State) : State :=
  let s1 := bringUp s.cfg standby n (loadSnapshot p hot s)
  let s2 := loadOutbound p s1
  if fresh then s2 else loadBases p s2

end Machine

end Sys2Proof
end

