-- ==== Sys2Proof/Machine/TwinLink.lean ====
section
/-! DEFINITION. The twin link: modes (R225, R227), the lanes and their stripe (R228, R232, R233, R236), the handshake (R234, R235),
heartbeats and the partner's failure (R237 to R239, R263), and the time lead's runs (R48). -/
namespace Sys2Proof.Machine

/-! ## Modes -/

/-- Whether one event comes before another in the union (R244): by TIME64, then seat A, then the seat's own order. -/
def heldBefore (a b : HeldEvent) : Bool :=
  if a.time != b.time then a.time < b.time else if a.seatB != b.seatB then !a.seatB else a.order ≤ b.order

/-- The held events before an instant are published in the union's order; later ones stay (R244). -/
def publishHeld (t : Time64) (s : State) : State :=
  let all := sortBy heldBefore (s.twin.ownEvents ++ s.twin.peerEvents)
  let s1 := { s with twin := { s.twin with
    ownEvents := s.twin.ownEvents.filter (fun e => t ≤ e.time), peerEvents := s.twin.peerEvents.filter (fun e => t ≤ e.time) } }
  (all.filter (fun e => e.time < t)).foldl (fun a e => publish e a) s1

/-- The causes of TWIN_MODE (R227, log entry 34). -/
inductive ModeCause where
  | join
  | leave
  | takeover
  | failure
  deriving DecidableEq, Repr

/-- The code of a cause. -/
def ModeCause.code : ModeCause → Nat
  | .join => 0
  | .leave => 1
  | .takeover => 2
  | .failure => 3

/-- What a pair in HOT keeps about its lockstep, at its start. -/
def pairInit (w : Twin) : Twin :=
  { w with
    withdrawn := false, withdrawTick := 0, digestFault := false, peerWithdrawn := false, peerFaulted := false, selfFaulted := false
    awaiting := false, reinstating := false, ownAdmit := none, peerAdmit := none, lateRun := 0, lateTicks := [], outOfStep := [], joinDue := [], xchgFences := []
    darkSkew := [], sigRun := [], borrowOpen := [], borrowAsked := [], lendOpen := [], applied := [], peerCmds := [], xferTick := none }

/-- A change of the twin mode, with TWIN_MODE (R227). What HOT held back is published first (R244). At a join, HOT or COLD, seat A is the time
lead (R48) and the partner is there. -/
def toMode (m : TwinMode) (c : ModeCause) (s : State) : State :=
  let s1 := publishHeld (s.time.now + 1) s
  let s2 := raise .twinMode [(1, s.twin.mode.code), (1, m.code), (1, c.code)] { s1 with twin := { s1.twin with mode := .solo } }
  let n := s.time.tick
  settlePins { s2 with
    heads := s2.heads.map (fun (e : Nat × Head) => (e.1, { e.2 with sigs := [], peerSigs := [], rowDiverged := [], pairRows := [], pairMatch := false }))
    time := { s2.time with leadRecv := none, leadMissed := 0, runA := 0, runB := 0, xferOn := false, leadIsB := s2.time.leadIsB && c != .join }
    twin := { pairInit s2.twin with mode := m, peerLeft := none, partnerLost := s2.twin.partnerLost && c != .join, hbLast := [some n, some n, some n], hbSaid := [false, false, false] } }

/-- Whether the seat sends and counts heartbeats (R237): also after it has left, while the lanes are still up, so that they announce the
leave (R227). -/
def State.beats (s : State) : Bool := s.alive && (s.paired || s.twin.mode == .orphaned || s.twin.linkDown)

/-! ## Leaving (R227, R236) -/

/-- The Flume comes down at its safe point, the end of the exchange of the tick in progress (R236); `hot` says whether that tick is one of
lockstep. -/
def lanesDown (hot : Bool) (s : State) : State :=
  if s.twin.linkDown then { s with twin := { s.twin with linkAgain := false } }
  else { s with twin := { s.twin with linkDown := s.twin.linkOn, linkAgain := false, downTick := s.time.tick, downHot := hot } }

/-- The Flume's lanes are enabled: at once where they are down, or again after the safe point (R236). -/
def lanesUp (s : State) : State :=
  if s.twin.linkDown then { s with twin := { s.twin with linkAgain := true } }
  else if s.twin.linkOn then s
  else { s with twin := { s.twin with linkOn := true, nonce := [], answered := false, helloT := none, verified := false, helloFail := 0 } }

/-- Back to SOLO (R227). A standby then carries its heads itself. -/
def goSolo (n : Nat) (s : State) : State :=
  if s.twin.mode = .solo then s
  else
    let standby := s.twin.mode == .coldStandby
    let s1 := toMode .solo .leave s
    if standby then bringUp s1.cfg false n (unitsOff s1) else s1

/-- The tick of a leave that this seat announces (R227): of the TWIN_LEAVE that waits, or the present one once it has left. -/
def ownLeave (s : State) : Option Nat :=
  if s.twin.linkDown then some s.twin.downTick
  else (s.cmd.accepted.filterMap (fun a => match a.cmd with | .twinLeave => some a.tick | _ => none)).head?

/-- TWIN_LEAVE at its apply tick (R227), which its acceptance has announced, and its partner's return: the lanes go down at the safe point. -/
def leaveTwin (n : Nat) (s : State) : State := lanesDown s.hot (goSolo n s)

/-- The partner has announced a leave (R227). -/
def noteLeave (n : Nat) (s : State) : State :=
  { s with twin := { s.twin with peerLeft := some (min n (s.twin.peerLeft.getD n)) } }

/-- Whether the Flume has reached its safe point (R236): the tick in which it was told to come down has ended with its exchange, the SIG frames
of the head frames that the tick governs are out, and no SNAP segment is in flight. -/
def atSafePoint (s : State) : Bool :=
  s.twin.downTick < s.time.tick && s.twin.xchgTick.isNone && !s.twin.outstanding.any (fun o => o.snap)
  && (!s.twin.downHot || s.heads.all (fun e => !e.2.inFrame || e.2.frame.all (fun fi => s.twin.downTick < fi.tick)))

/-- FLUME_SAFE_POINT (R236): the lanes go down, and where they were enabled again meanwhile the handshake runs again. -/
def execFlumeSafePoint (t : Time64) (s : State) : Host.Outcome State Fault Refusal :=
  act (fun s =>
    if !s.twin.linkDown || !atSafePoint s then s
    else
      let s1 := { (atTime t s) with twin := { s.twin with
        linkOn := false, linkDown := false, lanes := [], verified := false, answered := false, nonce := [], peerNonce := [], sending := none,
        receiving := none, outstanding := [] } }
      if s1.twin.linkAgain then { (lanesUp s1) with twin := { (lanesUp s1).twin with linkAgain := true } } else s1) s

/-- A changed TWIN_LANE_ENABLE (R232, R236): 0 takes the lanes down, anything else enables them. -/
def settleFlume (o : Cfg) (h : CmdHdr) (k : Cmd) (s : State) : State :=
  let recs := recsOf k
  if !recs.any (fun r => r.2.pid == pTwinLaneEnable) then s
  else if pv s.cfg pTwinLaneEnable 0 = 0 then
    if pv o pTwinLaneEnable 0 = 0 then s else dropDeferred .flume (lanesDown s.hot s)
  else
    let s1 := if s.twin.linkDown then deferFor .flume h k s else s
    lanesUp s1

/-- Whether a command enables the Flume again before its safe point (R236). -/
def flumeDeferred (s : State) (k : Cmd) (c : Cfg) : Bool :=
  (recsOf k).any (fun r => r.2.pid == pTwinLaneEnable) && pv c pTwinLaneEnable 0 != 0 && s.twin.linkDown

/-! ## Lanes (R232, R233) -/

/-- The lanes that count for the stripe: good and enabled. A stripe that comes down keeps its good lanes until the safe point (R236). -/
def goodLanes (s : State) : List Nat :=
  if !s.twin.linkOn then []
  else (List.range 8).filter (fun l =>
    nth false s.twin.lanesGood l && (bit (pv s.cfg pTwinLaneEnable 0) l || (s.twin.linkDown && s.twin.lanes.contains l)))

/-- How many lanes a row of R232's table uses; a standby keeps the two lowest (R260). -/
def laneRow (s : State) (n : Nat) : Nat :=
  let k := if 8 ≤ n then 8 else if 4 ≤ n then 4 else if 2 ≤ n then 2 else n
  if s.twin.mode = .coldActive || s.twin.mode = .coldStandby then min 2 k else k

/-- The stripe at a tick boundary (R232, R233): the lowest good lanes where a lane of the stripe is no longer good or the count moves to
another row; otherwise a lane that is good again stays outside. -/
def nextStripe (s : State) : List Nat :=
  let good := goodLanes s
  let k := laneRow s good.length
  if s.twin.lanes.all (fun l => good.contains l) && s.twin.lanes.length = k then s.twin.lanes else good.take k

/-- The stripe follows its lanes at a tick boundary, with FLUME_LANES (R233). -/
def settleLanes (s : State) : State :=
  let l := nextStripe s
  if l = s.twin.lanes then s
  else raise .flumeLanes [(1, s.twin.lanesUsed), (1, l.length)] { s with twin := { s.twin with lanes := l } }

/-- FLUME_LANE_LOSS (R233): a lane stops being good, and leaves the stripe at the next tick boundary; or a lane outside it meets an error in
its test pattern. -/
def execFlumeLaneLoss (l : Fin 8) (t : Time64) (s : State) : Host.Outcome State Fault Refusal :=
  act (fun s =>
    if !s.twin.linkOn then s
    else
      let s1 := atTime t s
      { s1 with twin := { s1.twin with
        lanesGood := setNth false s1.twin.lanesGood l
        prbsErr := if s1.twin.lanes.contains l then s1.twin.prbsErr
          else setNth ((nth 0 s1.twin.prbsErr l + 1) % 2 ^ 32) s1.twin.prbsErr l } }) s

/-- FLUME_LANE_REJOIN (R233): a lane has run 1,000 ms without an error; it joins the stripe at a tick boundary where it raises the count. -/
def execFlumeLaneRejoin (l : Fin 8) (t : Time64) (s : State) : Host.Outcome State Fault Refusal :=
  act (fun s =>
    if !s.twin.linkOn then s else { (atTime t s) with twin := { s.twin with lanesGood := setNth true s.twin.lanesGood l } }) s

/-! ## The handshake (R234, R235) -/

/-- This seat's HELLO, the certificate with the first of a handshake. -/
def ownHello (first : Bool) (s : State) : Hello :=
  let m : Hello := { uniqueId := s.life.uid, installId := s.life.installId.getD (zeros 16), fwDigest := s.fwDigest, nonce := s.twin.nonce,
                     peerNonce := padTo 16 s.twin.peerNonce, seat := b2n s.seatB, mode := s.twin.mode.code, goodLanes := maskOf (goodLanes s),
                     joinable := pv s.cfg pTwinJoinable 0 == 1, signature := [], cert := if first then s.life.cert else [], at' := s.time.now }
  { m with signature := Config.ecdsaSign (helloBody m) }

/-- Whether the life-cycle state permits a handshake (R425). -/
def twinPermitted (s : State) : Bool := s.life.state == .field || s.life.state == .service

/-- HELLO_SEND (R230, R234): every 100 ms until answered, then every second. -/
def execHelloSend (t : Time64) (s : State) : Host.Outcome State Fault Refusal :=
  act (fun s =>
    let gap := if s.twin.answered then 1000000000 else 100000000
    let due := match s.twin.helloT with
      | some u => u + gap ≤ t
      | none => true
    if !s.linkUsed || !twinPermitted s || !due then s
    else
      let s1 := atTime t s
      let first := s1.twin.nonce == []
      let (n, s2) := if first then freeBytes 16 s1 else (s1.twin.nonce, s1)
      let s3 := { s2 with twin := { s2.twin with nonce := n, helloT := some t } }
      sendFlume (.hello (ownHello first s3)) s3) s

/-- A pending TWIN_JOIN ends with FAIL_TWIN_HANDSHAKE (R234). -/
def endJoin (s : State) : State :=
  match s.twin.join with
  | some j =>
    let s1 := { s with twin := { s.twin with join := none, sending := none } }
    match j.hdr with
    | some (h, k) => answer h (opcodeOf k) s1.intervalTick (.fail 2) (movedBit h s1.intervalTick) [] s1
    | none => s1
  | none => s

/-- A handshake check that fails (R234): its event once, and no twin mode. -/
def failHello (code : Nat) (ev : Ev) (s : State) : State :=
  let s1 := if s.twin.helloFail = code then s else raise ev [] s
  endJoin { s1 with twin := { s1.twin with helloFail := code, verified := false } }

/-- TWIN_PARTNER_REPLACED (R235). -/
def partnerReplaced (s : State) : State :=
  raise .twinPartnerReplaced [(16, ofLe s.twin.peerUid)] { s with twin := { s.twin with replaced := true, replacedT := some s.time.now } }

/-- A handshake with a part that is not the stored partner fails (R234, R235). -/
def refuseHello (s : State) : State :=
  endJoin { (if s.twin.replaced then s else partnerReplaced s) with
    twin := { (if s.twin.replaced then s else partnerReplaced s).twin with helloFail := 5, verified := false } }

/-- A handshake that completes (R234, R236). -/
def passHello (s : State) : State :=
  let s1 := { s with twin := { s.twin with verified := true, helloFail := 0, replaced := false } }
  if s1.twin.linkAgain then
    let tag := match s1.cmd.deferred.find? (fun q => q.1 == .flume) with
      | some q => some q.2.1.tag
      | none => none
    let s2 := dropDeferred .flume { s1 with twin := { s1.twin with linkAgain := false } }
    raiseAt s2.time.now .twinFlumeReady tag [] s2
  else s1

/-- The checks of a HELLO in R234's order. A signature that is not yet over this seat's own nonce neither completes nor fails the handshake. -/
def judgeHello (m : Hello) (s : State) : State :=
  let cert := if m.cert == [] then s.twin.peerCert else m.cert
  let s1 := { s with twin := { s.twin with
    answered := true, peerNonce := m.nonce, peerCert := cert, peerUid := m.uniqueId, peerJoinable := m.joinable } }
  if m.seat = b2n s1.seatB then failHello 1 .twinSeatConflict s1
  else if !Config.ecdsaVerify cert (helloBody m) m.signature then failHello 2 .twinAuthFail s1
  else if m.installId != s1.life.installId.getD (zeros 16) then failHello 3 .twinInstallMismatch s1
  else if m.fwDigest != s1.fwDigest then failHello 4 .twinFwMismatch s1
  else if s1.twin.nonce != [] && m.peerNonce == s1.twin.nonce then
    if s1.twin.partner = some s1.twin.peerUid then passHello s1 else refuseHello s1
  else s1

/-- HELLO_RECEIVED (R234). -/
def execHelloReceived (m : HelloIn) (s : State) : Host.Outcome State Fault Refusal :=
  let w := m.frame
  let joinable := m.joinable
  let t := m.at'
  act (fun s =>
    match takeFrame 1 (twinPermitted s) w s with
    | (none, s1) => s1
    | (some f, s1) => judgeHello (readHello joinable t f.2) (atTime t s1)) s

/-- TWIN_PARTNER_REPLACED's repetition (R235): every 10 s until the peer is adopted. -/
def execTwinPartnerReplaced (t : Time64) (s : State) : Host.Outcome State Fault Refusal :=
  act (fun s =>
    let due := match s.twin.replacedT with
      | some u => u + 10000000000 ≤ t
      | none => true
    if s.linkUsed && s.twin.replaced && due then partnerReplaced (atTime t s) else s) s

/-- TWIN_ADOPT (R235). -/
def applyAdopt (uid : Bytes) (s : State) : State :=
  flashStore (.partner uid) { s with twin := { s.twin with partner := some uid, replaced := false } }

/-! ## Heartbeats (R237 to R239, R48) -/

/-- This seat's heartbeat (R237); the leave that it announces goes with it (R227). -/
def ownHeartbeat (s : State) : Heartbeat :=
  let age := match s.twin.snapT with
    | some t => (s.time.now - t) / 1000000000
    | none => 0xFFFFFFFF
  { seat := b2n s.seatB, mode := s.twin.mode.code, withdrawn := s.twin.withdrawn, leaving := ownLeave s,
    thermal := s.power.decided.code, tstate := s.time.own.code, snapAge := age, at' := s.time.now }

/-- The UDP heartbeat's bytes (R237): seat, mode, tick and unique ID; the layout is not given (log entry 35). -/
def udpBeatBytes (n : Nat) (s : State) : Bytes := le 1 (b2n s.seatB) ++ le 1 s.twin.mode.code ++ zeros 6 ++ le 8 n ++ s.life.uid

/-- Whether the control firmware has completed its work for the tick before one (R237): its decision point, with the exchange. -/
def workDone (n : Nat) (s : State) : Bool := n ≤ s.time.decided + 1 && s.twin.xchgTick.all (fun m => n ≤ m)

/-- The heartbeats of a tick on the three paths (R237), with the thermal level of this tick (R438). -/
def sendBeats (n : Nat) (s : State) : State :=
  if !s.beats || !workDone n s then s
  else
    let s1 := sendFrame n none (.heartbeat (ownHeartbeat s)) s
    let s2 := emit (.hbPulse s.time.now) { s1 with power := { s1.power with sentLevel := s.power.decided } }
    let dst := pa s.cfg pTwinHbUdp 0
    if dst.fam = 0 then s2
    else
      let b := udpBeatBytes n s
      emit (.udp dst (b ++ (Config.hmacSha256 s.life.installKey b).take 16)) s2

/-- The ticks that ended without a heartbeat on a path are counted (R265). -/
def countMisses (n : Nat) (s : State) : State :=
  if !s.beats || n = 0 then s
  else
    let miss := fun (i : Nat) => b2n (nth none s.twin.hbLast i != some (n - 1))
    { s with twin := { s.twin with cnt := { s.twin.cnt with
      hbFlume := (s.twin.cnt.hbFlume + miss 0) % 2 ^ 32, hbPin := (s.twin.cnt.hbPin + miss 1) % 2 ^ 32
      hbUdp := (s.twin.cnt.hbUdp + miss 2) % 2 ^ 32 } } }

/-- A heartbeat counted for a tick on a path (R237); a partner that was declared failed has been seen again, and can fail again (R238,
R239). -/
def countBeat (path n : Nat) (s : State) : State :=
  let last := nth none s.twin.hbLast path
  let s1 := { s with twin := { s.twin with
    hbLast := setNth (some (max n (last.getD n))) s.twin.hbLast path, hbSaid := setNth false s.twin.hbSaid path } }
  let s2 := { s1 with twin := { s1.twin with partnerLost := false } }
  if s1.twin.mode == .orphaned && s1.twin.partnerLost then raise .twinPartnerSeen [] s2 else s2

/-- The runs of R48 after the heartbeats of a tick: seat B strictly better, or seat A at least as good. A tick without both starts them
again. -/
def countRun (own peer : Nat) (fresh : Bool) (s : State) : State :=
  let (a, b) := if s.seatB then (peer, own) else (own, peer)
  let ra := if fresh then 0 else s.time.runA
  let rb := if fresh then 0 else s.time.runB
  { s with time := { s.time with runB := if b < a then rb + 1 else 0, runA := if a ≤ b then ra + 1 else 0 } }

/-- HEARTBEAT_RECEIVED (R237). -/
def execHeartbeatReceived (i : Framed Heartbeat) (s : State) : Host.Outcome State Fault Refusal :=
  let m := i.msg
  let w := i.frame
  act (fun s =>
    match takeFrame 2 s.beats w s with
    | (none, s1) => s1
    | (some f, s1) =>
      let n := f.1.tick
      let fresh := !(nth none s1.twin.hbLast 0).any (fun k => k + 1 == n)
      let s2 := countBeat 0 n (atTime m.at' s1)
      let lvl : ThermalLevel := if m.thermal = 0 then .normal else if m.thermal = 1 then .warning else .throttle
      let s3 := { s2 with power := { s2.power with peerLevel := lvl } }
      let s4 := match m.leaving with
        | some k => noteLeave k s3
        | none => s3
      if s4.paired && n = s4.time.tick then countRun s4.time.own.code m.tstate fresh s4 else s4) s

/-- TWIN_HB_IN_EDGE (R237): counted for tick n within [T(n) − 10 µs, T(n+1) − 10 µs). -/
def execTwinHbInEdge (t : Time64) (s : State) : Host.Outcome State Fault Refusal :=
  act (fun s => if s.beats then countBeat 1 (s.grid.tickAt (t + 10000)) (atTime t s) else s) s

/-- UDP_HEARTBEAT_RECEIVED (R237): it counts for the tick in its body where it authenticates and comes from the partner (log entry 35). -/
def execUdpHeartbeatReceived (m : UdpHeartbeat) (s : State) : Host.Outcome State Fault Refusal :=
  act (fun s =>
    if s.beats && s.life.installId.isSome && m.mac == (Config.hmacSha256 s.life.installKey m.body).take 16
        && fld m.body 0 1 != b2n s.seatB && some (slice m.body 16 16) == s.twin.partner then
      countBeat 2 (fld m.body 8 8) (atTime m.at' s)
    else s) s

/-- Whether a path had no heartbeat counted for the three ticks before a tick. -/
def pathSilent (s : State) (n path : Nat) : Bool :=
  match nth none s.twin.hbLast path with
  | some k => k + 4 ≤ n
  | none => true

/-- TWIN_HB_PATH (R237): a path has been silent for 3 ticks. That alone changes nothing. -/
def execTwinHbPath (path : Fin 3) (t : Time64) (s : State) : Host.Outcome State Fault Refusal :=
  act (fun s =>
    if s.beats && pathSilent s s.time.tick path && !nth false s.twin.hbSaid path then
      raise .twinHbPath [(1, (path : Nat))] { (atTime t s) with twin := { s.twin with hbSaid := setNth true s.twin.hbSaid path } }
    else s) s

/-! ## Orphaning and takeover (R238, R239, R263, R297, R298) -/

/-- A seat becomes ORPHANED (R239). From HOT seat B changes the numbering of its sessions and codes two IDRs (R297). -/
def orphan (s : State) : State :=
  let wasHot := s.hot
  let s1 := toMode .orphaned .failure s
  let s2 := { s1 with twin := { s1.twin with partnerLost := true, join := none, sending := none, receiving := none } }
  if wasHot && s2.seatB then
    { s2 with enc := s2.enc.map (fun (e : Nat × Session) => (e.1,
        if e.2.running then { e.2 with altSsrc := true, seq := (e.2.seq + 32768) % 65536, idrDue := 2 } else e.2)) }
  else s2

/-- A takeover begins (R263 steps 1 to 3): the units start, and the snapshot is applied at the first tick whose decision point lies 1 ms
later (log entry 36). -/
def beginTakeover (s : State) : State :=
  { s with twin := { s.twin with takeover := some (s.grid.firstDecision (s.time.now + 1000000)) } }

/-- The sessions of a takeover go on from the snapshot (R298). -/
def takeoverSessions (s : State) : State :=
  { s with enc := s.enc.map (fun (e : Nat × Session) => (e.1,
      if e.2.running then { e.2 with seq := (e.2.seq + 32768) % 65536, idrDue := max 1 e.2.idrDue } else e.2)) }

/-- The snapshot that a standby holds. -/
def heldSnapshot (s : State) : Option Snapshot :=
  match s.twin.snapHeld with
  | some r => Config.snapshotOf r.data
  | none => none

/-- A takeover takes effect (R263 step 3): after a failure the seat is ORPHANED, by plan it is COLD-ACTIVE. Without a snapshot the seat
goes on with the configuration it has. -/
def finishTakeover (n : Nat) (s : State) : State :=
  let planned := match s.twin.snapHeld with
    | some r => r.purpose == 3
    | none => false
  let s1 := { s with twin := { s.twin with takeover := none } }
  let s2 := if planned then toMode .coldActive .takeover s1 else orphan s1
  match heldSnapshot s2 with
  | some p => takeoverSessions (adoptSnapshot p false false false n s2)
  | none => bringUp s2.cfg false n (unitsOff s2)

/-- PARTNER_FAILED (R238). -/
def execPartnerFailed (t : Time64) (s : State) : Host.Outcome State Fault Refusal :=
  act (fun s =>
    let n := s.grid.decidedAt t
    if !s.alive || !s.paired || s.twin.peerLeft.isSome || s.twin.partnerLost || !(List.range 3).all (pathSilent s n) then s
    else
      let last := s.twin.hbLast.map (fun k => (8, k.getD 0))
      let s1 := raise .twinPartnerFailed last (atTime t s)
      match s1.twin.mode with
      | .coldStandby =>
        let s2 := { s1 with twin := { s1.twin with partnerLost := true } }
        if pv s2.cfg pTwinTakeover 0 = 0 then beginTakeover s2 else s2
      | _ => orphan s1) s

end Sys2Proof.Machine
end

