-- ==== Sys2Proof/Machine/Borrow.lean ====
section
/-! DEFINITION. Borrowing of stream packets between the seats of a HOT pair (R251 to R253). -/
namespace Sys2Proof.Machine

/-- Whether the pair can borrow (R232, R251). -/
def State.borrows (s : State) : Bool := s.alive && s.hot && 2 ≤ s.twin.lanesUsed

/-! ## The borrower (R251) -/

/-- The sequence numbers that a stream still misses on both paths: between the last access unit released or closed and the highest
number accepted, and not asked for yet. -/
def missing (s : State) (x : Nat) : List Nat :=
  let m := s.stream x
  let asked := tget [] s.twin.borrowAsked x
  let have' := m.aus.flatMap (fun a => a.got)
  let low := match m.lastAuEnd with
    | some e => e + 1
    | none => match have' with
      | [] => m.highExt.getD 0
      | a :: r => r.foldl Nat.min a
  match m.highExt with
  | some h => (countFrom low (h - low)).filter (fun e => !have'.contains e && !asked.contains e)
  | none => []

/-- Whether a later number was accepted at least TWIN_BORROW_WAIT ago. -/
def waited (s : State) (x ext : Nat) (t : Time64) : Bool :=
  (s.stream x).seen.any (fun e => ext < e.ext && e.t + 1000 * pv s.cfg pTwinBorrowWait 0 ≤ t)

/-- Numbers in rising order as closed ranges. -/
def rangesOf : List Nat → List (Nat × Nat)
  | [] => []
  | a :: r =>
    match rangesOf r with
    | (lo, hi) :: q => if lo = a + 1 then (a, hi) :: q else (a, a) :: (lo, hi) :: q
    | [] => [(a, a)]

/-- BORROW_WAIT_TIMEOUT (R251): what is due is asked for, in up to 64 closed ranges. -/
def execBorrowWaitTimeout (x : Fin 128) (ext : Nat) (t : Time64) (s : State) : Host.Outcome State Fault Refusal :=
  act (fun s =>
    let due := (missing s x).filter (fun e => waited s x e t)
    if !s.borrows || !due.contains ext then s
    else
      let rs := (rangesOf due).take 64
      let asked := due.filter (fun e => rs.any (fun r => r.1 ≤ e && e ≤ r.2))
      let low := (s.stream x).lastAuEnd.getD 0
      let old := (tget [] s.twin.borrowAsked x).filter (fun e => low < e)
      let s1 := atTime t s
      sendFlume (.borrowReq ⟨x, rs, none, t⟩)
        { s1 with twin := { s1.twin with borrowAsked := tset x (old ++ asked) s1.twin.borrowAsked } }) s

/-- Whether a stream's own paths have been silent for TWIN_BORROW_IDLE. -/
def ownSilent (s : State) (x : Nat) (t : Time64) : Bool :=
  match (s.stream x).ownPkt with
  | some l => l + 1000 * pv s.cfg pTwinBorrowIdle 0 ≤ t
  | none => true

/-- BORROW_IDLE_TIMEOUT (R251): an open request from the next number, renewed every 100 ms while the own path stays silent. -/
def execBorrowIdleTimeout (x : Fin 128) (t : Time64) (s : State) : Host.Outcome State Fault Refusal :=
  act (fun s =>
    let m := s.stream x
    let state := m.state == .priming || m.state == .flowing || m.state == .gapped
    let again := match tfind s.twin.borrowOpen x with
      | some u => u + 100000000 ≤ t
      | none => true
    match m.highExt with
    | none => s
    | some e =>
      if !s.borrows || !state || !ownSilent s x t || !again then s
      else
        let s1 := atTime t s
        sendFlume (.borrowReq ⟨x, [], some (e + 1), t⟩)
          { s1 with twin := { s1.twin with borrowOpen := tset x t s1.twin.borrowOpen } }) s

/-- A borrowed packet as it enters the merge (R252): its bytes and the path that it came on at the lender. -/
def borrowIn (p : BorrowPkt) : Inbound :=
  ⟨0, p.path, p.bytes, (datagramIn p.bytes).bind (fun u => if u.ok then some u.data else none)⟩

/-- BORROW_DATA_RECEIVED (R252): borrowed packets enter the merge, complete at their local receipt and arrive at the lender's ARRIVAL_T. -/
def execBorrowDataReceived (i : Framed (List BorrowPkt)) (notHeld : Bool) (x : Fin 128) (t : Time64) (s : State) : Host.Outcome State Fault Refusal :=
  let packets := i.msg
  let w := i.frame
  act (fun s =>
    match takeFrame 7 (s.hot && 2 ≤ s.twin.lanesUsed) w s with
    | (none, s1) => s1
    | (some _, s1) =>
      if notHeld || !streamOn s1.cfg x then atTime t s1
      else packets.foldl (fun a p =>
        takePacket x 2 (borrowIn p) t p.arrivalT { a with twin := { a.twin with cnt := { a.twin.cnt with borrowed := (a.twin.cnt.borrowed + 1) % 2 ^ 64 } } })
        (atTime t s1)) s

/-! ## The lender (R252, R253) -/

/-- A packet that is still held. -/
def heldPacket (s : State) (x ext : Nat) : Option Held := ((s.stream x).aus.flatMap (fun a => a.pkts)).find? (fun p => p.ext == ext)

/-- A requested packet is sent, or answered NOT_HELD (1) or NOT_SENT (2). -/
def answerBorrow (x ext : Nat) (s : State) : State :=
  match heldPacket s x ext with
  | some p => lend x ext ⟨p.path, p.arr, p.bytes⟩ s
  | none =>
    sendFlume (.borrowData x ext 1 none) { s with twin := { s.twin with
      cnt := { s.twin.cnt with notHeld := (s.twin.cnt.notHeld + 1) % 2 ^ 32 } } }

/-- BORROW_REQ_RECEIVED (R251 to R253): closed ranges are answered at once; an open one forwards what is held from its number on and every
packet accepted in the next 100 ms. -/
def execBorrowReqReceived (i : Framed BorrowReq) (s : State) : Host.Outcome State Fault Refusal :=
  let m := i.msg
  let w := i.frame
  act (fun s =>
    match takeFrame 6 (s.hot && 2 ≤ s.twin.lanesUsed) w s with
    | (none, s1) => s1
    | (some _, s1) =>
      let s2 := atTime m.at' s1
      let exts := (m.ranges.take 64).flatMap (fun r => countFrom r.1 (min 65536 (r.2 + 1 - r.1)))
      let s3 := exts.foldl (fun a e => answerBorrow m.source e a) s2
      match m.openFrom with
      | none => s3
      | some f =>
        let held := ((s3.stream m.source).aus.flatMap (fun a => a.got)).filter (fun e => f ≤ e)
        let s4 := { s3 with twin := { s3.twin with lendOpen := tset m.source (m.at' + 100000000) s3.twin.lendOpen } }
        held.foldl (fun a e => answerBorrow m.source e a) s4) s

/-- OPEN_BORROW_EXPIRY (R251): the forwarding of an open request ends. -/
def execOpenBorrowExpiry (x : Fin 128) (t : Time64) (s : State) : Host.Outcome State Fault Refusal :=
  act (fun s =>
    match tfind s.twin.lendOpen x with
    | some e => if e ≤ t then { (atTime t s) with twin := { s.twin with lendOpen := tdel x s.twin.lendOpen } } else s
    | none => s) s

end Sys2Proof.Machine
end

