-- ==== Sys2Proof/Machine/Check.lean ====
section
/-! DEFINITION. The check-value units (R327 to R333): their queues, their operations and the comparison of a result with guarded
references. -/
namespace Sys2Proof.Machine

/-- A context after data (R323, R328). -/
def feedCtx (x : CuContext) (d : Bytes) : CuContext :=
  { x with state := crcRun x.alg x.state d, length := (x.length + d.length) % 2 ^ 64 }

/-- A context's 24 bytes (R330). -/
def ctxBytes (x : CuContext) : Bytes := le 1 x.alg ++ le 1 (b2n x.folded) ++ zeros 6 ++ le 8 x.state.toNat ++ le 8 x.length

/-- A unit's result (R323). -/
def cuResult (x : CuContext) : BitVec 64 := crcResult x.alg x.state

/-- The reply of a CHECK command (R356, R390). -/
def cuReply (a : Accepted) (st : Status) (result : Bytes) (s : State) : State :=
  answer a.hdr (opcodeOf a.cmd) a.tick st (movedBit a.hdr a.tick) result s

/-- CU_MISMATCH (R332). -/
def cuMismatch (unit : Nat) (c : CmpClass) (refFault : Bool) (result refA refB fold : BitVec 64) (s : State) : State :=
  raise .cuMismatch [(1, unit), (1, c.code), (1, b2n refFault), (8, result.toNat), (8, refA.toNat), (8, refB.toNat), (8, fold.toNat)] s

/-- A reference slot that holds a value, with its complement and both guards (R331). -/
def refOf (v : BitVec 64) : RefSlot := ⟨v, ~~~v, refGuard v, refGuard (~~~v)⟩

/-- A comparison (R331, R332): the class, REF_FAULT and the copies as read. -/
def cuClassify (s : State) (mode slot : Nat) (refA : BitVec 64) (guardA : Nat) (refB : BitVec 64) (guardB : Nat) (result : BitVec 64) :
    (CmpClass × Bool) × BitVec 64 × BitVec 64 :=
  if mode = 0 then ((if result = refA then .isMatch else .unclassified, false), refA, refB)
  else if mode = 1 then (compareDual refA refB (BitVec.ofNat 16 guardA) (BitVec.ofNat 16 guardB) result, refA, refB)
  else
    let r := s.refSlot slot
    (compareDual r.copyA r.copyB r.guardA r.guardB result, r.copyA, r.copyB)

/-- CU_COMPARE (R331, R332): a reference fault of a stored reference rewrites the slot from the passing copy. -/
def cuCompareOp (a : Accepted) (unit mode slot : Nat) (refA : BitVec 64) (guardA : Nat) (refB : BitVec 64) (guardB : Nat) (s : State) : State :=
  let u := s.cuUnit unit
  let v := cuResult u.ctx
  let (c, ra, rb) := cuClassify s mode slot refA guardA refB guardB v
  let s1 := if mode = 2 && c.1 == .referenceFault then s.setRefSlot slot (refOf v) else s
  let s2 := if c.1 == .isMatch then s1 else cuMismatch unit c.1 c.2 v ra rb u.fold s1
  cuReply a .ok (le 8 v.toNat ++ le 1 c.1.code ++ le 1 (b2n c.2) ++ zeros 2) s2

/-- An operation of a unit that is done at once (R328). Feeds from memory are not. A context that comes from outside does not name its fold
word, which CU_MISMATCH then carries as a free value (log entry 30). -/
def cuRun (a : Accepted) (unit : Nat) (s : State) : State :=
  let u := s.cuUnit unit
  match a.cmd with
  | .cuStart _ alg foldEn fold =>
    let f := if foldEn = 1 then some fold else none
    cuReply a .ok [] (s.setCuUnit unit { u with ctx := ⟨alg, foldEn == 1, crcStart alg f, 0⟩, fold := if foldEn = 1 then fold else 0 })
  | .cuFeed _ _ _ _ d => cuReply a .ok [] (s.setCuUnit unit { u with ctx := feedCtx u.ctx d })
  | .cuCtxRead _ => cuReply a .ok (ctxBytes u.ctx) s
  | .cuCtxWrite _ x =>
    let (f, s1) := if x.folded then freeBelow (2 ^ 64) s else (0, s)
    cuReply a .ok [] (s1.setCuUnit unit { u with ctx := x, fold := BitVec.ofNat 64 f })
  | .cuFinish _ => cuReply a .ok (le 8 (cuResult u.ctx).toNat) s
  | .cuCompare _ mode slot refA guardA refB guardB => cuCompareOp a unit mode slot refA guardA refB guardB s
  | .cuStore _ slot => cuReply a .ok (le 8 (cuResult u.ctx).toNat) (s.setRefSlot slot (refOf (cuResult u.ctx)))
  | _ => s

/-- Whether an operation reads memory and so takes time (R329). -/
def cuReads : Cmd → Bool
  | .cuFeed _ kind _ _ _ => kind != 0
  | _ => false

/-- The commands of a unit that is free run in their order, up to the next that reads memory (R327). -/
def runUnit (unit : Nat) : Nat → State → State
  | 0, s => s
  | n + 1, s =>
    let u := s.cuUnit unit
    match u.busy, u.queue with
    | none, a :: r =>
      let s1 := s.setCuUnit unit { u with queue := r }
      if cuReads a.cmd then s1.modCuUnit unit (fun v => { v with busy := some a }) else runUnit unit n (cuRun a unit s1)
    | _, _ => s

/-- A unit goes on with what waits. -/
def cuGo (unit : Nat) (s : State) : State := runUnit unit ((s.cuUnit unit).queue.length + 1) s

/-- The unit of a CHECK command. -/
def cuUnitOf : Cmd → Nat
  | .cuStart u _ _ _ => u
  | .cuFeed u _ _ _ _ => u
  | .cuCtxRead u => u
  | .cuCtxWrite u _ => u
  | .cuFinish u => u
  | .cuCompare u _ _ _ _ _ _ => u
  | .cuStore u _ => u
  | _ => 0

/-- A CHECK command at its apply tick (R327): it joins its unit's queue. -/
def applyCheck (a : Accepted) (s : State) : State :=
  let u := cuUnitOf a.cmd
  cuGo u (s.modCuUnit u (fun v => { v with queue := v.queue ++ [a] }))

/-- Whether a device range holds data known lost (R309, R329). -/
def rangeLost (s : State) (addr len : Nat) : Bool :=
  s.mem.poison != [] && (List.range ((addr + len + 15) / 16 - addr / 16)).any (fun i =>
    s.mem.poison.contains (placeOf s.mem (16 * (addr / 16 + i))).ga)

/-- The data of a DEVICE feed: DRAM in the host region; what lies elsewhere is firmware's own, and the operand says what was read
(R302, R329, log entry 104). -/
def deviceData (s : State) (addr len : Nat) (d : Bytes) : Bytes :=
  let lo := hostBase s.cfg
  let hi := lo + pv s.cfg pMemHostSize 0 * 2 ^ 20
  (((dramRead s.dram addr len).zip (padTo len d)).zip (countFrom addr len)).map (fun e => if lo ≤ e.2 && e.2 < hi then e.1.1 else e.1.2)

/-- The data of a feed that has ended, or none where it failed (R329). -/
def feedData (s : State) (k : Cmd) (data : Option Bytes) : Option Bytes :=
  match k, data with
  | .cuFeed _ kind addr len _, some d =>
    if kind = 2 then (if rangeLost s addr len then none else some (deviceData s addr len d)) else some (padTo len d)
  | _, _ => none

/-- CU_FEED_COMPLETE (R327, R329): the operand is what was read outside the host region, or none where a read failed. A feed that fails leaves the
context as it was. -/
def execCuFeedComplete (u : Fin 8) (data : Option Bytes) (t : Time64) (s : State) : Host.Outcome State Fault Refusal :=
  act (fun s =>
    match (s.cuUnit u).busy with
    | none => s
    | some a =>
      if !s.powered || s.mem.fatal then s
      else
        let s1 := (atTime t s).modCuUnit u (fun v => { v with busy := none })
        cuGo u (match feedData s1 a.cmd data with
          | some d => cuReply a .ok [] (s1.modCuUnit u (fun v => { v with ctx := feedCtx v.ctx d }))
          | none => cuReply a (.fail 7) [] (raise .cuFeedFault [(1, (u : Nat))] s1))) s

end Sys2Proof.Machine
end

