-- ==== Sys2Proof/Machine/Accept.lean ====
section
/-! DEFINITION. The arrival of a command packet and its acceptance (R357 to R363): how a packet gets in on its transport (R366,
R367, R372), the fixed order of checks, queries answered at once, and accepted commands that wait for their apply
tick, in a twin pair with the CMD frame of R242 or R243. -/
namespace Sys2Proof.Machine

/-! ## Arrival -/

/-- Whether a completion slot of a pair is free (R366). `cqHead` counts what the host has read. -/
def QueuePair.free (p : QueuePair) : Bool := (p.cqCount - p.cqHead) + p.inFlight < p.size

/-- Whether a submission entry of a pair waits to be fetched (R364). -/
def QueuePair.waits (p : QueuePair) : Bool := p.enabled && !p.stopping && !p.fetchErr && p.sqHead != p.tail

/-- A pair with STALLED as it now is (R376). -/
def QueuePair.restall (p : QueuePair) : QueuePair := { p with stalled := p.waits && !p.free }

/-- A pair after an entry was fetched (R365, R376): SQ_HEAD moves, and one more reply is due. -/
def QueuePair.fetched (p : QueuePair) : QueuePair :=
  { p with sqHead := (p.sqHead + 1) % p.size, inFlight := p.inFlight + 1 }

/-- A packet taken in on its transport, or not: an entry needs an enabled pair and a free completion slot (R366), a CMD_WRITE
one of the four buffers (R367), a datagram a client slot and an installed key (R371). -/
def intake (t : Transport) (s : State) : Bool × State :=
  if !s.powered || s.mem.fatal then (false, s)
  else
    match t with
    | .pcie q =>
      let p := s.queue q
      if s.power.perst || !p.waits then (false, s)
      else if p.free then (true, s.setQueue q p.fetched.restall)
      else (false, s.setQueue q p.restall)
    | .spi =>
      if s.cmd.spi.held < 4 then (true, { s with cmd := { s.cmd with spi := { s.cmd.spi with held := s.cmd.spi.held + 1 } } })
      else (false, { s with cmd := { s.cmd with spi := { s.cmd.spi with overrun := true } } })
    | .udp c _ => (c < 16 && s.life.installId.isSome, s)
    | .peer => (false, s)
    | .reg => (s.cmd.ready, s)

/-! ## The replay window of a UDP client (R372) -/

/-- A UDP client slot. -/
def State.udpSlot (s : State) (c : Nat) : UdpClient := tget udpInit s.cmd.udp c

/-- Whether a SEQ passes a window. -/
def UdpClient.admits (u : UdpClient) (seq : Nat) : Bool :=
  match u.highest with
  | none => true
  | some m => m < seq || (seq < m && m ≤ seq + 64 && !u.seen.contains seq)

/-- The window after a SEQ has passed it. -/
def UdpClient.note (u : UdpClient) (seq : Nat) : UdpClient :=
  let m := max seq (u.highest.getD seq)
  ⟨some m, (seq :: u.seen).filter (fun x => m ≤ x + 64)⟩

/-- Whether a packet passes its client's replay window. Other transports have none. -/
def replayOk (s : State) (h : CmdHdr) : Bool :=
  match h.transport with
  | .udp c _ => (s.udpSlot c).admits h.seq
  | _ => true

/-- The state with a packet's SEQ entered in its client's window (log entry 14). -/
def noteReplay (h : CmdHdr) (s : State) : State :=
  match h.transport with
  | .udp c _ =>
    if replayOk s h then { s with cmd := { s.cmd with udp := tset c ((s.udpSlot c).note h.seq) s.cmd.udp } } else s
  | _ => s

/-! ## Apply ticks -/

/-- Whether a command acts on this seat only: queries, the CHECK family, and the two commands that R242 lets either
seat take (log entry 15). -/
def seatLocal (k : Cmd) : Bool :=
  isQuery k || isCheck k || (match k with
    | .twinWithdraw => true
    | .twinLeave => true
    | _ => false)

/-- The outcome of R361 for a command accepted at an instant: the tick, and whether the command is refused. -/
structure TickChoice where
  tick  : Nat
  bad   : Bool
  deriving DecidableEq, Repr

/-- The apply tick of a command (R361). `lead` is the time a decision point must lie ahead: 20 µs, or 50 µs after a
CMD_ACK (R242). -/
def State.resolve (s : State) (lead : Nat) (h : CmdHdr) : TickChoice :=
  let first := max (s.grid.firstDecision (s.time.now + lead)) (s.time.decided + 1)
  if h.applyTick = 0 then ⟨first, false⟩
  else if s.time.tick + 2 ^ 24 < h.applyTick then ⟨first, true⟩
  else if first ≤ h.applyTick then ⟨h.applyTick, false⟩
  else ⟨first, h.strict⟩

/-! ## The checks in their order (R357) -/

/-- The first of some checks to fail, as its status and DETAIL. -/
def firstFault : List (Status × List Nat) → Option (Status × Nat)
  | [] => none
  | (st, l) :: r =>
    match pickFault l with
    | some w => some (st, detailOf 0 w)
    | none => firstFault r

/-- The checks of R357 on a command's header and parameters, the budget check last. With TWIN_ROUTE BOTH an apply tick
of 0 is out of range (R243). -/
def checkCmd (s : State) (h : CmdHdr) (k : Cmd) : Option (Status × Nat) :=
  let r := s.resolve 20000 h
  let q := isQuery k
  let c := if q then s.cfg else s.cfgAt r.tick
  let c' := applyCfg s.power.forced c k
  match firstFault [
      (.rejFormat, formFaults c k),
      (.rejAuth, whole (!transportOk s h.transport k || !replayOk s h)),
      (.rejLifecycle, lifecycleFaults s k),
      (.rejState, stateFaults s h.transport r.tick c c' k),
      (.rejRange, rangeFaults s r.tick c c' k ++ atWord 2 (!q && (r.bad || (s.routeBoth && !seatLocal k && h.applyTick == 0)))),
      (.rejResource, resourceFaults s c c' k ++ whole (!q && 4096 ≤ s.cmd.accepted.length))] with
  | some f => some f
  | none =>
    match s.budgetOf r.tick k with
    | some (st, line) => some (st, detailOf line 0xFFFF)
    | none => none

/-! ## Outcomes -/

/-- A rejection (R357, R363): a reply at once, or CMD_REG_REFUSED for a BAR0 write (R377). Nothing else changes. -/
def reject (h : CmdHdr) (op : Nat) (k : Option Cmd) (f : Status × Nat) (s : State) : State :=
  match h.transport, k with
  | .reg, some c => raise .cmdRegRefused (regPayload c) s
  | _, _ => answer h op s.intervalTick f.1 f.2 [] s

/-- LAST_TAG: the TAG of the last packet accepted over SPI (R370). -/
def noteTag (h : CmdHdr) (s : State) : State :=
  match h.transport with
  | .spi => { s with cmd := { s.cmd with spi := { s.cmd.spi with lastTag := h.tag } } }
  | _ => s

/-- A query: answered at acceptance from the state in force, its counters cleared after they are read (R362, R387). -/
def answerQuery (h : CmdHdr) (k : Cmd) (s : State) : State :=
  noteSpiRead h.transport k (queryClear k (answer h (opcodeOf k) s.intervalTick .ok 0 (queryResult s k) (noteTag h s)))

/-- The body of a CMD frame for a command (R242, R243). -/
def cmdFrameOf (both : Bool) (h : CmdHdr) (k : Cmd) (t : Time64) : CmdFrame :=
  if both then ⟨none, some (h.seq, h.crc), t⟩ else ⟨some (h, k), none, t⟩

/-- A CMD frame sent for an accepted command: the packet from seat A with TWIN_ROUTE A (R242), its sequence field and CRC
with BOTH (R243). -/
def sendCmdFrame (h : CmdHdr) (k : Cmd) (s : State) : State :=
  sendFlume (.cmd (cmdFrameOf s.routeBoth h k s.time.now))
    { s with twin := { s.twin with outstanding := s.twin.outstanding ++ [⟨s.nextFseq 9, false, s.time.now, 0⟩] } }

/-- Whether a command accepted now goes to the peer as well (R242, R243). -/
def State.forwards (s : State) (h : CmdHdr) (k : Cmd) : Bool :=
  s.hot && !seatLocal k && h.transport != .peer && (s.routeBoth || !s.seatB)

/-- What the peer hears of an accepted command: a TWIN_LEAVE is announced in HOT with its apply tick (R227), a command for both seats is
forwarded (R242, R243). -/
def announceCmd (h : CmdHdr) (k : Cmd) (tick : Nat) (fwd : Bool) (s : State) : State :=
  match k with
  | .twinLeave => if s.hot then sendFlume (.state (.leave tick)) s else s
  | _ => if fwd then sendCmdFrame h k s else s

/-- An accepted non-query command joins those that wait for their apply ticks (R361, R363), and the peer hears of it. -/
def enqueue (h : CmdHdr) (k : Cmd) (s : State) : State :=
  let r := s.resolve 20000 h
  let fwd := s.forwards h k
  let a : Accepted := ⟨s.cmd.order, h, k, r.tick, if fwd then some (s.nextFseq 9) else none, !fwd, h.transport == .peer⟩
  let s1 := noteTag h { s with cmd := { s.cmd with order := s.cmd.order + 1, accepted := s.cmd.accepted ++ [a] } }
  announceCmd h k r.tick fwd s1

/-- Acceptance of a well-laid-out packet (R357, R362, R363). -/
def accept (h : CmdHdr) (k : Cmd) (s : State) : State :=
  let f := checkCmd s h k
  let s1 := match f with
    | some (.rejFormat, _) => s
    | _ => noteReplay h s
  match f with
  | some f => reject h (opcodeOf k) (some k) f s1
  | none => if isQuery k then answerQuery h k s1 else enqueue h k s1

/-- The arrival of a command packet on its transport and its acceptance. A packet that cannot get in changes at most the
transport's own flags. -/
def submit (h : CmdHdr) (k : Cmd) (s : State) : State :=
  match intake h.transport s with
  | (false, s1) => s1
  | (true, s1) => accept h k (atTime h.arrival s1)

/-- The header that acceptance uses, from a packet's bytes. -/
def hdrOf (t : Transport) (arrival : Time64) (resultAddr resultMax : Nat) (r : RawHdr) : CmdHdr :=
  { transport := t, tag := r.tag, seq := r.seq, applyTick := r.applyTick, strict := bit r.flags 1, resultAddr := resultAddr,
    resultMax := resultMax, crc := r.crc, arrival := arrival }

/-- Acceptance of a packet given by its bytes: REJ_FORMAT where they are no packet, with its opcode and TAG as
they stand. -/
def acceptParsed (t : Transport) (arrival : Time64) (resultAddr resultMax : Nat) (p : Parsed) (s : State) : State :=
  let h := hdrOf t arrival resultAddr resultMax p.hdr
  match p.cmd with
  | .error w => reject h p.hdr.opcode none (.rejFormat, detailOf 0 w) s
  | .ok k => accept h k s

end Sys2Proof.Machine
end

