-- ==== Sys2Proof/Machine/CmdCheck.lean ====
section
/-! DEFINITION. The commands of the CHECK family: the arrival of each packet and its acceptance or answer (R357 to R363). A
command's effect at its apply tick stands in Apply.lean. -/
namespace Sys2Proof.Machine

/-- CU_START (R328): Sets a check unit's algorithm, resets its running value and processes an optional fold word. -/
def execCuStart (h : CmdHdr) (unit : Nat) (alg : Nat) (foldEn : Nat) (fold : BitVec 64) (s : State) : Host.Outcome State Fault Refusal :=
  act (submit h (.cuStart unit alg foldEn fold)) s

/-- CU_FEED (R329): Starts processing inline, host or device data on a check unit. -/
def execCuFeed (h : CmdHdr) (unit : Nat) (kind : Nat) (addr : Nat) (len : Nat) (inlineData : Bytes) (s : State) : Host.Outcome State Fault Refusal :=
  act (submit h (.cuFeed unit kind addr len inlineData)) s

/-- CU_CTX_READ (R330): Returns a check unit's context. -/
def execCuCtxRead (h : CmdHdr) (unit : Nat) (s : State) : Host.Outcome State Fault Refusal :=
  act (submit h (.cuCtxRead unit)) s

/-- CU_CTX_WRITE (R330): Replaces a check unit's context. -/
def execCuCtxWrite (h : CmdHdr) (unit : Nat) (ctx : CuContext) (s : State) : Host.Outcome State Fault Refusal :=
  act (submit h (.cuCtxWrite unit ctx)) s

/-- CU_FINISH (R323): Returns a check unit's result and keeps its running value. -/
def execCuFinish (h : CmdHdr) (unit : Nat) (s : State) : Host.Outcome State Fault Refusal :=
  act (submit h (.cuFinish unit)) s

/-- CU_COMPARE (R332): Finishes a check unit and classifies the comparison of its result with a reference. -/
def execCuCompare (h : CmdHdr) (unit : Nat) (mode : Nat) (slot : Nat) (refA : BitVec 64) (guardA : Nat) (refB : BitVec 64) (guardB : Nat) (s : State) : Host.Outcome State Fault Refusal :=
  act (submit h (.cuCompare unit mode slot refA guardA refB guardB)) s

/-- CU_STORE (R331): Finishes a check unit and stores the result as two guarded copies in a reference slot. -/
def execCuStore (h : CmdHdr) (unit : Nat) (slot : Nat) (s : State) : Host.Outcome State Fault Refusal :=
  act (submit h (.cuStore unit slot)) s

end Sys2Proof.Machine
end

