-- ==== Sys2Proof/Machine/CmdCodec.lean ====
section
/-! DEFINITION. The commands of the CODEC family: the arrival of each packet and its acceptance or answer (R357 to R363). A
command's effect at its apply tick stands in Apply.lean. -/
namespace Sys2Proof.Machine

/-- CODEC_SET (R120): SET command for the decode and encode session parameters. -/
def execCodecSet (h : CmdHdr) (recs : List SetRec) (s : State) : Host.Outcome State Fault Refusal :=
  act (submit h (.codecSet recs)) s

/-- ENC_IDR (R285): Forces an IDR picture on the named encode sessions. -/
def execEncIdr (h : CmdHdr) (sessions : Nat) (s : State) : Host.Outcome State Fault Refusal :=
  act (submit h (.encIdr sessions)) s

/-- PLAYBACK_RING (R128): Configures the host descriptor ring of a playback stream. -/
def execPlaybackRing (h : CmdHdr) (stream : Nat) (vector : Nat) (log2 : Nat) (base : Nat) (s : State) : Host.Outcome State Fault Refusal :=
  act (submit h (.playbackRing stream vector log2 base)) s

/-- DEC_STATS_RING (R138): Configures the host ring for decode statistics. -/
def execDecStatsRing (h : CmdHdr) (vector : Nat) (log2 : Nat) (base : Nat) (s : State) : Host.Outcome State Fault Refusal :=
  act (submit h (.decStatsRing vector log2 base)) s

/-- CODEC_GET (R381): Query that returns the CODEC parameter values in force. -/
def execCodecGet (h : CmdHdr) (keys : List GetKey) (s : State) : Host.Outcome State Fault Refusal :=
  act (submit h (.codecGet keys)) s

/-- ENC_STATS (R299): Statistics query that returns an encode session's counters and can clear them. -/
def execEncStats (h : CmdHdr) (object : Nat) (clear : Bool) (s : State) : Host.Outcome State Fault Refusal :=
  act (submit h (.encStats object clear)) s

/-- DEC_COUNTERS (R390): Statistics query that returns the decode discard and skip counters. -/
def execDecCounters (h : CmdHdr) (object : Nat) (clear : Bool) (s : State) : Host.Outcome State Fault Refusal :=
  act (submit h (.decCounters object clear)) s

end Sys2Proof.Machine
end

