-- ==== Sys2Proof/Machine/CmdDiag.lean ====
section
/-! DEFINITION. The commands of the DIAG/SELFTEST family: the arrival of each packet and its acceptance or answer (R357 to R363). A
command's effect at its apply tick stands in Apply.lean. -/
namespace Sys2Proof.Machine

/-- DIAG_DP_PATTERN (R208): Drives a disabled DP port with a test pattern. -/
def execDiagDpPattern (h : CmdHdr) (port : Nat) (pattern : Nat) (custom : Bytes) (s : State) : Host.Outcome State Fault Refusal :=
  act (submit h (.diagDpPattern port pattern custom)) s

/-- DIAG_ETH_PRBS (R84): Drives a PRBS on an Ethernet port whose mode is OFF. -/
def execDiagEthPrbs (h : CmdHdr) (port : Nat) (rate : Nat) (on : Nat) (s : State) : Host.Outcome State Fault Refusal :=
  act (submit h (.diagEthPrbs port rate on)) s

/-- SELFTEST_RUN (R424): Runs the named self-test regions as slices in SERVICE. -/
def execSelftestRun (h : CmdHdr) (regions : Nat) (pattern : Nat) (s : State) : Host.Outcome State Fault Refusal :=
  act (submit h (.selftestRun regions pattern)) s

/-- SELFTEST_RESULT (R418): Query that returns the self-test record. -/
def execSelftestResult (h : CmdHdr) (s : State) : Host.Outcome State Fault Refusal :=
  act (submit h .selftestResult) s

/-- DIAG_THERMAL (R407): Query that returns the sensor readings, the faulty-sensor mask and the MR4 values. -/
def execDiagThermal (h : CmdHdr) (s : State) : Host.Outcome State Fault Refusal :=
  act (submit h .diagThermal) s

end Sys2Proof.Machine
end

