-- ==== Sys2Proof/Machine/CmdHead.lean ====
section
/-! DEFINITION. The commands of the HEAD family: the arrival of each packet and its acceptance or answer (R357 to R363). A
command's effect at its apply tick stands in Apply.lean. -/
namespace Sys2Proof.Machine

/-- HEAD_SET (R192): SET command for head, port, colour, pin-map and Flaund parameters. -/
def execHeadSet (h : CmdHdr) (recs : List SetRec) (s : State) : Host.Outcome State Fault Refusal :=
  act (submit h (.headSet recs)) s

/-- HEAD_DARK (R200): Blanks heads, or releases them, from the first head frame governed by the apply tick. -/
def execHeadDark (h : CmdHdr) (heads : Reg32) (dark : Nat) (s : State) : Host.Outcome State Fault Refusal :=
  act (submit h (.headDark heads dark)) s

/-- COLOUR_STAGE (R213): Stages one LUT or the matrix of a head's colour pipeline. -/
def execColourStage (h : CmdHdr) (head : Nat) (part : Nat) (data : Bytes) (s : State) : Host.Outcome State Fault Refusal :=
  act (submit h (.colourStage head part data)) s

/-- COLOUR_COMMIT (R214): Activates a fully staged colour set at the first head frame governed by the apply tick. -/
def execColourCommit (h : CmdHdr) (head : Nat) (s : State) : Host.Outcome State Fault Refusal :=
  act (submit h (.colourCommit head)) s

/-- SCALER_COEF_LOAD (R175): Loads a device-wide scaler coefficient table. -/
def execScalerCoefLoad (h : CmdHdr) (set : Nat) (data : Bytes) (s : State) : Host.Outcome State Fault Refusal :=
  act (submit h (.scalerCoefLoad set data)) s

/-- HEAD_GET (R381): Query that returns the HEAD parameter values in force. -/
def execHeadGet (h : CmdHdr) (keys : List GetKey) (s : State) : Host.Outcome State Fault Refusal :=
  act (submit h (.headGet keys)) s

/-- HEAD_STATS (R224): Statistics query that returns a head's counter block and can clear it. -/
def execHeadStats (h : CmdHdr) (object : Nat) (clear : Bool) (s : State) : Host.Outcome State Fault Refusal :=
  act (submit h (.headStats object clear)) s

/-- DP_SINK_INFO (R207): Query that returns the DPCD capabilities and EDID read at the last training. -/
def execDpSinkInfo (h : CmdHdr) (head : Nat) (s : State) : Host.Outcome State Fault Refusal :=
  act (submit h (.dpSinkInfo head)) s

end Sys2Proof.Machine
end

