-- ==== Sys2Proof/Machine/CmdIf.lean ====
section
/-! DEFINITION. The command interface's own happenings: PCIe queue pairs and their doorbells (R364 to R366), the event ring
(R374), BAR0 (R376, R377), the SPI console port (R367 to R370), UDP datagrams (R371, R372) and PERST_N (R456). -/
namespace Sys2Proof.Machine

/-! ## Register writes -/

/-- Whether BAR0 takes writes: READY is set and the PCIe endpoint is not in reset (R376, R456). -/
def State.bar0Open (s : State) : Bool := s.cmd.ready && s.powered && !s.power.perst

/-- A BAR0 write, which is refused until READY is set (R376). -/
def regWrite (f : State → State) (s : State) : State := if s.bar0Open then f s else s

/-- A 64-bit register with its low or high word replaced. -/
def setWord (old : Nat) (high : Bool) (v : Reg32) : Nat :=
  if high then old % 2 ^ 32 + 2 ^ 32 * v.toNat else old / 2 ^ 32 * 2 ^ 32 + v.toNat

/-- How far a doorbell's index lies ahead of the count consumed so far, in a ring of `size`, and no further than what
was produced. -/
def consumeTo (size consumed produced idx : Nat) : Nat :=
  min produced (consumed + (idx + size - consumed % size) % size)

/-- A submission doorbell (R364, R376): an index outside the ring sets DOORBELL_ERR and is ignored. -/
def QueuePair.setTail (p : QueuePair) (idx : Nat) : QueuePair :=
  if !p.enabled then p
  else if p.size ≤ idx then { p with doorbellErr := true }
  else { p with tail := idx }.restall

/-- A completion doorbell (R366, R376). -/
def QueuePair.setHead (p : QueuePair) (idx : Nat) : QueuePair :=
  if !p.enabled then p
  else if p.size ≤ idx then { p with doorbellErr := true }
  else { p with cqHead := consumeTo p.size p.cqHead p.cqCount idx }.restall

/-- A write of CMDQ_CFG (R364, R376). While the pair is enabled its size stays; clearing ENABLE takes effect once the last
reply has been written. Enabling restarts the pair's indices (log entry 16). -/
def QueuePair.setCfg (p : QueuePair) (v : Reg32) : QueuePair :=
  let w := v &&& 0x3FF
  if p.enabled then
    let kept := { p with cfg := (w &&& 0x3E0) ||| (p.cfg &&& 0x1F) }
    if w.getLsbD 0 then kept else ({ kept with stopping := true }.settle).restall
  else if w.getLsbD 0 then
    { p with cfg := w, tail := 0, sqHead := 0, cqHead := 0, cqCount := 0, inFlight := 0, fetchErr := false, stalled := false,
             stopping := false }
  else { p with cfg := w }

/-- A write of a ring base of a pair, while its ENABLE bit is 0 (R364). -/
def QueuePair.setBase (p : QueuePair) (sub high : Bool) (v : Reg32) : QueuePair :=
  if p.enabled then p
  else if sub then { p with sqBase := setWord p.sqBase high v }
  else { p with cqBase := setWord p.cqBase high v }

/-! ## The event ring (R374) -/

/-- Whether the event ring is enabled. -/
def EventLog.enabled (e : EventLog) : Bool := e.cfg.getLsbD 0

/-- Its size in records. -/
def EventLog.size (e : EventLog) : Nat := 2 ^ bits e.cfg.toNat 5 1

/-- Whether it has room for a record. -/
def EventLog.room (e : EventLog) : Bool := e.enabled && e.prod - e.cons < e.size

/-- One record written to the ring: the record, then EVQ_PROD and its copy, the vector and the cause bit (R374, R376,
R378). -/
def writeRing (r : EventRec) (s : State) : State :=
  let e := s.events
  let i := e.prod % e.size
  let s1 := emit (.hostWrite (e.base + 64 * i) (eventBytes r)) s
  let s2 := emit (.eventRing i r) s1
  let s3 := { s2 with events := { s2.events with prod := e.prod + 1 } }
  let s4 := emit (.hostWrite (e.base - 64) (le 8 ((e.prod + 1) % e.size))) s3
  setIrq 8 (sendMsix 8 (bits e.cfg.toNat 10 6) s4)

/-- The pending EVQ_GAP written, where there is room (R374). -/
def writeGap (s : State) : State :=
  match s.events.gap with
  | some g =>
    if s.events.room then
      let s1 := writeRing (gapRec g s.time.now s.seatB) s
      { s1 with events := { s1.events with gap := none } }
    else s
  | none => s

/-- The next record copied to the ring: EVQ_GAP first after a loss, else the oldest not yet written (R374). -/
def writeNext (s : State) : State :=
  if !s.events.room then s
  else if s.events.gap.isSome then writeGap s
  else
    match s.events.history.find? (fun r => s.events.written ≤ r.seq) with
    | some r =>
      let s1 := writeRing r s
      { s1 with events := { s1.events with written := r.seq + 1 } }
    | none => s

/-- A write of EVQ_CFG (R376). Enabling restarts the ring's indices (log entry 16). -/
def setEvqCfg (v : Reg32) (s : State) : State :=
  let w := v &&& 0x7FF
  let e := s.events
  if !e.enabled && w.getLsbD 0 then writeGap { s with events := { e with cfg := w, prod := 0, cons := 0 } }
  else if e.enabled && w.getLsbD 0 then writeGap { s with events := { e with cfg := (w &&& 0x7C0) ||| (e.cfg &&& 0x3F) } }
  else { s with events := { e with cfg := w } }

/-- The event ring's consumer doorbell: an index outside the ring is ignored. -/
def setEvqCons (idx : Nat) (s : State) : State :=
  let e := s.events
  if !e.enabled || e.size ≤ idx then s
  else writeGap { s with events := { e with cons := consumeTo e.size e.cons e.prod idx } }

/-! ## The other registers -/

/-- A write of SYS_IRQ_CAUSE: 1 clears. SPI_REPLY stays set while a reply is unread (R369, R376). -/
def clearIrq (v : Reg32) (s : State) : State :=
  let keep : Reg32 := if s.cmd.spi.replies == [] then 0 else s.cmd.irqCause &&& 0x200
  { s with cmd := { s.cmd with irqCause := (s.cmd.irqCause &&& ~~~v) ||| keep } }

/-- A write of HEAD_STATUS: 1 clears the sticky bits (R223). -/
def clearSticky (h : Nat) (v : Reg32) (s : State) : State :=
  s.modHead h (fun d => { d with sticky := d.sticky &&& (headSticky &&& (2 ^ 32 - 1 - v.toNat)) })

/-- A write of SYS_BAR2_BASE: the offset must lie within MEM_HOST_SIZE − 256 MiB (R303), else it is ignored (log entry 18). It
waits for the posted writes before it. -/
def setBar2 (v : Reg32) (s : State) : State :=
  let b := v &&& 0x1FFF
  if b.toNat + 256 ≤ pv s.cfg pMemHostSize 0 then { s with cmd := { s.cmd with bar2Next := some b } } else s

/-- A BAR0 write that is accepted as a HEAD command with apply tick 0 (R377). Control cores that have stopped accept none (R313). -/
def writeMap (pid idx : Nat) (v : Reg32) (t : Time64) (s : State) : State :=
  let h : CmdHdr := ⟨.reg, 0, 0, 0, false, 0, 0, 0, t⟩
  if s.mem.fatal then s else accept h (.headSet [⟨pid, idx, 0, .num v.toNat⟩]) (atTime t s)

/-- A write of a queue register at its offset within the pair's block (R376). -/
def writeQueueReg (q off : Nat) (v : Reg32) (s : State) : State :=
  let p := s.queue q
  match off with
  | 0x00 => s.setQueue q (p.setBase true false v)
  | 0x04 => s.setQueue q (p.setBase true true v)
  | 0x08 => s.setQueue q (p.setBase false false v)
  | 0x0C => s.setQueue q (p.setBase false true v)
  | 0x10 => s.setQueue q (p.setCfg v)
  | 0x14 => s.setQueue q (p.setTail v.toNat)
  | 0x18 => s.setQueue q (p.setHead v.toNat)
  | _ => s

/-- A BAR0 write at an offset (R376): unlisted offsets and read-only registers ignore it. -/
def writeReg (off : Nat) (v : Reg32) (s : State) : State :=
  if off = 0x20 then setBar2 v s
  else if off = 0x28 then clearIrq v s
  else if off = 0x2C then { s with cmd := { s.cmd with irqMask := v } }
  else if 0x200 ≤ off ∧ off < 0x400 then writeQueueReg ((off - 0x200) / 0x40) ((off - 0x200) % 0x40) v s
  else if off = 0x400 ∨ off = 0x404 then
    (if s.events.enabled then s else { s with events := { s.events with base := setWord s.events.base (off == 0x404) v } })
  else if off = 0x408 then setEvqCfg v s
  else if off = 0x410 then setEvqCons v.toNat s
  else if 0x500 ≤ off ∧ off < 0x540 then writeMap pLiveMap ((off - 0x500) / 4) v s.time.now s
  else if 0x540 ≤ off ∧ off < 0x550 then writeMap pLiveDarkMap ((off - 0x540) / 4) v s.time.now s
  else if off = 0x550 then writeMap pLiveDarkPol 0 v s.time.now s
  else if 0x1000 ≤ off ∧ off < 0x2000 ∧ (off - 0x1000) % 0x80 = 0 then clearSticky ((off - 0x1000) / 0x80) v s
  else s

/-- Word `j` of a number. -/
def word32 (v j : Nat) : Nat := v / 2 ^ (32 * j) % 2 ^ 32

/-- The 64-bit register whose low word stands at an offset, and its value (R376). -/
def reg64 (s : State) (off : Nat) : Option Nat :=
  if off = 0x100 then some s.time.now
  else if off = 0x108 then some (tget 0 s.cmd.hiLatch 0x104)
  else if off = 0x400 then some s.events.base
  else if off = 0x418 then some s.events.next
  else if 0x200 ≤ off ∧ off < 0x400 ∧ (off - 0x200) % 0x40 = 0 then some (s.queue ((off - 0x200) / 0x40)).sqBase
  else if 0x200 ≤ off ∧ off < 0x400 ∧ (off - 0x200) % 0x40 = 8 then some (s.queue ((off - 0x200) / 0x40)).cqBase
  else if 0x1000 ≤ off ∧ off < 0x2000 ∧ (off - 0x1000) % 0x80 = 0x10 then some (s.head ((off - 0x1000) / 0x80)).flipT
  else none

/-- A register of a head at its offset in the head's block (R376). -/
def headReg (s : State) (h off : Nat) : Nat :=
  let d := s.head h
  if off = 0 then headStatus s h
  else if off = 4 then d.frameCnt
  else if off = 8 then d.flipCnt
  else if off = 0x18 then d.vsumCnt
  else if 0x20 ≤ off ∧ off < 0x60 then nth 0 d.vsum ((off - 0x20) / 4)
  else 0

/-- The value of a 32-bit register, or of a word of a wide one that is not latched (R376). -/
def reg32 (s : State) (off : Nat) : Nat :=
  if off = 0 then s.cmd.sysId.toNat
  else if off = 4 then s.cmd.sysRev.toNat
  else if off = 8 then sysStatus s
  else if 0x10 ≤ off ∧ off < 0x20 then fld s.life.uid (off - 0x10) 4
  else if off = 0x20 then s.cmd.bar2Base.toNat
  else if off = 0x28 then s.cmd.irqCause.toNat
  else if off = 0x2C then s.cmd.irqMask.toNat
  else if off = 0x110 then timeStatus s
  else if off = 0x114 then s.time.uWall
  else if 0x200 ≤ off ∧ off < 0x400 ∧ (off - 0x200) % 0x40 = 0x10 then (s.queue ((off - 0x200) / 0x40)).cfg.toNat
  else if 0x200 ≤ off ∧ off < 0x400 ∧ (off - 0x200) % 0x40 = 0x1C then cmdqStatus (s.queue ((off - 0x200) / 0x40))
  else if off = 0x408 then s.events.cfg.toNat
  else if off = 0x40C then s.events.prod % s.events.size
  else if off = 0x420 then s.events.lost
  else if 0x500 ≤ off ∧ off < 0x540 then nth 0 s.pins.liveMap ((off - 0x500) / 4)
  else if 0x540 ≤ off ∧ off < 0x550 then nth 0 s.pins.darkMap ((off - 0x540) / 4)
  else if off = 0x550 then s.pins.darkPol
  else if off = 0x554 then livePinsReg s
  else if off = 0x558 then liveHeads s
  else if 0x600 ≤ off ∧ off < 0x610 then pressedReg s ((off - 0x600) / 4)
  else if off = 0x610 then eviLevel s
  else if 0x1000 ≤ off ∧ off < 0x2000 then headReg s ((off - 0x1000) / 0x80) ((off - 0x1000) % 0x80)
  else 0

/-- A BAR0 read at an offset (R376). The low word of a 64-bit register latches the high word; TIME_TICK_NOW is latched
with TIME_NOW. -/
def readReg (off : Nat) (s : State) : State :=
  match reg64 s off with
  | some v =>
    let l1 := tset off (word32 v 1) s.cmd.hiLatch
    let l2 := if off = 0x100 then tset 0x104 s.time.tick l1 else l1
    emit (.readData (BitVec.ofNat 32 (word32 v 0))) { s with cmd := { s.cmd with hiLatch := l2 } }
  | none =>
    if 4 ≤ off ∧ (reg64 s (off - 4)).isSome then emit (.readData (BitVec.ofNat 32 (tget 0 s.cmd.hiLatch (off - 4)))) s
    else emit (.readData (BitVec.ofNat 32 (reg32 s off))) s

/-! ## The happenings -/

/-- CMDQ_SQ_TAIL (R364): the submission doorbell. -/
def execCmdqSqTail (q : Fin 8) (idx : Nat) (t : Time64) (s : State) : Host.Outcome State Fault Refusal :=
  act (fun s => regWrite (fun s => (atTime t s).setQueue q ((s.queue q).setTail idx)) s) s

/-- CMDQ_FAULT and FETCH_ERR: the pair stops (R376). -/
def fetchFault (q : Fin 8) (s : State) : State :=
  raise .cmdqFault [(1, q.val)] (s.setQueue q { (s.queue q) with fetchErr := true, stalled := false })

/-- Whether an entry carries a query. -/
def queryEntry (f : SqFetch) : Bool :=
  match (parseSq f).cmd with
  | .ok k => isQuery k
  | .error _ => false

/-- Whether an entry's query wrote a result at its RESULT_ADDR (R365). -/
def wroteResult (f : SqFetch) (s t : State) : Bool :=
  let a := fld f.entry 32 8
  a != 0 && (t.out.drop s.out.length).any (fun o => match o with
    | .hostWrite b _ => b == a
    | _ => false)

/-- SQ_ENTRY_FETCH (R366): an entry is fetched once a completion slot is free, and its packet accepted (R365). The pair stops where the fetch or the
write of its query's result meets a PCIe error (R376). -/
def execSqEntryFetch (q : Fin 8) (f : SqFetch) (t : Time64) (s : State) : Host.Outcome State Fault Refusal :=
  act (fun s =>
    match intake (.pcie q) s with
    | (false, s1) => s1
    | (true, s1) =>
      if f.pcieErr then fetchFault q (atTime t s)
      else
        let s2 := acceptParsed (.pcie q) t (fld f.entry 32 8) (fld f.entry 40 4) (parseSq f) (atTime t s1)
        if f.resultErr && queryEntry f && wroteResult f s1 s2 then fetchFault q s2 else s2) s

/-- CMDQ_CQ_HEAD (R366): the completion doorbell. -/
def execCmdqCqHead (q : Fin 8) (idx : Nat) (s : State) : Host.Outcome State Fault Refusal :=
  act (regWrite (fun s => s.setQueue q ((s.queue q).setHead idx))) s

/-- CMDQ_CFG_WRITE (R364). -/
def execCmdqCfgWrite (q : Fin 8) (v : Reg32) (s : State) : Host.Outcome State Fault Refusal :=
  act (regWrite (fun s => s.setQueue q ((s.queue q).setCfg v))) s

/-- EVQ_CFG_WRITE (R374). -/
def execEvqCfgWrite (v : Reg32) (s : State) : Host.Outcome State Fault Refusal := act (regWrite (setEvqCfg v)) s

/-- EVQ_CONS (R374). -/
def execEvqCons (idx : Nat) (s : State) : Host.Outcome State Fault Refusal := act (regWrite (setEvqCons idx)) s

/-- EVQ_RECORD_WRITE (R374). -/
def execEvqRecordWrite (s : State) : Host.Outcome State Fault Refusal :=
  act (fun s => if s.powered && !s.power.perst then writeNext s else s) s

/-- SYS_IRQ_CAUSE_W1C (R376). -/
def execSysIrqCauseW1c (v : Reg32) (s : State) : Host.Outcome State Fault Refusal := act (regWrite (clearIrq v)) s

/-- HEAD_STATUS_W1C (R223). -/
def execHeadStatusW1c (h : Fin 32) (v : Reg32) (s : State) : Host.Outcome State Fault Refusal :=
  act (regWrite (clearSticky h v)) s

/-- SYS_BAR2_BASE_WRITE (R303). -/
def execSysBar2BaseWrite (v : Reg32) (s : State) : Host.Outcome State Fault Refusal := act (regWrite (setBar2 v)) s

/-- BAR2_BASE_TAKE_EFFECT (R303): the new window is in force. -/
def execBar2BaseTakeEffect (s : State) : Host.Outcome State Fault Refusal :=
  act (fun s =>
    match s.cmd.bar2Next with
    | some b => { s with cmd := { s.cmd with bar2Base := b, bar2Next := none } }
    | none => s) s

/-- LIVE_MAP_WRITE (R377). -/
def execLiveMapWrite (k : Fin 16) (v : Reg32) (t : Time64) (s : State) : Host.Outcome State Fault Refusal :=
  act (regWrite (writeMap pLiveMap k v t)) s

/-- LIVE_DARK_MAP_WRITE (R377). -/
def execLiveDarkMapWrite (k : Fin 4) (v : Reg32) (t : Time64) (s : State) : Host.Outcome State Fault Refusal :=
  act (regWrite (writeMap pLiveDarkMap k v t)) s

/-- LIVE_DARK_POL_WRITE (R377). -/
def execLiveDarkPolWrite (v : Reg32) (t : Time64) (s : State) : Host.Outcome State Fault Refusal :=
  act (regWrite (writeMap pLiveDarkPol 0 v t)) s

/-- BAR0_LOW_WORD_READ (R376): a read of a BAR0 register. An unaligned access, or one outside the 64 KiB, faults. -/
def execBar0LowWordRead (offset : Nat) (t : Time64) (s : State) : Host.Outcome State Fault Refusal :=
  if offset % 4 ≠ 0 ∨ 65536 ≤ offset then .fault .badAddress
  else act (fun s => if s.powered && !s.power.perst then readReg offset (atTime t s) else s) s

/-- REGISTER_WRITE (R376): a write of a BAR0 register. An unaligned access, or one outside the 64 KiB, faults. -/
def execRegisterWrite (offset : Nat) (v : Reg32) (s : State) : Host.Outcome State Fault Refusal :=
  if offset % 4 ≠ 0 ∨ 65536 ≤ offset then .fault .badAddress
  else act (regWrite (writeReg offset v)) s

/-- STATUS_READ (R369): a copy of the status window is shifted out, and its two sticky flags clear. -/
def execStatusRead (t : Time64) (s : State) : Host.Outcome State Fault Refusal :=
  act (fun s =>
    if !s.powered then s
    else
      let s1 := atTime t s
      let s2 := emit (.miso (statusWindow s1)) s1
      { s2 with cmd := { s2.cmd with spi := { s2.cmd.spi with crcErr := false, overrun := false } } }) s

/-- A CMD_WRITE that is discarded for its frame: SPI_CRC_ERR, and SPI_OVERRUN where no buffer was free (R367). -/
def spiBad (s : State) : State :=
  { s with cmd := { s.cmd with spi := { s.cmd.spi with crcErr := true, overrun := s.cmd.spi.overrun || 4 ≤ s.cmd.spi.held } } }

/-- CMD_WRITE (R367): a packet over SPI. With no free buffer it sets SPI_OVERRUN; cut short or with a bad FRAME_CRC it
sets SPI_CRC_ERR; neither has a reply. -/
def execCmdWrite (frame : Bytes) (complete : Bool) (t : Time64) (s : State) : Host.Outcome State Fault Refusal :=
  act (fun s =>
    if !s.powered then s
    else
      match spiPacket frame with
      | some b =>
        if complete then
          match intake .spi s with
          | (true, s1) => acceptParsed .spi t 0 0 (parsePacket b) (atTime t s1)
          | (false, s1) => s1
        else spiBad s
      | none => spiBad s) s

/-- REPLY_READ (R367): the oldest unread reply, or LEN 0; a reply that is read frees its buffer. -/
def execReplyRead (s : State) : Host.Outcome State Fault Refusal :=
  act (fun s =>
    if !s.powered then s
    else
      match s.cmd.spi.replies with
      | [] => emit (.miso (zeros 2 ++ le 4 (frameCrc (zeros 2)))) s
      | r :: rest =>
        emit (.miso r) { s with cmd := { s.cmd with spi := { s.cmd.spi with replies := rest, held := s.cmd.spi.held - 1 } } }) s

/-- A datagram whose MAC fails: counted, and reported at most once per second (R372). -/
def authFail (t : Time64) (s : State) : State :=
  let s1 := { s with cmd := { s.cmd with authFail := wrapInc 32 s.cmd.authFail } }
  let due := match s.cmd.authFailT with
    | some x => decide (x + 1000000000 ≤ t)
    | none => true
  if due then raise .cmdAuthFail [] { s1 with cmd := { s1.cmd with authFailT := some t } } else s1

/-- UDP_COMMAND_DATAGRAM (R371, R372). A fragmented datagram is discarded. -/
def execUdpCommandDatagram (src : AddrRec) (datagram : Bytes) (fragment : Bool) (t : Time64) (s : State) :
    Host.Outcome State Fault Refusal :=
  act (fun s =>
    if !s.powered || fragment then s
    else
      let s1 := atTime t s
      if s.life.installId.isNone || !udpMacOk s.life.installKey datagram then authFail t s1
      else
        let c := udpClient datagram
        let p := parsePacket (udpPacket datagram)
        let p1 : Parsed := if fld datagram 2 2 = 0 then p else ⟨p.hdr, .error 0xFFFF⟩
        match intake (.udp c src) s1 with
        | (true, s2) => acceptParsed (.udp c src) t 0 0 p1 s2
        | (false, s2) => s2) s

/-- PCIE_PERST_N_LOW (R456): every pair and the event ring are disabled, and replies not yet written are discarded. -/
def execPciePerstNLow (s : State) : Host.Outcome State Fault Refusal :=
  act (fun s =>
    { s with
      power := { s.power with perst := true }
      cmd := { s.cmd with queues := [] }
      events := { s.events with cfg := s.events.cfg &&& 0xFFFFFFFE } }) s

/-- PCIE_PERST_N_HIGH (R456): BAR0 holds its reset values, except the LIVE registers (log entry 17). -/
def execPciePerstNHigh (s : State) : Host.Outcome State Fault Refusal :=
  act (fun s =>
    if !s.power.perst then s
    else
      { s with
        power := { s.power with perst := false }
        cmd := { s.cmd with queues := [], irqCause := 0, irqMask := 0, bar2Base := 0, bar2Next := none, hiLatch := [], msixT := [] }
        events := { s.events with base := 0, cfg := 0, prod := 0, cons := 0 } }) s

end Sys2Proof.Machine
end

