-- ==== Sys2Proof/Machine/CmdMem.lean ====
section
/-! DEFINITION. The commands of the MEM family: the arrival of each packet and its acceptance or answer (R357 to R363). A
command's effect at its apply tick stands in Apply.lean. -/
namespace Sys2Proof.Machine

/-- MEM_SET (R320): SET command for the memory parameters. -/
def execMemSet (h : CmdHdr) (recs : List SetRec) (s : State) : Host.Outcome State Fault Refusal :=
  act (submit h (.memSet recs)) s

/-- MEM_SETPOINT (R317): Requests a DRAM set-point switch in ENDURANCE. -/
def execMemSetpoint (h : CmdHdr) (fsp : Nat) (s : State) : Host.Outcome State Fault Refusal :=
  act (submit h (.memSetpoint fsp)) s

/-- MEM_GET (R381): Query that returns the memory parameter values in force. -/
def execMemGet (h : CmdHdr) (keys : List GetKey) (s : State) : Host.Outcome State Fault Refusal :=
  act (submit h (.memGet keys)) s

/-- MEM_STATS (R321): Statistics query that returns a channel's counters and can clear them. -/
def execMemStats (h : CmdHdr) (object : Nat) (clear : Bool) (s : State) : Host.Outcome State Fault Refusal :=
  act (submit h (.memStats object clear)) s

end Sys2Proof.Machine
end

