-- ==== Sys2Proof/Machine/CmdNet.lean ====
section
/-! DEFINITION. The commands of the NET family: the arrival of each packet and its acceptance or answer (R357 to R363). A
command's effect at its apply tick stands in Apply.lean. -/
namespace Sys2Proof.Machine

/-- NET_SET (R84): SET command for port modes, paths, addresses and UDP command settings. -/
def execNetSet (h : CmdHdr) (recs : List SetRec) (s : State) : Host.Outcome State Fault Refusal :=
  act (submit h (.netSet recs)) s

/-- NET_MIRROR_RING (R112): Configures the Spillway mirror ring. -/
def execNetMirrorRing (h : CmdHdr) (vector : Nat) (log2 : Nat) (base : Nat) (s : State) : Host.Outcome State Fault Refusal :=
  act (submit h (.netMirrorRing vector log2 base)) s

/-- NET_GET (R381): Query that returns the NET parameter values in force. -/
def execNetGet (h : CmdHdr) (keys : List GetKey) (s : State) : Host.Outcome State Fault Refusal :=
  act (submit h (.netGet keys)) s

/-- NET_STATS (R390): Statistics query that returns a port's counters and can clear them. -/
def execNetStats (h : CmdHdr) (object : Nat) (clear : Bool) (s : State) : Host.Outcome State Fault Refusal :=
  act (submit h (.netStats object clear)) s

end Sys2Proof.Machine
end

