-- ==== Sys2Proof/Machine/CmdPane.lean ====
section
/-! DEFINITION. The commands of the PANE family: the arrival of each packet and its acceptance or answer (R357 to R363). A
command's effect at its apply tick stands in Apply.lean. -/
namespace Sys2Proof.Machine

/-- PANE_CREATE (R160): Creates a pane on a head and a source with its parameters; may raise PANE_UNGUARDED. -/
def execPaneCreate (h : CmdHdr) (pane : Nat) (head : Nat) (source : Nat) (recs : List SetRec) (s : State) : Host.Outcome State Fault Refusal :=
  act (submit h (.paneCreate pane head source recs)) s

/-- PANE_DELETE (R160): Deletes a pane at the apply tick and raises PANE_DELETED. -/
def execPaneDelete (h : CmdHdr) (pane : Nat) (s : State) : Host.Outcome State Fault Refusal :=
  act (submit h (.paneDelete pane)) s

/-- PANE_SET (R161): SET command for the guard and placement parameters of a pane. -/
def execPaneSet (h : CmdHdr) (recs : List SetRec) (s : State) : Host.Outcome State Fault Refusal :=
  act (submit h (.paneSet recs)) s

/-- LAYER_DECLARE (R177): Declares a host layer's format, size and palette. -/
def execLayerDeclare (h : CmdHdr) (source : Nat) (format : Nat) (w : Nat) (h2 : Nat) (palette : Bytes) (s : State) : Host.Outcome State Fault Refusal :=
  act (submit h (.layerDeclare source format w h2 palette)) s

/-- BUF_REGISTER (R178): Registers a host buffer with its offset, stride, format and size. -/
def execBufRegister (h : CmdHdr) (buf : Nat) (format : Nat) (w : Nat) (h2 : Nat) (offset : Nat) (stride : Nat) (palette : Bytes) (s : State) : Host.Outcome State Fault Refusal :=
  act (submit h (.bufRegister buf format w h2 offset stride palette)) s

/-- BUF_UNREGISTER (R179): Unregisters an IDLE host buffer. -/
def execBufUnregister (h : CmdHdr) (buf : Nat) (s : State) : Host.Outcome State Fault Refusal :=
  act (submit h (.bufUnregister buf)) s

/-- FENCE_CONFIG (R183): Configures the location of a fence. -/
def execFenceConfig (h : CmdHdr) (fence : Nat) (loc : Nat) (addr : Nat) (s : State) : Host.Outcome State Fault Refusal :=
  act (submit h (.fenceConfig fence loc addr)) s

/-- FLIP (R185): Posts a flip request for a flip group, superseding any pending flip. -/
def execFlip (h : CmdHdr) (group : Nat) (layers : List FlipLayer) (s : State) : Host.Outcome State Fault Refusal :=
  act (submit h (.flip group layers)) s

/-- PANE_GET (R381): Query that returns the pane parameter values in force. -/
def execPaneGet (h : CmdHdr) (keys : List GetKey) (s : State) : Host.Outcome State Fault Refusal :=
  act (submit h (.paneGet keys)) s

/-- BUF_STATE (R179): Query that returns the states of a range of buffers. -/
def execBufState (h : CmdHdr) (first : Nat) (count : Nat) (s : State) : Host.Outcome State Fault Refusal :=
  act (submit h (.bufState first count)) s

/-- GROUP_STATUS (R187): Query that returns the pending state and the members that are not ready for a flip group. -/
def execGroupStatus (h : CmdHdr) (group : Nat) (s : State) : Host.Outcome State Fault Refusal :=
  act (submit h (.groupStatus group)) s

end Sys2Proof.Machine
end

