-- ==== Sys2Proof/Machine/CmdSec.lean ====
section
/-! DEFINITION. The commands of the SEC/LIFECYCLE family: the arrival of each packet and its acceptance or answer (R357 to R363). A
command's effect at its apply tick stands in Apply.lean. -/
namespace Sys2Proof.Machine

/-- LC_PROVISION (R426): Moves a FABRICATED part to PROVISIONED, generating its device key. -/
def execLcProvision (h : CmdHdr) (s : State) : Host.Outcome State Fault Refusal :=
  act (submit h .lcProvision) s

/-- INSTALL_SET (R431): Binds the part to an installation ID and key and re-seals its state. -/
def execInstallSet (h : CmdHdr) (installId : Bytes) (key : Bytes) (s : State) : Host.Outcome State Fault Refusal :=
  act (submit h (.installSet installId key)) s

/-- LC_FIELD (R426): Moves the part to FIELD. -/
def execLcField (h : CmdHdr) (s : State) : Host.Outcome State Fault Refusal :=
  act (submit h .lcField) s

/-- LC_UNLOCK (R427): Enters SERVICE with a valid unlock token. -/
def execLcUnlock (h : CmdHdr) (token : Bytes) (s : State) : Host.Outcome State Fault Refusal :=
  act (submit h (.lcUnlock token)) s

/-- LC_DECOMMISSION (R426): Irreversibly moves the part from SERVICE to DECOMMISSIONED. -/
def execLcDecommission (h : CmdHdr) (s : State) : Host.Outcome State Fault Refusal :=
  act (submit h .lcDecommission) s

/-- FW_STAGE (R430): Writes firmware data into the inactive slot. -/
def execFwStage (h : CmdHdr) (slot : Nat) (offset : Nat) (data : Bytes) (s : State) : Host.Outcome State Fault Refusal :=
  act (submit h (.fwStage slot offset data)) s

/-- FW_ACTIVATE (R430): Verifies the staged image and marks its slot active for the next start. -/
def execFwActivate (h : CmdHdr) (slot : Nat) (s : State) : Host.Outcome State Fault Refusal :=
  act (submit h (.fwActivate slot)) s

/-- ATTEST (R429): Returns a signed attestation report. -/
def execAttest (h : CmdHdr) (nonce : Bytes) (s : State) : Host.Outcome State Fault Refusal :=
  act (submit h (.attest nonce)) s

/-- CERT_READ (R428): Returns the device certificate. -/
def execCertRead (h : CmdHdr) (s : State) : Host.Outcome State Fault Refusal :=
  act (submit h .certRead) s

end Sys2Proof.Machine
end

