-- ==== Sys2Proof/Machine/CmdSrc.lean ====
section
/-! DEFINITION. The commands of the SRC family: the arrival of each packet and its acceptance or answer (R357 to R363). A
command's effect at its apply tick stands in Apply.lean. -/
namespace Sys2Proof.Machine

/-- SRC_SET (R90): SET command for the stream and freeze parameters of a stream; some changes start a new session. -/
def execSrcSet (h : CmdHdr) (recs : List SetRec) (s : State) : Host.Outcome State Fault Refusal :=
  act (submit h (.srcSet recs)) s

/-- SRC_GET (R381): Query that returns the SRC parameter values in force. -/
def execSrcGet (h : CmdHdr) (keys : List GetKey) (s : State) : Host.Outcome State Fault Refusal :=
  act (submit h (.srcGet keys)) s

/-- SRC_STATS (R111): Statistics query that returns a stream's counter block and can clear it. -/
def execSrcStats (h : CmdHdr) (object : Nat) (clear : Bool) (s : State) : Host.Outcome State Fault Refusal :=
  act (submit h (.srcStats object clear)) s

/-- SRC_FREEZE_STATUS (R158): Statistics query that returns a stream's freeze status block and can clear it. -/
def execSrcFreezeStatus (h : CmdHdr) (object : Nat) (clear : Bool) (s : State) : Host.Outcome State Fault Refusal :=
  act (submit h (.srcFreezeStatus object clear)) s

/-- SRC_LEDGER_READ (R390): Query that returns a ledger slot's frame header and a range of its tile records. -/
def execSrcLedgerRead (h : CmdHdr) (source : Nat) (slot : Nat) (first : Nat) (count : Nat) (s : State) : Host.Outcome State Fault Refusal :=
  act (submit h (.srcLedgerRead source slot first count)) s

end Sys2Proof.Machine
end

