-- ==== Sys2Proof/Machine/CmdSys.lean ====
section
/-! DEFINITION. The commands of the SYS family: the arrival of each packet and its acceptance or answer (R357 to R363). A
command's effect at its apply tick stands in Apply.lean. -/
namespace Sys2Proof.Machine

/-- SYS_SET (R385): SET command carrying SYS-family parameter records, such as SYS_HOST_DRAM_RATE. -/
def execSysSet (h : CmdHdr) (recs : List SetRec) (s : State) : Host.Outcome State Fault Refusal :=
  act (submit h (.sysSet recs)) s

/-- SYS_PROFILE (R19): Selects the operating profile at an apply tick after a budget check against the new profile. -/
def execSysProfile (h : CmdHdr) (profile : Nat) (fsp : Nat) (s : State) : Host.Outcome State Fault Refusal :=
  act (submit h (.sysProfile profile fsp)) s

/-- SYS_SHUTDOWN (R403): Starts the ordered shutdown, optionally with the shutdown self-test. -/
def execSysShutdown (h : CmdHdr) (mode : Nat) (s : State) : Host.Outcome State Fault Refusal :=
  act (submit h (.sysShutdown mode)) s

/-- SYS_RESTART (R404): Restarts the device from the stopped state, or performs a shutdown and then a start while running. -/
def execSysRestart (h : CmdHdr) (s : State) : Host.Outcome State Fault Refusal :=
  act (submit h .sysRestart) s

/-- SYS_GET (R381): Query that returns the SYS parameter values in force. -/
def execSysGet (h : CmdHdr) (keys : List GetKey) (s : State) : Host.Outcome State Fault Refusal :=
  act (submit h (.sysGet keys)) s

/-- SYS_INFO (R390): Query that returns the unique ID, revision, variant and firmware digest. -/
def execSysInfo (h : CmdHdr) (s : State) : Host.Outcome State Fault Refusal :=
  act (submit h .sysInfo) s

/-- SYS_EVENT_READ (R375): Query that returns up to 16 event records from the Basin history, starting at a given sequence number. -/
def execSysEventRead (h : CmdHdr) (fromSeq : Nat) (max : Nat) (s : State) : Host.Outcome State Fault Refusal :=
  act (submit h (.sysEventRead fromSeq max)) s

end Sys2Proof.Machine
end

