-- ==== Sys2Proof/Machine/CmdTime.lean ====
section
/-! DEFINITION. The commands of the TIME family: the arrival of each packet and its acceptance or answer (R357 to R363). A
command's effect at its apply tick stands in Apply.lean. -/
namespace Sys2Proof.Machine

/-- TIME_SET (R53): SET command for the time parameters, applied at the apply tick. -/
def execTimeSet (h : CmdHdr) (recs : List SetRec) (s : State) : Host.Outcome State Fault Refusal :=
  act (submit h (.timeSet recs)) s

/-- TIME_GET (R53): Query that returns the time parameter values in force. -/
def execTimeGet (h : CmdHdr) (keys : List GetKey) (s : State) : Host.Outcome State Fault Refusal :=
  act (submit h (.timeGet keys)) s

/-- TIME_STATUS (R390): Query that returns the time state, U_WALL, the remaining slew and the estimator figures. -/
def execTimeStatus (h : CmdHdr) (s : State) : Host.Outcome State Fault Refusal :=
  act (submit h .timeStatus) s

end Sys2Proof.Machine
end

