-- ==== Sys2Proof/Machine/CmdTouch.lean ====
section
/-! DEFINITION. The commands of the TOUCH/EVI family: the arrival of each packet and its acceptance or answer (R357 to R363). A
command's effect at its apply tick stands in Apply.lean. -/
namespace Sys2Proof.Machine

/-- TOUCH_SET (R352): SET command for the touch and event-input parameters. -/
def execTouchSet (h : CmdHdr) (recs : List SetRec) (s : State) : Host.Outcome State Fault Refusal :=
  act (submit h (.touchSet recs)) s

/-- LEGEND_REGISTER (R347): Registers a legend that binds a host-layer pane to an electrode mask. -/
def execLegendRegister (h : CmdHdr) (legend : Nat) (pane : Nat) (mask : Nat) (s : State) : Host.Outcome State Fault Refusal :=
  act (submit h (.legendRegister legend pane mask)) s

/-- LEGEND_DELETE (R347): Deletes a legend. -/
def execLegendDelete (h : CmdHdr) (legend : Nat) (s : State) : Host.Outcome State Fault Refusal :=
  act (submit h (.legendDelete legend)) s

/-- TOUCH_GET (R381): Query that returns the touch parameter values in force. -/
def execTouchGet (h : CmdHdr) (keys : List GetKey) (s : State) : Host.Outcome State Fault Refusal :=
  act (submit h (.touchGet keys)) s

/-- TOUCH_READ (R390): Query that returns the count, baseline, delta and state of each electrode of a group. -/
def execTouchRead (h : CmdHdr) (group : Nat) (s : State) : Host.Outcome State Fault Refusal :=
  act (submit h (.touchRead group)) s

end Sys2Proof.Machine
end

