-- ==== Sys2Proof/Machine/CmdTwin.lean ====
section
/-! DEFINITION. The commands of the TWIN family: the arrival of each packet and its acceptance or answer (R357 to R363). A
command's effect at its apply tick stands in Apply.lean. -/
namespace Sys2Proof.Machine

/-- TWIN_SET (R264): SET command for the twin parameters. -/
def execTwinSet (h : CmdHdr) (recs : List SetRec) (s : State) : Host.Outcome State Fault Refusal :=
  act (submit h (.twinSet recs)) s

/-- TWIN_JOIN (R240): The keeper starts a join of its partner into HOT or COLD. -/
def execTwinJoin (h : CmdHdr) (mode : Nat) (s : State) : Host.Outcome State Fault Refusal :=
  act (submit h (.twinJoin mode)) s

/-- TWIN_LEAVE (R227): Returns both seats to SOLO at the apply tick; the Flume goes down at its safe point. -/
def execTwinLeave (h : CmdHdr) (s : State) : Host.Outcome State Fault Refusal :=
  act (submit h .twinLeave) s

/-- TWIN_TAKEOVER (R263): Hands a COLD wall over to the standby seat by plan. -/
def execTwinTakeover (h : CmdHdr) (s : State) : Host.Outcome State Fault Refusal :=
  act (submit h .twinTakeover) s

/-- TWIN_WITHDRAW (R257): Withdraws the seat in HOT. -/
def execTwinWithdraw (h : CmdHdr) (s : State) : Host.Outcome State Fault Refusal :=
  act (submit h .twinWithdraw) s

/-- TWIN_REINSTATE (R259): Ends a withdrawal once the rejoin conditions are met. -/
def execTwinReinstate (h : CmdHdr) (s : State) : Host.Outcome State Fault Refusal :=
  act (submit h .twinReinstate) s

/-- TWIN_ADOPT (R235): Stores a new partner UNIQUE_ID in the sealed state. -/
def execTwinAdopt (h : CmdHdr) (uid : Bytes) (s : State) : Host.Outcome State Fault Refusal :=
  act (submit h (.twinAdopt uid)) s

/-- TWIN_GET (R381): Query that returns the twin parameter values in force. -/
def execTwinGet (h : CmdHdr) (keys : List GetKey) (s : State) : Host.Outcome State Fault Refusal :=
  act (submit h (.twinGet keys)) s

/-- TWIN_STATS (R265): Statistics query that returns the twin counters and can clear them. -/
def execTwinStats (h : CmdHdr) (object : Nat) (clear : Bool) (s : State) : Host.Outcome State Fault Refusal :=
  act (submit h (.twinStats object clear)) s

end Sys2Proof.Machine
end

