-- ==== Sys2Proof/Machine/DarkPins.lean ====
section
/-! DEFINITION. The DARK pins (R79): an edge, as every mapped head samples it. -/
namespace Sys2Proof.Machine

/-- DARK_PIN_EDGE (R79): a mapped head is black from the assertion, and shows again from the first frame start two pixel clocks after
the release. A DARK pin acts without firmware. -/
def execDarkPinEdge (k : Fin 4) (level : Bool) (t : Time64) (s : State) : Host.Outcome State Fault Refusal :=
  act (fun s =>
    followPins { atTime t s with pins := { s.pins with dark := setNth level s.pins.dark k } }) s

end Sys2Proof.Machine
end

