-- ==== Sys2Proof/Machine/FlipGroups.lean ====
section
/-! DEFINITION. Steps 3 to 6 of a decision point (R45): fences (R183), flip groups (R184 to R187), classes and admission (R67, R102, R104,
R122) and the inputs of the head frames that the tick governs (R46, R102). -/
namespace Sys2Proof.Machine

/-! ## Fences (R183) -/

/-- The pending flips, with their groups. -/
def pendingFlips (s : State) : List (Nat × PendFlip) := s.groups.filterMap (fun e => e.2.pending.map (fun p => (e.1, p)))

/-- The fences that pending flips name. -/
def namedFences (s : State) : List Nat := dedup ((pendingFlips s).flatMap (fun e => e.2.layers.map (fun l => l.fence)))

/-- A fence value as it was read, none where the read is not complete. -/
def fenceRead (l : List (Nat × Nat)) (f : Nat) : Option Nat := (l.find? (fun q => q.1 == f)).map Prod.snd

/-- The values of the fences that pending flips name (R183): a DEVICE fence as it stands in DRAM, a HOST fence as its read brought it. -/
def fencesSeen (l : List (Nat × Nat)) (s : State) : List (Nat × Nat) :=
  (namedFences s).filterMap (fun f => match tfind s.cfg.fences f with
    | some c => if c.device then some (f, ofLe (dramRead s.dram (hostBase s.cfg + c.addr) 8)) else (fenceRead l f).map (fun v => (f, v))
    | none => none)

/-- Whether a layer's fence has reached its target. -/
def fenceReached (l : List (Nat × Nat)) (x : FlipLayer) : Bool :=
  match fenceRead l x.fence with
  | some v => x.target ≤ v
  | none => false

/-- The fences that have reached the target of every pending flip that names them (R247). -/
def fenceMask (l : List (Nat × Nat)) (s : State) : List Nat :=
  (namedFences s).filter (fun f => (pendingFlips s).all (fun e => e.2.layers.all (fun x => x.fence != f || fenceReached l x)))

/-- FENCE_READ_LATE (R183): a host fence whose read took more than 50 µs is counted in the groups whose flips name it. -/
def execFenceReadLate (f : Nat) (s : State) : Host.Outcome State Fault Refusal :=
  act (fun s => { s with groups := s.groups.map (fun (e : Nat × Group) =>
    match e.2.pending with
    | some p => (e.1, if p.layers.any (fun l => l.fence == f) then { e.2 with late := (e.2.late + 1) % 2 ^ 32 } else e.2)
    | none => e) }) s

/-! ## Readiness (R104, R184, R186) -/

/-- What steps 4 and 5 of a decision point judge on: which fences have reached their targets, the values they were read with, and for each
network source the frame that its panes may take. -/
structure Basis where
  reached : FlipLayer → Bool
  values  : List (Nat × Nat)
  frames  : Table Nat

/-- Whether a frame is a candidate for a pane (R101): later than the one shown, with the companion that the pane uses written. -/
def paneTakes (s : State) (p src : Nat) (x : Slot) : Bool :=
  laterThanShown s p src x && x.pics.contains (picOf s.cfg s.cfg.profile p)

/-- Whether a pane may take the frame of its source (R101). -/
def paneReady (b : Basis) (s : State) (p : Nat) : Bool :=
  let src := paneSource s.cfg p
  match tfind b.frames src with
  | some k => (match s.slot src k with
    | some x => paneTakes s p src x
    | none => false)
  | none => false

/-- The panes of a group that are enabled: a host layer's implicit group has the panes of the layer. -/
def groupPanes (s : State) (g : Nat) : List Nat :=
  ((if g < 64 then groupMembers s.cfg g else sourcePanes s.cfg g)).filter (paneOn s.cfg)

/-- The flip of a layer in a pending request. -/
def layerFlip (p : Option PendFlip) (src : Nat) : Option FlipLayer := p.bind (fun q => q.layers.find? (fun l => l.source == src))

/-- The members that keep a group from its commit: host-layer panes whose fence has not reached its target, and beside a pending flip
network panes that are not ready. A member with nothing to do is idle (R184, R187, log entry 39). -/
def notReady (b : Basis) (s : State) (g : Nat) : List Nat :=
  let q := (s.group g).pending
  (groupPanes s g).filter (fun p =>
    let src := paneSource s.cfg p
    if src < 128 then q.isSome && !paneReady b s p
    else match layerFlip q src with
      | some l => !b.reached l
      | none => false)

/-- Whether a group commits (R186). -/
def commits (b : Basis) (s : State) (g : Nat) : Bool :=
  let due := (s.group g).pending.isSome || (groupPanes s g).any (fun p => paneSource s.cfg p < 128 && paneReady b s p)
  due && notReady b s g == []

/-! ## Commits (R64, R181, R186, R347) -/

/-- The ledger frame of a flipped buffer at a decision point. -/
def hostFrame (s : State) (n seq : Nat) (l : FlipLayer) (b : BufCfg) : Slot :=
  let d := s.grid.decideT n
  let cols := tileCols b.w
  let rows := tileCols b.h
  let rec0 : TileRec := ⟨0, true, false, false, false, false, 0, 0, 0, 0⟩
  { hdr := {
      source := l.source, slot := 0, spilled := false, rowtime := false, cols := cols, rows := rows, frameSeq := seq,
      captureT := if l.hasCapture then l.captureT else d, arrivalT := d, evidenceT := 0, frzSince := 0,
      uGrade4 := if l.hasCapture then u4 (uField l.u) else 0, timeQual := timeQual 3 s.time.state l.hasCapture,
      decodeStatus := decodeStatus false false false false false false false true false, freezeStatus := 0, srcState := 2, auCrc := 0 }
    rowTimes := [], tiles := List.replicate (cols * rows) rec0, width := b.w, height := b.h, depth := 8, vuiMatrix := 0, vuiFull := 1,
    samples := [], coded := ⟨0, 0, [], [], []⟩, pics := [0], buf := some l.buf, unreadable := false, oldPool := none, completeT := d, resync := false, rtpTs := 0, taken := true,
    capLocal := !l.hasCapture, evLocal := false, sinceLocal := false }

/-- BUF_RETIRED of a buffer that was never shown (R180). -/
def retireUnshown (tag : Option Nat) (b : Nat) (s : State) : State :=
  raiseAt s.time.now .bufRetired tag [(2, b), (1, 1)] (s.setBuf b bufInit)

/-- A layer takes its new buffer: a ledger frame that every enabled pane of it shows, and the legends' generations (R186, R347). Without
a free slot the frame is discarded (R54) and the buffer retires unshown (log entry 40). -/
def commitLayer (n : Nat) (l : FlipLayer) (s : State) : State :=
  match tfind s.cfg.bufs l.buf with
  | none => s
  | some b =>
    let (seq, s1) := nextSeq l.source s
    match ledgerWrite l.source (hostFrame s1 n seq l b) s1 with
    | (none, s2) => retireUnshown none l.buf s2
    | (some k, s2) =>
      let panes := (sourcePanes s2.cfg l.source).filter (paneOn s2.cfg)
      let s3 := panes.foldl (fun a p => a.modPane p (fun r => { r with shown := some k })) (s2.setBuf l.buf ⟨2, []⟩)
      if !l.hasGen then s3
      else { s3 with legends := s3.legends.map (fun (e : Nat × Legend) =>
        if paneSource s3.cfg e.2.pane = l.source then (e.1, { e.2 with next := some (l.generation, seq) }) else e) }

/-- A group commits: its layers flip, and its ready network members take their frames at step 5. The answer names those members. -/
def commitGroup (b : Basis) (n g : Nat) (s : State) : List Nat × State :=
  let net := (groupPanes s g).filter (fun p => paneSource s.cfg p < 128 && paneReady b s p)
  let layers := match (s.group g).pending with
    | some p => p.layers
    | none => []
  let s1 := layers.foldl (fun a l => commitLayer n l a) s
  (net, s1.modGroup g (fun q => { q with pending := none, stall := 0, notReady := [], values := [], said := 0 }))

/-- A group with a pending flip that does not commit stalls (R187). -/
def stallGroup (b : Basis) (g : Nat) (s : State) : State :=
  match (s.group g).pending with
  | none => s
  | some p =>
    let vals := p.layers.filterMap (fun l => (fenceRead b.values l.fence).map (fun v => (l.fence, v)))
    s.modGroup g (fun q => { q with stall := q.stall + 1, notReady := notReady b s g, values := vals })

/-- FLIP_STALL of a group that has stalled another FG_STALL_TICKS ticks: the members that are not ready, with the value of their fence,
as far as a record holds them (log entry 41). -/
def reportStall (g : Nat) (s : State) : State :=
  let q := s.group g
  let every := pv s.cfg pFgStallTicks 0
  if q.pending.isNone || q.stall = 0 || q.stall % every != 0 || q.said = q.stall then s
  else
    let value := fun (p : Nat) => match layerFlip q.pending (paneSource s.cfg p) with
      | some l => (fenceRead q.values l.fence).getD 0
      | none => 0
    raise .flipStall ([(1, g), (1, q.notReady.length)] ++ (q.notReady.take 3).flatMap (fun p => [(2, p), (8, value p)]))
      (s.modGroup g (fun q => { q with said := q.stall }))

/-- FLIP_STALL (R187) of one of the 64 groups. -/
def execFlipStall (g : Fin 64) (s : State) : Host.Outcome State Fault Refusal :=
  act (reportStall g) s

/-- The groups that step 4 looks at: those with a member and those with a pending flip. -/
def groupIds (s : State) : List Nat :=
  let named := dedup (((paneIds s.cfg).map (fun p => pv s.cfg pPaneGroup p)).filter (fun g => g < 64)
    ++ (pendingFlips s).map Prod.fst)
  sortBy (fun a b => a ≤ b) named

/-- Step 4 (R45, R186): each group commits or waits; the answer names the network panes that admit with their groups. A layer's implicit
group has no row of its own, so its stall is reported here. -/
def flipStep (b : Basis) (n : Nat) (s : State) : List Nat × State :=
  (groupIds s).foldl (fun (acc : List Nat × State) g =>
    if commits b acc.2 g then
      let (net, t) := commitGroup b n g acc.2
      (acc.1 ++ net, t)
    else (acc.1, let t := stallGroup b g acc.2
      if g < 64 then t else reportStall g t)) ([], s)

/-! ## Step 5 (R67, R102, R122) -/

/-- The silence latches (R67). -/
def latchSilence (s : State) : State :=
  (dedup ((s.cfg.panes.map (fun e => e.2.source)).filter (fun x => x < 128) ++ s.streams.map Prod.fst)).foldl (fun a x =>
    if silentState (a.stream x).state then a.modSource x (fun r => { r with silence := true }) else a) s

/-- The class of a stream (R122). A pane shows it while it and its head are enabled. -/
def classNow (c : Cfg) (x : Nat) : StreamClass :=
  let shows := (sourcePanes c x).filter (fun p => paneOn c p && pv c pHeadEnable (paneHead c p) == 1)
  if !streamOn c x then .none
  else if pv c pDecOrigin x = 1 then .playback
  else if shows.any (guarded c) then .guardedVisible
  else if shows != [] then .unguardedVisible
  else if pv c pDecPreview x = 1 then .preview
  else .none

/-- A stream takes its class: in NONE what waits is discarded, and out of it decoding begins at an entry point (R122). -/
def setClass (x : Nat) (s : State) : State :=
  let m := s.stream x
  let c := classNow s.cfg x
  if c = m.cls then s
  else
    let s1 := s.setStream x { m with cls := c }
    if c = .none then
      let n := (m.queue.filter Picture.waiting).length
      let s2 := s1.modStream x (fun m => { m with
        queue := m.queue.filter (fun q => !q.waiting), waitEntry := true, startDecode := true, gapNext := true })
      if n = 0 then s2 else idleDiscard x n s2
    else if m.cls = .none then s1.modStream x (fun m => { m with waitEntry := true, startDecode := true })
    else s1

/-- Every stream takes its class (R122). -/
def assignClasses (s : State) : State :=
  let xs := dedup (enabledStreams s.cfg ++ s.streams.map Prod.fst)
  xs.foldl (fun a x => setClass x a) s

/-- Whether an unguarded pane sits this decision point out: in ENDURANCE and at the throttle level it admits at every second one (R20,
R411). -/
def sitsOut (s : State) (n p : Nat) : Bool :=
  !guarded s.cfg p && n % 2 == 1 && (s.cfg.profile == .endurance || s.power.level == .throttle)

/-- Step 5 (R102): each enabled pane outside a group, and the ready members of committed groups, take their frames. -/
def admitStep (b : Basis) (n : Nat) (members : List Nat) (s : State) : State :=
  (paneIds s.cfg).foldl (fun a p =>
    let src := paneSource a.cfg p
    let free := paneOn a.cfg p && !(pv a.cfg pPaneGroup p < 64) && !sitsOut a n p
    if src < 128 && (free || members.contains p) && paneReady b a p then
      match tfind b.frames src with
      | some k => admitPane p src k a
      | none => a
    else a) s

/-! ## Step 6 (R46, R102) -/

/-- The frame whose age an age overlay shows (R170): that of its source, as its pane shows it; none where the pane shows no frame of it. -/
def overlayFrame (s : State) (src : Nat) : Option FrameHdr :=
  let p := pv s.cfg pIntAgePane src
  if paneSource s.cfg p ≠ pv s.cfg pIntAgeSrc src then none
  else ((s.pane p).shown.bind (fun k => s.slot (paneSource s.cfg p) k)).map (fun x => x.hdr)

/-- A pane's settings with the slot it shows, its source's silence latch, its loaded coefficients (R175), and for an age overlay the frame whose
age it shows (R170). -/
def latchPane (s : State) (q : PaneIn) : PaneIn :=
  { q with
    slot := if q.source < 192 then (s.pane q.pane).shown else none, silence := q.source < 128 && (s.source q.source).silence
    coef := if 3 ≤ q.filter then tget [] s.coef (q.filter - 3) else []
    age := if 240 ≤ q.source then overlayFrame s q.source else none }

/-- The inputs of a head frame that a tick governs. -/
def frameIn (s : State) (n h : Nat) (second : Bool) : FrameIn :=
  let c := s.cfg
  { tick := n, uWall := s.time.uWall, second := second, on := pv c pHeadEnable h == 1, dark := bit c.darkCmd h,
    bank := if second then none else (s.head h).commitBank, panes := (headPaneIns c c.profile h).map (latchPane s), bg := pv c pHeadBgColour h
    colours := [0] ++ (List.range 5).map (fun i => pv2 c pHeadMarkColour h (i + 1)) ++ [0], dither := pv c pHeadDither h
    weirLow := pv c pHeadWeirLow h, weirHigh := pv c pHeadWeirHigh h, flaund := pv c pHeadFlaundEn h == 1, primaries := pv c pHeadPrimaries h }

/-- Step 6 (R45, R46): the inputs of every head frame governed by the tick are fixed, two of them for a ×2 head. -/
def sluiceStep (n : Nat) (s : State) : State :=
  (List.range 32).foldl (fun a h =>
    let t := (a.head h).timing
    if t.port.isNone || !startsAt t n then a
    else
      let new := if t.mult = 2 then [frameIn a n h false, frameIn a n h true] else [frameIn a n h false]
      a.modHead h (fun d => { d with nextIn := d.nextIn ++ new, commitBank := none })) s

/-- Steps 4 to 6 on a basis (R45). `open'` is false where an exchange was late: no group commits and no network frame is admitted
(R250). -/
def finishSteps (b : Basis) (n : Nat) (open' : Bool) (s : State) : State :=
  let (members, s1) := if open' then flipStep b n s
    else ([], (pendingFlips s).foldl (fun a e => let t := stallGroup b e.1 a
      if e.1 < 64 then t else reportStall e.1 t) s)
  let s2 := latchSilence (assignClasses s1)
  sluiceStep n (if open' then admitStep b n members s2 else s2)

/-- The basis of a seat on its own (R102, R183). -/
def ownBasis (s : State) (n : Nat) (fences : List (Nat × Nat)) : Basis :=
  let t := s.grid.decideT n
  let srcs := dedup ((s.cfg.panes.map (fun e => e.2.source)).filter (fun x => x < 128))
  ⟨fenceReached fences, fences, srcs.filterMap (fun x => (newestCandidate s x t).map (fun q => (x, q.1)))⟩

end Sys2Proof.Machine
end

