-- ==== Sys2Proof/Machine/Power.lean ====
section
/-! DEFINITION. Power and sequencing: RESET_N and PWR_GOOD (R398, R405), the start (R399 to R401, R404), the shutdown (R403, R404, R406) and
the configuration snapshot in flash (R404, R262). -/
namespace Sys2Proof.Machine

/-! ## RESET_N and PWR_GOOD -/

/-- Every head is blanked and has no timing, and the LIVE pins are low. -/
def outputsIdle (s : State) : State :=
  settlePins ((List.range 32).foldl (fun a h => blankHead h (a.modHead h (fun d => { d with running := false }))) s)

/-- RESET_N_FALL (R405). After a trip it does nothing while Tj is 95 °C or above, and below it the trip latch lets go (R413). -/
def execResetNFall (t : Time64) (s : State) : Host.Outcome State Fault Refusal :=
  act (fun s =>
    if s.power.resetLow || (s.power.thermtrip && 1520 ≤ s.power.tj) then s
    else
      let s1 := if s.power.thermtrip then emit (.thermtrip false) s else s
      outputsIdle { s1 with power := { s1.power with
        phase := .held, resetLow := true, resetFallT := t, thermtrip := false, flashQ := [] } }) s

/-- PWR_GOOD_FALL (R398): with RESET_N high the device behaves as if it were low, and starts again only through a reset release. -/
def execPwrGoodFall (t : Time64) (s : State) : Host.Outcome State Fault Refusal :=
  act (fun s =>
    let s1 := { (atTime t s) with power := { s.power with pwrGood := false } }
    if s.power.resetLow then s1 else outputsIdle { s1 with power := { s1.power with phase := .supplyLost } }) s

/-- Whether the part holds sealed records (R432). -/
def State.hasSealed (s : State) : Bool :=
  s.life.installId.isSome || s.touch.saved.isSome || s.test.written.isSome || s.twin.partnerFlash.isSome || s.twin.snapFlash.isSome
  || s.power.cfgSaved.isSome

/-- What the sealed records give, none of it where they do not open (R433, R434). -/
def opened {α : Type} (r : ResetInputs) (x : Option α) : Option α := if r.recordsOpen then x else none

/-- The life cycle after a reset (R425, R426, R430, R434): SERVICE is volatile, and a part none of whose sealed records opens is
UNADOPTED. -/
def resetLife (r : ResetInputs) (s : State) : Life :=
  { s.life with
    state := if s.life.state = .service then .field else s.life.state
    installId := opened r s.life.installId, installKey := if r.recordsOpen then s.life.installKey else []
    challenge := zeros 16, runningB := false, serviceEnd := none
    unadopted := s.life.unadopted || (s.hasSealed && !r.recordsOpen) }

/-- The device at the release of RESET_N (R226, R400, R405): everything at its reset value but fuses, flash, pins and the sensors. -/
def releaseState (r : ResetInputs) (s : State) : State :=
  let z := State.reset
  { z with
    free := s.free, out := s.out
    pins := { z.pins with dark := s.pins.dark }
    touch := { z.touch with saved := opened r s.touch.saved }
    mem := { z.mem with poison := s.mem.poison }
    twin := { z.twin with
      partner := opened r s.twin.partnerFlash, partnerFlash := opened r s.twin.partnerFlash
      snapFlash := opened r s.twin.snapFlash, snapHeld := opened r s.twin.snapFlash }
    test := { z.test with
      record := opened r s.test.written, written := opened r s.test.written, recSeq := s.test.recSeq, fullNext := s.test.fullNext
      onSeconds := s.test.savedOn, savedOn := s.test.savedOn }
    life := resetLife r s
    power := { z.power with
      perst := s.power.perst, vddTouch := r.vddTouch, variantE := s.power.variantE, vAvs := s.power.vAvs
      sensors := s.power.sensors.map (fun (e : Nat × Sensor) => (e.1, { e.2 with badRun := 0, faulty := false }))
      tj := s.power.tj, hottest := s.power.hottest, cfgSaved := opened r s.power.cfgSaved } }

/-- RESET_N_RELEASE (R226, R400, R405): after at least 10 µs low (log entry 37). SEAT is sampled. -/
def execResetNRelease (r : ResetInputs) (s : State) : Host.Outcome State Fault Refusal :=
  if s.power.resetLow && s.power.resetFallT + 10000 ≤ r.at' then actSeat r.seatHigh (releaseState r) s else .next s

/-! ## The start (R399, R400, R404) -/

/-- The snapshot a start takes its configuration from (R400): in a warm restart the one in its COLD region is the newest. -/
def State.startConfig (s : State) : Option Snapshot :=
  match s.power.cfgCold with
  | some p => some p
  | none => s.power.cfgSaved

/-- The next step of the start. -/
def toStep (k : Nat) (s : State) : State := { s with power := { s.power with phase := .starting k } }

/-- Whether the power-up self-test runs (R415, R421, R434). -/
def State.fullTest (s : State) : Bool := !s.recordValid || s.test.fullNext || s.life.unadopted

/-- Before step 1 (R400, R413, R427): the trip check, V_AVS, the unlock challenge and the self-test where it is due. -/
def startChecks (tjOk : Bool) (o : Option SelftestOutcome) (s : State) : State :=
  match s.test.run, o with
  | some _, some r => toStep 1 (finishRun r s)
  | some _, none => s
  | none, _ =>
    if !tjOk then
      if s.power.thermtrip then s else emit (.thermtrip true) { s with power := { s.power with thermtrip := true } }
    else
      let s0 := if s.power.thermtrip then emit (.thermtrip false) { s with power := { s.power with thermtrip := false } } else s
      let s1 := drawChallenge (emit (.avsSet s0.power.vAvs) s0)
      if s1.fullTest then beginRun 1 allRegions 0 none s1 else toStep 1 s1

/-- DRAM training ends in FSP[0], with the address map of the snapshot (R301, R320). -/
def startDram (s : State) : State :=
  let c := match s.startConfig with
    | some p => p.cfg
    | none => cfgInit
  { s with mem := { s.mem with
    fsp := 0, switch := none, queued := [], outage := false, interleave := pv c pMemInterleave 0, hashEn := pv c pMemHashEn 0 == 1
    scanFirst := false, held := [] } }

/-- The parameters that the saved state configures before READY (R400): Ethernet ports, estimators and joins. -/
def earlyPid (pid : Nat) : Bool := [pDom, pTimePrefDom, pTimePortCorr].contains pid || (pNetPortMode ≤ pid && pid ≤ pNetMirrorRate)

/-- The saved state is opened: what comes before READY is configured, and the multicast joins of the snapshot are issued. -/
def startSaved (s : State) : State :=
  match s.startConfig with
  | none => s
  | some p =>
    let early := p.cfg.params.filter (fun e => earlyPid (e.1 / 2 ^ 32))
    let rest := s.cfg.params.filter (fun e => !earlyPid (e.1 / 2 ^ 32))
    let o := s.cfg
    let s1 := { s with cfg := { s.cfg with params := early.foldl (fun t e => tset e.1 e.2 t) rest } }
    let s2 := (List.range 4).foldl (fun a q => settleEth o q a) s1
    let s3 := (List.range 2).foldl (fun a d => if pv o pDom d != pv s2.cfg pDom d then a.modEst d (fun _ => estInit) else a) s2
    { (settleJoins { s3 with cfg := p.cfg }) with cfg := s3.cfg }

/-- READY (R400): START_DONE with the TAG of the SYS_RESTART, the firmware minimum (R430), and the rest of the snapshot for the first tick
whose decision point lies at least 20 µs later. -/
def startReady (s : State) : State :=
  let n := s.grid.firstDecision (s.time.now + 20000)
  let lanes := match s.startConfig with
    | some p => pv p.cfg pTwinLaneEnable 0
    | none => pv cfgInit pTwinLaneEnable 0
  let tag := s.power.restartHdr.map (fun h => h.1.tag)
  let s1 := { s with
    cmd := { s.cmd with ready := true }
    power := { s.power with phase := .running, restartHdr := none, startSnap := s.startConfig.map (fun p => (n, p)) } }
  let s2 := if lanes = 0 then s1 else lanesUp s1
  raiseAt s2.time.now .startDone tag [] (raiseMinimum s2)

/-- START_SEQUENCE_STEP (R399, R400): one step of the start is complete, and the next begins. In a start from reset the time counter
stands at 0 until the time unit starts in step 3. -/
def execStartSequenceStep (tjOk : Bool) (selftest : Option SelftestOutcome) (t : Time64) (s : State) : Host.Outcome State Fault Refusal :=
  act (fun s =>
    match s.power.phase with
    | .starting k =>
      let s1 := if s.power.warm || 3 < k then atTime t s else s
      match k with
      | 0 => startChecks tjOk selftest s1
      | 1 => toStep 2 s1
      | 2 => toStep 3 (startDram s1)
      | 3 => toStep 4 (bootFirmware s1)
      | 9 => toStep 10 (startSaved s1)
      | 10 => startReady s1
      | j => toStep (j + 1) s1
    | _ => s) s

/-- What a stopped device keeps of its configuration: that of the time unit, which goes on (R404). -/
def stoppedCfg (c : Cfg) : Cfg := { cfgInit with params := c.params.filter (fun e => e.1 / 2 ^ 32 / 256 == 1) }

/-- A SYS_RESTART starts the stopped device from step 1, with the time unit left running (R404) and a new unlock challenge (R427). -/
def warmStart (s : State) : State :=
  drawChallenge { s with
    time := { s.time with coarseSet := true }
    power := { s.power with phase := .starting 1, warm := true, abandon := false, forced := false } }

/-! ## The shutdown (R403, R406) -/

/-- Accepted commands that a test picks out end with a failure, in the order in which they would have applied. -/
def failPending (code n : Nat) (p : Accepted → Bool) (s : State) : State :=
  let (drop, keep) := s.cmd.accepted.partition p
  (sortBy (acceptedLe s.routeBoth) drop).foldl (fun a q => failReply q n (.fail code) 0 a)
    { s with cmd := { s.cmd with accepted := keep } }

/-- A leave is announced to the partner, as by TWIN_LEAVE (R227, R403); a standby has no heads to take up. -/
def leaveForShutdown (n : Nat) (s : State) : State :=
  let s1 := if s.hot then sendFlume (.state (.leave n)) s else s
  let s2 := if s1.twin.mode = .solo then s1 else toMode .solo .leave s1
  lanesDown s.hot { s2 with twin := { s2.twin with join := none, sending := none, receiving := none, takeover := none } }

/-- SYS_SHUTDOWN at its apply tick n (R403): later commands fail, the leave is announced, the snapshot is taken, and heads, sessions and
lanes run to their safe points. -/
def beginShutdown (n mode : Nat) (tag : Option (CmdHdr × Cmd)) (s : State) : State :=
  let s1 := failPending 0 n (fun a => n < a.tick) s
  let snap := takeSnapshot n s1
  let s2 := abandonRun (leaveForShutdown n s1)
  { s2 with
    heads := s2.heads.map (fun (e : Nat × Head) => (e.1, { e.2 with disabling := e.2.running, reEnable := none, restart := false }))
    enc := s2.enc.map (fun (e : Nat × Session) => (e.1, { e.2 with stopping := e.2.running, restart := false }))
    lanes := s2.lanes.map (fun (e : Nat × Lane) => (e.1, { e.2 with stopping := e.2.stream.isSome, restart := false }))
    cmd := { s2.cmd with deferred := [] }
    power := { s2.power with phase := .stopping 0, shutMode := mode, shutHdr := tag, abandon := false, cfgCold := some snap } }

/-- Heads, encode and ingest are off, and the multicast leaves are sent (R403, R87). -/
def stopPictures (s : State) : State :=
  let s1 := (List.range 4).foldl (fun a p =>
    ((a.ethPort p).joins.foldl (fun b j => sendLeave p j b) a).modEthPort p (fun e => { e with joins := [] })) s
  settlePins { s1 with
    streams := s1.streams.map (fun (e : Nat × Stream) => (e.1, { streamInit with cnt := e.2.cnt }))
    lanes := []
    heads := s1.heads.map (fun (e : Nat × Head) => (e.1, headOff e.2))
    enc := s1.enc.map (fun (e : Nat × Session) => (e.1, { sessionInit with cnt := e.2.cnt })) }

/-- DP ports idle (R403); test patterns end with them. -/
def stopPorts (s : State) : State :=
  let s1 := endPatterns s
  { s1 with dp := s1.dp.map (fun (e : Nat × DpPort) => (e.1, dpOff e.2)) }

/-- A configuration snapshot stands in flash (R404, R432), with the lifetime counters. -/
def putConfig (p : Snapshot) (s : State) : State :=
  flashStore (.counters s.onNow) (emit (.flashWrite 5 (Config.snapshotBytes p).length)
    { s with power := { s.power with cfgSaved := some p, cfgSavedT := some s.time.now, cfgDirty := false } })

/-- The snapshot of the shutdown with what the pictures under way have left (R403, R155): the freeze state and the counters as they stand once the
lanes have stopped. -/
def lastSnapshot (s : State) : State :=
  { s with power := { s.power with cfgCold := s.power.cfgCold.map (fun p =>
    { p with freeze := s.freeze, sources := s.sources, eventSeq := s.events.next }) } }

/-- The writes of the shutdown under R414: outside the window the snapshot stays in its COLD region. -/
def shutdownWrites (s0 : State) : State :=
  let s := lastSnapshot s0
  let s1 := match s.power.cfgCold with
    | some p => if s.flashAllowed && s.flashWindow then putConfig p s else flashStore (.counters s.onNow) s
    | none => s
  if s1.touch.running then flashStore (.touch (savedBase s1)) s1 else s1

/-- What is still on its way in a unit that goes off fails: CHECK commands and a set-point switch. -/
def failUnits (s : State) : State :=
  let waiting := s.cu.flatMap (fun e => e.2.busy.toList ++ e.2.queue)
  let s1 := waiting.foldl (fun a q => cuReply q (.fail 0) [] a) s
  let s2 := (s1.mem.switch.toList ++ s1.mem.queued).foldl (fun a w => answerSwitch w (.fail 0) a) s1
  { s2 with cu := [], refs := [], mem := { s2.mem with switch := none, queued := [], outage := false, scanFirst := false, held := [] } }

/-- Every unit is off: the device is stopped, or starts again (R403, R404, R406). -/
def finishShutdown (s : State) : State :=
  let s1 := unitsOff (failUnits s)
  let s2 := { s1 with
    cfg := stoppedCfg s1.cfg
    bufs := [], legends := [], coef := [], freeze := loadFreeze [] s1.freeze, sources := [], evi := [], decRing := none, mirror := none, recheckN := 0
    streams := s1.streams.map (fun (e : Nat × Stream) => (e.1, { e.2 with ring := none }))
    touch := { touchInit with saved := s1.touch.saved }
    eth := s1.eth.map (fun (e : Nat × EthPort) => (e.1, { e.2 with link := false, prbs := none }))
    twin := { s1.twin with linkOn := false, linkDown := false, linkAgain := false, lanes := [], verified := false, nonce := [], peerNonce := [] }
    cmd := { s1.cmd with ready := false }
    power := { s1.power with phase := .stopped, shutHdr := none, startSnap := none } }
  let s3 := raiseAt s2.time.now .shutdownDone (s.power.shutHdr.map (fun h => h.1.tag)) [] s2
  if s3.power.restartHdr.isSome then warmStart s3 else s3

/-- The next stage of the shutdown. -/
def toStage (k : Nat) (s : State) : State := { s with power := { s.power with phase := .stopping k } }

/-- The shutdown self-test begins when MODE is 0 (R403, R416); a SYS_RESTART that has overtaken the shutdown has abandoned it (R406). -/
def beginShutdownTest (s : State) : State :=
  if s.power.shutMode != 0 then s
  else
    let s1 := beginRun 0 allRegions 0 none s
    { s1 with test := { s1.test with run := s1.test.run.map (fun r => { r with abandoned := s.power.abandon }) } }

/-- SHUTDOWN_STEP (R403): one stage of the shutdown is complete, and the next begins. -/
def execShutdownStep (selftest : Option SelftestOutcome) (t : Time64) (s : State) : Host.Outcome State Fault Refusal :=
  act (fun s =>
    match s.power.phase with
    | .stopping k =>
      let s1 := atTime t s
      match k with
      | 0 => toStage 1 (stopPictures s1)
      | 1 => toStage 2 (stopPorts s1)
      | 2 => toStage 3 (beginShutdownTest (shutdownWrites s1))
      | 3 => match s1.test.run, selftest with
        | none, _ => toStage 4 s1
        | some _, some o => toStage 4 (finishRun o s1)
        | some _, none => s
      | _ => finishShutdown s1
    | _ => s) s

/-- SYS_RESTART at its apply tick (R404, R406): running it shuts the device down with MODE 1 first, and during a shutdown it is DEFERRED
and abandons the shutdown self-test. -/
def applyRestart (n : Nat) (h : CmdHdr) (k : Cmd) (s : State) : Status × State :=
  let s1 := { s with power := { s.power with restartHdr := some (h, k) } }
  match s.power.phase with
  | .stopping _ =>
    (.deferred, { s1 with
      power := { s1.power with abandon := true }
      test := { s1.test with run := s1.test.run.map (fun r => { r with abandoned := true }) } })
  | .stopped => (.ok, warmStart s1)
  | _ => (.ok, beginShutdown n 1 none s1)

/-! ## Snapshots in flash (R262, R404) -/

/-- Whether 60 s have passed since the last snapshot was written. -/
def State.snapWriteDue (s : State) : Bool :=
  match s.power.cfgSavedT with
  | some u => u + 60000000000 ≤ s.time.now
  | none => true

/-- CONFIG_SNAPSHOT_WRITE (R404, R262, R414): the running configuration, or in COLD-STANDBY the last acknowledged snapshot, at most once
per 60 s. A write that fails leaves the copy before (R432). -/
def execConfigSnapshotWrite (ok : Bool) (t : Time64) (s : State) : Host.Outcome State Fault Refusal :=
  act (fun s =>
    let s1 := atTime t s
    if !s1.alive || !s1.flashAllowed || !s1.flashWindow || !s1.snapWriteDue then s
    else if s1.twin.mode = .coldStandby then
      match s1.twin.snapHeld with
      | some r =>
        if !ok || s1.twin.snapFlash = some r then s
        else
          emit (.flashWrite 6 r.total) { s1 with
            twin := { s1.twin with snapFlash := some r }
            power := { s1.power with cfgSavedT := some t } }
      | none => s
    else if !ok || !s1.power.cfgDirty then s
    else putConfig (takeSnapshot s1.time.decided s1) s1) s

end Sys2Proof.Machine
end

