-- ==== Sys2Proof/Machine/TwinSnap.lean ====
section
/-! DEFINITION. Snapshot transfers over the Flume (R231, R240, R261 to R263): segments, acknowledgements, the periodic snapshot, and what a
complete transfer sets going. -/
namespace Sys2Proof.Machine

/-- The size of a SNAP segment, which the spec does not give (log entry 44). -/
def segmentBytes : Nat := 4096

/-! ## The sender -/

/-- CRC-64/XZ of a whole snapshot (R261, R323). -/
def snapshotCrc (b : Bytes) : BitVec 64 := crcOf 3 none b

/-- The segment that a transfer has reached (R261), with the check value of the whole. -/
def segmentOf (x : Sending) (t : Time64) : SnapSegment :=
  let b := Config.snapshotBytes x.snap
  { purpose := x.purpose, snapId := x.snapId, tick := x.snap.tick, total := x.size, offset := x.acked, data := slice b x.acked segmentBytes
    crc := snapshotCrc b, at' := t }

/-- That segment is sent and waits for its acknowledgement. -/
def sendSegment (s : State) : State :=
  match s.twin.sending with
  | none => s
  | some x =>
    sendFlume (.snap (segmentOf x s.time.now)) { s with twin := { s.twin with
      outstanding := s.twin.outstanding.filter (fun o => !o.snap) ++ [⟨s.nextFseq 13, true, s.time.now, 0⟩] } }

/-- A snapshot is taken and its transfer begins (R240, R262, R263). -/
def startSending (purpose n : Nat) (s : State) : State :=
  let p := takeSnapshot n s
  let id := (s.twin.snapId + 1) % 2 ^ 32
  sendSegment { s with twin := { s.twin with
    snapId := id, snapSentT := some s.time.now, sending := some ⟨id, p, (Config.snapshotBytes p).length, 0, 0, false, purpose⟩ } }

/-- A join fails on the keeper (R392). -/
def failJoin (code : Nat) (s : State) : State :=
  let s1 := { s with twin := { s.twin with join := none, sending := none, outstanding := s.twin.outstanding.filter (fun o => !o.snap) } }
  match s.twin.join.bind (fun j => j.hdr) with
  | some (h, k) => answer h (opcodeOf k) s1.intervalTick (.fail code) (movedBit h s1.intervalTick) [] s1
  | none => s1

/-- A transfer starts again from its first segment (R231), but not on lanes that come down (R236). A join's ends after three restarts (R392). -/
def restartSending (s : State) : State :=
  match s.twin.sending with
  | none => s
  | some x =>
    if s.twin.linkDown then { s with twin := { s.twin with sending := none } }
    else if (x.purpose = 1 || x.purpose = 2) && 3 ≤ x.restarts then failJoin 8 s
    else sendSegment { s with twin := { s.twin with sending := some { x with acked := 0, restarts := x.restarts + 1 } } }

/-- The newest complete snapshot (R265). -/
def noteSnapshot (tick : Nat) (s : State) : State :=
  { s with twin := { s.twin with
    snapT := some (s.grid.tickT tick), cnt := { s.twin.cnt with snapshots := (s.twin.cnt.snapshots + 1) % 2 ^ 32 } } }

/-- The tick at which a join applies (R240 step 3): the first whose decision point is at least 2 ms after the last acknowledgement. -/
def joinTick (s : State) : Nat := s.grid.firstDecision (s.time.now + 2000000)

/-- On the keeper, the commands accepted since the snapshot that name a tick before another are rejected (R240 step 2): nothing of theirs would
reach the joiner. -/
def rejectEarly (tick : Nat) (s : State) : State :=
  match s.twin.join with
  | some j =>
    if !j.keeper then s
    else
      let (drop, keep) := s.cmd.accepted.partition (fun a => j.order ≤ a.order && a.tick < tick)
      drop.foldl (fun a q => failReply q a.intervalTick .rejState 0 a) { s with cmd := { s.cmd with accepted := keep } }
  | none => s

/-- The old active seat becomes the standby (R263). -/
def becomeStandby (s : State) : State :=
  let s1 := unitsOff (toMode .coldStandby .takeover s)
  bringUp s1.cfg true (s1.time.decided + 1) s1

/-- A transfer is complete on the sender: a join names its application tick, a planned takeover has handed the wall over, and a change that
came meanwhile asks for one more snapshot. -/
def finishSending (x : Sending) (s : State) : State :=
  let s1 := noteSnapshot x.snap.tick { s with twin := { s.twin with sending := none, outstanding := s.twin.outstanding.filter (fun o => !o.snap) } }
  match x.purpose with
  | 0 => if x.again && s1.twin.mode = .coldActive then startSending 0 s1.time.decided s1 else s1
  | 3 => becomeStandby s1
  | _ => rejectEarly (joinTick s1) { s1 with twin := { s1.twin with join := s1.twin.join.map (fun j => { j with at' := some (joinTick s1) }) } }

/-- SNAP_ACK_RECEIVED (R261, R262): the next segment, the end, or a new start where the peer found the whole wrong. On lanes that come down the
acknowledged segment is the last (R236). -/
def execSnapAckReceived (snapId offset : Nat) (i : Framed Bool) (t : Time64) (s : State) : Host.Outcome State Fault Refusal :=
  let ok := i.msg
  let w := i.frame
  act (fun s =>
    match takeFrame 14 s.twin.sending.isSome w s with
    | (none, s1) => s1
    | (some _, s1) =>
      let s2 := atTime t s1
      match s2.twin.sending with
      | none => s2
      | some x =>
        if snapId != x.snapId || offset != x.acked then s2
        else if !ok then restartSending s2
        else
          let done := min x.size (offset + segmentBytes)
          let s3 := { s2 with twin := { s2.twin with sending := some { x with acked := done } } }
          if s3.twin.linkDown then
            { s3 with twin := { s3.twin with sending := none, outstanding := s3.twin.outstanding.filter (fun o => !o.snap) } }
          else if x.size ≤ done then finishSending { x with acked := done } s3
          else sendSegment s3) s

/-- SNAPSHOT_PERIOD (R262): COLD-ACTIVE sends a snapshot every TWIN_SNAP_PERIOD. -/
def execSnapshotPeriod (t : Time64) (s : State) : Host.Outcome State Fault Refusal :=
  act (fun s =>
    let due := match s.twin.snapSentT with
      | some u => u + 1000000000 * pv s.cfg pTwinSnapPeriod 0 ≤ t
      | none => true
    if !s.linkUsed || s.twin.mode != .coldActive || !due || s.twin.sending.isSome then s else startSending 0 s.time.decided (atTime t s)) s

/-- A configuration command took effect in COLD-ACTIVE (R262): one more snapshot, after the transfer under way where there is one. -/
def snapshotChange (n : Nat) (s : State) : State :=
  if s.twin.mode != .coldActive || !s.linkUsed then s
  else
    match s.twin.sending with
    | some x => { s with twin := { s.twin with sending := some { x with again := true } } }
    | none => startSending 0 n s

/-! ## The receiver -/

/-- Whether a seat takes part in a transfer (R230, R240): a standby, or for a join a seat that may be joined. -/
def takesSnapshot (s : State) (purpose : Nat) : Bool :=
  if purpose = 1 || purpose = 2 then
    (s.twin.mode == .solo || s.twin.mode == .orphaned) && pv s.cfg pTwinJoinable 0 == 1 && s.twin.verified && twinPermitted s
  else s.twin.mode == .coldStandby

/-- A transfer is complete on the receiver: a standby holds it, a planned takeover begins, or a join waits for its application tick, which this
seat counts from its own acknowledgement (log entry 45). -/
def finishReceiving (r : Receiving) (s : State) : State :=
  let s1 := { (noteSnapshot r.tick s) with twin := { (noteSnapshot r.tick s).twin with receiving := none } }
  if r.purpose = 1 || r.purpose = 2 then
    { s1 with twin := { s1.twin with
      receiving := some r, join := some ⟨false, r.purpose == 1, none, r.tick, true, some (joinTick s1), s1.cmd.order⟩ } }
  else
    let s2 := { s1 with twin := { s1.twin with snapHeld := some r, snapOldSaid := false } }
    if r.purpose = 3 then beginTakeover s2 else s2

/-- Whether a segment belongs to a transfer that this seat has stored it of already, the last complete one included (R231). -/
def knownSegment (m : SnapSegment) (s : State) : Bool :=
  [s.twin.receiving, s.twin.snapHeld].any (fun q => q.any (fun r => r.snapId == m.snapId && m.offset < r.data.length))

/-- SNAP_RECEIVED (R231, R261): a segment is stored and acknowledged; a repeated one is acknowledged again. The whole is checked before
its last segment is. -/
def execSnapReceived (i : Framed SnapSegment) (s : State) : Host.Outcome State Fault Refusal :=
  let m := i.msg
  let w := i.frame
  act (fun s =>
    match takeFrame 13 (takesSnapshot s m.purpose) w s with
    | (none, s1) => s1
    | (some f, s1) =>
      let s2 := atTime m.at' s1
      let ack := fun (s : State) => sendFlume (.snapAck m.snapId m.offset) s
      if f.1.resend && knownSegment m s2 then ack s2
      else
        let r : Option Receiving := if m.offset = 0 then some ⟨m.purpose, m.snapId, m.tick, m.total, m.data⟩
          else match s2.twin.receiving with
            | some r => if r.snapId = m.snapId && r.data.length = m.offset then some { r with data := r.data ++ m.data } else none
            | none => none
        match r with
        | none => if knownSegment m s2 then ack s2 else s2
        | some r =>
          if r.data.length < r.total then ack { s2 with twin := { s2.twin with receiving := some r } }
          else if snapshotCrc r.data != m.crc then { s2 with twin := { s2.twin with receiving := none } }
          else ack (finishReceiving r s2)) s

/-- TWIN_SNAP_OLD (R262): once until a newer snapshot is complete. -/
def execTwinSnapOld (t : Time64) (s : State) : Host.Outcome State Fault Refusal :=
  act (fun s =>
    let old := match s.twin.snapT with
      | some u => u + 3000000000 * pv s.cfg pTwinSnapPeriod 0 < t
      | none => false
    if s.alive && s.twin.mode = .coldStandby && old && !s.twin.snapOldSaid then
      raise .twinSnapOld [] { (atTime t s) with twin := { s.twin with snapOldSaid := true } }
    else s) s

/-! ## Joining (R240) -/

/-- TWIN_JOIN at its apply tick on the keeper (R240 step 2). -/
def beginJoin (h : CmdHdr) (k : Cmd) (mode n : Nat) (s : State) : State :=
  let s1 := { s with twin := { s.twin with join := some ⟨true, mode == 0, some (h, k), n, true, none, s.cmd.order⟩ } }
  startSending (mode + 1) n s1

/-- What both seats of a new HOT pair begin with (R48, R240, R296). The joiner is out of step for every stream that a pane shows until it
admits an entry frame. -/
def pairUp (withdrawn : Bool) (s : State) : State :=
  let out := if withdrawn then (dedup (s.cfg.panes.map (fun e => e.2.source))).filter (streamOn s.cfg) else []
  { s with
    time := { s.time with leadIsB := false, servoSrc := none }
    twin := { s.twin with withdrawn := withdrawn, awaiting := withdrawn, peerWithdrawn := !withdrawn, outOfStep := out, joinDue := out
                          primaryB := (s.seatB != withdrawn), partnerLost := false } }

/-- The keeper at the application tick: its mode, its reply, and in HOT the commands accepted since the snapshot forwarded (R240). -/
def keeperJoins (j : Join) (n : Nat) (s : State) : State :=
  let s1 := toMode (if j.hot then .hot else .coldActive) .join { s with twin := { s.twin with join := none } }
  let s2 := if j.hot then pairUp false s1 else s1
  let s3 := match j.hdr with
    | some (h, k) => answer h (opcodeOf k) n .ok (movedBit h j.tick) [] s2
    | none => s2
  if !j.hot then s3
  else
    let (fwd, rest) := s3.cmd.accepted.partition (fun a => j.order ≤ a.order && !seatLocal a.cmd)
    fwd.foldl (fun a q =>
      sendCmdFrame q.hdr q.cmd { a with cmd := { a.cmd with accepted := a.cmd.accepted ++ [{ q with fseq := some (a.nextFseq 9), acked := false }] } })
      { s3 with cmd := { s3.cmd with accepted := rest } }

/-- The joiner at the application tick: its own commands fail, and it takes up the snapshot (R240 step 4). -/
def joinerJoins (j : Join) (n : Nat) (s : State) : State :=
  let snap := s.twin.receiving.bind (fun r => Config.snapshotOf r.data)
  let s0 := { s with twin := { s.twin with join := none, receiving := none, snapHeld := if j.hot then s.twin.snapHeld else s.twin.receiving } }
  match snap with
  | none => s0
  | some p =>
    let own := sortBy (acceptedLe false) s0.cmd.accepted
    let s1 := own.foldl (fun a q => failReply q n (.fail 0) 0 a) { s0 with cmd := { s0.cmd with accepted := [] } }
    let s2 := adoptSnapshot p j.hot (!j.hot) false n (toMode (if j.hot then .hot else .coldStandby) .join s1)
    if j.hot then pairUp true s2 else s2

/-- A join whose application tick has come; before it, what the keeper accepted for this tick is rejected (R240). -/
def settleJoin (n : Nat) (s : State) : State :=
  match s.twin.join with
  | some j =>
    if j.at'.any (fun a => a ≤ n) then (if j.keeper then keeperJoins j n s else joinerJoins j n s) else rejectEarly (n + 1) s
  | none => s

/-! ## TWIN_TAKEOVER (R263) -/

/-- TWIN_TAKEOVER at its apply tick on the active seat: a final snapshot, and its heads are blanked. -/
def handOver (n : Nat) (s : State) : State :=
  let s1 := startSending 3 n s
  (List.range 32).foldl (fun a h => blankHead h (a.modHead h (fun d => { d with running := false }))) s1

end Sys2Proof.Machine
end

