-- ==== Sys2Proof/Machine/Apply.lean ====
section
/-! DEFINITION. Step 2 of a decision point (R45, R361, R363): the commands whose apply tick has come take effect, each with its own
operation, and are answered. -/
namespace Sys2Proof.Machine

/-! ## Colour and coefficients (R175, R213, R214) -/

/-- The entries of a LUT as they are loaded: 16 bits of degamma, 12 of regamma (R213, log entry 46). -/
def lutEntries (width : Nat) (d : Bytes) : List Nat := (List.range 1024).map (fun i => fld d (2 * i) 2 % 2 ^ width)

/-- A bank with one of its seven parts staged: degamma R, G, B, the matrix with its offsets, regamma R, G, B. -/
def stagePart (part : Nat) (d : Bytes) (b : ColourBank) : ColourBank :=
  if part < 3 then { b with luts := tset part (lutEntries 16 d) b.luts }
  else if part = 3 then
    { b with
      matrix := (List.range 9).map (fun i => ofTwos 18 (fld d (4 * i) 4 % 2 ^ 18))
      offsets := (List.range 3).map (fun i => ofTwos 17 (fld d (36 + 4 * i) 4 % 2 ^ 17)) }
  else { b with luts := tset (part - 1) (lutEntries 12 d) b.luts }

/-- COLOUR_STAGE (R390): staged only. -/
def applyStageColour (h part : Nat) (d : Bytes) (s : State) : State :=
  s.modHead h (fun x => { x with staged := stagePart part d x.staged, stagedMask := x.stagedMask ||| 2 ^ part })

/-- COLOUR_COMMIT (R214): the staged set goes to the next frame that the tick governs, in place of one that still waits. -/
def applyCommitColour (h : Nat) (s : State) : State :=
  s.modHead h (fun x => { x with commitBank := some x.staged, stagedMask := 0 })

/-- The 512 taps of a coefficient table, phase by phase (R175). -/
def coefTaps (d : Bytes) : List Int := (List.range 512).map (fun i => ofTwos 16 (fld d (2 * i) 2))

/-! ## Flips, rings, legends (R185, R347, R391) -/

/-- The flips that a FLIP command makes: one of the group it names, or one for each layer that forms a group of its own. -/
def flipParts (g : Nat) (layers : List FlipLayer) : List (Nat × List FlipLayer) :=
  if g < 64 then [(g, layers)] else layers.map (fun l => (l.source, [l]))

/-- A group takes a new pending flip (R185): the buffers of the one it supersedes retire unshown (R180). -/
def setFlip (tag g : Nat) (layers : List FlipLayer) (s : State) : State :=
  let old := match (s.group g).pending with
    | some p => p.layers.map (fun (l : FlipLayer) => l.buf)
    | none => []
  let s1 := old.foldl (fun a b => retireUnshown (some tag) b a) s
  let s2 := layers.foldl (fun (a : State) (l : FlipLayer) => a.modBuf l.buf (fun b => { b with state := 1 })) s1
  s2.modGroup g (fun q => { q with pending := some ⟨layers, tag⟩, stall := 0, said := 0, notReady := [], values := [] })

/-- A ring as its command leaves it: both indices 0 (R391). -/
def freshRing (vector log2 base : Nat) (t : Time64) : Ring := ⟨vector, log2, base, 0, 0, t, 0⟩

/-! ## The effect of each command -/

/-- The effect of a command: the status and WHERE to answer with, none where the answer comes later, and the state. -/
abbrev Effect : Type := Option (Status × Nat) × State

/-- An effect that is answered with OK. -/
def okEffect (s : State) : Effect := (some (.ok, 0), s)

/-- A set-point change at its tick (R317, R319): answered when the switch is complete, DEFERRED behind another one, and at once where
there is nothing to switch. -/
def setpointEffect (n target : Nat) (back : Profile × Nat) (h : CmdHdr) (k : Cmd) (s : State) : Effect :=
  match commandSwitch h k n target back s with
  | (t, false) => (some (doneStatus t.cfg k), t)
  | (t, true) => (if s.mem.switch.isSome then some (.deferred, 0) else none, t)

/-- SYS_PROFILE (R19, R21, R390). -/
def profileEffect (o : Cfg) (n p f : Nat) (h : CmdHdr) (k : Cmd) (s : State) : Effect :=
  let new := profileOf p
  if s.power.forced then okEffect { s with power := { s.power with hostProfile := (new, f) } }
  else
    let s1 := if o.profile = new then s else raiseTag .profileChange h.tag [(1, o.profile.code), (1, new.code)] s
    setpointEffect n (fspOf new f) (o.profile, o.fsp) h k s1

/-- MEM_SETPOINT (R317). Under a forced ENDURANCE the choice is recorded for the host's own ENDURANCE (log entry 47). -/
def memSetpointEffect (o : Cfg) (n f : Nat) (h : CmdHdr) (k : Cmd) (s : State) : Effect :=
  if s.power.forced then
    okEffect { s with power := { s.power with
      hostProfile := if s.power.hostProfile.1 = .endurance then (.endurance, f) else s.power.hostProfile } }
  else setpointEffect n f (o.profile, o.fsp) h k s

/-- TWIN_REINSTATE (R259): on the withdrawn seat the end of the withdrawal is awaited. -/
def applyReinstate (s : State) : State :=
  if !s.twin.withdrawn then s
  else
    { s with
      heads := s.heads.map (fun (e : Nat × Head) => (e.1, { e.2 with pairMatch := false }))
      twin := { s.twin with awaiting := true, reinstating := true } }

/-- ENC_IDR (R285). -/
def applyIdr (sessions : Nat) (s : State) : State :=
  (maskBits 16 sessions).foldl (fun a x => a.modSession x (fun e => if e.running then { e with idrDue := max 1 e.idrDue } else e)) s

/-- Whether a SET command switches a unit on before its safe point (R406). `s` is the state before it. -/
def setDeferred (o : Cfg) (s : State) (c : Cfg) (k : Cmd) : Bool :=
  let recs := recsOf k
  (recs.any (fun r => r.2.pid == pDecLaneEnable) && (List.range 12).any (laneDeferred o s c))
  || (touched recs [pHeadEnable]).any (headDeferred o s c)
  || (touched recs [pEncEnable]).any (sessionDeferred o s c)
  || flumeDeferred s k c
  || (recs.any (fun r => r.2.pid == pTouchEnable) && pv o pTouchEnable 0 == 0 && pv c pTouchEnable 0 == 1 && s.touch.stopping)

/-- A SET command: what the change of configuration sets going, and DEFERRED where a unit must first reach its safe point. -/
def setEffect (o : Cfg) (s0 : State) (h : CmdHdr) (k : Cmd) (s : State) : Effect :=
  let late := setDeferred o s0 s.cfg k
  let t := settleFlume o h k (settleConfig o h k s)
  (some (if late then (.deferred, 0) else doneStatus s.cfg k), t)

/-- What a command does at its apply tick n, the configuration already being its own. `s0` is the state before it. -/
def effect (n : Nat) (s0 : State) (h : CmdHdr) (k : Cmd) (s : State) : Effect :=
  let o := s0.cfg
  match k with
  | .sysSet _ => setEffect o s0 h k s
  | .timeSet _ => setEffect o s0 h k s
  | .srcSet _ => setEffect o s0 h k s
  | .paneSet _ => setEffect o s0 h k s
  | .headSet _ => setEffect o s0 h k s
  | .codecSet _ => setEffect o s0 h k s
  | .twinSet _ => setEffect o s0 h k s
  | .touchSet _ => setEffect o s0 h k s
  | .memSet _ => setEffect o s0 h k s
  | .netSet _ => setEffect o s0 h k s
  | .sysProfile p f => profileEffect o n p f h k s
  | .sysShutdown m => okEffect (beginShutdown n m (some (h, k)) s)
  | .sysRestart =>
    let (st, t) := applyRestart n h k s
    (some (st, 0), t)
  | .paneCreate p _ src _ => (some (doneStatus s.cfg k), paneCreated h.tag p src s)
  | .paneDelete p => okEffect (paneDeleted o h.tag p s)
  | .bufRegister b _ _ _ _ _ _ => okEffect (s.setBuf b bufInit)
  | .bufUnregister b => okEffect { s with bufs := tdel b s.bufs }
  | .flip g l => okEffect ((flipParts g l).foldl (fun a p => setFlip h.tag p.1 p.2 a) s)
  | .colourStage hd part d => okEffect (applyStageColour hd part d s)
  | .colourCommit hd => okEffect (applyCommitColour hd s)
  | .scalerCoefLoad i d => okEffect { s with coef := tset i (coefTaps d) s.coef }
  | .encIdr m => okEffect (applyIdr m s)
  | .playbackRing x v l b => okEffect (s.modStream x (fun m => { m with ring := some (freshRing v l b s.time.now) }))
  | .decStatsRing v l b => okEffect { s with decRing := some (freshRing v l b s.time.now) }
  | .netMirrorRing v l b => okEffect { s with mirror := some (freshRing v l b s.time.now) }
  | .twinJoin m => (none, beginJoin h k m n s)
  | .twinLeave => okEffect (leaveTwin n s)
  | .twinTakeover => okEffect (handOver n s)
  | .twinWithdraw => okEffect (withdraw s)
  | .twinReinstate => okEffect (applyReinstate s)
  | .twinAdopt u => okEffect (applyAdopt u s)
  | .legendRegister l p m => okEffect { s with legends := tset l ⟨p, m, none, [], false⟩ s.legends }
  | .legendDelete l => okEffect { s with legends := tdel l s.legends }
  | .memSetpoint f => memSetpointEffect o n f h k s
  | .diagDpPattern p q c => okEffect (setDpPattern p q c s)
  | .diagEthPrbs p r on => okEffect (setEthPrbs p (if on = 1 then some r else none) s)
  | .selftestRun r p => okEffect (applySelftestRun h k r p s)
  | .lcProvision => okEffect (applyProvision s)
  | .installSet i y => okEffect (applyInstall i y s)
  | .lcField => okEffect (applyField s)
  | .lcUnlock t =>
    let (st, u) := applyUnlock t s
    (some (st, 0), u)
  | .lcDecommission => okEffect (applyDecommission s)
  | .fwStage sl off d => okEffect (applyStage sl off d s)
  | .fwActivate sl =>
    let (st, u) := applyActivate sl s
    (some (st, 0), u)
  | _ => okEffect s

/-- Whether a command is a configuration command (R262, R404): it changes what a snapshot carries of the configuration. -/
def configures : Cmd → Bool
  | .sysSet _ => true
  | .sysProfile _ _ => true
  | .timeSet _ => true
  | .srcSet _ => true
  | .paneCreate _ _ _ _ => true
  | .paneDelete _ => true
  | .paneSet _ => true
  | .layerDeclare _ _ _ _ _ => true
  | .bufRegister _ _ _ _ _ _ _ => true
  | .bufUnregister _ => true
  | .fenceConfig _ _ _ => true
  | .headSet _ => true
  | .headDark _ _ => true
  | .colourCommit _ => true
  | .scalerCoefLoad _ _ => true
  | .codecSet _ => true
  | .twinSet _ => true
  | .touchSet _ => true
  | .legendRegister _ _ _ => true
  | .legendDelete _ => true
  | .memSet _ => true
  | .memSetpoint _ => true
  | .netSet _ => true
  | _ => false

/-! ## Step 2 -/

/-- Whether an accepted command can no longer be carried out when its tick comes (R392): an object or a state that it needs is gone. A
join's own gate is not one of them, as the command came in before it. -/
def cannotApply (n : Nat) (k : Cmd) (s : State) : Bool :=
  let c := s.cfg
  let c' := applyCfg s.power.forced c k
  let t := match k with
    | .twinJoin _ => s
    | _ => { s with twin := { s.twin with join := none } }
  lifecycleFaults t k != [] || stateFaults t .peer n c c' k != [] || rangeFaults t n c c' k != [] || resourceFaults t c c' k != []

/-- Whether both seats have a command of TWIN_ROUTE BOTH in time (R243): its own packet and the peer's frame for it, each 50 µs ahead of
the decision point. -/
def bothHave (n : Nat) (a : Accepted) (s : State) : Bool :=
  let d := s.grid.decideT n
  a.hdr.arrival + 50000 ≤ d && s.twin.peerCmds.any (fun e => e.1 == a.hdr.seq && e.2.1 == a.hdr.crc && e.2.2 + 50000 ≤ d)

/-- A command that fails at its tick. -/
def failCmd (n code : Nat) (a : Accepted) (s : State) : State :=
  failReply a n (.fail code) (movedBit a.hdr n) s

/-- A command that has taken effect: its reply, or for a BAR0 write CMD_REG_APPLIED with its register, value and tick (R363, R377). -/
def doneCmd (n : Nat) (a : Accepted) (st : Status × Nat) (s : State) : State :=
  match a.hdr.transport with
  | .reg => raise .cmdRegApplied (regPayload a.cmd ++ [(8, n)]) s
  | _ => answer a.hdr (opcodeOf a.cmd) n st.1 (movedBit a.hdr n + st.2) [] s

/-- One command at its apply tick, already taken off the list of those that wait. -/
def applyOne (n : Nat) (a : Accepted) (s : State) : State :=
  if s.routeBoth && a.fseq.isSome && !bothHave n a s then failCmd n 4 a s
  else
    let s1 := { s with twin := { s.twin with peerCmds := s.twin.peerCmds.filter (fun e => !(e.1 == a.hdr.seq && e.2.1 == a.hdr.crc)) } }
    if cannotApply n a.cmd s1 then failCmd n 0 a s1
    else
      let s2 := { s1 with twin := { s1.twin with applied := s1.twin.applied ++ a.fseq.toList } }
      if isCheck a.cmd then applyCheck { a with tick := n } s2
      else
        let s3 := { s2 with
          cfg := applyCfg s2.power.forced s2.cfg a.cmd
          power := { s2.power with cfgDirty := s2.power.cfgDirty || configures a.cmd } }
        match effect n s2 a.hdr a.cmd s3 with
        | (some st, t) => doneCmd n a st t
        | (none, t) => t

/-- The commands that take effect at a tick, in their order (R24, R243): those acknowledged, with TWIN_ROUTE BOTH all. -/
def dueCommands (n : Nat) (s : State) : List Accepted :=
  sortBy (acceptedLe s.routeBoth) (s.cmd.accepted.filter (fun a => a.tick ≤ n && (a.acked || s.routeBoth)))

/-- A command of the list is taken off and applied, unless an earlier one has ended it. -/
def applyNext (n : Nat) (a : Accepted) (s : State) : State :=
  if s.cmd.accepted.any (fun q => q.order == a.order) then
    applyOne n a { s with cmd := { s.cmd with accepted := s.cmd.accepted.filter (fun q => q.order != a.order) } }
  else s

/-- Step 2 of D(n) (R45, R361). In COLD-ACTIVE a configuration command asks for a snapshot (R262). -/
def applyCommands (n : Nat) (s : State) : State :=
  let due := dueCommands n s
  let s1 := due.foldl (fun a q => applyNext n q a) { s with twin := { s.twin with applied := [] } }
  if due.any (fun q => configures q.cmd) then snapshotChange n s1 else s1

end Sys2Proof.Machine
end

