-- ==== Sys2Proof/Machine/Evi.lean ====
section
/-! DEFINITION. The event inputs (R349 to R351, R353, R354): sampling, acceptance, one event a tick, stuck reporting. -/
namespace Sys2Proof.Machine

/-- An event of an input (R354). -/
def raiseEvi (i kind : Nat) (merged : Nat) (edge acc : Time64) (ev : Ev) (s : State) : State :=
  let x := s.eviIn i
  raise ev [(1, i), (1, kind), (1, b2n x.level), (1, 0), (4, merged % 2 ^ 32), (8, edge), (8, acc)] s

/-- EVI_CHANGE (R350): MERGED counts the raw transitions since the event before, less 1 where the reported level differs from the one
reported before. -/
def reportEvi (i : Nat) (edge acc : Time64) (s : State) : State :=
  let x := s.eviIn i
  let m := x.raw - b2n (x.level != x.lastRep)
  (raiseEvi i 0 m edge acc .eviChange s).modEviIn i (fun x => { x with raw := 0, lastRep := x.level, reported := true, merged := none })

/-- A level is accepted (R349): the first change of a tick interval is reported at once, later ones wait for the next tick (R350). A
stuck input reports nothing but its release (R351). -/
def acceptEvi (i : Nat) (s : State) : State :=
  let x := s.eviIn i
  let t := s.time.now
  let s1 := s.modEviIn i (fun x => { x with level := x.runLevel, edgeT := x.runT, activeT := t, stuck := false })
  if x.reported then s1.modEviIn i (fun y => { y with merged := some (match x.merged with | some m => m.1 | none => x.runT, t) })
  else reportEvi i x.runT t s1

/-- EVI_SAMPLE (R349): a sample of an input, its polarity applied. A raw transition starts a new run, and with EVI_DEB 0 one sample is
accepted. -/
def execEviSample (i : Fin 32) (level : Bool) (t : Time64) (s : State) : Host.Outcome State Fault Refusal :=
  act (fun s =>
    if !s.powered then s
    else
      let v := level != bit (pv s.cfg pEviPol 0) i
      let s1 := atTime t s
      let x := s.eviIn i
      if v = x.runLevel then s1
      else
        let s2 := s1.modEviIn i (fun x => { x with runLevel := v, runT := t, raw := x.raw + 1 })
        if v != x.level && pv s.cfg pEviDeb i = 0 then acceptEvi i s2 else s2) s

/-- EVI_ACCEPT (R349): a new level that has been sampled without interruption for EVI_DEB. -/
def execEviAccept (i : Fin 32) (t : Time64) (s : State) : Host.Outcome State Fault Refusal :=
  act (fun s =>
    let x := s.eviIn i
    if !s.powered || x.runLevel == x.level || t < x.runT + 1000000 * pv s.cfg pEviDeb i then s
    else acceptEvi i (atTime t s)) s

/-- EVI_STUCK (R351): once for an input that has stayed accepted active for EVI_STUCK_S. -/
def execEviStuck (i : Fin 32) (t : Time64) (s : State) : Host.Outcome State Fault Refusal :=
  act (fun s =>
    let x := s.eviIn i
    let lim := pv s.cfg pEviStuckS i
    if !s.powered || !x.level || x.stuck || lim = 0 || t < x.activeT + 1000000000 * lim then s
    else
      let s1 := (atTime t s).modEviIn i (fun x => { x with stuck := true })
      raiseEvi i 1 0 x.edgeT x.activeT .eviStuck s1) s

/-- At the start of a tick (R350): the merged changes of the interval before are reported, as of the first merged
edge, and that event is the one of the interval that begins (log entry 26). -/
def eviTick (s : State) : State :=
  (s.evi.map Prod.fst).foldl (fun a i =>
    let a1 := a.modEviIn i (fun x => { x with reported := false })
    match (a.eviIn i).merged with
    | some m => reportEvi i m.1 m.2 a1
    | none => a1) s

end Sys2Proof.Machine
end

