-- ==== Sys2Proof/Machine/TimeStep.lean ====
section
/-! DEFINITION. A step of the time counter (R33, R42): what was timed on the counter is carried across it, the epoch goes back where the
counter would stand before T(0), and every head with a port is re-timed. -/
namespace Sys2Proof.Machine

/-- A recorded time that moves only where it was read on this machine's own counter (R33). -/
def Dated.moved (d : Int) (x : Dated) : Dated := if x.local' then { x with t := moveT d x.t } else x

/-- A ledger slot across a step: arrival, completion, and the times that this machine's counter gave it. -/
def moveSlot (d : Int) (x : Slot) : Slot :=
  { x with
    completeT := moveT d x.completeT
    hdr := { x.hdr with
      captureT := if x.capLocal then moveT d x.hdr.captureT else x.hdr.captureT
      arrivalT := moveT d x.hdr.arrivalT
      evidenceT := if x.evLocal then moveT d x.hdr.evidenceT else x.hdr.evidenceT
      frzSince := if x.sinceLocal then moveT d x.hdr.frzSince else x.hdr.frzSince } }

/-- An access unit across a step. -/
def moveAu (d : Int) (a : Au) : Au :=
  { a with pkts := a.pkts.map (fun (p : Held) => { p with arr := moveT d p.arr, got := moveT d p.got }), complete := a.complete.map (moveT d) }

/-- A stream across a step: its packets' times, its floor, its releases and its timeouts. -/
def moveStream (d : Int) (m : Stream) : Stream :=
  { m with
    seen := m.seen.map (fun (q : SeenSeq) => { q with t := moveT d q.t })
    aus := m.aus.map (moveAu d)
    floorPts := m.floorPts.map (fun q => (moveT d q.1, q.2 + 9 * d))
    flowSince := m.flowSince.map (moveT d), lastPkt := m.lastPkt.map (moveT d), ownPkt := m.ownPkt.map (moveT d), policerT := moveT d m.policerT
    srMap := m.srMap.map (fun q => (q.1, q.2.1, moveT d q.2.2))
    queue := m.queue.map (fun (q : Picture) => { q with arrivalT := moveT d q.arrivalT, release := moveT d q.release })
    completions := m.completions.map (moveT d), ring := m.ring.map (fun (r : Ring) => { r with rateT := moveT d r.rateT }) }

/-- A freeze detector across a step. -/
def moveFreeze (d : Int) (f : Freeze) : Freeze :=
  { f with
    frzSince := f.frzSince.moved d, evidenceT := f.evidenceT.moved d, baseT := f.baseT.moved d, runStartT := f.runStartT.moved d
    lastMoveT := f.lastMoveT.moved d, tokenPosT := f.tokenPosT.moved d }

/-- A head across a step. -/
def moveHead (d : Int) (h : Head) : Head :=
  { h with
    frameStart := moveT d h.frameStart, darkFree := moveT d h.darkFree
    retime := h.retime.map (fun (r : Retime) => { r with readyT := r.readyT.map (moveT d) })
    sigs := h.sigs.map (fun (r : SigRecord) => { r with formedT := moveT d r.formedT })
    hist := h.hist.map (fun (q : FrameNote) => { q with start := moveT d q.start, blackT := q.blackT.map (moveT d) }) }

/-- An electrode across a step. -/
def moveElectrode (d : Int) (e : Electrode) : Electrode :=
  { e with onT := moveT d e.onT, touchT := moveT d e.touchT, noNbrT := e.noNbrT.map (moveT d) }

/-- The touch unit across a step. -/
def moveTouch (d : Int) (x : Touch) : Touch :=
  { x with
    els := x.els.map (fun e => (e.1, moveElectrode d e.2)), saved := x.saved.map (fun (b : SavedBase) => { b with savedT := moveT d b.savedT })
    saveT := moveT d x.saveT, abandonT := moveT d x.abandonT }

/-- An event input across a step. -/
def moveEvi (d : Int) (x : EviInput) : EviInput :=
  { x with runT := moveT d x.runT, merged := x.merged.map (fun q => (moveT d q.1, moveT d q.2)), edgeT := moveT d x.edgeT, activeT := moveT d x.activeT }

/-- An encode session across a step. A content row's capture time stays: it is in its sources' timebase (log entry 48). -/
def moveSession (d : Int) (e : Session) : Session :=
  { e with
    srT := moveT d e.srT, cur := e.cur.map (fun (c : EncFrame) => { c with depT := moveT d c.depT })
    content := e.content.map (fun (q : Nat × ContentRow) => (q.1, if q.2.noCapture then { q.2 with capT := moveT d q.2.capT } else q.2)) }

/-- The twin unit across a step: its timeouts, the arrivals of its peer's commands, and the events that wait for the union, which keep their
place before the decision points to come (log entry 109). -/
def moveTwin (d : Int) (w : Twin) : Twin :=
  { w with
    peerCmds := w.peerCmds.map (fun q => (q.1, q.2.1, moveT d q.2.2))
    ownEvents := w.ownEvents.map (fun (e : HeldEvent) => { e with time := moveT d e.time })
    peerEvents := w.peerEvents.map (fun (e : HeldEvent) => { e with time := moveT d e.time })
    helloT := w.helloT.map (moveT d), replacedT := w.replacedT.map (moveT d)
    outstanding := w.outstanding.map (fun (o : Outstanding) => { o with sentT := moveT d o.sentT })
    snapT := w.snapT.map (moveT d), snapSentT := w.snapSentT.map (moveT d), lendT := moveT d w.lendT
    borrowOpen := w.borrowOpen.map (fun q => (q.1, moveT d q.2)), lendOpen := w.lendOpen.map (fun q => (q.1, moveT d q.2)) }

/-- A channel across a step: its hour window, its intervals, and the ages of what waits. -/
def moveChan (d : Int) (c : Chan) : Chan :=
  { c with
    ceEventT := c.ceEventT.map (moveT d), hourT := moveT d c.hourT, refT := moveT d c.refT, mr4T := moveT d c.mr4T, rank1T := moveT d c.rank1T
    reads := c.reads.map (fun w => { w with arr := moveT d w.arr }), writes := c.writes.map (fun w => { w with arr := moveT d w.arr }) }

/-- The memory across a step. -/
def moveMem (d : Int) (m : Mem) : Mem := { m with chans := m.chans.map (fun e => (e.1, moveChan d e.2)) }

/-- The self-test across a step. -/
def moveTest (d : Int) (x : SelfTest) : SelfTest :=
  { x with sweepT := moveT d x.sweepT, run := x.run.map (fun (r : TestRun) => { r with startT := moveT d r.startT }) }

/-- Everything timed on the counter across a step by `d` nanoseconds (R33). -/
def moveAll (d : Int) (s : State) : State :=
  { s with
    time := { s.time with
      holdStart := moveT d s.time.holdStart, servoT := moveT d s.time.servoT, est := s.time.est.map (fun e => (e.1, moveEst d e.2)), slewing := false, dRem := 0 }
    cmd := { s.cmd with
      authFailT := s.cmd.authFailT.map (moveT d), msixT := s.cmd.msixT.map (fun e => (e.1, moveT d e.2))
      accepted := s.cmd.accepted.map (fun (a : Accepted) => { a with hdr := { a.hdr with arrival := moveT d a.hdr.arrival } }) }
    pins := { s.pins with ppsRise := s.pins.ppsRise.map (moveT d), tickRise := s.pins.tickRise.map (moveT d) }
    ledger := s.ledger.map (fun e => (e.1, moveSlot d e.2)), streams := s.streams.map (fun e => (e.1, moveStream d e.2))
    freeze := s.freeze.map (fun e => (e.1, moveFreeze d e.2)), heads := s.heads.map (fun e => (e.1, moveHead d e.2))
    decRing := s.decRing.map (fun (r : Ring) => { r with rateT := moveT d r.rateT })
    mirror := s.mirror.map (fun (r : Ring) => { r with rateT := moveT d r.rateT })
    eth := s.eth.map (fun (e : Nat × EthPort) => (e.1, { e.2 with
      igmp1 := e.2.igmp1.map (moveT d), igmp2 := e.2.igmp2.map (moveT d), mld1 := e.2.mld1.map (moveT d) }))
    dp := s.dp.map (fun (e : Nat × DpPort) => (e.1, { e.2 with failedT := e.2.failedT.map (moveT d) }))
    touch := moveTouch d s.touch, legends := s.legends.map (fun (e : Nat × Legend) =>
      (e.1, { e.2 with changes := e.2.changes.map (fun q => (moveT d q.1, q.2)) }))
    evi := s.evi.map (fun e => (e.1, moveEvi d e.2)), enc := s.enc.map (fun e => (e.1, moveSession d e.2))
    mem := moveMem d s.mem, twin := moveTwin d s.twin, test := moveTest d s.test
    life := { s.life with serviceEnd := s.life.serviceEnd.map (moveT d) }
    power := { s.power with
      startT := moveT d s.power.startT, throttleT := moveT d s.power.throttleT, levelT := moveT d s.power.levelT, cfgSavedT := s.power.cfgSavedT.map (moveT d) } }

/-- TIME_TICK_DEN tick periods, a whole number of nanoseconds (R42). -/
def Grid.denPeriods (g : Grid) : Nat := g.p3 * (rateRow g.rate).tickDen / 3

/-- TIME_TICK_EPOCH after a step to an instant: it goes back by the smallest whole multiple of TIME_TICK_DEN periods that places T(0) at
or before it (R42). An epoch that would lie before TIME64 0 stands at 0 (log entry 110). -/
def Grid.epochFor (g : Grid) (t : Time64) : Nat :=
  if g.epoch ≤ t then g.epoch else g.epoch - g.denPeriods * ceilDiv (g.epoch - t) g.denPeriods

/-- Commands whose ticks are not after the first decision point of the stepped time apply at it, in acceptance order (R33). -/
def pullCommands (s : State) : State :=
  let m := s.time.decided + 1
  { s with cmd := { s.cmd with accepted := s.cmd.accepted.map (fun (a : Accepted) => { a with tick := max m a.tick }) } }

/-- A set-point switch that is armed is abandoned as by a failed check, and is retried in the tick of the next decision point (R441). -/
def abandonSwitch (s : State) : State :=
  match s.mem.switch with
  | some w => if s.mem.outage then s else retrySwitch w (s.time.decided + 1) s
  | none => s

/-- TIME_STEP (R33): the counter moves by `d` nanoseconds, the grid's epoch with it where it must, and the heads are re-timed. -/
def stepTime (d : Int) (s : State) : State :=
  let now := moveT d s.time.now
  let epoch := s.grid.epochFor now
  let s1 := { s with
    cfg := if epoch = s.grid.epoch then s.cfg else cfgSetRec s.cfg ⟨pTimeTickEpoch, 0, 0, .num epoch⟩
    time := { s.time with now := now, phase := s.time.phase + 1000 * d } }
  let s2 := renumber s1
  let s3 := shiftTicks ((s2.time.tick : Int) - s.time.tick) (moveAll d s2)
  abandonSwitch (touchFit (abandonScan (retimeAll (pullCommands s3))))

end Sys2Proof.Machine
end

