-- ==== Sys2Proof/Machine/TwinPair.lean ====
section
/-! DEFINITION. The per-tick exchange of a HOT pair (R245 to R250): LEAD_STATE (R50), ADMIT and its union, steps 4 to 6 on the pair's frames and
fences, out-of-step sources, the peer's signatures (R255), withdrawal and its end (R240, R257, R259). -/
namespace Sys2Proof.Machine

/-! ## LEAD_STATE (R50, R245) -/

/-- When LEAD_STATE goes out for the next decision point (R245). -/
def leadStateT (s : State) : Time64 := s.grid.decideT (s.time.decided + 1) - 1000 * pv s.cfg pTwinLatchLead 0

/-- LEAD_STATE_SEND (R50, R245): once a tick, TWIN_LATCH_LEAD before the next decision point, the time state and U_WALL from the samples
accepted so far, which are also the values that the lead latches. -/
def execLeadStateSend (t : Time64) (s : State) : Host.Outcome State Fault Refusal :=
  act (fun s =>
    let n := s.time.decided + 1
    if !s.alive || !s.hot || !s.timeLead || s.twin.lanesUsed < 2 || t < leadStateT s || s.time.leadRecv.any (fun l => l.tick == n) then s
    else
      let s1 := atTime t s
      let (p, u, _) := ownLatch s1
      let l : LeadState := ⟨n, p.time.own.code, u, t⟩
      sendFrame n none (.leadState l) { s1 with time := { s1.time with leadRecv := some l } }) s

/-- LEAD_STATE_RECEIVED (R50): it counts for the next decision point. -/
def execLeadStateReceived (m : LeadIn) (s : State) : Host.Outcome State Fault Refusal :=
  let tstate := m.tstate
  let uWall := m.uWall
  let w := m.frame
  let t := m.at'
  act (fun s =>
    match takeFrame 4 (s.hot && 2 ≤ s.twin.lanesUsed) w s with
    | (none, s1) => s1
    | (some f, s1) =>
      if s1.timeLead || f.1.tick != s1.time.decided + 1 then atTime t s1
      else { (atTime t s1) with time := { s1.time with now := t, leadRecv := some ⟨f.1.tick, tstate, uWall, t⟩ } }) s

/-! ## The list of a seat (R247) -/

/-- FRAME_DIGEST (R247). -/
def frameDigest (src : Nat) (x : Slot) : BitVec 32 := crc32c src (x.tiles.flatMap (fun r => le 4 r.sig.toNat))

/-- An entry of the list. -/
def admitEntry (src : Nat) (x : Slot) : AdmitEntry :=
  { source := src, clean := x.hdr.clean, entry := bit x.hdr.decodeStatus 2, timeQual := x.hdr.timeQual, rtpTs := x.rtpTs,
    frameSeq := x.hdr.frameSeq, digest := frameDigest src x, captureT := x.hdr.captureT, arrivalT := x.hdr.arrivalT,
    uGrade := x.hdr.uGrade4 }

/-- The network sources that a pane shows. -/
def shownSources (s : State) : List Nat := dedup ((s.cfg.panes.map (fun e => e.2.source)).filter (fun x => x < 128))

/-- CMD_DIGEST (R242). -/
def cmdDigest (s : State) : BitVec 32 := crc32c 0 (s.twin.applied.flatMap (fun f => le 4 f))

/-- This seat's ADMIT for a tick (R247). -/
def ownAdmit (n : Nat) (fences : List (Nat × Nat)) (s : State) : Admit :=
  let t := s.grid.decideT n
  { tick := n, withdrawn := s.twin.withdrawn, fencesValid := !s.seatB, cmdDigest := cmdDigest s, eventSeq := s.events.next,
    fenceMask := fenceMask fences s
    list := (sortBy (fun a b => a ≤ b) (shownSources s)).filterMap (fun x => (newestCandidate s x t).map (fun q => admitEntry x q.2)), at' := s.time.now }

/-! ## The union (R244, R248) -/

/-- An RTP timestamp as its distance from another (R248). -/
def tsFrom (ref ts : Nat) : Int := ofTwos 32 ((ts % 2 ^ 32 + 2 ^ 32 - ref % 2 ^ 32) % 2 ^ 32)

/-- The RTP timestamp of the frame that a source's panes show. -/
def shownTs (s : State) (src : Nat) : Option Nat :=
  ((sourcePanes s.cfg src).filterMap (fun p => (s.pane p).shown.bind (fun k => (s.slot src k).map (fun x => x.rtpTs)))).head?

/-- The pair frame of a source (R248): the listed frame with the later timestamp; its fields come from seat A's entry where seat A
lists it. -/
def pairFrame (s : State) (own peer : Option AdmitEntry) : Option AdmitEntry :=
  match own, peer with
  | some a, some b =>
    let ref := (shownTs s a.source).getD a.rtpTs
    if tsFrom ref a.rtpTs < tsFrom ref b.rtpTs then some b
    else if tsFrom ref b.rtpTs < tsFrom ref a.rtpTs then some a
    else some (if s.seatB then b else a)
  | some a, none => some a
  | none, b => b

/-- The entry of a source in a list. -/
def entryOf (l : List AdmitEntry) (src : Nat) : Option AdmitEntry := l.find? (fun e => e.source == src)

/-- This seat's frame of a pair frame, where it has one. -/
def localPair (s : State) (e : AdmitEntry) : Option (Nat × Slot) :=
  ((List.range 4).filterMap (fun k => (s.slot e.source k).map (fun x => (k, x)))).find? (fun q => !q.2.resync && q.2.rtpTs == e.rtpTs)

/-- The pair frames of a tick. -/
def pairFrames (s : State) (own peer : Admit) : List AdmitEntry :=
  let srcs := sortBy (fun a b => a ≤ b) (dedup ((own.list ++ peer.list).map (fun e => e.source)))
  srcs.filterMap (fun x => pairFrame s (entryOf own.list x) (entryOf peer.list x))

/-- Whether this seat lacks a pair frame (R248). -/
def lacksPair (s : State) (own peer : Admit) : Bool := (pairFrames s own peer).any (fun e => (localPair s e).isNone)

/-- A pair frame's fields in this seat's own header (R248). The source's later frames keep their distance from it, so their order
stands (log entry 42). -/
def writePair (e : AdmitEntry) (s : State) : State :=
  match localPair s e with
  | none => s
  | some (k, x) =>
    let old := x.hdr.frameSeq
    let move := fun (v : Nat) => (v + 2 ^ 32 + e.frameSeq - old) % 2 ^ 32
    let led := s.ledger.map (fun (q : Nat × Slot) =>
      if q.1 / 4 = e.source && laterSeq q.2.hdr.frameSeq old then
        (q.1, { q.2 with hdr := { q.2.hdr with frameSeq := move q.2.hdr.frameSeq } }) else q)
    let y := { x with hdr := { x.hdr with
      frameSeq := e.frameSeq, captureT := e.captureT, arrivalT := e.arrivalT, uGrade4 := e.uGrade, timeQual := e.timeQual } }
    { s with ledger := tset (slotKey e.source k) y led }.modSource e.source (fun r => { r with frameSeq := move r.frameSeq })

/-- A seat is out of step for a source from now on (R249), with TWIN_OUT_OF_STEP once an episode. -/
def fallOut (src : Nat) (s : State) : State :=
  if s.twin.outOfStep.contains src then s
  else
    raise .twinOutOfStep [(1, src)] { s with twin := { s.twin with
      outOfStep := src :: s.twin.outOfStep, cnt := { s.twin.cnt with outOfStep := (s.twin.cnt.outOfStep + 1) % 2 ^ 32 } } }

/-- The judgement of R249 on a pair frame: what this seat has of it against what the peer listed. After a join a stream comes in step with an
entry frame (R240). -/
def judgePair (peer : Admit) (e : AdmitEntry) (s : State) : State :=
  match localPair s e with
  | none => fallOut e.source s
  | some (_, x) =>
    match (entryOf peer.list e.source).filter (fun q => q.rtpTs == e.rtpTs) with
    | none => s
    | some q =>
      if q.digest = frameDigest e.source x then
        if s.twin.joinDue.contains e.source && !bit x.hdr.decodeStatus 2 then s
        else { s with twin := { s.twin with
          outOfStep := s.twin.outOfStep.filter (fun y => y != e.source), joinDue := s.twin.joinDue.filter (fun y => y != e.source) } }
      else if x.hdr.clean && !q.clean then s
      else if x.hdr.clean == q.clean then
        let s1 := if s.twin.outOfStep.contains e.source then s else raise .twinInputDiffer [(1, e.source)] s
        fallOut e.source s1
      else fallOut e.source s

/-- Both seats' next event numbers are the larger of the two (R244). -/
def alignEvents (peer : Nat) (s : State) : State :=
  if peer ≤ s.events.next then s
  else
    raise .eventReseq [(8, s.events.next), (8, peer - 1)] { s with events := { s.events with next := peer } }

/-- CMD_DIGEST compared on seat B (R242). With TWIN_ROUTE BOTH each seat numbers its own frames, and there is nothing to compare. -/
def checkDigest (peer : Admit) (s : State) : State :=
  if !s.seatB || s.routeBoth || peer.cmdDigest = cmdDigest s || s.twin.digestFault then s
  else withdraw (raise .twinCmdMismatch [] { s with twin := { s.twin with digestFault := true } })

/-! ## The end of a withdrawal (R240 step 5, R259) -/

/-- A joined or reinstated seat stops being withdrawn once no stream is out of step and every enabled head has matched in one frame. -/
def settleWithdrawal (s : State) : State :=
  let heads := (List.range 32).filter (fun h => pv s.cfg pHeadEnable h == 1)
  if !s.hot || !s.twin.awaiting || s.twin.outOfStep != [] || !heads.all (fun h => (s.head h).pairMatch) then s
  else
    let ev := if s.twin.reinstating then Ev.twinReinstated else Ev.twinJoined
    raise ev [] (sendFlume (.state .reinstate) { s with twin := { s.twin with
      withdrawn := false, awaiting := false, reinstating := false, selfFaulted := false } })

/-! ## The decision point's second half (R45, R246, R250) -/

/-- A tick whose exchange was late (R250). The third in a row withdraws the seat. -/
def lateTick (n : Nat) (s : State) : State :=
  let run := s.twin.lateRun + 1
  let s1 := raise .twinXchgLate [(8, n)] { s with twin := { s.twin with
    lateRun := run, lateTicks := (n :: s.twin.lateTicks).take 8, cnt := { s.twin.cnt with xchgLate := (s.twin.cnt.xchgLate + 1) % 2 ^ 32 } } }
  if 3 ≤ run then withdraw s1 else s1

/-- A basis on a fence mask, with the values that this seat has read. -/
def maskBasis (s : State) (mask : List Nat) (frames : Table Nat) : Basis := ⟨fun l => mask.contains l.fence, s.twin.xchgFences, frames⟩

/-- The fences of a seat that goes on without its peer (R188, R246): seat A's own; seat B's own only where seat A is withdrawn, or no pair
stands any more. -/
def aloneMask (s : State) (own : Admit) : List Nat := if !s.seatB || s.twin.peerWithdrawn || !s.hot then own.fenceMask else []

/-- Steps 4 to 6 of a tick in HOT (R245 to R250), on the union, on this seat's own list, or late. -/
def finishDecision (own : Admit) (alone : Bool) (s : State) : State :=
  let n := own.tick
  let s0 := { s with twin := { s.twin with xchgTick := none, ownAdmit := none, peerAdmit := none } }
  let ownFrames := own.list.filterMap (fun e => (localPair s0 e).map (fun q => (e.source, q.1)))
  let held := publishHeld (s0.grid.decideT n)
  if alone then
    settleWithdrawal (finishSteps (maskBasis s (aloneMask s own) ownFrames) n true (held { s0 with twin := { s0.twin with lateRun := 0 } }))
  else
    match s.twin.peerAdmit with
    | some peer =>
      let s1 := held (alignEvents peer.eventSeq (checkDigest peer { s0 with twin := { s0.twin with lateRun := 0 } }))
      let frames := pairFrames s1 own peer
      let s2 := frames.foldl (fun a e => writePair e (judgePair peer e a)) s1
      let sel := frames.filterMap (fun e => (localPair s2 e).map (fun q => (e.source, q.1)))
      let mask := if !s2.seatB then own.fenceMask else if peer.fencesValid then peer.fenceMask else []
      settleWithdrawal (finishSteps (maskBasis s mask sel) n true s2)
    | none => finishSteps (maskBasis s [] []) n false (held (lateTick n s0))

/-- Whether a seat admits without its peer (R233, R246): the peer is withdrawn, or the lanes do not carry the exchange. -/
def State.goesAlone (s : State) : Bool := s.twin.peerWithdrawn || s.twin.lanesUsed < 2

/-- The exchange of a tick is complete: the peer's list is in and no pair frame is lacking. -/
def settleExchange (s : State) : State :=
  match s.twin.xchgTick, s.twin.ownAdmit, s.twin.peerAdmit with
  | some n, some own, some peer => if own.tick = n && peer.tick = n && !lacksPair s own peer then finishDecision own false s else s
  | _, _, _ => s

/-- The second half of D(n) begins (R245): the list is sent (from seat B without fences, R247), and the seat waits for its peer's unless it goes alone. -/
def beginExchange (n : Nat) (fences : List (Nat × Nat)) (s : State) : State :=
  let own := ownAdmit n fences s
  let said := if s.seatB then { own with fenceMask := [] } else own
  let s1 := if 2 ≤ s.twin.lanesUsed then sendFrame n none (.admitList said) s else s
  let keep := s1.twin.peerAdmit.filter (fun a => a.tick == n)
  let s2 := { s1 with twin := { s1.twin with xchgTick := some n, ownAdmit := some own, peerAdmit := keep, xchgFences := fences } }
  if s2.goesAlone then finishDecision own true s2 else settleExchange s2

/-- E(n) (R246). -/
def xchgDeadline (s : State) (n : Nat) : Time64 := s.grid.decideT n + 1000 * pv s.cfg pTwinXchgWait 0

/-- ADMIT_RECEIVED (R247, R250): one for the exchange under way, or for the next decision point; one later than E(n) is discarded. -/
def execAdmitReceived (m : FrameAt) (s : State) : Host.Outcome State Fault Refusal :=
  let w := m.frame
  let t := m.at'
  act (fun s =>
    match takeFrame 5 (s.hot && 2 ≤ s.twin.lanesUsed) w s with
    | (none, s1) => s1
    | (some f, s1) =>
      let m := readAdmit f.1.tick t f.2
      let s2 := { (atTime m.at' s1) with twin := { s1.twin with peerAdmit := some m } }
      match s1.twin.xchgTick with
      | some n =>
        if m.tick = n && m.at' ≤ xchgDeadline s1 n then settleExchange s2 else s1
      | none => if m.tick = s1.time.decided + 1 && m.at' ≤ xchgDeadline s1 m.tick then s2 else s1) s

/-- XCHG_DEADLINE (R246, R249, R250): the exchange ends with what has arrived. -/
def execXchgDeadline (t : Time64) (s : State) : Host.Outcome State Fault Refusal :=
  act (fun s =>
    match s.twin.xchgTick, s.twin.ownAdmit with
    | some n, some own => if t < xchgDeadline s n then s else finishDecision own (!s.hot || s.goesAlone) (atTime t s)
    | _, _ => s) s

/-! ## Signatures of the peer (R255) -/

/-- SIG_RECEIVED (R255, R256): the peer's record of a head frame. The last four are kept. -/
def execSigReceived (i : FrameAt) (s : State) : Host.Outcome State Fault Refusal :=
  let w := i.frame
  let t := i.at'
  act (fun s =>
    match takeFrame 8 (s.hot && 2 ≤ s.twin.lanesUsed) w s with
    | (none, s1) => s1
    | (some f, s1) =>
      let m := readSig t f.2
      let r : SigRecord := ⟨m.frameCnt, m.dark, m.frameSig, m.rowSigs, m.rowFlags, m.xchgLate, false, t, f.1.tick⟩
      let s2 := { (atTime m.at' s1) with twin := { s1.twin with peerFaulted := m.selfFault } }
      let old := (s2.head m.head).peerSigs.filter (fun q => q.frameCnt != m.frameCnt)
      let s3 := s2.modHead m.head (fun d => { d with peerSigs := (old ++ [r]).drop (old.length - 3) })
      compareFrame m.head m.frameCnt s3) s

/-- SIG_LATE (R255): the peer's record of a frame has not come within a tick period of this seat's; three in a row raise TWIN_SIG_MISSING. -/
def execSigLate (h : Fin 32) (t : Time64) (s : State) : Host.Outcome State Fault Refusal :=
  act (fun s =>
    match (s.head h).sigs.find? (fun r => !r.compared) with
    | none => s
    | some r =>
      if !s.hot || 3 * t < 3 * r.formedT + s.grid.p3 then s
      else
        let run := tget 0 s.twin.sigRun h + 1
        let s1 := (atTime t s).modHead h (fun d => { d with
          sigs := d.sigs.map (fun q => if q.frameCnt = r.frameCnt then { q with compared := true } else q) })
        let s2 := { s1 with twin := { s1.twin with
          sigRun := tset h run s1.twin.sigRun, cnt := { s1.twin.cnt with sigLate := (s1.twin.cnt.sigLate + 1) % 2 ^ 32 } } }
        let s3 := (List.range r.rowSigs.length).foldl (fun a row => rowSkipped h row r.frameCnt a) s2
        if run = 3 then raise .twinSigMissing [(1, (h : Nat))] s3 else s3) s

/-! ## STATE frames (R230, R257) -/

/-- Both seats have withdrawn for the same tick: seat A's withdrawal is cancelled (R257). -/
def cancelWithdrawal (s : State) : State :=
  setPrimary false (raise .twinBothFaulty [] { s with twin := { s.twin with withdrawn := false, awaiting := false, reinstating := false } })

/-- The peer has withdrawn (R257, R296). -/
def peerWithdraws (tick : Nat) (s : State) : State :=
  let same := s.twin.withdrawn && s.twin.withdrawTick == tick
  if same && s.seatB then s
  else
    let s1 := { s with twin := { s.twin with peerWithdrawn := true } }
    if same then cancelWithdrawal s1 else if s1.seatB then setPrimary true s1 else s1

/-- STATE_FRAME_RECEIVED (R227, R230, R257). A peer's divergence needs no action: each seat finds it by its own comparison (R258). -/
def execStateFrameReceived (i : Framed StateMsg) (t : Time64) (s : State) : Host.Outcome State Fault Refusal :=
  let m := i.msg
  let w := i.frame
  act (fun s =>
    match takeFrame 12 s.hot w s with
    | (none, s1) => s1
    | (some _, s1) =>
      let s2 := atTime t s1
      match m with
      | .withdraw n => peerWithdraws n s2
      | .selfFault => { s2 with twin := { s2.twin with peerFaulted := true } }
      | .divergence => s2
      | .reinstate => { s2 with twin := { s2.twin with peerWithdrawn := false, peerFaulted := false } }
      | .leave n => noteLeave n s2) s

/-- EVENT_FRAME_RECEIVED (R244): a peer's event waits for the union that it belongs to. -/
def execEventFrameReceived (i : Framed PeerEvent) (t : Time64) (s : State) : Host.Outcome State Fault Refusal :=
  let e := i.msg
  let w := i.frame
  act (fun s =>
    match takeFrame 11 s.hot w s with
    | (none, s1) => s1
    | (some _, s1) =>
      { (atTime t s1) with twin := { s1.twin with
        peerEvents := s1.twin.peerEvents ++ [⟨e.time, !s1.seatB, s1.twin.evOrder, .peer e.code, none, e.payload⟩], evOrder := s1.twin.evOrder + 1 } }) s

end Sys2Proof.Machine
end

