-- ==== Sys2Proof/Machine/DecisionPoint.lean ====
section
/-! DEFINITION. The tick (R45): what happens at T(n), and the decision point D(n) with its six steps in their order. -/
namespace Sys2Proof.Machine

/-- Whether the time unit runs, and with it the tick grid: from step 3 of a start on (R399, R400), and while the device is stopped
(R404). -/
def State.ticking (s : State) : Bool :=
  s.powered && !s.mem.fatal && (match s.power.phase with
    | .starting k => s.power.warm || 4 ≤ k
    | _ => true)

/-- The time lead begins the time transfer of a tick (R49 step 1). -/
def beginXfer (n : Nat) (s : State) : State :=
  if s.timeLead && 2 ≤ s.twin.lanesUsed then sendFrame n none (.timeXfer 1 []) s else s

/-- TICK_START (R45, R52, R237, R350): the next tick begins at T(n). -/
def execTickStart (s : State) : Host.Outcome State Fault Refusal :=
  act (fun s =>
    if !s.ticking then s
    else
      let n := if s.time.beforeZero then 0 else s.time.tick + 1
      let t := s.grid.tickT n
      let s1 := emit (.tickOut n) (atTime t { s with
        time := { s.time with tick := n, beforeZero := false }, pins := { s.pins with tickRise := some t } })
      if !s1.alive then s1 else noteScanTick n (eviTick (beginXfer n (sendBeats n (countMisses n (settleLanes s1)))))) s

/-! ## Step 1: the time state, and what else is latched with it -/

/-- PKT_RATE of every stream at a decision point (R92). -/
def updateRates (s : State) : State := { s with streams := s.streams.map (fun e => (e.1, e.2.rateAt s.time.now)) }

/-- What follows the link at a decision point: seat B withdraws where fewer than two lanes carry the pair (R233, R257), and both seats
go to SOLO at the tick of a leave that either has announced (R227). -/
def followLink (n : Nat) (s : State) : State :=
  let s1 := if s.hot && s.seatB && s.twin.lanesUsed < 2 then withdraw s else s
  if s1.paired && s1.twin.peerLeft.any (fun m => m ≤ n) then leaveTwin n s1 else s1

/-- Step 1 of D(n): the time state with U_WALL, the thermal level, PKT_RATE and the self-test's age. The answer says whether the counter
was stepped. -/
def latchStep (n : Nat) (s : State) : State × Bool :=
  let (s1, d) := timeLatch n s
  let s2 := updateRates (applyThermal n s1)
  let s3 := if s2.alive then followLink n (settleSweep (judgeAge s2)) else s2
  match d with
  | some v => (stepTime v s3, true)
  | none => (s3, false)

/-! ## Step 2: commands, and configurations that take effect with them -/

/-- The rest of a start's snapshot takes effect (R400). -/
def adoptStart (n : Nat) (s : State) : State :=
  match s.power.startSnap with
  | some (m, p) => if m ≤ n then adoptSnapshot p false false true n { s with power := { s.power with startSnap := none } } else s
  | none => s

/-- A takeover whose tick has come (R263). -/
def adoptTakeover (n : Nat) (s : State) : State := if s.twin.takeover.any (fun m => m ≤ n) then finishTakeover n s else s

/-- Step 2 of D(n). -/
def commandStep (n : Nat) (s : State) : State := applyCommands n (settleJoin n (adoptTakeover n (adoptStart n s)))

/-! ## The decision point -/

/-- Whether the picture path is there for steps 3 to 6: not while starting or stopped, and not in standby (R260). -/
def State.decides (s : State) : Bool := s.alive && s.twin.mode != .coldStandby

/-- Steps 3 to 6 of D(n): in HOT the exchange of the tick comes between. -/
def pictureStep (n : Nat) (fences : List (Nat × Nat)) (s : State) : State :=
  let seen := fencesSeen fences s
  if !s.decides then s else if s.hot then beginExchange n seen s else finishSteps (ownBasis s n seen) n true s

/-- Whether step 2 comes at this decision point: not before READY. -/
def State.commanded (s : State) : Bool :=
  match s.power.phase with
  | .starting _ => false
  | _ => true

/-- DECISION_POINT (R45): D(n) with its steps, on the fence values read. A step of the counter (R33) and a change of the grid (R44) end it
there: the next decision point is one of the new numbers. -/
def execDecisionPoint (fences : List (Nat × Nat)) (s : State) : Host.Outcome State Fault Refusal :=
  act (fun s =>
    if !s.ticking then s
    else
      let n := s.time.decided + 1
      match latchStep n (atTime (s.grid.decideT n) { s with time := { s.time with decided := n } }) with
      | (s1, true) => s1
      | (s1, false) =>
        let s2 := if s1.commanded then commandStep n s1 else s1
        if gridMoved s1.cfg s2.cfg then s2 else pictureStep n fences s2) s

end Sys2Proof.Machine
end

