-- ==== Sys2Proof/Machine/Ports.lean ====
section
/-! DEFINITION. The DisplayPort ports: link training, its failure and retry (R203, R207), HPD and IRQ_HPD (R204), and MST topology
(R205). -/
namespace Sys2Proof.Machine

/-- A sink's data as they are kept (R207): 256 bytes of DPCD and up to four EDID blocks. -/
def keepSink (i : SinkInfo) : SinkInfo := ⟨padTo 256 i.dpcd, i.edid.take 512⟩

/-- LINK_TRAIN_COMPLETE (R203, R207): the link runs, the sink's capabilities are read, under MST those of each head's sink by its relative
address, the streams have their time slots, and the port's heads may start again. -/
def execLinkTrainComplete (p : Fin 8) (i : LinkInfo) (t : Time64) (s : State) : Host.Outcome State Fault Refusal :=
  let info := i.own
  let sinks := i.sinks
  act (fun s =>
    let d := s.dpPort p
    if !d.training || d.unplugged then s
    else
      let i := keepSink info
      let s1 := openTopology p ((atTime t s).modDpPort p (fun d => { d with
        trained := true, training := false, failedT := none, dpcd := i.dpcd, edid := i.edid, slots := [],
        sinks := if d.mode = 2 then sinks.foldl (fun a q => tset q.1 (keepSink q.2) a) [] else [] }))
      (s1.portHeads p).foldl (fun a h =>
        settleRetime h (a.modHead h (fun d => { d with retime := d.retime.map (fun r => { r with portDone := true }) }))) s1) s

/-- Whether a head of a port waits for its time slots (R197 step 3). -/
def awaitsSlots (s : State) (p : Nat) : Bool :=
  (s.dpPort p).mode == 2 && (s.dpPort p).trained && (s.portHeads p).any (fun h => (s.head h).retime.any (fun r => !r.portDone))

/-- LINK_TRAIN_FAIL (R197, R203): training has failed, or an MST reallocation has; the port's heads stay DARK, and training is tried again
after a second. -/
def execLinkTrainFail (p : Fin 8) (phase : Nat) (t : Time64) (s : State) : Host.Outcome State Fault Refusal :=
  act (fun s =>
    if !(s.dpPort p).training && !awaitsSlots s p then s
    else
      let s1 := (dropLink p false (atTime t s)).modDpPort p (fun d => { d with failedT := some t })
      raise .linkTrainFail [(1, (p : Nat)), (1, phase)] (retimePort p s1)) s

/-- LINK_TRAIN_RETRY (R203): 1,000 ms after a failure. -/
def execLinkTrainRetry (p : Fin 8) (t : Time64) (s : State) : Host.Outcome State Fault Refusal :=
  act (fun s =>
    match (s.dpPort p).failedT with
    | some f => if f + 1000000000 ≤ t && (s.dpPort p).mode != 0 then startTraining p 3 (atTime t s) else s
    | none => s) s

/-- HPD_UNPLUG (R204): the level was low for more than 2 ms. Every head of the port is DARK from the next pixel. -/
def execHpdUnplug (p : Fin 8) (t : Time64) (s : State) : Host.Outcome State Fault Refusal :=
  act (fun s =>
    if (s.dpPort p).unplugged then s
    else
      let s1 := linkEvent p 0 (atTime t s)
      retimePort p ((dropLink p false s1).modDpPort p (fun d => { d with unplugged := true }))) s

/-- IRQ_HPD (R204): the link status is read, and a loss retrains the port. -/
def execIrqHpd (p : Fin 8) (lost : Bool) (t : Time64) (s : State) : Host.Outcome State Fault Refusal :=
  act (fun s => if lost && (s.dpPort p).trained then startTraining p 2 (atTime t s) else atTime t s) s

/-- HPD_RETURN (R204): training follows an unplug. -/
def execHpdReturn (p : Fin 8) (t : Time64) (s : State) : Host.Outcome State Fault Refusal :=
  act (fun s =>
    if !(s.dpPort p).unplugged then s
    else
      let s1 := (atTime t s).modDpPort p (fun d => { d with unplugged := false })
      if (s1.dpPort p).mode = 0 then s1 else startTraining p 3 s1) s

/-- DP_TOPOLOGY (R205): a CONNECTION_STATUS_NOTIFY. The heads whose sinks have left are treated as unplugged; one whose sink is back
gains its slots again without a retrain (log entry 23). -/
def execDpTopology (p : Fin 8) (departed : List Nat) (t : Time64) (s : State) : Host.Outcome State Fault Refusal :=
  act (fun s =>
    if (s.dpPort p).mode != 2 then s
    else
      let s1 := raise .dpTopology [(1, (p : Nat))] (atTime t s)
      let left := (s1.portHeads p).filter (fun h => departed.contains h && !(s1.head h).unplugged)
      let s2 := if left == [] then s1 else raise .dpLink [(1, (p : Nat)), (1, 0)] s1
      (s2.portHeads p).foldl (fun a h =>
        let d := a.head h
        if left.contains h then
          blankHead h ((releaseSlots h p a).modHead h (fun d => { d with unplugged := true, cnt := { d.cnt with linkEvents := (d.cnt.linkEvents + 1) % 2 ^ 32 } }))
        else if d.unplugged && !departed.contains h then
          askSlots h p (enterRetime h false false true false (a.modHead h (fun d => { d with unplugged := false })))
        else a) s2) s

end Sys2Proof.Machine
end

