-- ==== Sys2Proof/Machine/TwinCmd.lean ====
section
/-! DEFINITION. Commands of a HOT pair (R231, R242, R243): CMD frames, their acknowledgements and resends. -/
namespace Sys2Proof.Machine

/-- The tick of a forwarded command (R242): one less than 50 µs after the acknowledgement moves on. -/
def ackTick (s : State) (h : CmdHdr) : Nat := (s.resolve 50000 { h with strict := false }).tick

/-- Whether a CMD frame has been taken in before: its number is not past the last one taken (R231). -/
def seenFrame (s : State) (fseq : Nat) : Bool := s.twin.rxCmd.any (fun q => 2 ^ 31 ≤ (fseq + 2 ^ 32 - (q + 1) % 2 ^ 32) % 2 ^ 32)

/-- The acknowledgement of a CMD frame. -/
def ackFrame (fseq status detail : Nat) (s : State) : State := sendFlume (.cmdAck ⟨fseq, status, detail, s.time.now⟩) s

/-- A seat takes a forwarded packet (R242, R240): it runs the same checks, and answers with its status. -/
def takeForwarded (fseq : Nat) (h0 : CmdHdr) (k : Cmd) (s : State) : State :=
  let h := { h0 with transport := .peer }
  if seenFrame s fseq then ackFrame fseq 0 0 s
  else
    let s1 := { s with twin := { s.twin with rxCmd := some fseq } }
    match checkCmd s1 h k with
    | some f => ackFrame fseq f.1.code f.2 s1
    | none =>
      let a : Accepted := ⟨s1.cmd.order, h, k, ackTick s1 h, some fseq, true, true⟩
      ackFrame fseq 0 0 { s1 with cmd := { s1.cmd with order := s1.cmd.order + 1, accepted := s1.cmd.accepted ++ [a] } }

/-- A forwarded command fails or is refused: it applies on neither seat (R242). PEER is bit 31 of DETAIL (R359). -/
def dropForwarded (fseq : Nat) (st : Status) (detail : Nat) (s : State) : State :=
  let (drop, keep) := s.cmd.accepted.partition (fun a => a.fseq == some fseq)
  drop.foldl (fun a q => failReply q a.intervalTick st detail a) { s with cmd := { s.cmd with accepted := keep } }

/-- CMD_FRAME_RECEIVED (R242, R243). With TWIN_ROUTE BOTH the frame names a packet that the peer has accepted; a frame that names nothing
takes back the packet of its number (log entry 130). -/
def execCmdFrameReceived (i : Framed CmdFrame) (s : State) : Host.Outcome State Fault Refusal :=
  let m := i.msg
  let w := i.frame
  act (fun s =>
    match takeFrame 9 s.hot w s with
    | (none, s1) => s1
    | (some f, s1) =>
      let n := f.1.fseq
      let s2 := atTime m.at' s1
      match m.packet, m.seqCrc with
      | some (h, k), _ => takeForwarded n h k s2
      | none, some (q, c) =>
        ackFrame n 0 0 (if s2.twin.peerCmds.any (fun e => e.1 == q && e.2.1 == c) then s2
          else { s2 with twin := { s2.twin with peerCmds := s2.twin.peerCmds ++ [(q, c, m.at')] } })
      | none, none => dropForwarded n (.fail 3) 0 s2) s

/-- CMD_ACK_RECEIVED (R242): the command is acknowledged, and its tick lies at least 50 µs ahead; or the peer has rejected it. -/
def execCmdAckReceived (i : Framed CmdAck) (s : State) : Host.Outcome State Fault Refusal :=
  let m := i.msg
  let w := i.frame
  act (fun s =>
    match takeFrame 10 s.hot w s with
    | (none, s1) => s1
    | (some _, s1) =>
      if !s1.twin.outstanding.any (fun o => o.fseq == m.fseq && !o.snap) then s1
      else
        let s2 := { (atTime m.at' s1) with twin := { s1.twin with outstanding := s1.twin.outstanding.filter (fun o => o.snap || o.fseq != m.fseq) } }
        if 0x100 ≤ m.status then dropForwarded m.fseq (statusOf m.status) (m.detail % 2 ^ 31 + 2 ^ 31) s2
        else { s2 with cmd := { s2.cmd with accepted := s2.cmd.accepted.map (fun a =>
          if a.fseq = some m.fseq then { a with acked := true, tick := if s2.routeBoth then a.tick else ackTick s2 a.hdr } else a) } }) s

/-- A CMD frame that no acknowledgement has answered after three resends (R242): its command fails on both seats; the peer is told with a
frame of the same number that names no packet (log entry 130). -/
def giveUpCmd (fseq : Nat) (s : State) : State :=
  let s1 := sendFrame s.time.tick (some fseq) (.cmd ⟨none, none, s.time.now⟩) s
  dropForwarded fseq (.fail 3) 0 s1

/-- The CMD frame of a waiting command, or the segment that a transfer has reached, once more, with RESEND (R231). -/
def sendAgain (snap : Bool) (fseq : Nat) (s : State) : State :=
  if snap then
    match s.twin.sending with
    | some x => sendFrame s.time.tick (some fseq) (.snap (segmentOf x s.time.now)) s
    | none => s
  else
    match s.cmd.accepted.find? (fun (a : Accepted) => a.fseq == some fseq && !a.peer) with
    | some a => sendFrame s.time.tick (some fseq) (.cmd (cmdFrameOf s.routeBoth a.hdr a.cmd s.time.now)) s
    | none => s

/-- FLUME_RESEND (R231): an unacknowledged frame goes again after 20 µs, three times; then its command fails, or its snapshot starts again. -/
def execFlumeResend (f : SentFrame) (t : Time64) (s : State) : Host.Outcome State Fault Refusal :=
  let snap := f.snap
  let fseq := f.fseq
  act (fun s =>
    match s.twin.outstanding.find? (fun o => o.fseq == fseq && o.snap == snap) with
    | none => s
    | some o =>
      if t < o.sentT + 20000 then s
      else
        let s1 := atTime t s
        let rest := s1.twin.outstanding.filter (fun q => !(q.fseq == fseq && q.snap == snap))
        if 3 ≤ o.resent then
          let s2 := { s1 with twin := { s1.twin with outstanding := rest } }
          if snap then restartSending s2 else giveUpCmd fseq s2
        else
          sendAgain snap fseq { s1 with twin := { s1.twin with outstanding := rest ++ [{ o with sentT := t, resent := o.resent + 1 }] } }) s

end Sys2Proof.Machine
end

