-- ==== Sys2Proof/Machine/Verify.lean ====
section
/-! DEFINITION. Shown-picture verification: the output check of a tile against the verification lane's two guarded copies (R217 to
R219, R334), what a mismatch and a match do (R69, R72, R220), and the self-check of a HOT seat (R221, R256). -/
namespace Sys2Proof.Machine

/-- Whether the verification lane checks a row in the frame under way: by its schedule, or as a recheck placed there (R218,
R220). -/
def rowChecked (d : Head) (h row : Nat) (fi : FrameIn) : Bool :=
  scheduled d.timing h row fi || d.rechecks.any (fun q => q.row == row && q.placed == d.frameCnt && q.held.isNone)

/-- The comparison of R334: the port's signature under its disturbance, against two guarded copies of the recomputation. The
answer is the class, REF_FAULT, the result and both copies as read. -/
def checkTile (sig : BitVec 32) (o : CheckObs) : (CmpClass × Bool) × BitVec 64 × BitVec 64 × BitVec 64 :=
  let v : BitVec 64 := sig.setWidth 64
  let a := v ^^^ o.copyA.setWidth 64
  let b := ~~~v ^^^ o.copyB.setWidth 64
  let r := v ^^^ o.disturb.setWidth 64
  (compareDual a b (refGuard v ^^^ o.guardA) (refGuard (~~~v) ^^^ o.guardB) r, r, a, b)

/-- A check of a tile matched (R72): what waited for it has its own verdict again from the next frame, and a mismatch that the first
recheck undoes is transient. -/
def tileMatched (h row col : Nat) (s : State) : State :=
  let d := s.head h
  let mine := fun (q : Recheck) => q.row == row && q.col == col && q.held.isNone && q.frame != d.frameCnt && q.passed.isNone
  let n := (d.rechecks.filter (fun q => mine q && q.fails == 0)).length
  s.modHead h (fun d => { d with
    rechecks := d.rechecks.map (fun q => if mine q then { q with passed := some d.frameCnt } else q)
    cnt := { d.cnt with transient := (d.cnt.transient + n) % 2 ^ 32 } })

/-- A check of a tile did not match (R72, R80, R332, R334). -/
def tileMismatched (h row col : Nat) (c : (CmpClass × Bool) × BitVec 64 × BitVec 64 × BitVec 64) (s : State) : State :=
  let d := s.head h
  let (unit, s0) := freeBelow 256 s
  let s1 := raise .cuMismatch [(1, unit), (1, c.1.1.code), (1, b2n c.1.2), (8, c.2.1.toNat), (8, c.2.2.1.toNat), (8, c.2.2.2.toNat),
    (8, (tripleFold d.frameCnt h row col).toNat)] s0
  let s2 := s1.modHead h (fun d => { d with
    sticky := d.sticky ||| 2 ^ 20, cnt := { d.cnt with mismatch := (d.cnt.mismatch + 1) % 2 ^ 32 } })
  let s3 := { s2 with twin := { s2.twin with lastMismatch := some s2.time.tick } }
  holdTile h row col none false s3

/-- Whether the frame under way is the one in which a twin mismatch of a row is rechecked (R256). -/
def twinRecheck (d : Head) (row : Nat) : Bool :=
  d.rechecks.any (fun q => q.twin && q.row == row && q.placed == d.frameCnt && q.passed.isNone)

/-- The end of a row's check, at its last tile (R69, R219): a row checked whole counts as a match, one that the lane could not
finish as a miss. -/
def endRow (h row : Nat) (s : State) : State :=
  let d := s.head h
  let whole := (List.range d.cols).all (fun c => match tfind d.tiles (row * d.cols + c) with | some x => x.checked | none => false)
  let n := match d.frame with
    | some fi => fi.tick
    | none => s.time.tick
  let s1 := s.modHead h (fun d =>
    if whole then { d with rowMatch := tset row n d.rowMatch, rowMissed := tset row 0 d.rowMissed, cnt := { d.cnt with verify := (d.cnt.verify + 1) % 2 ^ 32 } }
    else { d with rowMissed := tset row (tget 0 d.rowMissed row + 1) d.rowMissed, cnt := { d.cnt with verifyMiss := (d.cnt.verifyMiss + 1) % 2 ^ 32 } })
  if !twinRecheck d row || !whole then s1
  else
    let clean := !d.rechecks.any (fun q => q.row == row && q.frame == d.frameCnt && !q.twin && q.held.isNone)
    let s2 := s1.modHead h (fun d => { d with
      rechecks := d.rechecks.map (fun q => if q.twin && q.row = row && q.placed = d.frameCnt then { q with passed := some d.frameCnt } else q)
      episodes := d.episodes.map (fun e => if e.row = row && e.ended.isNone && e.frame != d.frameCnt then { e with own := clean } else e) })
    let met := d.episodes.any (fun e => e.row == row && e.ended.isNone && e.frame == d.frameCnt && 2 ≤ e.ticks.length)
    if !clean then selfFault h row s2
    else if met && s.peerFaulty then closeRow h row d.frameCnt s2
    else judgeRow h row d.frameCnt s2

/-- OUTPUT_CHECK_COMPLETE (R72, R219, R334): the comparison of a tile in a row that the lane checks. A black or filled tile is not
compared (R200, R212). -/
def execOutputCheckComplete (p : TilePos) (o : CheckObs) (t : Time64) (s : State) : Host.Outcome State Fault Refusal :=
  act (fun s =>
    let h : Nat := p.head
    let d := s.head h
    match d.frame, tfind d.tiles (p.row * d.cols + p.col) with
    | some fi, some x =>
      if p.col ≥ d.cols || d.recDone || x.checked || !x.departed || x.filled || x.verdict == .dark || !rowChecked d h p.row fi then s
      else
        let s0 := atTime t s
        let s1 := if !o.finished || d.unread.contains p.row then s0
          else
            let sig := outSig h d fi p.row p.col
            let c := checkTile sig o
            let s1 := s0.modHead h (fun d => { d with tiles := d.tiles.map (fun e =>
              (e.1, if e.1 = p.row * d.cols + p.col then { e.2 with checked := true, outSig := c.2.1.setWidth 32 } else e.2)) })
            if c.1.1 = .isMatch then tileMatched h p.row p.col s1 else tileMismatched h p.row p.col c s1
        if p.col + 1 = d.cols then endRow h p.row s1 else s1
    | _, _ => s) s

end Sys2Proof.Machine
end

