-- ==== Sys2Proof/Machine/Dispatch.lean ====
section
/-! DEFINITION. The meaning of every command and happening, one arm a row of the table. -/
namespace Sys2Proof.Machine

/-- The effect of a command or happening on everything but the queue. -/
def exec (i : Instr) (s : State) : Host.Outcome State Fault Refusal :=
  match i with
  | .sysSet h recs => Sys2Proof.Machine.execSysSet h recs s
  | .sysProfile h profile fsp => Sys2Proof.Machine.execSysProfile h profile fsp s
  | .sysShutdown h mode => Sys2Proof.Machine.execSysShutdown h mode s
  | .sysRestart h => Sys2Proof.Machine.execSysRestart h s
  | .sysGet h keys => Sys2Proof.Machine.execSysGet h keys s
  | .sysInfo h => Sys2Proof.Machine.execSysInfo h s
  | .sysEventRead h fromSeq max => Sys2Proof.Machine.execSysEventRead h fromSeq max s
  | .timeSet h recs => Sys2Proof.Machine.execTimeSet h recs s
  | .timeGet h keys => Sys2Proof.Machine.execTimeGet h keys s
  | .timeStatus h => Sys2Proof.Machine.execTimeStatus h s
  | .srcSet h recs => Sys2Proof.Machine.execSrcSet h recs s
  | .srcGet h keys => Sys2Proof.Machine.execSrcGet h keys s
  | .srcStats h object clear => Sys2Proof.Machine.execSrcStats h object clear s
  | .srcFreezeStatus h object clear => Sys2Proof.Machine.execSrcFreezeStatus h object clear s
  | .srcLedgerRead h source slot first count => Sys2Proof.Machine.execSrcLedgerRead h source slot first count s
  | .paneCreate h pane head source recs => Sys2Proof.Machine.execPaneCreate h pane head source recs s
  | .paneDelete h pane => Sys2Proof.Machine.execPaneDelete h pane s
  | .paneSet h recs => Sys2Proof.Machine.execPaneSet h recs s
  | .layerDeclare h source format w h2 palette => Sys2Proof.Machine.execLayerDeclare h source format w h2 palette s
  | .bufRegister h buf format w h2 offset stride palette => Sys2Proof.Machine.execBufRegister h buf format w h2 offset stride palette s
  | .bufUnregister h buf => Sys2Proof.Machine.execBufUnregister h buf s
  | .fenceConfig h fence loc addr => Sys2Proof.Machine.execFenceConfig h fence loc addr s
  | .flip h group layers => Sys2Proof.Machine.execFlip h group layers s
  | .paneGet h keys => Sys2Proof.Machine.execPaneGet h keys s
  | .bufState h first count => Sys2Proof.Machine.execBufState h first count s
  | .groupStatus h group => Sys2Proof.Machine.execGroupStatus h group s
  | .headSet h recs => Sys2Proof.Machine.execHeadSet h recs s
  | .headDark h heads dark => Sys2Proof.Machine.execHeadDark h heads dark s
  | .colourStage h head part data => Sys2Proof.Machine.execColourStage h head part data s
  | .colourCommit h head => Sys2Proof.Machine.execColourCommit h head s
  | .scalerCoefLoad h set data => Sys2Proof.Machine.execScalerCoefLoad h set data s
  | .headGet h keys => Sys2Proof.Machine.execHeadGet h keys s
  | .headStats h object clear => Sys2Proof.Machine.execHeadStats h object clear s
  | .dpSinkInfo h head => Sys2Proof.Machine.execDpSinkInfo h head s
  | .codecSet h recs => Sys2Proof.Machine.execCodecSet h recs s
  | .encIdr h sessions => Sys2Proof.Machine.execEncIdr h sessions s
  | .playbackRing h stream vector log2 base => Sys2Proof.Machine.execPlaybackRing h stream vector log2 base s
  | .decStatsRing h vector log2 base => Sys2Proof.Machine.execDecStatsRing h vector log2 base s
  | .codecGet h keys => Sys2Proof.Machine.execCodecGet h keys s
  | .encStats h object clear => Sys2Proof.Machine.execEncStats h object clear s
  | .decCounters h object clear => Sys2Proof.Machine.execDecCounters h object clear s
  | .twinSet h recs => Sys2Proof.Machine.execTwinSet h recs s
  | .twinJoin h mode => Sys2Proof.Machine.execTwinJoin h mode s
  | .twinLeave h => Sys2Proof.Machine.execTwinLeave h s
  | .twinTakeover h => Sys2Proof.Machine.execTwinTakeover h s
  | .twinWithdraw h => Sys2Proof.Machine.execTwinWithdraw h s
  | .twinReinstate h => Sys2Proof.Machine.execTwinReinstate h s
  | .twinAdopt h uid => Sys2Proof.Machine.execTwinAdopt h uid s
  | .twinGet h keys => Sys2Proof.Machine.execTwinGet h keys s
  | .twinStats h object clear => Sys2Proof.Machine.execTwinStats h object clear s
  | .touchSet h recs => Sys2Proof.Machine.execTouchSet h recs s
  | .legendRegister h legend pane mask => Sys2Proof.Machine.execLegendRegister h legend pane mask s
  | .legendDelete h legend => Sys2Proof.Machine.execLegendDelete h legend s
  | .touchGet h keys => Sys2Proof.Machine.execTouchGet h keys s
  | .touchRead h group => Sys2Proof.Machine.execTouchRead h group s
  | .cuStart h unit alg foldEn fold => Sys2Proof.Machine.execCuStart h unit alg foldEn fold s
  | .cuFeed h unit kind addr len inlineData => Sys2Proof.Machine.execCuFeed h unit kind addr len inlineData s
  | .cuCtxRead h unit => Sys2Proof.Machine.execCuCtxRead h unit s
  | .cuCtxWrite h unit ctx => Sys2Proof.Machine.execCuCtxWrite h unit ctx s
  | .cuFinish h unit => Sys2Proof.Machine.execCuFinish h unit s
  | .cuCompare h unit mode slot refA guardA refB guardB => Sys2Proof.Machine.execCuCompare h unit mode slot refA guardA refB guardB s
  | .cuStore h unit slot => Sys2Proof.Machine.execCuStore h unit slot s
  | .memSet h recs => Sys2Proof.Machine.execMemSet h recs s
  | .memSetpoint h fsp => Sys2Proof.Machine.execMemSetpoint h fsp s
  | .memGet h keys => Sys2Proof.Machine.execMemGet h keys s
  | .memStats h object clear => Sys2Proof.Machine.execMemStats h object clear s
  | .diagDpPattern h port pattern custom => Sys2Proof.Machine.execDiagDpPattern h port pattern custom s
  | .diagEthPrbs h port rate on => Sys2Proof.Machine.execDiagEthPrbs h port rate on s
  | .selftestRun h regions pattern => Sys2Proof.Machine.execSelftestRun h regions pattern s
  | .selftestResult h => Sys2Proof.Machine.execSelftestResult h s
  | .diagThermal h => Sys2Proof.Machine.execDiagThermal h s
  | .lcProvision h => Sys2Proof.Machine.execLcProvision h s
  | .installSet h installId key => Sys2Proof.Machine.execInstallSet h installId key s
  | .lcField h => Sys2Proof.Machine.execLcField h s
  | .lcUnlock h token => Sys2Proof.Machine.execLcUnlock h token s
  | .lcDecommission h => Sys2Proof.Machine.execLcDecommission h s
  | .fwStage h slot offset data => Sys2Proof.Machine.execFwStage h slot offset data s
  | .fwActivate h slot => Sys2Proof.Machine.execFwActivate h slot s
  | .attest h nonce => Sys2Proof.Machine.execAttest h nonce s
  | .certRead h => Sys2Proof.Machine.execCertRead h s
  | .netSet h recs => Sys2Proof.Machine.execNetSet h recs s
  | .netMirrorRing h vector log2 base => Sys2Proof.Machine.execNetMirrorRing h vector log2 base s
  | .netGet h keys => Sys2Proof.Machine.execNetGet h keys s
  | .netStats h object clear => Sys2Proof.Machine.execNetStats h object clear s
  | .cmdqSqTail q idx t => Sys2Proof.Machine.execCmdqSqTail q idx t s
  | .sqEntryFetch q f t => Sys2Proof.Machine.execSqEntryFetch q f t s
  | .cmdqCqHead q idx => Sys2Proof.Machine.execCmdqCqHead q idx s
  | .cmdqCfgWrite q v => Sys2Proof.Machine.execCmdqCfgWrite q v s
  | .evqCfgWrite v => Sys2Proof.Machine.execEvqCfgWrite v s
  | .evqCons idx => Sys2Proof.Machine.execEvqCons idx s
  | .evqRecordWrite => Sys2Proof.Machine.execEvqRecordWrite s
  | .sysIrqCauseW1c v => Sys2Proof.Machine.execSysIrqCauseW1c v s
  | .headStatusW1c h v => Sys2Proof.Machine.execHeadStatusW1c h v s
  | .sysBar2BaseWrite v => Sys2Proof.Machine.execSysBar2BaseWrite v s
  | .bar2BaseTakeEffect => Sys2Proof.Machine.execBar2BaseTakeEffect s
  | .liveMapWrite k v t => Sys2Proof.Machine.execLiveMapWrite k v t s
  | .liveDarkMapWrite k v t => Sys2Proof.Machine.execLiveDarkMapWrite k v t s
  | .liveDarkPolWrite v t => Sys2Proof.Machine.execLiveDarkPolWrite v t s
  | .bar0LowWordRead offset t => Sys2Proof.Machine.execBar0LowWordRead offset t s
  | .registerWrite offset v => Sys2Proof.Machine.execRegisterWrite offset v s
  | .bar2Write offset data => Sys2Proof.Machine.execBar2Write offset data s
  | .bar2Read offset len granules => Sys2Proof.Machine.execBar2Read offset len granules s
  | .statusRead t => Sys2Proof.Machine.execStatusRead t s
  | .cmdWrite frame complete t => Sys2Proof.Machine.execCmdWrite frame complete t s
  | .replyRead => Sys2Proof.Machine.execReplyRead s
  | .udpCommandDatagram src datagram fragment t => Sys2Proof.Machine.execUdpCommandDatagram src datagram fragment t s
  | .resetNFall t => Sys2Proof.Machine.execResetNFall t s
  | .resetNRelease r => Sys2Proof.Machine.execResetNRelease r s
  | .startSequenceStep tjOk selftest t => Sys2Proof.Machine.execStartSequenceStep tjOk selftest t s
  | .pwrGoodFall t => Sys2Proof.Machine.execPwrGoodFall t s
  | .pciePerstNLow => Sys2Proof.Machine.execPciePerstNLow s
  | .pciePerstNHigh => Sys2Proof.Machine.execPciePerstNHigh s
  | .shutdownStep selftest t => Sys2Proof.Machine.execShutdownStep selftest t s
  | .selftestPrecondCheck clocksOk vddOk t => Sys2Proof.Machine.execSelftestPrecondCheck clocksOk vddOk t s
  | .darkPinEdge k level t => Sys2Proof.Machine.execDarkPinEdge k level t s
  | .eviSample k level t => Sys2Proof.Machine.execEviSample k level t s
  | .eviAccept k t => Sys2Proof.Machine.execEviAccept k t s
  | .eviStuck k t => Sys2Proof.Machine.execEviStuck k t s
  | .ppsInEdge t quarter => Sys2Proof.Machine.execPpsInEdge t quarter s
  | .ppsOutSecond t => Sys2Proof.Machine.execPpsOutSecond t s
  | .twinHbInEdge t => Sys2Proof.Machine.execTwinHbInEdge t s
  | .tickStart => Sys2Proof.Machine.execTickStart s
  | .decisionPoint fences => Sys2Proof.Machine.execDecisionPoint fences s
  | .fenceReadLate f => Sys2Proof.Machine.execFenceReadLate f s
  | .flipStall g => Sys2Proof.Machine.execFlipStall g s
  | .partnerFailed t => Sys2Proof.Machine.execPartnerFailed t s
  | .twinHbPath path t => Sys2Proof.Machine.execTwinHbPath path t s
  | .ptpSyncReceived m => Sys2Proof.Machine.execPtpSyncReceived m s
  | .ptpFollowUpReceived m => Sys2Proof.Machine.execPtpFollowUpReceived m s
  | .ptpDelayRespReceived m => Sys2Proof.Machine.execPtpDelayRespReceived m s
  | .ptpAnnounceReceived m => Sys2Proof.Machine.execPtpAnnounceReceived m s
  | .announceReceiptTimeout d t => Sys2Proof.Machine.execAnnounceReceiptTimeout d t s
  | .timeSlewEnd t => Sys2Proof.Machine.execTimeSlewEnd t s
  | .holdoverLimit t => Sys2Proof.Machine.execHoldoverLimit t s
  | .timeXferReceived x => Sys2Proof.Machine.execTimeXferReceived x s
  | .ethFrameReceived f => Sys2Proof.Machine.execEthFrameReceived f s
  | .rtpPacketReceived p => Sys2Proof.Machine.execRtpPacketReceived p s
  | .rtcpSrReceived p => Sys2Proof.Machine.execRtcpSrReceived p s
  | .netLink p up t => Sys2Proof.Machine.execNetLink p up t s
  | .jitterRelease x t => Sys2Proof.Machine.execJitterRelease x t s
  | .gapTimeout x t => Sys2Proof.Machine.execGapTimeout x t s
  | .silenceTimeout x t => Sys2Proof.Machine.execSilenceTimeout x t s
  | .laneFree lane t => Sys2Proof.Machine.execLaneFree lane t s
  | .decodePreempt lane row t => Sys2Proof.Machine.execDecodePreempt lane row t s
  | .decodeComplete lane r t => Sys2Proof.Machine.execDecodeComplete lane r t s
  | .ingestFrameComplete x ts t => Sys2Proof.Machine.execIngestFrameComplete x ts t s
  | .decLaneSafePoint lane t => Sys2Proof.Machine.execDecLaneSafePoint lane t s
  | .playbackPoll x r t => Sys2Proof.Machine.execPlaybackPoll x r t s
  | .frameStart h => Sys2Proof.Machine.execFrameStart h s
  | .vblankStart h t => Sys2Proof.Machine.execVblankStart h t s
  | .lineCompose h y lost => Sys2Proof.Machine.execLineCompose h y lost s
  | .tileDeparture p missing => Sys2Proof.Machine.execTileDeparture p missing s
  | .outputCheckComplete p o t => Sys2Proof.Machine.execOutputCheckComplete p o t s
  | .flaundRecordAssembly h t => Sys2Proof.Machine.execFlaundRecordAssembly h t s
  | .bufRetired b t => Sys2Proof.Machine.execBufRetired b t s
  | .headSafePoint h t => Sys2Proof.Machine.execHeadSafePoint h t s
  | .headPllLocked h t => Sys2Proof.Machine.execHeadPllLocked h t s
  | .mstAllocationDone h t => Sys2Proof.Machine.execMstAllocationDone h t s
  | .linkTrainComplete p info t => Sys2Proof.Machine.execLinkTrainComplete p info t s
  | .linkTrainFail p phase t => Sys2Proof.Machine.execLinkTrainFail p phase t s
  | .linkTrainRetry p t => Sys2Proof.Machine.execLinkTrainRetry p t s
  | .hpdUnplug p t => Sys2Proof.Machine.execHpdUnplug p t s
  | .irqHpd p lost t => Sys2Proof.Machine.execIrqHpd p lost t s
  | .hpdReturn p t => Sys2Proof.Machine.execHpdReturn p t s
  | .dpTopology p departed t => Sys2Proof.Machine.execDpTopology p departed t s
  | .helloReceived m => Sys2Proof.Machine.execHelloReceived m s
  | .helloSend t => Sys2Proof.Machine.execHelloSend t s
  | .heartbeatReceived m => Sys2Proof.Machine.execHeartbeatReceived m s
  | .udpHeartbeatReceived m => Sys2Proof.Machine.execUdpHeartbeatReceived m s
  | .leadStateReceived m => Sys2Proof.Machine.execLeadStateReceived m s
  | .leadStateSend t => Sys2Proof.Machine.execLeadStateSend t s
  | .admitReceived m => Sys2Proof.Machine.execAdmitReceived m s
  | .xchgDeadline t => Sys2Proof.Machine.execXchgDeadline t s
  | .borrowReqReceived m => Sys2Proof.Machine.execBorrowReqReceived m s
  | .borrowDataReceived packets notHeld x t => Sys2Proof.Machine.execBorrowDataReceived packets notHeld x t s
  | .borrowWaitTimeout x ext t => Sys2Proof.Machine.execBorrowWaitTimeout x ext t s
  | .borrowIdleTimeout x t => Sys2Proof.Machine.execBorrowIdleTimeout x t s
  | .openBorrowExpiry x t => Sys2Proof.Machine.execOpenBorrowExpiry x t s
  | .sigReceived m => Sys2Proof.Machine.execSigReceived m s
  | .sigLate h t => Sys2Proof.Machine.execSigLate h t s
  | .cmdFrameReceived m => Sys2Proof.Machine.execCmdFrameReceived m s
  | .cmdAckReceived m => Sys2Proof.Machine.execCmdAckReceived m s
  | .flumeResend f t => Sys2Proof.Machine.execFlumeResend f t s
  | .eventFrameReceived e t => Sys2Proof.Machine.execEventFrameReceived e t s
  | .stateFrameReceived m t => Sys2Proof.Machine.execStateFrameReceived m t s
  | .snapReceived m => Sys2Proof.Machine.execSnapReceived m s
  | .snapAckReceived snapId offset ok t => Sys2Proof.Machine.execSnapAckReceived snapId offset ok t s
  | .snapshotPeriod t => Sys2Proof.Machine.execSnapshotPeriod t s
  | .flumeLaneLoss l t => Sys2Proof.Machine.execFlumeLaneLoss l t s
  | .flumeLaneRejoin l t => Sys2Proof.Machine.execFlumeLaneRejoin l t s
  | .flumeSafePoint t => Sys2Proof.Machine.execFlumeSafePoint t s
  | .twinPartnerReplaced t => Sys2Proof.Machine.execTwinPartnerReplaced t s
  | .encRowCoded x r t => Sys2Proof.Machine.execEncRowCoded x r t s
  | .encRecordAssembly x t => Sys2Proof.Machine.execEncRecordAssembly x t s
  | .encSessionSafePoint x t => Sys2Proof.Machine.execEncSessionSafePoint x t s
  | .rtcpSrSend x t => Sys2Proof.Machine.execRtcpSrSend x t s
  | .touchSlotMeasure g counts t => Sys2Proof.Machine.execTouchSlotMeasure g counts t s
  | .touchMaxHold e t => Sys2Proof.Machine.execTouchMaxHold e t s
  | .touchDriftUncomp e t => Sys2Proof.Machine.execTouchDriftUncomp e t s
  | .touchSave t => Sys2Proof.Machine.execTouchSave t s
  | .touchSafePoint t => Sys2Proof.Machine.execTouchSafePoint t s
  | .memReadResult ch addr r q t => Sys2Proof.Machine.execMemReadResult ch addr r q t s
  | .ceRewrite ch addr t => Sys2Proof.Machine.execCeRewrite ch addr t s
  | .scrubSegment ch seg tagBad results t => Sys2Proof.Machine.execScrubSegment ch seg tagBad results t s
  | .basinScrub w r t => Sys2Proof.Machine.execBasinScrub w r t s
  | .basinUe w t => Sys2Proof.Machine.execBasinUe w t s
  | .refreshDue ch scanUrgent t => Sys2Proof.Machine.execRefreshDue ch scanUrgent t s
  | .mr4Read ch rate t => Sys2Proof.Machine.execMr4Read ch rate t s
  | .coldRankIdle ch t => Sys2Proof.Machine.execColdRankIdle ch t s
  | .rankWake ch t => Sys2Proof.Machine.execRankWake ch t s
  | .setpointSwitch ready outageUs lock t => Sys2Proof.Machine.execSetpointSwitch ready outageUs lock t s
  | .memSetpointDone t => Sys2Proof.Machine.execMemSetpointDone t s
  | .thermalSample readings t => Sys2Proof.Machine.execThermalSample readings t s
  | .thermalLevelRepeat t => Sys2Proof.Machine.execThermalLevelRepeat t s
  | .avsReadback mv t => Sys2Proof.Machine.execAvsReadback mv t s
  | .flashQueueDrain ok t => Sys2Proof.Machine.execFlashQueueDrain ok t s
  | .configSnapshotWrite ok t => Sys2Proof.Machine.execConfigSnapshotWrite ok t s
  | .selftestSlice u pass t => Sys2Proof.Machine.execSelftestSlice u pass t s
  | .selftestRecordAge t => Sys2Proof.Machine.execSelftestRecordAge t s
  | .serviceTokenExpiry t => Sys2Proof.Machine.execServiceTokenExpiry t s
  | .cuFeedComplete u data t => Sys2Proof.Machine.execCuFeedComplete u data t s
  | .delayReqSend d seq tx => Sys2Proof.Machine.execDelayReqSend d seq tx s
  | .mergeWindowClose x ext t => Sys2Proof.Machine.execMergeWindowClose x ext t s
  | .twinSnapOld t => Sys2Proof.Machine.execTwinSnapOld t s

end Sys2Proof.Machine
end

