-- ==== Sys2Proof/Safety.lean ====
section
/-! DEFINITION. What a safe run is, in the terms the statements use: commands that complete, states from which the command in
front does not stop the machine, and the relations by which a statement says what is left unchanged. -/
namespace Sys2Proof.Machine

/-- Whether an outcome is a next state. -/
def isNext (o : Host.Outcome State Fault Refusal) : Bool :=
  match o with
  | .next _ => true
  | .fault _ => false
  | .refused _ => false

/-- A state is safe where its step answers a next state. -/
def Safe (s : State) : Prop := isNext (step s) = true

/-- A command completes with a property: it answers a next state, and that state has the property. -/
def Completes (i : Instr) (s : State) (P : State → Prop) : Prop := ∃ t, exec i s = .next t ∧ P t

/-- Two states differ at most in the command interface, the counter's reading and the output log. -/
def OnlyInterface (s t : State) : Prop := t = { s with cmd := t.cmd, time := { s.time with now := t.time.now }, out := t.out }

/-- Two states differ at most in the event store, in HOT in what waits for the union of the pair's events and what is sent on the
Flume, and in the counter's reading and the output log (R373, R244). -/
def OnlyEvents (s t : State) : Prop :=
  t = { s with events := t.events, time := { s.time with now := t.time.now }, out := t.out, twin := t.twin }

/-- Two states differ at most in the command interface, what goes to the peer with a command, the counter's reading and the output
log: what the acceptance of a command changes (R363, R242). -/
def OnlyAcceptance (s t : State) : Prop :=
  t = { s with cmd := t.cmd, time := { s.time with now := t.time.now }, out := t.out, twin := t.twin }

/-- An event of this seat has been raised (R373): it is the newest of the store, or in HOT the newest of those that wait for the union of
the pair's events (R244). -/
def State.raised (s t : State) (c : Ev) (tag : Option Nat) (payload : List (Nat × Nat)) : Prop :=
  if s.hot then ∃ l e, t.twin.ownEvents = l ++ [e] ∧ e.code = c ∧ e.tag = tag ∧ e.payload = payload
  else ∃ l r, t.events.history = l ++ [r] ∧ r.code = c ∧ r.tag = tag ∧ r.payload = payload

/-- A command has joined those that wait for their apply ticks, as the last accepted, with the tick of R361. -/
def State.joined (s t : State) (h : CmdHdr) (k : Cmd) : Prop :=
  ∃ a, t.cmd.accepted = s.cmd.accepted ++ [a] ∧ a.hdr = h ∧ a.cmd = k ∧ a.order = s.cmd.order
    ∧ a.tick = ((atTime h.arrival s).resolve 20000 h).tick

/-- Two states differ at most in the memory controller, the events, and the counter's reading and the output log. -/
def OnlyMemory (s t : State) : Prop :=
  t = { s with mem := t.mem, events := t.events, time := { s.time with now := t.time.now }, out := t.out, twin := t.twin }

/-- Two states differ at most in the twin link, the counter's reading and the output log. -/
def OnlyTwin (s t : State) : Prop := t = { s with twin := t.twin, time := { s.time with now := t.time.now }, out := t.out }

/-- A Flume frame comes in whole, of a type and in a mode in which it is taken (R228, R230), with its header and its body. -/
def State.receives (s : State) (type : Nat) (ok : Bool) (w : FlumeFrame) (f : FlumeHdr × Bytes) : Prop := (takeFrame type ok w s).1 = some f

/-- A frame that a network port receives whole, as the port and the stream it is for see it (R84, R100): counted, at its receive time, a run of
packets from another SSRC ended. -/
def State.heard (s : State) (f : NetFrame) (x : Nat) : State :=
  (countRx f.port (atTime (rxTime s.cfg f.port f.rx) s)).modStream x (fun m => { m with newSsrcN := 0 })

/-- A received frame carries a datagram that a stream or no stream claims (R86, R88). -/
def State.claims (s : State) (f : NetFrame) (u : UdpIn) (c : Claim) : Prop :=
  s.netOn f.port = true ∧ f.fcsOk = true ∧ datagramIn f.bytes = some u ∧ claimOf s f.port u = c

/-- A stream of a session in FLOWING gets a packet of its format from its SSRC (R88, R99, R100). -/
def State.gets (s : State) (f : NetFrame) (x : Nat) (p : StreamPkt) : Prop :=
  (∃ u, s.claims f u (.rtp x) ∧ formatIn s.cfg x (inbound s.cfg f u) = some p) ∧ ssrcOk s.cfg x (s.stream x) p = true
  ∧ (s.stream x).session = true ∧ (s.stream x).state = .flowing

/-- A read has its turn on its channel (R312): the memory serves requests, the granule is the channel's, and after what has arrived the read is
the channel's next request. -/
def State.readsNext (s : State) (ch : Fin 8) (addr : Nat) (q : Requester) (arrived : List MemReq) (t : Time64) : Prop :=
  addr < deviceBytes ∧ (placeOf s.mem addr).ch = ch.val ∧ s.mem.fatal = false ∧ s.mem.outage = false
  ∧ ∃ w, nextRequest (readTurn ch addr q arrived t s) ((readTurn ch addr q arrived t s).chan ch) = some w ∧ w.q = some q ∧ w.addr = addr

/-- The granule has a write queued when the read comes to its turn (R312). -/
def State.readsQueue (s : State) (ch : Fin 8) (addr : Nat) (q : Requester) (arrived : List MemReq) (t : Time64) : Bool :=
  writeQueued (readTurn ch addr q arrived t s) ch (placeOf s.mem addr).seg (placeOf s.mem addr).gi

/-- A channel whose refresh falls due at an instant (R315). -/
def State.refreshed (s : State) (ch : Fin 8) (t : Time64) : State := modChan ch (fun c => { c with refT := t }) (atTime t s)

/-- An output stands in the log behind what was there before. -/
def State.sent (s t : State) (o : Out) : Prop := ∃ l, t.out = s.out ++ [o] ++ l

/-- A Flume frame with this body goes out (R229). -/
def State.sentBody (s t : State) (b : FlumeBody) : Prop := ∃ h fr, s.sent t (.flume h b fr)

end Sys2Proof.Machine
end

