-- ==== Sys2Proof/WellFormed.lean ====
section
/-! DEFINITION. Well-formed commands and happenings: every number fits the field that carries it (R355, R384, R390) and
every operand of a happening fits the unit it names. The meanings are total and do not rest on it. -/
namespace Sys2Proof

/-- Whether a number fits `n` bytes. -/
def fits (n v : Nat) : Bool := v < 256 ^ n

/-- An instant of the 64-bit counter (R51). -/
def timeOk (t : Time64) : Bool := fits 8 t

/-- An address record's fields fit (R384). -/
def AddrRec.wf (a : AddrRec) : Bool :=
  fits 1 a.fam && fits 1 a.plen && fits 2 a.port && fits 2 a.vlan && fits 1 a.dscp && fits 1 a.portMask
  && a.addr.length == 16 && a.addr2.length == 16

/-- A value's fields fit (R383). -/
def Val.wf : Val → Bool
  | .num n => fits 8 n
  | .addr a => a.wf
  | .bytes b => b.length ≤ 1024

/-- A SET record's fields fit (R381). -/
def SetRec.wf (r : SetRec) : Bool := fits 2 r.pid && fits 2 r.index && fits 1 r.index2 && r.val.wf

/-- A GET record's fields fit (R381). -/
def GetKey.wf (k : GetKey) : Bool := fits 2 k.pid && fits 2 k.index && fits 1 k.index2

/-- A flip layer's fields fit (R390). -/
def FlipLayer.wf (l : FlipLayer) : Bool :=
  fits 1 l.source && fits 2 l.buf && fits 1 l.fence && fits 8 l.target && timeOk l.captureT && fits 4 l.u && fits 4 l.generation

/-- A packet header's fields fit (R355, R365). -/
def CmdHdr.wf (h : CmdHdr) : Bool :=
  fits 2 h.tag && fits 4 h.seq && fits 8 h.applyTick && fits 8 h.resultAddr && fits 4 h.resultMax && fits 4 h.crc
  && timeOk h.arrival

/-- The parameters of a command fit their fields (R390). -/
def Cmd.wf : Cmd → Bool
  | .sysSet l | .timeSet l | .srcSet l | .paneSet l | .headSet l | .codecSet l | .twinSet l | .touchSet l | .memSet l
  | .netSet l => l.all SetRec.wf
  | .sysGet l | .timeGet l | .srcGet l | .paneGet l | .headGet l | .codecGet l | .twinGet l | .touchGet l | .memGet l
  | .netGet l => l.all GetKey.wf
  | .srcStats o _ | .srcFreezeStatus o _ | .headStats o _ | .encStats o _ | .decCounters o _ | .twinStats o _
  | .memStats o _ | .netStats o _ => fits 2 o
  | .sysRestart | .sysInfo | .timeStatus | .twinLeave | .twinTakeover | .twinWithdraw | .twinReinstate | .selftestResult
  | .diagThermal | .lcProvision | .lcField | .lcDecommission | .certRead => true
  | .sysProfile p f => fits 1 p && fits 1 f
  | .sysShutdown m => fits 1 m
  | .sysEventRead q m => fits 8 q && fits 1 m
  | .srcLedgerRead a b c d => fits 1 a && fits 1 b && fits 2 c && fits 2 d
  | .paneCreate p h s l => fits 2 p && fits 1 h && fits 1 s && l.all SetRec.wf
  | .paneDelete p => fits 2 p
  | .layerDeclare s f w h p => fits 1 s && fits 1 f && fits 2 w && fits 2 h && p.length ≤ 1024
  | .bufRegister b f w h o st p => fits 2 b && fits 1 f && fits 2 w && fits 2 h && fits 8 o && fits 4 st && p.length ≤ 1024
  | .bufUnregister b => fits 2 b
  | .fenceConfig f l a => fits 1 f && fits 1 l && fits 8 a
  | .flip g l => fits 1 g && fits 1 l.length && l.all FlipLayer.wf
  | .bufState a b => fits 2 a && fits 2 b
  | .groupStatus g => fits 1 g
  | .headDark _ d => fits 1 d
  | .colourStage h p d => fits 1 h && fits 1 p && d.length ≤ 4068
  | .colourCommit h => fits 1 h
  | .scalerCoefLoad k d => fits 1 k && d.length == 1024
  | .dpSinkInfo h => fits 1 h
  | .encIdr m => fits 2 m
  | .playbackRing s v l b => fits 1 s && fits 1 v && fits 1 l && fits 8 b
  | .decStatsRing v l b | .netMirrorRing v l b => fits 1 v && fits 1 l && fits 8 b
  | .twinJoin m => fits 1 m
  | .twinAdopt u => u.length == 16
  | .legendRegister l p m => fits 1 l && fits 2 p && fits 16 m
  | .legendDelete l => fits 1 l
  | .touchRead g => fits 1 g
  | .cuStart u a f _ => fits 1 u && fits 1 a && fits 1 f
  | .cuFeed u k a l d => fits 1 u && fits 1 k && fits 8 a && fits 8 l && d.length == (if k = 0 then l else 0)
  | .cuCtxRead u | .cuFinish u => fits 1 u
  | .cuCtxWrite u c => fits 1 u && fits 1 c.alg && fits 8 c.length
  | .cuCompare u m sl _ ga _ gb => fits 1 u && fits 1 m && fits 1 sl && fits 2 ga && fits 2 gb
  | .cuStore u sl => fits 1 u && fits 1 sl
  | .memSetpoint f => fits 1 f
  | .diagDpPattern p q c => fits 1 p && fits 1 q && c.length == 10
  | .diagEthPrbs p r o => fits 1 p && fits 1 r && fits 1 o
  | .selftestRun r p => fits 4 r && fits 1 p
  | .installSet i k => i.length == 16 && k.length == 32
  | .lcUnlock t => t.length ≤ 256
  | .fwStage s o d => fits 1 s && fits 4 o && d.length ≤ 4000
  | .fwActivate s => fits 1 s
  | .attest n => n.length == 32

/-- The command that an opcode row carries, with its header; none for a happening. -/
def Instr.packet : Instr → Option (CmdHdr × Cmd)
  | .sysSet h a1 => some (h, .sysSet a1)
  | .sysProfile h a1 a2 => some (h, .sysProfile a1 a2)
  | .sysShutdown h a1 => some (h, .sysShutdown a1)
  | .sysRestart h => some (h, .sysRestart)
  | .sysGet h a1 => some (h, .sysGet a1)
  | .sysInfo h => some (h, .sysInfo)
  | .sysEventRead h a1 a2 => some (h, .sysEventRead a1 a2)
  | .timeSet h a1 => some (h, .timeSet a1)
  | .timeGet h a1 => some (h, .timeGet a1)
  | .timeStatus h => some (h, .timeStatus)
  | .srcSet h a1 => some (h, .srcSet a1)
  | .srcGet h a1 => some (h, .srcGet a1)
  | .srcStats h a1 a2 => some (h, .srcStats a1 a2)
  | .srcFreezeStatus h a1 a2 => some (h, .srcFreezeStatus a1 a2)
  | .srcLedgerRead h a1 a2 a3 a4 => some (h, .srcLedgerRead a1 a2 a3 a4)
  | .paneCreate h a1 a2 a3 a4 => some (h, .paneCreate a1 a2 a3 a4)
  | .paneDelete h a1 => some (h, .paneDelete a1)
  | .paneSet h a1 => some (h, .paneSet a1)
  | .layerDeclare h a1 a2 a3 a4 a5 => some (h, .layerDeclare a1 a2 a3 a4 a5)
  | .bufRegister h a1 a2 a3 a4 a5 a6 a7 => some (h, .bufRegister a1 a2 a3 a4 a5 a6 a7)
  | .bufUnregister h a1 => some (h, .bufUnregister a1)
  | .fenceConfig h a1 a2 a3 => some (h, .fenceConfig a1 a2 a3)
  | .flip h a1 a2 => some (h, .flip a1 a2)
  | .paneGet h a1 => some (h, .paneGet a1)
  | .bufState h a1 a2 => some (h, .bufState a1 a2)
  | .groupStatus h a1 => some (h, .groupStatus a1)
  | .headSet h a1 => some (h, .headSet a1)
  | .headDark h a1 a2 => some (h, .headDark a1 a2)
  | .colourStage h a1 a2 a3 => some (h, .colourStage a1 a2 a3)
  | .colourCommit h a1 => some (h, .colourCommit a1)
  | .scalerCoefLoad h a1 a2 => some (h, .scalerCoefLoad a1 a2)
  | .headGet h a1 => some (h, .headGet a1)
  | .headStats h a1 a2 => some (h, .headStats a1 a2)
  | .dpSinkInfo h a1 => some (h, .dpSinkInfo a1)
  | .codecSet h a1 => some (h, .codecSet a1)
  | .encIdr h a1 => some (h, .encIdr a1)
  | .playbackRing h a1 a2 a3 a4 => some (h, .playbackRing a1 a2 a3 a4)
  | .decStatsRing h a1 a2 a3 => some (h, .decStatsRing a1 a2 a3)
  | .codecGet h a1 => some (h, .codecGet a1)
  | .encStats h a1 a2 => some (h, .encStats a1 a2)
  | .decCounters h a1 a2 => some (h, .decCounters a1 a2)
  | .twinSet h a1 => some (h, .twinSet a1)
  | .twinJoin h a1 => some (h, .twinJoin a1)
  | .twinLeave h => some (h, .twinLeave)
  | .twinTakeover h => some (h, .twinTakeover)
  | .twinWithdraw h => some (h, .twinWithdraw)
  | .twinReinstate h => some (h, .twinReinstate)
  | .twinAdopt h a1 => some (h, .twinAdopt a1)
  | .twinGet h a1 => some (h, .twinGet a1)
  | .twinStats h a1 a2 => some (h, .twinStats a1 a2)
  | .touchSet h a1 => some (h, .touchSet a1)
  | .legendRegister h a1 a2 a3 => some (h, .legendRegister a1 a2 a3)
  | .legendDelete h a1 => some (h, .legendDelete a1)
  | .touchGet h a1 => some (h, .touchGet a1)
  | .touchRead h a1 => some (h, .touchRead a1)
  | .cuStart h a1 a2 a3 a4 => some (h, .cuStart a1 a2 a3 a4)
  | .cuFeed h a1 a2 a3 a4 a5 => some (h, .cuFeed a1 a2 a3 a4 a5)
  | .cuCtxRead h a1 => some (h, .cuCtxRead a1)
  | .cuCtxWrite h a1 a2 => some (h, .cuCtxWrite a1 a2)
  | .cuFinish h a1 => some (h, .cuFinish a1)
  | .cuCompare h a1 a2 a3 a4 a5 a6 a7 => some (h, .cuCompare a1 a2 a3 a4 a5 a6 a7)
  | .cuStore h a1 a2 => some (h, .cuStore a1 a2)
  | .memSet h a1 => some (h, .memSet a1)
  | .memSetpoint h a1 => some (h, .memSetpoint a1)
  | .memGet h a1 => some (h, .memGet a1)
  | .memStats h a1 a2 => some (h, .memStats a1 a2)
  | .diagDpPattern h a1 a2 a3 => some (h, .diagDpPattern a1 a2 a3)
  | .diagEthPrbs h a1 a2 a3 => some (h, .diagEthPrbs a1 a2 a3)
  | .selftestRun h a1 a2 => some (h, .selftestRun a1 a2)
  | .selftestResult h => some (h, .selftestResult)
  | .diagThermal h => some (h, .diagThermal)
  | .lcProvision h => some (h, .lcProvision)
  | .installSet h a1 a2 => some (h, .installSet a1 a2)
  | .lcField h => some (h, .lcField)
  | .lcUnlock h a1 => some (h, .lcUnlock a1)
  | .lcDecommission h => some (h, .lcDecommission)
  | .fwStage h a1 a2 a3 => some (h, .fwStage a1 a2 a3)
  | .fwActivate h a1 => some (h, .fwActivate a1)
  | .attest h a1 => some (h, .attest a1)
  | .certRead h => some (h, .certRead)
  | .netSet h a1 => some (h, .netSet a1)
  | .netMirrorRing h a1 a2 a3 => some (h, .netMirrorRing a1 a2 a3)
  | .netGet h a1 => some (h, .netGet a1)
  | .netStats h a1 a2 => some (h, .netStats a1 a2)
  | .cmdqSqTail _ _ _ => none
  | .sqEntryFetch _ _ _ => none
  | .cmdqCqHead _ _ => none
  | .cmdqCfgWrite _ _ => none
  | .evqCfgWrite _ => none
  | .evqCons _ => none
  | .evqRecordWrite => none
  | .sysIrqCauseW1c _ => none
  | .headStatusW1c _ _ => none
  | .sysBar2BaseWrite _ => none
  | .bar2BaseTakeEffect => none
  | .liveMapWrite _ _ _ => none
  | .liveDarkMapWrite _ _ _ => none
  | .liveDarkPolWrite _ _ => none
  | .bar0LowWordRead _ _ => none
  | .registerWrite _ _ => none
  | .bar2Write _ _ => none
  | .bar2Read _ _ _ => none
  | .statusRead _ => none
  | .cmdWrite _ _ _ => none
  | .replyRead => none
  | .udpCommandDatagram _ _ _ _ => none
  | .resetNFall _ => none
  | .resetNRelease _ => none
  | .startSequenceStep _ _ _ => none
  | .pwrGoodFall _ => none
  | .pciePerstNLow => none
  | .pciePerstNHigh => none
  | .shutdownStep _ _ => none
  | .selftestPrecondCheck _ _ _ => none
  | .darkPinEdge _ _ _ => none
  | .eviSample _ _ _ => none
  | .eviAccept _ _ => none
  | .eviStuck _ _ => none
  | .ppsInEdge _ _ => none
  | .ppsOutSecond _ => none
  | .twinHbInEdge _ => none
  | .tickStart => none
  | .decisionPoint _ => none
  | .fenceReadLate _ => none
  | .flipStall _ => none
  | .partnerFailed _ => none
  | .twinHbPath _ _ => none
  | .ptpSyncReceived _ => none
  | .ptpFollowUpReceived _ => none
  | .ptpDelayRespReceived _ => none
  | .ptpAnnounceReceived _ => none
  | .announceReceiptTimeout _ _ => none
  | .timeSlewEnd _ => none
  | .holdoverLimit _ => none
  | .timeXferReceived _ => none
  | .ethFrameReceived _ => none
  | .rtpPacketReceived _ => none
  | .rtcpSrReceived _ => none
  | .netLink _ _ _ => none
  | .jitterRelease _ _ => none
  | .gapTimeout _ _ => none
  | .silenceTimeout _ _ => none
  | .laneFree _ _ => none
  | .decodePreempt _ _ _ => none
  | .decodeComplete _ _ _ => none
  | .ingestFrameComplete _ _ _ => none
  | .decLaneSafePoint _ _ => none
  | .playbackPoll _ _ _ => none
  | .frameStart _ => none
  | .vblankStart _ _ => none
  | .lineCompose _ _ _ => none
  | .tileDeparture _ _ => none
  | .outputCheckComplete _ _ _ => none
  | .flaundRecordAssembly _ _ => none
  | .bufRetired _ _ => none
  | .headSafePoint _ _ => none
  | .headPllLocked _ _ => none
  | .mstAllocationDone _ _ => none
  | .linkTrainComplete _ _ _ => none
  | .linkTrainFail _ _ _ => none
  | .linkTrainRetry _ _ => none
  | .hpdUnplug _ _ => none
  | .irqHpd _ _ _ => none
  | .hpdReturn _ _ => none
  | .dpTopology _ _ _ => none
  | .helloReceived _ => none
  | .helloSend _ => none
  | .heartbeatReceived _ => none
  | .udpHeartbeatReceived _ => none
  | .leadStateReceived _ => none
  | .leadStateSend _ => none
  | .admitReceived _ => none
  | .xchgDeadline _ => none
  | .borrowReqReceived _ => none
  | .borrowDataReceived _ _ _ _ => none
  | .borrowWaitTimeout _ _ _ => none
  | .borrowIdleTimeout _ _ => none
  | .openBorrowExpiry _ _ => none
  | .sigReceived _ => none
  | .sigLate _ _ => none
  | .cmdFrameReceived _ => none
  | .cmdAckReceived _ => none
  | .flumeResend _ _ => none
  | .eventFrameReceived _ _ => none
  | .stateFrameReceived _ _ => none
  | .snapReceived _ => none
  | .snapAckReceived _ _ _ _ => none
  | .snapshotPeriod _ => none
  | .flumeLaneLoss _ _ => none
  | .flumeLaneRejoin _ _ => none
  | .flumeSafePoint _ => none
  | .twinPartnerReplaced _ => none
  | .twinSnapOld _ => none
  | .encRowCoded _ _ _ => none
  | .encRecordAssembly _ _ => none
  | .encSessionSafePoint _ _ => none
  | .rtcpSrSend _ _ => none
  | .touchSlotMeasure _ _ _ => none
  | .touchMaxHold _ _ => none
  | .touchDriftUncomp _ _ => none
  | .touchSave _ => none
  | .touchSafePoint _ => none
  | .memReadResult _ _ _ _ _ => none
  | .ceRewrite _ _ _ => none
  | .scrubSegment _ _ _ _ _ => none
  | .basinScrub _ _ _ => none
  | .basinUe _ _ => none
  | .refreshDue _ _ _ => none
  | .mr4Read _ _ _ => none
  | .coldRankIdle _ _ => none
  | .rankWake _ _ => none
  | .setpointSwitch _ _ _ _ => none
  | .memSetpointDone _ => none
  | .thermalSample _ _ => none
  | .thermalLevelRepeat _ => none
  | .avsReadback _ _ => none
  | .flashQueueDrain _ _ => none
  | .configSnapshotWrite _ _ => none
  | .selftestSlice _ _ _ => none
  | .selftestRecordAge _ => none
  | .serviceTokenExpiry _ => none
  | .cuFeedComplete _ _ _ => none
  | .delayReqSend _ _ _ => none
  | .mergeWindowClose _ _ _ => none

/-- A happening's operands fit the unit they name. -/
def Instr.operandsOk : Instr → Bool
  | .sysSet _ _ => true
  | .sysProfile _ _ _ => true
  | .sysShutdown _ _ => true
  | .sysRestart _ => true
  | .sysGet _ _ => true
  | .sysInfo _ => true
  | .sysEventRead _ _ _ => true
  | .timeSet _ _ => true
  | .timeGet _ _ => true
  | .timeStatus _ => true
  | .srcSet _ _ => true
  | .srcGet _ _ => true
  | .srcStats _ _ _ => true
  | .srcFreezeStatus _ _ _ => true
  | .srcLedgerRead _ _ _ _ _ => true
  | .paneCreate _ _ _ _ _ => true
  | .paneDelete _ _ => true
  | .paneSet _ _ => true
  | .layerDeclare _ _ _ _ _ _ => true
  | .bufRegister _ _ _ _ _ _ _ _ => true
  | .bufUnregister _ _ => true
  | .fenceConfig _ _ _ _ => true
  | .flip _ _ _ => true
  | .paneGet _ _ => true
  | .bufState _ _ _ => true
  | .groupStatus _ _ => true
  | .headSet _ _ => true
  | .headDark _ _ _ => true
  | .colourStage _ _ _ _ => true
  | .colourCommit _ _ => true
  | .scalerCoefLoad _ _ _ => true
  | .headGet _ _ => true
  | .headStats _ _ _ => true
  | .dpSinkInfo _ _ => true
  | .codecSet _ _ => true
  | .encIdr _ _ => true
  | .playbackRing _ _ _ _ _ => true
  | .decStatsRing _ _ _ _ => true
  | .codecGet _ _ => true
  | .encStats _ _ _ => true
  | .decCounters _ _ _ => true
  | .twinSet _ _ => true
  | .twinJoin _ _ => true
  | .twinLeave _ => true
  | .twinTakeover _ => true
  | .twinWithdraw _ => true
  | .twinReinstate _ => true
  | .twinAdopt _ _ => true
  | .twinGet _ _ => true
  | .twinStats _ _ _ => true
  | .touchSet _ _ => true
  | .legendRegister _ _ _ _ => true
  | .legendDelete _ _ => true
  | .touchGet _ _ => true
  | .touchRead _ _ => true
  | .cuStart _ _ _ _ _ => true
  | .cuFeed _ _ _ _ _ _ => true
  | .cuCtxRead _ _ => true
  | .cuCtxWrite _ _ _ => true
  | .cuFinish _ _ => true
  | .cuCompare _ _ _ _ _ _ _ _ => true
  | .cuStore _ _ _ => true
  | .memSet _ _ => true
  | .memSetpoint _ _ => true
  | .memGet _ _ => true
  | .memStats _ _ _ => true
  | .diagDpPattern _ _ _ _ => true
  | .diagEthPrbs _ _ _ _ => true
  | .selftestRun _ _ _ => true
  | .selftestResult _ => true
  | .diagThermal _ => true
  | .lcProvision _ => true
  | .installSet _ _ _ => true
  | .lcField _ => true
  | .lcUnlock _ _ => true
  | .lcDecommission _ => true
  | .fwStage _ _ _ _ => true
  | .fwActivate _ _ => true
  | .attest _ _ => true
  | .certRead _ => true
  | .netSet _ _ => true
  | .netMirrorRing _ _ _ _ => true
  | .netGet _ _ => true
  | .netStats _ _ _ => true
  | .cmdqSqTail _ a1 a2 => fits 4 a1 && timeOk a2
  | .sqEntryFetch _ a1 a2 => a1.entry.length == 64 && timeOk a2
  | .cmdqCqHead _ a1 => fits 4 a1
  | .cmdqCfgWrite _ _ => true
  | .evqCfgWrite _ => true
  | .evqCons a0 => fits 4 a0
  | .evqRecordWrite => true
  | .sysIrqCauseW1c _ => true
  | .headStatusW1c _ _ => true
  | .sysBar2BaseWrite _ => true
  | .bar2BaseTakeEffect => true
  | .liveMapWrite _ _ a2 => timeOk a2
  | .liveDarkMapWrite _ _ a2 => timeOk a2
  | .liveDarkPolWrite _ a1 => timeOk a1
  | .bar0LowWordRead a0 a1 => fits 4 a0 && timeOk a1
  | .registerWrite a0 _ => fits 4 a0
  | .bar2Write a0 a1 => fits 4 a0 && a1.length ≤ 65536
  | .bar2Read a0 _ _ => fits 4 a0
  | .statusRead a0 => timeOk a0
  | .cmdWrite a0 _ a2 => a0.length ≤ 65536 && timeOk a2
  | .replyRead => true
  | .udpCommandDatagram a0 a1 _ a3 => a0.wf && a1.length ≤ 65536 && timeOk a3
  | .resetNFall a0 => timeOk a0
  | .resetNRelease a0 => timeOk a0.at'
  | .startSequenceStep _ _ a2 => timeOk a2
  | .pwrGoodFall a0 => timeOk a0
  | .pciePerstNLow => true
  | .pciePerstNHigh => true
  | .shutdownStep _ a1 => timeOk a1
  | .selftestPrecondCheck _ _ a2 => timeOk a2
  | .darkPinEdge _ _ a2 => timeOk a2
  | .eviSample _ _ a2 => timeOk a2
  | .eviAccept _ a1 => timeOk a1
  | .eviStuck _ a1 => timeOk a1
  | .ppsInEdge a0 _ => timeOk a0
  | .ppsOutSecond a0 => timeOk a0
  | .twinHbInEdge a0 => timeOk a0
  | .tickStart => true
  | .decisionPoint _ => true
  | .fenceReadLate _ => true
  | .flipStall _ => true
  | .partnerFailed a0 => timeOk a0
  | .twinHbPath _ a1 => timeOk a1
  | .ptpSyncReceived a0 => timeOk a0.rx && a0.rxQ < 4 && a0.origin.length == 10 && a0.domain < 128
  | .ptpFollowUpReceived a0 => timeOk a0.rx && a0.time.length == 10 && a0.domain < 128
  | .ptpDelayRespReceived a0 => timeOk a0.rx && a0.time.length == 10 && a0.domain < 128
  | .ptpAnnounceReceived a0 => timeOk a0.rx && a0.domain < 128
  | .announceReceiptTimeout _ a1 => timeOk a1
  | .timeSlewEnd a0 => timeOk a0
  | .holdoverLimit a0 => timeOk a0
  | .timeXferReceived a0 => timeOk a0.msg.at'
  | .ethFrameReceived a0 => timeOk a0.rx
  | .rtpPacketReceived a0 => timeOk a0.rx
  | .rtcpSrReceived a0 => timeOk a0.rx
  | .netLink _ _ a2 => timeOk a2
  | .jitterRelease _ a1 => timeOk a1
  | .gapTimeout _ a1 => timeOk a1
  | .silenceTimeout _ a1 => timeOk a1
  | .laneFree _ a1 => timeOk a1
  | .decodePreempt _ _ a2 => timeOk a2
  | .decodeComplete _ _ a2 => timeOk a2
  | .ingestFrameComplete _ a1 a2 => fits 4 a1 && timeOk a2
  | .decLaneSafePoint _ a1 => timeOk a1
  | .playbackPoll _ _ a2 => timeOk a2
  | .frameStart _ => true
  | .vblankStart _ a1 => timeOk a1
  | .lineCompose _ a1 _ => a1 < 8192
  | .tileDeparture a0 _ => a0.row < 128 && a0.col < 128
  | .outputCheckComplete a0 _ a2 => a0.row < 128 && a0.col < 128 && timeOk a2
  | .flaundRecordAssembly _ a1 => timeOk a1
  | .bufRetired _ a1 => timeOk a1
  | .headSafePoint _ a1 => timeOk a1
  | .headPllLocked _ a1 => timeOk a1
  | .mstAllocationDone _ a1 => timeOk a1
  | .linkTrainComplete _ _ a2 => timeOk a2
  | .linkTrainFail _ _ a2 => timeOk a2
  | .linkTrainRetry _ a1 => timeOk a1
  | .hpdUnplug _ a1 => timeOk a1
  | .irqHpd _ _ a2 => timeOk a2
  | .hpdReturn _ a1 => timeOk a1
  | .dpTopology _ _ a2 => timeOk a2
  | .helloReceived a0 => timeOk a0.at'
  | .helloSend a0 => timeOk a0
  | .heartbeatReceived a0 => timeOk a0.msg.at'
  | .udpHeartbeatReceived a0 => timeOk a0.at'
  | .leadStateReceived a0 => fits 1 a0.tstate && fits 4 a0.uWall && timeOk a0.at'
  | .leadStateSend a0 => timeOk a0
  | .admitReceived a0 => timeOk a0.at'
  | .xchgDeadline a0 => timeOk a0
  | .borrowReqReceived a0 => timeOk a0.msg.at'
  | .borrowDataReceived _ _ _ a3 => timeOk a3
  | .borrowWaitTimeout _ _ a2 => timeOk a2
  | .borrowIdleTimeout _ a1 => timeOk a1
  | .openBorrowExpiry _ a1 => timeOk a1
  | .sigReceived a0 => timeOk a0.at'
  | .sigLate _ a1 => timeOk a1
  | .cmdFrameReceived a0 => timeOk a0.msg.at'
  | .cmdAckReceived a0 => timeOk a0.msg.at'
  | .flumeResend a0 a1 => fits 4 a0.fseq && timeOk a1
  | .eventFrameReceived a0 a1 => timeOk a0.msg.time && fits 2 a0.msg.code && timeOk a1
  | .stateFrameReceived _ a1 => timeOk a1
  | .snapReceived a0 => timeOk a0.msg.at'
  | .snapAckReceived _ a1 _ a3 => fits 4 a1 && timeOk a3
  | .snapshotPeriod a0 => timeOk a0
  | .flumeLaneLoss _ a1 => timeOk a1
  | .flumeLaneRejoin _ a1 => timeOk a1
  | .flumeSafePoint a0 => timeOk a0
  | .twinPartnerReplaced a0 => timeOk a0
  | .twinSnapOld a0 => timeOk a0
  | .encRowCoded _ a1 a2 => a1.sizes.length == 52 && timeOk a2
  | .encRecordAssembly _ a1 => timeOk a1
  | .encSessionSafePoint _ a1 => timeOk a1
  | .rtcpSrSend _ a1 => timeOk a1
  | .touchSlotMeasure _ a1 a2 => a1.length == 16 && a1.all (· ≤ 4095) && timeOk a2
  | .touchMaxHold _ a1 => timeOk a1
  | .touchDriftUncomp _ a1 => timeOk a1
  | .touchSave a0 => timeOk a0
  | .touchSafePoint a0 => timeOk a0
  | .memReadResult _ a1 _ a3 a4 => fits 5 a1 && a3.arrived.all (fun w => fits 5 w.addr && timeOk w.arr) && timeOk a4
  | .ceRewrite _ a1 a2 => fits 5 a1 && timeOk a2
  | .scrubSegment _ a1 a2 _ a4 => fits 3 a1 && a2.length == 16 && timeOk a4
  | .basinScrub _ _ a2 => timeOk a2
  | .basinUe _ a1 => timeOk a1
  | .refreshDue _ _ a2 => timeOk a2
  | .mr4Read _ a1 a2 => a1 < 3 && timeOk a2
  | .coldRankIdle _ a1 => timeOk a1
  | .rankWake _ a1 => timeOk a1
  | .setpointSwitch _ _ _ a3 => timeOk a3
  | .memSetpointDone a0 => timeOk a0
  | .thermalSample a0 a1 => a0.length == 16 && timeOk a1
  | .thermalLevelRepeat a0 => timeOk a0
  | .avsReadback _ a1 => timeOk a1
  | .flashQueueDrain _ a1 => timeOk a1
  | .configSnapshotWrite _ a1 => timeOk a1
  | .selftestSlice a0 _ a2 => (match a0 with | .basin r => decide (r < 768) | _ => true) && timeOk a2
  | .selftestRecordAge a0 => timeOk a0
  | .serviceTokenExpiry a0 => timeOk a0
  | .cuFeedComplete _ _ a2 => timeOk a2
  | .delayReqSend _ _ a2 => timeOk a2.ns && a2.quarter < 4
  | .mergeWindowClose _ _ a2 => timeOk a2

/-- Whether a command or happening is well formed: a packet's fields fit, and a happening's operands fit the unit they
name. -/
def Instr.wf (i : Instr) : Bool :=
  match i.packet with
  | some (h, c) => h.wf && c.wf
  | none => i.operandsOk

end Sys2Proof
end

