-- ==== Sys2Proof/Certificates/Slice0/Obligations.lean ====
section
/-! DEFINITION. The statements about the model, each a rule of the spec or a consequence of its rules. `Completes i s P` says that the
command completes with the property, so a statement that ends in it says where the command completes and with what.
The contents of an event whose raising rule gives none are the model's (log 19), and a clause by which a happening whose condition does not hold
changes nothing is the model's too (log 83): such clauses cite no rule. -/
open Sys2Proof Sys2Proof.Machine

/-! ## The queue, the address checks and the interface -/

/-- A step takes the command at the front of the queue and is its execution with the queue's rest; an empty queue idles (log 6). -/
def Obligations.StepRunsFrontCommand : Prop :=
  (∀ (s : State) (i : Instr) (rest : List Instr), s.pending = i :: rest → step s = exec i { s with pending := rest })
  ∧ ∀ s : State, s.pending = [] → step s = .next s

/-- R376, R303, R302: an access to an address that does not exist faults, whatever the state. -/
def Obligations.AbsentAddressesFault : Prop :=
  (∀ (s : State) (off : Nat) (v : Reg32) (at' : Time64), off % 4 ≠ 0 ∨ 65536 ≤ off →
    exec (.registerWrite off v) s = .fault .badAddress ∧ exec (.bar0LowWordRead off at') s = .fault .badAddress)
  ∧ (∀ (s : State) (off : Nat) (data : Bytes) (n : Nat) (g : List ReadResult),
    (2 ^ 28 < off + data.length → exec (.bar2Write off data) s = .fault .badAddress)
    ∧ (2 ^ 28 < off + n → exec (.bar2Read off n g) s = .fault .badAddress))
  ∧ ∀ (s : State) (ch : Fin 8) (addr : Nat) (r : ReadResult) (q : Requester) (arrived : List MemReq)
    (at' : Time64), 14 * 2 ^ 30 ≤ addr →
    exec (.memReadResult ch addr r ⟨q, arrived⟩ at') s = .fault .badAddress ∧ exec (.ceRewrite ch addr at') s = .fault .badAddress

/-- R364, R366: the doorbells and the configuration of a queue pair while BAR0 takes writes. An index outside the ring sets DOORBELL_ERR and moves
nothing; enabling restarts the indices (log 16). R374: the event ring. Enabling it restarts its indices (log 16), a consumer index frees records, and
a record is written while there is room. -/
def Obligations.HostRings : Prop :=
  ((∀ (s : State) (q : Fin 8) (idx : Nat) (at' : Time64), s.bar0Open = true → (s.queue q).enabled = true →
    Completes (.cmdqSqTail q idx at') s (fun t =>
      (if idx < (s.queue q).size then (t.queue q).tail = idx ∧ (t.queue q).doorbellErr = (s.queue q).doorbellErr
        else (t.queue q).tail = (s.queue q).tail ∧ (t.queue q).doorbellErr = true)
      ∧ (∀ p : Nat, p ≠ q.val → t.queue p = s.queue p) ∧ t.cmd.accepted = s.cmd.accepted ∧ OnlyInterface s t))
  ∧ (∀ (s : State) (q : Fin 8) (idx : Nat), s.bar0Open = true → (s.queue q).enabled = true →
    Completes (.cmdqCqHead q idx) s (fun t =>
      (if idx < (s.queue q).size then
        (t.queue q).cqHead = consumeTo (s.queue q).size (s.queue q).cqHead (s.queue q).cqCount idx
        else (t.queue q).cqHead = (s.queue q).cqHead ∧ (t.queue q).doorbellErr = true)
      ∧ (∀ p : Nat, p ≠ q.val → t.queue p = s.queue p) ∧ t.cmd.accepted = s.cmd.accepted ∧ OnlyInterface s t))
  ∧ (∀ (s : State) (q : Fin 8) (v : Reg32), s.bar0Open = true → (s.queue q).enabled = false → v.getLsbD 0 = true →
    Completes (.cmdqCfgWrite q v) s (fun t =>
      (t.queue q).cfg = v &&& 0x3FF ∧ (t.queue q).enabled = true ∧ (t.queue q).sqHead = 0 ∧ (t.queue q).tail = 0
      ∧ (t.queue q).cqCount = 0 ∧ (t.queue q).sqBase = (s.queue q).sqBase ∧ (t.queue q).cqBase = (s.queue q).cqBase
      ∧ (∀ p : Nat, p ≠ q.val → t.queue p = s.queue p) ∧ OnlyInterface s t)))
  ∧ ((∀ (s : State) (v : Reg32), s.bar0Open = true → s.events.enabled = false → s.events.gap = none →
    Completes (.evqCfgWrite v) s (fun t =>
      t.events.cfg = v &&& 0x7FF ∧ (v.getLsbD 0 = true → t.events.prod = 0 ∧ t.events.cons = 0)
      ∧ t.events.history = s.events.history ∧ t.events.next = s.events.next ∧ OnlyEvents s t))
  ∧ (∀ (s : State) (idx : Nat), s.bar0Open = true → s.events.enabled = true → idx < s.events.size → s.events.gap = none →
    Completes (.evqCons idx) s (fun t =>
      t.events = { s.events with cons := consumeTo s.events.size s.events.cons s.events.prod idx } ∧ OnlyEvents s t))
  ∧ (∀ (s : State) (r : EventRec), s.powered = true → s.power.perst = false → s.events.room = true → s.events.gap = none →
    s.events.history.find? (fun x => s.events.written ≤ x.seq) = some r →
    Completes .evqRecordWrite s (fun t =>
      t.events = { s.events with prod := s.events.prod + 1, written := r.seq + 1 }
      ∧ s.sent t (.hostWrite (s.events.base + 64 * (s.events.prod % s.events.size)) (eventBytes r))
      ∧ t.cmd.irqCause = s.cmd.irqCause ||| 0x100)))

/-- R376: a read of a 64-bit register latches its high word, which the read of the next offset returns, and no read changes the wall. A write of
SYS_IRQN_MASK is taken whole, and an offset that no register has takes nothing. R376, R223, R303: the write-1-to-clear registers and the BAR2 window.
A cleared bit is cleared, every other bit stays, and SPI_REPLY stays while a reply is unread (R369). R369, R367: a status read shifts out the window
and clears its two sticky flags, and a reply that is read frees its buffer. -/
def Obligations.HostRegisters : Prop :=
  (((∀ (s : State) (at' : Time64), s.powered = true → s.power.perst = false →
    Completes (.bar0LowWordRead 0x100 at') s (fun t =>
      s.sent t (.readData (BitVec.ofNat 32 at')) ∧ OnlyInterface s t
      ∧ ∀ at2 : Time64, Completes (.bar0LowWordRead 0x104 at2) t (fun u =>
          t.sent u (.readData (BitVec.ofNat 32 (at' / 2 ^ 32 % 2 ^ 32))) ∧ OnlyInterface t u)))
  ∧ (∀ (s : State) (v : Reg32), s.bar0Open = true →
    Completes (.registerWrite 0x2C v) s (fun t => t = { s with cmd := { s.cmd with irqMask := v } }))
  ∧ ∀ (s : State) (v : Reg32), s.bar0Open = true → Completes (.registerWrite 0x7F0 v) s (fun t => t = s))
  ∧ ((∀ (s : State) (v : Reg32), s.bar0Open = true → s.cmd.spi.replies = [] →
    Completes (.sysIrqCauseW1c v) s (fun t => t.cmd.irqCause = s.cmd.irqCause &&& ~~~v ∧ OnlyInterface s t))
  ∧ (∀ (s : State) (v : Reg32), s.bar0Open = true → s.cmd.spi.replies ≠ [] →
    Completes (.sysIrqCauseW1c v) s (fun t =>
      t.cmd.irqCause = (s.cmd.irqCause &&& ~~~v) ||| (s.cmd.irqCause &&& 0x200) ∧ OnlyInterface s t))
  ∧ (∀ (s : State) (h : Fin 32) (v : Reg32), s.bar0Open = true →
    Completes (.headStatusW1c h v) s (fun t =>
      (∀ b : Nat, (t.head h).sticky.testBit b = ((s.head h).sticky.testBit b && headSticky.testBit b && !v.getLsbD b))
      ∧ (∀ g : Nat, g ≠ h.val → t.head g = s.head g) ∧ t.cmd = s.cmd ∧ t.events = s.events))
  ∧ (∀ (s : State) (v : Reg32), s.bar0Open = true → (v &&& 0x1FFF).toNat + 256 ≤ pv s.cfg pMemHostSize 0 →
    Completes (.sysBar2BaseWrite v) s (fun t => t = { s with cmd := { s.cmd with bar2Next := some (v &&& 0x1FFF) } }))
  ∧ ∀ (s : State) (b : Reg32), s.cmd.bar2Next = some b →
    Completes .bar2BaseTakeEffect s (fun t => t = { s with cmd := { s.cmd with bar2Base := b, bar2Next := none } })))
  ∧ ((∀ (s : State) (at' : Time64), s.powered = true →
    Completes (.statusRead at') s (fun t =>
      s.sent t (.miso (statusWindow (atTime at' s))) ∧ t.cmd.spi = { s.cmd.spi with crcErr := false, overrun := false } ∧ OnlyInterface s t))
  ∧ (∀ (s : State) (r : Bytes) (rest : List Bytes), s.powered = true → s.cmd.spi.replies = r :: rest →
    Completes .replyRead s (fun t =>
      s.sent t (.miso r) ∧ t.cmd.spi = { s.cmd.spi with replies := rest, held := s.cmd.spi.held - 1 } ∧ OnlyInterface s t))
  ∧ ∀ s : State, s.powered = true → s.cmd.spi.replies = [] →
    Completes .replyRead s (fun t => t.cmd = s.cmd ∧ OnlyInterface s t))

/-- R456: PCIE_PERST_N low disables every pair and the event ring and leaves the wall as it is; when it rises, the read-write registers of the host
interface hold their reset values (log 17). -/
def Obligations.PerstResetsEndpoint : Prop :=
  (∀ s : State, Completes .pciePerstNLow s (fun t =>
    t.power.perst = true ∧ (∀ q : Nat, (t.queue q).enabled = false) ∧ t.events.enabled = false
    ∧ t = { s with power := { s.power with perst := true }, cmd := { s.cmd with queues := [] }, events := { s.events with cfg := t.events.cfg } }))
  ∧ ∀ s : State, s.power.perst = true → Completes .pciePerstNHigh s (fun t =>
    t.power.perst = false ∧ t.cmd.irqCause = 0 ∧ t.cmd.irqMask = 0 ∧ t.cmd.bar2Base = 0 ∧ (∀ q : Nat, t.queue q = queueInit)
    ∧ t.events.base = 0 ∧ t.events.cfg = 0 ∧ t.events.history = s.events.history ∧ t.pins = s.pins ∧ t.heads = s.heads
    ∧ t.cmd.accepted = s.cmd.accepted ∧ t.cmd.spi = s.cmd.spi)

/-! ## Command packets -/

/-- R361, R363: a non-query command of any opcode that gets in and fails no check joins the accepted commands with its apply tick; what it sets is
left to that tick. In HOT it goes to the peer as well (R242). -/
def Obligations.CommandsJoinAccepted : Prop :=
  ∀ (i : Instr) (h : CmdHdr) (k : Cmd) (s s1 : State), i.packet = some (h, k) → isQuery k = false → intake h.transport s = (true, s1) →
    checkCmd (atTime h.arrival s1) h k = none →
    Completes i s (fun t => s.joined t h k ∧ t.cmd.order = s.cmd.order + 1 ∧ t.cfg = s.cfg ∧ OnlyAcceptance s t)

/-- R362, R356: a query of any opcode that gets in and fails no check is answered at once, with OK and its result from the state in force; it joins no
queue and changes no configuration. -/
def Obligations.QueriesAnsweredAtOnce : Prop :=
  ∀ (i : Instr) (h : CmdHdr) (k : Cmd) (s s1 : State), i.packet = some (h, k) → isQuery k = true → intake h.transport s = (true, s1) →
    checkCmd (atTime h.arrival s1) h k = none →
    Completes i s (fun t =>
      s.sent t (.reply ⟨h.transport, opcodeOf k, h.tag, h.seq, s.time.decided, .ok, 0, s.events.next,
        queryResult (noteReplay h (atTime h.arrival s1)) k, h.resultAddr, h.resultMax⟩)
      ∧ t.cmd.accepted = s.cmd.accepted ∧ t.cmd.order = s.cmd.order ∧ t.cfg = s.cfg ∧ t.pins = s.pins ∧ t.ledger = s.ledger
      ∧ t.panes = s.panes ∧ t.events.history = s.events.history ∧ t.power = s.power ∧ t.life = s.life
      ∧ t.time = { s.time with now := h.arrival })

/-- R357, R356: a command of any opcode that fails a check is answered with the first check's status and DETAIL, and nothing but the interface that
carries the answer changes. -/
def Obligations.RejectionsChangeNothing : Prop :=
  ∀ (i : Instr) (h : CmdHdr) (k : Cmd) (s s1 : State) (st : Status) (d : Nat), i.packet = some (h, k) →
    intake h.transport s = (true, s1) → h.transport ≠ .reg → checkCmd (atTime h.arrival s1) h k = some (st, d) →
    Completes i s (fun t =>
      s.sent t (.reply ⟨h.transport, opcodeOf k, h.tag, h.seq, s.time.decided, st, d, s.events.next, [], h.resultAddr, h.resultMax⟩)
      ∧ t.cmd.accepted = s.cmd.accepted ∧ t.cmd.order = s.cmd.order ∧ OnlyInterface s t)

/-- R361: with APPLY_TICK 0 a command takes the first tick whose decision point is not yet decided and lies at least 20 µs ahead; a later tick that it
names is taken as it stands, up to 2^24 ahead; an earlier one moves to the first, or with STRICT is refused. -/
def Obligations.ApplyTickRule : Prop :=
  ∀ (s : State) (h : CmdHdr),
    s.time.decided < (s.resolve 20000 h).tick ∧ s.time.now + 20000 ≤ s.grid.decideT (s.resolve 20000 h).tick
    ∧ (∀ m : Nat, h.applyTick = 0 → s.time.decided < m → s.time.now + 20000 ≤ s.grid.decideT m → (s.resolve 20000 h).tick ≤ m)
    ∧ (h.applyTick ≠ 0 → h.applyTick ≤ s.time.tick + 2 ^ 24 → s.time.decided < h.applyTick →
        s.time.now + 20000 ≤ s.grid.decideT h.applyTick → s.resolve 20000 h = ⟨h.applyTick, false⟩)
    ∧ (h.applyTick ≠ 0 → s.time.tick + 2 ^ 24 < h.applyTick → (s.resolve 20000 h).bad = true)
    ∧ (h.applyTick ≠ 0 → h.applyTick ≤ s.time.tick + 2 ^ 24 → s.grid.decideT h.applyTick < s.time.now + 20000 →
        (s.resolve 20000 h).bad = h.strict)

/-- R366, R367, R371: the packets of the three transports as bytes. One that gets in, is laid out as its opcode says and fails no check joins the
accepted commands. R367, R366, R371, R372: what a packet that does not get in leaves. A frame cut short or with a bad FRAME_CRC sets SPI_CRC_ERR, a
packet with no buffer SPI_OVERRUN, a PCIe error of the fetch or of the write of a query's result FETCH_ERR with CMDQ_FAULT, a bad MAC is counted, and
no command is accepted (log 82). -/
def Obligations.PacketTransports : Prop :=
  ((∀ (s s1 : State) (q : Fin 8) (f : SqFetch) (t : Time64) (k : Cmd), intake (.pcie q) s = (true, s1) → f.pcieErr = false →
    (parseSq f).cmd = .ok k → isQuery k = false →
    checkCmd (atTime t s1) (hdrOf (.pcie q) t (fld f.entry 32 8) (fld f.entry 40 4) (parseSq f).hdr) k = none →
    Completes (.sqEntryFetch q f t) s (fun u =>
      s.joined u (hdrOf (.pcie q) t (fld f.entry 32 8) (fld f.entry 40 4) (parseSq f).hdr) k
      ∧ (u.queue q).sqHead = ((s.queue q).sqHead + 1) % (s.queue q).size ∧ (u.queue q).inFlight = (s.queue q).inFlight + 1
      ∧ OnlyAcceptance s u))
  ∧ (∀ (s : State) (frame b : Bytes) (t : Time64) (k : Cmd), s.powered = true → s.mem.fatal = false → s.cmd.spi.held < 4 →
    spiPacket frame = some b → (parsePacket b).cmd = .ok k → isQuery k = false →
    checkCmd (atTime t { s with cmd := { s.cmd with spi := { s.cmd.spi with held := s.cmd.spi.held + 1 } } })
      (hdrOf .spi t 0 0 (parsePacket b).hdr) k = none →
    Completes (.cmdWrite frame true t) s (fun u =>
      s.joined u (hdrOf .spi t 0 0 (parsePacket b).hdr) k ∧ u.cmd.spi.held = s.cmd.spi.held + 1
      ∧ u.cmd.spi.lastTag = (parsePacket b).hdr.tag ∧ OnlyAcceptance s u))
  ∧ (∀ (s : State) (src : AddrRec) (g : Bytes) (t : Time64) (k : Cmd), s.powered = true → s.mem.fatal = false →
    s.life.installId.isSome = true → udpMacOk s.life.installKey g = true → udpClient g < 16 → fld g 2 2 = 0 →
    (parsePacket (udpPacket g)).cmd = .ok k → isQuery k = false →
    checkCmd (atTime t s) (hdrOf (.udp (udpClient g) src) t 0 0 (parsePacket (udpPacket g)).hdr) k = none →
    Completes (.udpCommandDatagram src g false t) s (fun u =>
      s.joined u (hdrOf (.udp (udpClient g) src) t 0 0 (parsePacket (udpPacket g)).hdr) k ∧ OnlyAcceptance s u)))
  ∧ ((∀ (s : State) (frame : Bytes) (complete : Bool) (t : Time64), s.powered = true → (spiPacket frame).isNone = true ∨ complete = false →
    s.cmd.spi.held < 4 →
    Completes (.cmdWrite frame complete t) s (fun u => u = { s with cmd := { s.cmd with spi := { s.cmd.spi with crcErr := true } } }))
  ∧ (∀ (s : State) (frame : Bytes) (t : Time64), s.powered = true → s.mem.fatal = false → (spiPacket frame).isSome = true →
    4 ≤ s.cmd.spi.held →
    Completes (.cmdWrite frame true t) s (fun u => u = { s with cmd := { s.cmd with spi := { s.cmd.spi with overrun := true } } }))
  ∧ (∀ (s s1 : State) (q : Fin 8) (f : SqFetch) (t : Time64), intake (.pcie q) s = (true, s1) → f.pcieErr = true →
    Completes (.sqEntryFetch q f t) s (fun u =>
      (u.queue q).fetchErr = true ∧ (u.queue q).sqHead = (s.queue q).sqHead ∧ u.cmd.accepted = s.cmd.accepted
      ∧ s.raised u .cmdqFault none [(1, q.val)]))
  ∧ (∀ (s s1 : State) (q : Fin 8) (f : SqFetch) (t : Time64), intake (.pcie q) s = (true, s1) → f.pcieErr = false → f.resultErr = true →
    queryEntry f = true →
    wroteResult f s1 (acceptParsed (.pcie q) t (fld f.entry 32 8) (fld f.entry 40 4) (parseSq f) (atTime t s1)) = true →
    Completes (.sqEntryFetch q f t) s (fun u => (u.queue q).fetchErr = true ∧ (u.queue q).stalled = false ∧ s.raised u .cmdqFault none [(1, q.val)]))
  ∧ ∀ (s : State) (src : AddrRec) (g : Bytes) (t : Time64), s.powered = true → s.life.installId.isSome = true →
    udpMacOk s.life.installKey g = false →
    Completes (.udpCommandDatagram src g false t) s (fun u =>
      u.cmd.authFail = (s.cmd.authFail + 1) % 2 ^ 32 ∧ u.cmd.accepted = s.cmd.accepted ∧ u.cfg = s.cfg
      ∧ ((∀ x, s.cmd.authFailT = some x → x + 1000000000 ≤ t) → s.raised u .cmdAuthFail none [])))

/-- R377: a BAR0 write of a LIVE_MAP, LIVE_DARK_MAP or LIVE_DARK_POL register is accepted as a HEAD command with apply tick 0. -/
def Obligations.LiveMapWrites : Prop :=
  (∀ (s : State) (x : Fin 16) (v : Reg32) (t : Time64), s.bar0Open = true → s.mem.fatal = false →
    checkCmd (atTime t s) ⟨.reg, 0, 0, 0, false, 0, 0, 0, t⟩ (.headSet [⟨pLiveMap, x.val, 0, .num v.toNat⟩]) = none →
    Completes (.liveMapWrite x v t) s (fun u =>
      s.joined u ⟨.reg, 0, 0, 0, false, 0, 0, 0, t⟩ (.headSet [⟨pLiveMap, x.val, 0, .num v.toNat⟩]) ∧ u.cfg = s.cfg ∧ OnlyAcceptance s u))
  ∧ (∀ (s : State) (x : Fin 4) (v : Reg32) (t : Time64), s.bar0Open = true → s.mem.fatal = false →
    checkCmd (atTime t s) ⟨.reg, 0, 0, 0, false, 0, 0, 0, t⟩ (.headSet [⟨pLiveDarkMap, x.val, 0, .num v.toNat⟩]) = none →
    Completes (.liveDarkMapWrite x v t) s (fun u =>
      s.joined u ⟨.reg, 0, 0, 0, false, 0, 0, 0, t⟩ (.headSet [⟨pLiveDarkMap, x.val, 0, .num v.toNat⟩]) ∧ u.cfg = s.cfg ∧ OnlyAcceptance s u))
  ∧ ∀ (s : State) (v : Reg32) (t : Time64), s.bar0Open = true → s.mem.fatal = false →
    checkCmd (atTime t s) ⟨.reg, 0, 0, 0, false, 0, 0, 0, t⟩ (.headSet [⟨pLiveDarkPol, 0, 0, .num v.toNat⟩]) = none →
    Completes (.liveDarkPolWrite v t) s (fun u =>
      s.joined u ⟨.reg, 0, 0, 0, false, 0, 0, 0, t⟩ (.headSet [⟨pLiveDarkPol, 0, 0, .num v.toNat⟩]) ∧ u.cfg = s.cfg ∧ OnlyAcceptance s u)

/-- R303, R304: a write through the aperture stores its bytes at the window's device address and no other byte; a read with no lost granule answers
the bytes there, one with a lost granule aborts, and neither changes DRAM. R318: a read in the outage of a set-point switch is held. -/
def Obligations.ApertureAccess : Prop :=
  (∀ (s : State) (off : Nat) (data : Bytes), off + data.length ≤ 2 ^ 28 → s.cmd.ready = true → s.powered = true →
    s.power.perst = false → s.mem.fatal = false → Memory.wf s.dram = true →
    Completes (.bar2Write off data) s (fun t =>
      dramRead t.dram (bar2Addr s off) data.length = data
      ∧ (∀ a : Nat, a < bar2Addr s off ∨ bar2Addr s off + data.length ≤ a → dramGet t.dram a = dramGet s.dram a)
      ∧ t = { s with dram := t.dram, mem := { s.mem with chans := t.mem.chans, poison := t.mem.poison, rewrites := t.mem.rewrites } }))
  ∧ ∀ (s : State) (off n : Nat) (g : List ReadResult), off + n ≤ 2 ^ 28 → s.cmd.ready = true → s.powered = true →
    s.power.perst = false → s.mem.fatal = false →
    (s.mem.outage = true → Completes (.bar2Read off n g) s (fun t =>
      t = { s with mem := { s.mem with held := s.mem.held ++ [⟨off, n, g⟩] } }))
    ∧ (s.mem.outage = false → Completes (.bar2Read off n g) s (fun t =>
      t.dram = s.dram ∧ t.cfg = s.cfg ∧ t.cmd = s.cmd
      ∧ t.out.getLast? = some (if (readAll (granulesOf (bar2Addr s off) n) g s).1 then .completerAbort
          else .bar2Data (dramRead s.dram (bar2Addr s off) n))))

/-! ## Memory -/

/-- R309, R312: a granule read that has its turn on its channel. One with a write queued is answered from the queue. Without an error nothing is
reported; an uncorrectable granule is POISON with MEM_UE, and its requester gets its loss: a reference its units, the intra base its fault, an encode
reference the next IDR; a POISON granule is lost without a new event. A read that another precedes, or that comes in the outage of a set-point switch,
waits in the channel's queue. R309, R310: the rewrite of a corrected granule, and the patrol scrubber's segment: 56 granules are read, and a tag that
does not agree with the allocation makes all of them POISON with MEM_ADDR_FAULT. A rank in power-down or in self-refresh is not scrubbed, and a
granule with a write queued is not read from DRAM (R312, R318). -/
def Obligations.GranulesAndScrubs : Prop :=
  ((∀ (s : State) (ch : Fin 8) (addr : Nat) (q : Requester) (l : List MemReq) (at' : Time64), s.readsNext ch addr q l at' →
    s.readsQueue ch addr q l at' = false → s.mem.poison.contains (placeOf s.mem addr).ga = false →
    Completes (.memReadResult ch addr .ok ⟨q, l⟩ at') s (fun t =>
      (t.chan ch).cnt.readBytes = ((s.chan ch).cnt.readBytes + 16) % 2 ^ 64 ∧ t.events = s.events ∧ t.mem.poison = s.mem.poison
      ∧ OnlyMemory s t))
  ∧ (∀ (s : State) (ch : Fin 8) (addr : Nat) (r : ReadResult) (q : Requester) (l : List MemReq) (at' : Time64),
    s.readsNext ch addr q l at' → s.readsQueue ch addr q l at' = true →
    Completes (.memReadResult ch addr r ⟨q, l⟩ at') s (fun t =>
      (t.chan ch).cnt.readBytes = (s.chan ch).cnt.readBytes ∧ t.events = s.events ∧ t.mem.poison = s.mem.poison ∧ OnlyMemory s t))
  ∧ (∀ (s : State) (ch : Fin 8) (addr : Nat) (l : List MemReq) (at' : Time64) (x : Fin 128) (us : List Nat),
    s.readsNext ch addr (.decRef x us) l at' → s.readsQueue ch addr (.decRef x us) l at' = false →
    s.mem.poison.contains (placeOf s.mem addr).ga = false →
    Completes (.memReadResult ch addr .uncorrectable ⟨.decRef x us, l⟩ at') s (fun t =>
      (placeOf s.mem addr).ga ∈ t.mem.poison ∧ (t.chan ch).cnt.ue = ((s.chan ch).cnt.ue + 1) % 2 ^ 32
      ∧ (t.stream x).lostUnits = dedup ((s.stream x).lostUnits ++ us)
      ∧ s.raised t .memUe none [(1, ch.val), (4, (placeOf s.mem addr).seg), (1, (placeOf s.mem addr).gi), (1, 2)]))
  ∧ (∀ (s : State) (ch : Fin 8) (addr : Nat) (r : ReadResult) (l : List MemReq) (at' : Time64) (x : Fin 128),
    s.readsNext ch addr (.intraBase x) l at' → s.readsQueue ch addr (.intraBase x) l at' = false →
    s.mem.poison.contains (placeOf s.mem addr).ga = true →
    Completes (.memReadResult ch addr r ⟨.intraBase x, l⟩ at') s (fun t =>
      (t.frz x).baseBad = true ∧ t.events = s.events ∧ t.mem.poison = s.mem.poison))
  ∧ (∀ (s : State) (ch : Fin 8) (addr : Nat) (r : ReadResult) (l : List MemReq) (at' : Time64) (x : Fin 16),
    s.readsNext ch addr (.encRef x) l at' → s.readsQueue ch addr (.encRef x) l at' = false →
    s.mem.poison.contains (placeOf s.mem addr).ga = true →
    Completes (.memReadResult ch addr r ⟨.encRef x, l⟩ at') s (fun t => 0 < (t.session x).idrDue ∧ t.events = s.events))
  ∧ ∀ (s : State) (ch : Fin 8) (addr : Nat) (r : ReadResult) (q : Requester) (l : List MemReq) (at' : Time64), addr < 14 * 2 ^ 30 →
    (placeOf s.mem addr).ch = ch.val → s.mem.fatal = false → s.mem.outage = true →
    Completes (.memReadResult ch addr r ⟨q, l⟩ at') s (fun t =>
      (∃ w ∈ (t.chan ch).reads, w.q = some q ∧ w.addr = addr) ∧ t.events = s.events ∧ OnlyMemory s t))
  ∧ ((∀ (s : State) (ch : Fin 8) (addr : Nat) (at' : Time64), addr < 14 * 2 ^ 30 → (placeOf s.mem addr).ch = ch.val →
    s.mem.rewrites.contains (ch.val, (placeOf s.mem addr).seg * 64 + (placeOf s.mem addr).gi) = true →
    Completes (.ceRewrite ch addr at') s (fun t =>
      t.mem.rewrites.contains (ch.val, (placeOf s.mem addr).seg * 64 + (placeOf s.mem addr).gi) = false
      ∧ (t.chan ch).cnt.writeBytes = ((s.chan ch).cnt.writeBytes + 16) % 2 ^ 64 ∧ t.events = s.events ∧ OnlyMemory s t))
  ∧ (∀ (s : State) (ch : Fin 8) (seg : Nat) (tag : Bytes) (at' : Time64), seg < 2 ^ 21 → s.mem.fatal = false → s.mem.outage = false →
    (seg < 2 ^ 20 ∨ (s.chan ch).rank1Pd = false) → tagOk s ch seg tag = true →
    Completes (.scrubSegment ch seg tag (List.replicate 56 .ok) at') s (fun t =>
      ((∀ gi : Nat, gi < 56 → writeQueued s ch seg gi = false) →
        (t.chan ch).cnt.readBytes % 2 ^ 64 = ((s.chan ch).cnt.readBytes + 56 * 16) % 2 ^ 64)
      ∧ t.mem.poison = s.mem.poison ∧ t.events = s.events ∧ OnlyMemory s t))
  ∧ (∀ (s : State) (ch : Fin 8) (seg : Nat) (tag : Bytes) (rs : List ReadResult) (at' : Time64), seg < 2 ^ 21 → s.mem.fatal = false →
    s.mem.outage = false → (seg < 2 ^ 20 ∨ (s.chan ch).rank1Pd = false) → tagOk s ch seg tag = false →
    Completes (.scrubSegment ch seg tag rs at') s (fun t =>
      (∀ gi : Nat, gi < 56 → gaOf ch seg gi ∈ t.mem.poison) ∧ s.raised t .memAddrFault none [(1, ch.val), (4, seg)] ∧ OnlyMemory s t))
  ∧ ∀ (s : State) (ch : Fin 8) (seg : Nat) (tag : Bytes) (rs : List ReadResult) (at' : Time64), seg < 2 ^ 21 →
    (s.mem.outage = true ∨ (2 ^ 20 ≤ seg ∧ (s.chan ch).rank1Pd = true)) → Completes (.scrubSegment ch seg tag rs at') s (fun t => t = s))

/-- R313: Basin faults. A word that the scrubber can read or correct shows nothing; an uncorrectable one has its owner's loss, a write outside the
owner's partition is dropped with MEM_BASIN_VIOLATION, and a lost firmware word stops the device. -/
def Obligations.BasinFaults : Prop :=
  (∀ (s : State) (w : BasinWord) (r : ReadResult) (at' : Time64), s.mem.fatal = false → r ≠ .uncorrectable →
    Completes (.basinScrub w r at') s (fun t => t = { s with time := { s.time with now := at' } }))
  ∧ (∀ (s : State) (x : Fin 128) (us : List Nat) (at' : Time64), s.mem.fatal = false →
    Completes (.basinScrub (.decCache x us) .uncorrectable at') s (fun t =>
      (t.stream x).lostUnits = dedup ((s.stream x).lostUnits ++ us) ∧ t.events = s.events ∧ t.heads = s.heads))
  ∧ (∀ (s : State) (p : Partition) (b : Nat) (at' : Time64), s.mem.fatal = false →
    Completes (.basinUe (.violation p b) at') s (fun t =>
      t.mem.violations = s.mem.violations + 1 ∧ s.raised t .memBasinViolation none [(1, partitionCode p), (1, b)] ∧ OnlyMemory s t))
  ∧ ∀ (s : State) (at' : Time64), s.mem.fatal = false →
    Completes (.basinUe .firmware at') s (fun t =>
      t.mem.fatal = true ∧ s.raised t .memFatal none [] ∧ ∀ h : Nat, h < 32 → (t.head h).running = false ∧ (t.head h).live = false)

/-- R315, R316, R314: a refresh that falls due is postponed up to the cap of the rate in force while urgent requests wait, or forced at it; otherwise
what is owed is repaid, and it is owed alone while SCAN requests wait; none is due in the outage of a set-point switch, or before its time. A derating
rate that a channel reports, at most once a millisecond, is in force with MEM_DERATE, a jump of two with MEM_DERATE_JUMP; a read during a set-point
switch waits; and rank 1 goes down after MEM_COLD_IDLE and comes up. -/
def Obligations.RefreshAndRanks : Prop :=
  (∀ (s : State) (ch : Fin 8) (at' : Time64), s.mem.outage = false → (s.chan ch).refT + refreshPeriod (s.chan ch).rate ≤ at' →
    urgentWaits (s.refreshed ch at') ch = false → scanWaits (s.refreshed ch at') ch = false →
    Completes (.refreshDue ch false at') s (fun t =>
      (t.chan ch).owed = 0 ∧ (t.chan ch).refT = at' ∧ (t.chan ch).reads = (s.chan ch).reads ∧ t.events = s.events ∧ OnlyMemory s t))
  ∧ (∀ (s : State) (ch : Fin 8) (at' : Time64), s.mem.outage = false → (s.chan ch).refT + refreshPeriod (s.chan ch).rate ≤ at' →
    urgentWaits (s.refreshed ch at') ch = false → scanWaits (s.refreshed ch at') ch = true →
    Completes (.refreshDue ch false at') s (fun t => t.chan ch = { s.chan ch with owed := 1, refT := at' } ∧ t.out = s.out ∧ OnlyMemory s t))
  ∧ (∀ (s : State) (ch : Fin 8) (u : Bool) (at' : Time64), s.mem.outage = false → (s.chan ch).refT + refreshPeriod (s.chan ch).rate ≤ at' →
    (u = true ∨ urgentWaits (s.refreshed ch at') ch = true) →
    Completes (.refreshDue ch u at') s (fun t =>
      (if (s.chan ch).owed < refreshCap (s.chan ch).rate then
        t.chan ch = { s.chan ch with owed := (s.chan ch).owed + 1, refT := at' } ∧ t.out = s.out
      else (t.chan ch).owed = (s.chan ch).owed ∧ (t.chan ch).cnt.forcedRef = ((s.chan ch).cnt.forcedRef + 1) % 2 ^ 32
        ∧ t.out = s.out ++ [.forcedRefresh ch 1]) ∧ OnlyMemory s t))
  ∧ (∀ (s : State) (ch : Fin 8) (u : Bool) (at' : Time64),
    (s.mem.outage = true ∨ at' < (s.chan ch).refT + refreshPeriod (s.chan ch).rate) → Completes (.refreshDue ch u at') s (fun t => t = s))
  ∧ (∀ (s : State) (ch : Fin 8) (rate : Nat) (at' : Time64), s.mem.outage = false → (s.chan ch).mr4T + 1000000 ≤ at' →
    min rate 2 ≠ (s.chan ch).rate →
    Completes (.mr4Read ch rate at') s (fun t =>
      (t.chan ch).rate = min rate 2 ∧ (t.chan ch).owed = min (s.chan ch).owed (refreshCap (min rate 2))
      ∧ (if (s.chan ch).rate = 0 ∧ 2 ≤ rate then s.raised t .memDerateJump none [(1, ch.val)]
        else s.raised t .memDerate none [(1, ch.val), (1, min rate 2)]) ∧ OnlyMemory s t))
  ∧ (∀ (s : State) (ch : Fin 8) (rate : Nat) (at' : Time64), s.mem.outage = true → (s.chan ch).mr4T + 1000000 ≤ at' →
    Completes (.mr4Read ch rate at') s (fun t =>
      t.chan ch = { s.chan ch with mr4Held := some (min rate 2), mr4T := at' } ∧ t.events = s.events ∧ OnlyMemory s t))
  ∧ (∀ (s : State) (ch : Fin 8) (at' : Time64), coldRank s = true → s.mem.fatal = false →
    (s.chan ch).rank1T + 1000000 * pv s.cfg pMemColdIdle 0 ≤ at' →
    Completes (.coldRankIdle ch at') s (fun t => t.chan ch = { s.chan ch with rank1Pd := true } ∧ OnlyMemory s t))
  ∧ ∀ (s : State) (ch : Fin 8) (at' : Time64), Completes (.rankWake ch at') s (fun t =>
      t.chan ch = { s.chan ch with rank1Pd := false } ∧ OnlyMemory s t)

/-- R317 to R319: the window of an armed set-point switch. Where every head has its lead and every queue is empty 10 µs before it and the target
locks, the outage begins; no refresh is owed from the check on; a failed check goes to the next tick; at its end the target is in force, every channel
counts the switch, and the next switch comes up. The unit in MEM_SETPOINT_DONE is log 73. -/
def Obligations.SetpointSwitches : Prop :=
  (∀ (s : State) (w : Switch) (us : Nat) (at' : Time64), s.mem.switch = some w → s.mem.outage = false → s.mem.fatal = false →
    s.powered = true → switchStart s w.tick ≤ at' + 10000 → switchReady (atTime at' s) = true →
    Completes (.setpointSwitch true us true at') s (fun t =>
      t.mem.outage = true ∧ t.mem.outageUs = us ∧ t.mem.switch = some w ∧ t.mem.fsp = s.mem.fsp
      ∧ (∀ ch : Nat, ch < 8 → t.chan ch = { s.chan ch with owed := 0 }) ∧ OnlyMemory s t))
  ∧ (∀ (s : State) (w : Switch) (ready : Bool) (us : Nat) (lock : Bool) (at' : Time64), s.mem.switch = some w → s.mem.outage = false →
    s.mem.fatal = false → s.powered = true → switchStart s w.tick ≤ at' + 10000 → (w.forced = true ∨ w.fails < 7) →
    (ready = false ∨ switchReady (atTime at' s) = false) →
    Completes (.setpointSwitch ready us lock at') s (fun t =>
      t.mem.switch = some { w with fails := w.fails + 1, tick := w.tick + 1 } ∧ t.mem.fsp = s.mem.fsp ∧ t.mem.outage = false
      ∧ (∀ ch : Nat, ch < 8 → t.chan ch = { s.chan ch with owed := 0 })
      ∧ s.raised t .memSetpointRetry none [(1, w.target)] ∧ OnlyMemory s t))
  ∧ (∀ (s : State) (w : Switch) (at' : Time64), s.mem.switch = some w → s.mem.outage = true → s.powered = true → w.hdr = none →
    s.mem.queued = [] → s.mem.held = [] →
    (∀ ch : Nat, ch < 8 → (s.chan ch).mr4Held = none) →
    Completes (.memSetpointDone at') s (fun t =>
      t.mem.fsp = w.target ∧ t.mem.outage = false ∧ t.mem.switch = none ∧ t.mem.scanFirst = true
      ∧ (∀ ch : Nat, ch < 8 → (t.chan ch).cnt.switches = ((s.chan ch).cnt.switches + 1) % 2 ^ 32)
      ∧ s.raised t .memSetpointDone w.tag [(4, 1000 * s.mem.outageUs)] ∧ OnlyMemory s t))

/-! ## Check-value units -/

/-- R327, R329: a feed that has ended goes into the unit's context and is answered with OK; a host feed that could not be read leaves the context and
is answered with FAIL and CU_FEED_FAULT. R332, R331: the classes of a comparison with two guarded copies, and with one value; a slot that CU_STORE
filled matches its own result. -/
def Obligations.CheckUnits : Prop :=
  ((∀ (s : State) (u : Fin 8) (a : Accepted) (addr len : Nat) (d : Bytes) (at' : Time64), (s.cuUnit u).busy = some a →
    a.cmd = .cuFeed u 1 addr len [] → d.length = len → (s.cuUnit u).queue = [] → s.powered = true → s.mem.fatal = false →
    Completes (.cuFeedComplete u (some d) at') s (fun t =>
      (t.cuUnit u).busy = none ∧ (t.cuUnit u).ctx = feedCtx (s.cuUnit u).ctx d ∧ t.refs = s.refs
      ∧ (∀ v : Nat, v ≠ u.val → t.cuUnit v = s.cuUnit v) ∧ t.events = s.events))
  ∧ (∀ (s : State) (u : Fin 8) (a : Accepted) (at' : Time64), (s.cuUnit u).busy = some a → (s.cuUnit u).queue = [] → s.powered = true →
    s.mem.fatal = false →
    Completes (.cuFeedComplete u none at') s (fun t =>
      (t.cuUnit u).busy = none ∧ (t.cuUnit u).ctx = (s.cuUnit u).ctx ∧ t.refs = s.refs ∧ s.raised t .cuFeedFault none [(1, u.val)]
      ∧ s.cmd.accepted = t.cmd.accepted)))
  ∧ ((∀ a b r : BitVec 64,
    classify true true a a r = (if r = a then (.isMatch, false) else (.dataMismatch, false))
    ∧ (a ≠ b → classify true true a b r = (.referenceLost, false))
    ∧ classify true false a b r = (if r = a then (.referenceFault, false) else (.dataMismatch, true))
    ∧ classify false true a b r = (if r = b then (.referenceFault, false) else (.dataMismatch, true))
    ∧ classify false false a b r = (.referenceLost, false))
  ∧ (∀ (s : State) (slot : Nat) (a b r : BitVec 64) (ga gb : Nat),
    cuClassify s 0 slot a ga b gb r = ((if r = a then .isMatch else .unclassified, false), a, b))
  ∧ ∀ (s : State) (slot : Nat) (a b v r : BitVec 64) (ga gb : Nat), s.refSlot slot = refOf v →
    cuClassify s 2 slot a ga b gb r = ((if r = v then .isMatch else .dataMismatch, false), v, ~~~v))

/-! ## Pins and event inputs -/

/-- R79: an edge of a DARK pin. Every head then follows the asserted pins mapped to it: an assertion blanks it at once and its live state falls, a
release lets it show from the first frame start two pixel clocks later, and a head whose pins did not change stays as it is. -/
def Obligations.DarkPinEdges : Prop :=
  ∀ (s : State) (p : Fin 4) (level : Bool) (t : Time64), Completes (.darkPinEdge p level t) s (fun u =>
    u.pins.dark = setNth level s.pins.dark p ∧ u.cfg = s.cfg ∧ u.events = s.events ∧ u.pins.darkMap = s.pins.darkMap
    ∧ (∀ h : Nat, h < 32 → (u.head h).darkPin = u.pinDark h
      ∧ (u.pinDark h = true → (s.head h).darkPin = false → (u.head h).blankNow = true ∧ (u.head h).live = false)
      ∧ (u.pinDark h = false → (s.head h).darkPin = true →
          (u.head h).darkFree = t + twoClocks s.grid (s.head h).timing ∧ (u.head h).blankNow = (s.head h).blankNow)
      ∧ (u.pinDark h = (s.head h).darkPin → u.head h = s.head h)))

/-- R349, R350: samples and accepted levels of an event input. A raw transition starts a run and counts; a level sampled for EVI_DEB is accepted, at
once with EVI_DEB 0, and the first change of a tick interval is reported at once with its edge and acceptance instants, a later one waits. R351: an
input that has stayed accepted active for EVI_STUCK_S is reported stuck, once. -/
def Obligations.EventInputs : Prop :=
  ((∀ (s : State) (x : Fin 32) (level : Bool) (t : Time64), s.powered = true →
    (level != bit (pv s.cfg pEviPol 0) x) = (s.eviIn x).runLevel →
    Completes (.eviSample x level t) s (fun u => u = { s with time := { s.time with now := t } }))
  ∧ (∀ (s : State) (x : Fin 32) (level : Bool) (t : Time64), s.powered = true →
    (level != bit (pv s.cfg pEviPol 0) x) ≠ (s.eviIn x).runLevel → pv s.cfg pEviDeb x ≠ 0 →
    Completes (.eviSample x level t) s (fun u =>
      u.eviIn x = { s.eviIn x with runLevel := level != bit (pv s.cfg pEviPol 0) x, runT := t, raw := (s.eviIn x).raw + 1 }
      ∧ (∀ y : Nat, y ≠ x.val → u.eviIn y = s.eviIn y) ∧ u.events = s.events))
  ∧ (∀ (s : State) (x : Fin 32) (t : Time64), s.powered = true → (s.eviIn x).runLevel ≠ (s.eviIn x).level →
    (s.eviIn x).runT + 1000000 * pv s.cfg pEviDeb x ≤ t → (s.eviIn x).reported = false →
    Completes (.eviAccept x t) s (fun u =>
      (u.eviIn x).level = (s.eviIn x).runLevel ∧ (u.eviIn x).reported = true ∧ (u.eviIn x).raw = 0 ∧ (u.eviIn x).edgeT = (s.eviIn x).runT ∧ (u.eviIn x).activeT = t
      ∧ (∀ y : Nat, y ≠ x.val → u.eviIn y = s.eviIn y)
      ∧ s.raised u .eviChange none [(1, x.val), (1, 0), (1, b2n (s.eviIn x).runLevel), (1, 0),
          (4, ((s.eviIn x).raw - b2n ((s.eviIn x).runLevel != (s.eviIn x).lastRep)) % 2 ^ 32), (8, (s.eviIn x).runT), (8, t)]))
  ∧ (∀ (s : State) (x : Fin 32) (t : Time64), s.powered = true → (s.eviIn x).runLevel ≠ (s.eviIn x).level →
    (s.eviIn x).runT + 1000000 * pv s.cfg pEviDeb x ≤ t → (s.eviIn x).reported = true →
    Completes (.eviAccept x t) s (fun u =>
      (u.eviIn x).level = (s.eviIn x).runLevel ∧ (u.eviIn x).merged.isSome = true ∧ u.events = s.events)))
  ∧ (∀ (s : State) (x : Fin 32) (t : Time64), s.powered = true → (s.eviIn x).level = true → (s.eviIn x).stuck = false →
    pv s.cfg pEviStuckS x ≠ 0 → (s.eviIn x).activeT + 1000000000 * pv s.cfg pEviStuckS x ≤ t →
    Completes (.eviStuck x t) s (fun u =>
      (u.eviIn x).stuck = true ∧ (u.eviIn x).level = true ∧ (∀ y : Nat, y ≠ x.val → u.eviIn y = s.eviIn y)
      ∧ s.raised u .eviStuck none [(1, x.val), (1, 1), (1, 1), (1, 0), (4, 0), (8, (s.eviIn x).edgeT), (8, (s.eviIn x).activeT)]))

/-- R52: the time pins. An edge of PPS_IN is reported with its offset from the nearest whole second, in quarter nanoseconds, and does not steer the
counter; PPS_OUT rises at a whole second, in FREE-RUN only with TIME_PPS_FREE 1, and is high for 100 ms unless FREE-RUN without it cuts it short. -/
def Obligations.TimePins : Prop :=
  (∀ (s : State) (t : Time64) (quarter : Nat), s.powered = true →
    Completes (.ppsInEdge t quarter) s (fun u =>
      s.raised u .ppsInEdge none [(8, twos 64
        (if 2000000000 < 4 * (t % 1000000000) + quarter % 4 then ((4 * (t % 1000000000) + quarter % 4 : Nat) : Int) - 4000000000
          else (4 * (t % 1000000000) + quarter % 4 : Nat)))]
      ∧ u.time = { s.time with now := t } ∧ OnlyEvents s u))
  ∧ (∀ (s : State) (t : Time64), s.alive = true → t % 1000000000 = 0 →
    (s.time.state ≠ .freeRun ∨ pv s.cfg pTimePpsFree 0 = 1) →
    Completes (.ppsOutSecond t) s (fun u =>
      u = { s with time := { s.time with now := t }, pins := { s.pins with ppsRise := some t }, out := s.out ++ [.ppsOut t] }
      ∧ ∀ v : Time64, (atTime v u).ppsOut = decide (t ≤ v ∧ v < t + 100000000)))
  ∧ ∀ (s : State) (t : Time64), s.time.state = .freeRun → pv s.cfg pTimePpsFree 0 = 0 →
    s.ppsOut = false ∧ Completes (.ppsOutSecond t) s (fun u => u = { s with time := { s.time with now := t } })

/-! ## Touch -/

/-- R336, R337: a group's slot takes the counts of its electrodes with a class, at the start of the slot; electrodes of other groups, and everything
but the touch unit and its events, stay as they are. R345: the baselines are saved when the period has passed, and at its safe point, the end of the
scan window under way, a touch unit that is being disabled stops: it has no electrode left, and no key is pressed. -/
def Obligations.TouchScans : Prop :=
  (∀ (s : State) (g : Fin 8) (counts : List Nat) (t : Time64), s.touch.running = true → s.touch.suspended = false →
    slotDue s (touchCfg s g t) g t = true →
    Completes (.touchSlotMeasure g counts t) s (fun u =>
      (tget touchGroupInit u.touch.groups g).lastTick = some (scanTick (touchCfg s g t) g t)
      ∧ (tget touchGroupInit u.touch.groups g).missed = 0
      ∧ (∀ e : Nat, e ∈ groupEls (touchCfg s g t) g →
        (u.electrode e).count = min (nth 0 counts (e % 16)) (pv (touchCfg s g t) pTouchCountLimit 0) ∧ (u.electrode e).touchT = t)
      ∧ (∀ e : Nat, e ∉ groupEls (touchCfg s g t) g → u.electrode e = s.electrode e)
      ∧ u.cfg = s.cfg ∧ u.heads = s.heads ∧ u.ledger = s.ledger ∧ u.legends = s.legends))
  ∧ ((∀ (s : State) (t : Time64), s.touch.running = true → s.touch.saveT + 60000000000 * pv s.cfg pTouchSavePeriod 0 ≤ t →
    s.flashAllowed = true → s.flashWindow = true → s.power.flashQ = [] →
    Completes (.touchSave t) s (fun u =>
      u.touch = { s.touch with saveT := t, saved := some (savedBase (atTime t s)) } ∧ u.power = s.power ∧ u.events = s.events))
  ∧ ∀ (s : State) (t : Time64), s.touch.stopping = true → s.touch.restart = false → windowOver s t = true →
    Completes (.touchSafePoint t) s (fun u =>
      u.touch.running = false ∧ u.touch.stopping = false ∧ u.touch.els = [] ∧ u.touch.groups = [] ∧ u.touch.saved = s.touch.saved
      ∧ u.cfg = s.cfg
      ∧ ∀ e : Nat, (∃ x, (e, x) ∈ s.touch.els ∧ x.state = .pressed) → nth false u.touch.pressed e = false))

/-- R340, R341: the debounce of a RELEASED electrode that has been acquired. A scan at or above TOUCH_ON that completes TOUCH_DEB_ON presses it at the
slot's end, an earlier one only counts, and one below TOUCH_ON starts the count again. R342, R343: a MOMENTARY key held for TOUCH_MAX_HOLD is STUCK,
not pressed any more, with its baseline at the present count; a HOLD key that has had no RELEASED neighbour for 60 s is reported, once a press. -/
def Obligations.TouchKeys : Prop :=
  (∀ (s : State) (c : Cfg) (e : Nat) (t done : Time64), (s.electrode e).state = .released →
    ((pv c pTouchOn e : Int) ≤ (s.electrode e).delta → pv c pTouchDebOn e ≤ (s.electrode e).onRun + 1 →
      ((scanReleased c e t done s).electrode e).state = .pressed ∧ ((scanReleased c e t done s).electrode e).onT = done
      ∧ ((scanReleased c e t done s).electrode e).base = (s.electrode e).base
      ∧ (e < s.touch.pressed.length → nth false (scanReleased c e t done s).touch.pressed e = true))
    ∧ ((pv c pTouchOn e : Int) ≤ (s.electrode e).delta → (s.electrode e).onRun + 1 < pv c pTouchDebOn e →
      ((scanReleased c e t done s).electrode e).state = .released
      ∧ ((scanReleased c e t done s).electrode e).onRun = (s.electrode e).onRun + 1
      ∧ (scanReleased c e t done s).events = s.events)
    ∧ ((s.electrode e).delta < (pv c pTouchOn e : Int) →
      ((scanReleased c e t done s).electrode e).state = .released ∧ ((scanReleased c e t done s).electrode e).onRun = 0))
  ∧ ((∀ (s : State) (e : Fin 128) (t : Time64), (s.electrode e).state = .pressed → classOf s.cfg e = 1 →
    (s.electrode e).onT + 1000000 * pv s.cfg pTouchMaxHold 0 ≤ t →
    Completes (.touchMaxHold e t) s (fun u =>
      (u.electrode e).state = .stuck ∧ (u.electrode e).base = 16 * (s.electrode e).count
      ∧ u.touch.pressed = setNth false s.touch.pressed e ∧ (∀ f : Nat, f ≠ e.val → u.electrode f = s.electrode f)
      ∧ s.raised u .touchStuck none (touchPayload s.cfg e 2 0 0 (legendId s e) 0 0 (u.electrode e) (s.electrode e).touchT)))
  ∧ ∀ (s : State) (e : Fin 128) (t since : Time64), (s.electrode e).noNbrT = some since → (s.electrode e).state = .pressed →
    classOf s.cfg e = 2 → (s.electrode e).driftSaid = false → since + 60000000000 ≤ t →
    Completes (.touchDriftUncomp e t) s (fun u =>
      u.electrode e = { s.electrode e with driftSaid := true } ∧ (∀ f : Nat, f ≠ e.val → u.electrode f = s.electrode f)
      ∧ s.raised u .touchDriftUncomp none (touchPayload s.cfg e 7 0 0 (legendId s e) 0 0 (u.electrode e) (s.electrode e).touchT)))

/-! ## Time -/

/-- R42, R45: the tick grid. T(n) is the epoch plus n periods with the carry of the thirds, truncated to the nanosecond; a decision point lies
TIME_DECIDE_LEAD before its tick, and both only run forward. -/
def Obligations.TickGrid : Prop :=
  ∀ (g : Grid) (n : Nat),
    g.tickT n = g.epoch + n * (rateRow g.rate).ns + n * (rateRow g.rate).thirds / 3
    ∧ g.tickT n < g.tickT (n + 1)
    ∧ (1000 * g.leadUs ≤ g.tickT n → g.decideT n = g.tickT n - 1000 * g.leadUs)
    ∧ g.decideT n ≤ g.decideT (n + 1)
    ∧ ∀ t : Time64, 0 < t → (g.firstDecision t ≤ n ↔ t ≤ g.decideT n)

/-- R33, R35: the next time state by the validity of the estimators, their agreement and the holdover limits. Only an estimator that becomes valid
leaves FREE-RUN, and HOLDOVER leaves to SINGLE or FREE-RUN only. R34: U_WALL. FREE-RUN is unbounded, HOLDOVER grows from its entry value with the rate
and the acceleration, and every value above 4,294,967,294 ns is published as unbounded. -/
def Obligations.TimeStates : Prop :=
  (∀ s : State,
    (s.estValid 0 = false → s.estValid 1 = false →
      s.nextOwn = match s.time.own with
        | .freeRun => .freeRun
        | .holdover => if s.time.holdEnded = true ∨ s.holdOver = true then .freeRun else .holdover
        | .single => .holdover
        | .dual => .holdover)
    ∧ ((s.estValid 0 = true ∨ s.estValid 1 = true) → s.domsAgree = false → s.nextOwn = .single)
    ∧ (s.domsAgree = true →
      s.nextOwn = match s.time.own with
        | .freeRun => .single
        | .holdover => .single
        | .single => .dual
        | .dual => .dual))
  ∧ ((∀ s : State, s.ownUWall .freeRun = 0xFFFFFFFF)
  ∧ (∀ (s : State) (st : TState), s.ownUWall st ≤ 0xFFFFFFFF)
  ∧ (∀ u rate acc t : Nat, uWallHold u rate acc 0 = u ∧ uWallHold u rate acc t ≤ uWallHold u rate acc (t + 1))
  ∧ ∀ (u rate t : Nat), uWallHold u rate 0 (1000000000 * t) = u + rate * t)

/-- R26, R28, R29, R51: a one-step Sync from the selected master of one estimator. Its receipt, in quarter nanoseconds, and its interval are noted,
and its offset from the master's TIME80, less the path delay measured to this master, enters the window; the other estimator stays as it is. The servo
first applies its frequency up to the receipt and then sets it within ±200 ppm, which a slew holds as it is (R30, R31; the gains are log 21). R26,
R28, R29, R51: what completes a measurement. A Follow_Up of the same number, from the selected master on the domain's port and transport, completes a
two-step Sync, a Delay_Resp of the same number gives the mean path delay, and a Delay_Req is sent on the master's port with its corrected transmit
time (multicast or unicast is log 106). -/
def Obligations.PtpMeasurements : Prop :=
  (∀ (s : State) (d : Fin 2) (m : PtpSync), s.portOn m.port = true → s.cmd.ready = true →
    domHears s.cfg d m.port m.domain m.transport = true → domHears s.cfg (1 - d.val) m.port m.domain m.transport = false →
    ptpVersionOk m.version = true → (s.est d).selected = some m.master → -7 ≤ m.logInterval → m.logInterval ≤ 1 → m.twoStep = false →
    Completes (.ptpSyncReceived m) s (fun u =>
      u.est d = Estimator.syncSample
        { s.est d with lastSync := some (natOf (rxPs s.cfg m.port m.rx m.rxQ / 1000)), logSync := m.logInterval, timedOut := false }
        (rxPs s.cfg m.port m.rx m.rxQ - 1000 * (time80 m.origin : Int) - m.correction) u.time.phase
      ∧ u.est (1 - d.val) = s.est (1 - d.val) ∧ u.time.now = rxTime s.cfg m.port m.rx
      ∧ u.time.phase = (servoRun (atTime (rxTime s.cfg m.port m.rx) s)).time.phase
      ∧ (u.time.freq = s.time.freq ∨ u.time.freq.natAbs ≤ 20000000) ∧ (s.time.slewing = true → u.time.freq = s.time.freq)
      ∧ u.cfg = s.cfg ∧ u.events = s.events ∧ u.time.state = s.time.state))
  ∧ ((∀ (s : State) (d : Fin 2) (m : PtpReply) (t2 : Int), s.portOn m.port = true → s.cmd.ready = true → (s.est d).twoStep = some (m.seq, t2) →
    domHears s.cfg d m.port m.domain m.transport = true → ptpVersionOk m.version = true → (s.est d).selected = some m.master →
    (s.est (1 - d.val)).twoStep = none →
    Completes (.ptpFollowUpReceived m) s (fun u =>
      u.est d = Estimator.syncSample { s.est d with twoStep := none } (t2 - 1000 * (time80 m.time : Int) - m.correction) u.time.phase
      ∧ u.time.phase = (servoRun (atTime (rxTime s.cfg m.port m.rx) s)).time.phase
      ∧ u.est (1 - d.val) = s.est (1 - d.val) ∧ u.events = s.events ∧ u.cfg = s.cfg))
  ∧ (∀ (s : State) (d : Fin 2) (m : PtpReply) (t3 x : Int), s.portOn m.port = true → (s.est d).delayReq = some (m.seq, t3) →
    (s.est d).t2mt1 = some x → domHears s.cfg d m.port m.domain m.transport = true → ptpVersionOk m.version = true →
    (s.est d).selected = some m.master → (s.est (1 - d.val)).delayReq = none →
    Completes (.ptpDelayRespReceived m) s (fun u =>
      u.est d = { s.est d with
        delayReq := none, pathDelay := some ((x + (1000 * (time80 m.time : Int) - m.correction - t3)) / 2) }
      ∧ u.est (1 - d.val) = s.est (1 - d.val) ∧ u.time.phase = s.time.phase ∧ u.events = s.events ∧ u.cfg = s.cfg))
  ∧ ∀ (s : State) (d : Fin 2) (seq : Nat) (tx : Time64) (quarter m : Nat) (a : PtpAnnounce), (s.est d).selected = some m →
    tfind (s.est d).masters m = some a →
    Completes (.delayReqSend d seq ⟨tx, quarter⟩) s (fun u =>
      u.est d = { s.est d with delayReq := some (seq, 1000 * (tx : Int) + 250 * ((quarter % 4 : Nat) : Int) + portCorr s.cfg a.port) }
      ∧ u.est (1 - d.val) = s.est (1 - d.val)
      ∧ u.out = s.out ++ [.delayReq d a.port (Config.delayReqUnicast d) seq
          (natOf ((1000 * (tx : Int) + 250 * ((quarter % 4 : Nat) : Int) + portCorr s.cfg a.port) / 1000))] ∧ u.events = s.events))

/-- R26, R29, R31, R35: an Announce puts its master among those heard by the estimators that hear it; a timeout of the last master makes its estimator
not valid; a slew ends, with nothing left to slew, as soon as its rate of 1 µs per second can have brought the counter there, and no sooner; and the
holdover limit is noted for the next decision point. R49, R30, R31, R48: a time-transfer exchange of a tick, once a tick. The follower answers it and
steers its servo, within ±200 ppm; the first exchange after time transfer has begun is a change of source, with TIME_SOURCE_CHANGE and a slew where
the offset exceeds 20 ns. The lead sends its two times back, and a seat that neither leads nor follows leaves it (that the first exchange is a change
of source is log 108). -/
def Obligations.TimeLimitsAndTransfers : Prop :=
  ((∀ (s : State) (d : Fin 2) (m : PtpAnnounce), s.portOn m.port = true →
    domHears s.cfg d m.port m.domain m.transport = true → domHears s.cfg (1 - d.val) m.port m.domain m.transport = false →
    ptpVersionOk m.version = true → -3 ≤ m.logInterval → m.logInterval ≤ 3 →
    Completes (.ptpAnnounceReceived m) s (fun u =>
      tfind (u.est d).masters m.master = some { m with rx := rxTime s.cfg m.port m.rx }
      ∧ (u.est d).selected.isSome = true ∧ u.est (1 - d.val) = s.est (1 - d.val) ∧ u.events = s.events ∧ u.cfg = s.cfg))
  ∧ (∀ (s : State) (d : Fin 2) (t : Time64) (m : Nat), (s.est d).selected = some m → (tfind (s.est d).masters m).isSome = true →
    (∀ x ∈ (s.est d).masters, announceLive x.2 t = false) →
    Completes (.announceReceiptTimeout d t) s (fun u =>
      (u.est d).timedOut = true ∧ (u.est d).masters = [] ∧ u.estValid d = false ∧ u.est (1 - d.val) = s.est (1 - d.val)
      ∧ u.events = s.events))
  ∧ (∀ (s : State) (t : Time64), s.time.slewing = true →
    Completes (.timeSlewEnd t) s (fun u =>
      if (t - s.time.slewT) / 1000 < s.time.dRem.natAbs then u = { s with time := { s.time with now := t } }
      else u.time = { s.time with now := t, slewing := false, dRem := 0, phase := s.time.phase + s.time.dRem }
        ∧ s.raised u .timeSlewEnd none [] ∧ OnlyEvents { s with time := u.time } u))
  ∧ ∀ (s : State) (t : Time64), s.time.own = .holdover → (atTime t s).holdOver = true → Completes (.holdoverLimit t) s (fun u =>
      u = { s with time := { s.time with now := t, holdEnded := true } }))
  ∧ ((∀ (s : State) (x : TimeXfer) (w : FlumeFrame) (f : FlumeHdr × Bytes), s.receives 3 s.paired w f → s.follows = true →
    s.twin.xferTick ≠ some f.1.tick → s.time.xferOn = true → (s.hot = false ∨ s.time.leadMissed = 0) →
    Completes (.timeXferReceived ⟨x, w⟩) s (fun u =>
      u.twin.xferTick = some f.1.tick ∧ s.sentBody u (.timeXfer 2 [x.t2, x.t3])
      ∧ u.time = { (servoRun (atTime x.at' s)).time with integ := u.time.integ, freq := u.time.freq }
      ∧ (u.time.freq = s.time.freq ∨ u.time.freq.natAbs ≤ 20000000) ∧ u.events = s.events))
  ∧ (∀ (s : State) (x : TimeXfer) (w : FlumeFrame) (f : FlumeHdr × Bytes), s.receives 3 s.paired w f → s.follows = true →
    s.twin.xferTick ≠ some f.1.tick → s.time.xferOn = false → s.time.slewing = false → (s.hot = false ∨ s.time.leadMissed = 0) →
    Completes (.timeXferReceived ⟨x, w⟩) s (fun u =>
      u.twin.xferTick = some f.1.tick ∧ u.time.xferOn = true ∧ s.sentBody u (.timeXfer 2 [x.t2, x.t3])
      ∧ (if (xferOffset x).natAbs ≤ 20000 then u.time.slewing = false ∧ s.raised u .timeSourceChange none []
        else u.time.slewing = true ∧ u.time.dRem = -(xferOffset x) ∧ s.raised u .timeSlewStart none [])))
  ∧ (∀ (s : State) (x : TimeXfer) (w : FlumeFrame) (f : FlumeHdr × Bytes), s.receives 3 s.paired w f → s.timeLead = true →
    2 ≤ s.twin.lanesUsed →
    Completes (.timeXferReceived ⟨x, w⟩) s (fun u =>
      s.sentBody u (.timeXfer 3 [x.t1, x.t4]) ∧ u.time = (servoRun (atTime x.at' s)).time ∧ u.events = s.events))
  ∧ ∀ (s : State) (x : TimeXfer) (w : FlumeFrame) (f : FlumeHdr × Bytes), s.receives 3 s.paired w f → s.twin.lanesUsed < 2 →
    Completes (.timeXferReceived ⟨x, w⟩) s (fun u => u.out = s.out ∧ u.time = (servoRun (atTime x.at' s)).time ∧ u.events = s.events))

/-- R45, R52: a tick begins at T(n): its number and the counter's reading move, TICK_OUT rises for 1 µs, and nothing of the picture path changes. R45:
a decision point takes its steps in the fixed order: what is latched, the commands of its tick, then the fences, flips, admissions and limits, on the
configuration as the commands left it. -/
def Obligations.TicksAndDecisions : Prop :=
  (∀ (s : State) (n : Nat), s.ticking = true → n = (if s.time.beforeZero then 0 else s.time.tick + 1) → Completes .tickStart s (fun u =>
    u.time = { s.time with tick := n, now := s.grid.tickT n, beforeZero := false }
    ∧ s.sent u (.tickOut n) ∧ (∀ v : Time64, (atTime v u).tickOut = decide (s.grid.tickT n ≤ v ∧ v < s.grid.tickT n + 1000))
    ∧ u.cfg = s.cfg ∧ u.heads = s.heads ∧ u.ledger = s.ledger ∧ u.panes = s.panes
    ∧ u.mem = s.mem ∧ u.cmd = s.cmd ∧ u.streams = s.streams))
  ∧ (∀ (s s1 : State) (fences : List (Nat × Nat)), s.ticking = true →
    latchStep (s.time.decided + 1) (atTime (s.grid.decideT (s.time.decided + 1)) { s with time := { s.time with decided := s.time.decided + 1 } })
      = (s1, false) →
    s1.commanded = true → gridMoved s1.cfg (commandStep (s.time.decided + 1) s1).cfg = false →
    Completes (.decisionPoint fences) s (fun t =>
      t = { pictureStep (s.time.decided + 1) fences (commandStep (s.time.decided + 1) s1) with
              pending := s.pending, seatB := s.seatB, dram := s.dram }))

/-- R24, R361: at a decision point exactly the commands are due whose tick has come and which the peer has acknowledged, and they stand in their
order: by tick, and those of one tick in the order of acceptance. -/
def Obligations.DueInOrder : Prop :=
  ∀ (s : State) (n : Nat), s.routeBoth = false →
    (∀ a : Accepted, a ∈ dueCommands n s ↔ a ∈ s.cmd.accepted ∧ a.tick ≤ n ∧ a.acked = true)
    ∧ (dueCommands n s).Pairwise (fun a b => a.tick < b.tick ∨ (a.tick = b.tick ∧ a.order ≤ b.order))

/-! ## Network ingest -/

/-- R84, R86, R88, R93, R91, R110: a packet on a port. The first copy in a FLOWING stream is accepted and taken into its access units; a copy on the
other path within the window counts as PATH_DUP only; one that is late, a duplicate or over budget and a malformed one go to the Spillway in their
category; a packet that no stream claims is unmatched, and one with a bad FCS is only counted. Streams other than its own stay as they are. -/
def Obligations.StreamPackets : Prop :=
  (∀ (s : State) (f : NetFrame), s.netOn f.port = true → f.fcsOk = false →
    Completes (.rtpPacketReceived f) s (fun u =>
      u.ethPort f.port = { s.ethPort f.port with fcsErr := ((s.ethPort f.port).fcsErr + 1) % 2 ^ 64 } ∧ u.streams = s.streams
      ∧ u.events = s.events ∧ u.out = s.out))
  ∧ (∀ (s : State) (f : NetFrame), s.netOn f.port = true → f.fcsOk = true →
    (datagramIn f.bytes = none ∨ ∃ d, s.claims f d .none) →
    Completes (.rtpPacketReceived f) s (fun u =>
      u.ethPort f.port = { s.ethPort f.port with framesRx := ((s.ethPort f.port).framesRx + 1) % 2 ^ 64,
                                                  unmatched := ((s.ethPort f.port).unmatched + 1) % 2 ^ 64 }
      ∧ u.streams = s.streams ∧ u.events = s.events ∧ u.out = s.out))
  ∧ (∀ (s : State) (f : NetFrame) (x ext lvl : Nat) (p : StreamPkt), s.gets f x p →
    fateOf x (pathOf s.cfg f.port) p (rxTime s.cfg f.port f.rx) (s.heard f x) = .accept ext lvl →
    Completes (.rtpPacketReceived f) s (fun u =>
      (u.stream x).cnt.pktAccept = ((s.stream x).cnt.pktAccept + 1) % 2 ^ 64
      ∧ (u.stream x).lastPkt = some (rxTime s.cfg f.port f.rx) ∧ (u.stream x).policer = lvl
      ∧ (u.stream x).seen = (s.stream x).seen ++ [⟨ext, pathOf s.cfg f.port, rxTime s.cfg f.port f.rx, false⟩]
      ∧ (∃ a ∈ (u.stream x).aus, ext ∈ a.got) ∧ (u.stream x).state = .flowing ∧ (∀ y : Nat, y ≠ x → u.stream y = s.stream y)
      ∧ u.events = s.events ∧ u.ledger = s.ledger))
  ∧ (∀ (s : State) (f : NetFrame) (x ext : Nat) (p : StreamPkt), s.gets f x p →
    fateOf x (pathOf s.cfg f.port) p (rxTime s.cfg f.port f.rx) (s.heard f x) = .pathDup ext →
    Completes (.rtpPacketReceived f) s (fun u =>
      (u.stream x).cnt = { (s.stream x).cnt with pathDup := ((s.stream x).cnt.pathDup + 1) % 2 ^ 64 }
      ∧ (u.stream x).aus = (s.stream x).aus ∧ (∀ y : Nat, y ≠ x → u.stream y = s.stream y) ∧ u.events = s.events ∧ u.out = s.out))
  ∧ (∀ (s : State) (f : NetFrame) (x c : Nat) (p : StreamPkt), s.gets f x p →
    fateOf x (pathOf s.cfg f.port) p (rxTime s.cfg f.port f.rx) (s.heard f x) = .spilled c → c < (s.stream x).cnt.spill.length →
    Completes (.rtpPacketReceived f) s (fun u =>
      nth 0 (u.stream x).cnt.spill c = (nth 0 (s.stream x).cnt.spill c + 1) % 2 ^ 64 ∧ (u.stream x).aus = (s.stream x).aus
      ∧ (u.stream x).state = .flowing ∧ (∀ y : Nat, y ≠ x → u.stream y = s.stream y) ∧ u.events = s.events))
  ∧ (∀ (s : State) (f : NetFrame) (x : Nat) (d : UdpIn), s.claims f d (.rtp x) → formatIn s.cfg x (inbound s.cfg f d) = none →
    2 < (s.stream x).cnt.spill.length →
    Completes (.rtpPacketReceived f) s (fun u =>
      nth 0 (u.stream x).cnt.spill 2 = (nth 0 (s.stream x).cnt.spill 2 + 1) % 2 ^ 64 ∧ (u.stream x).aus = (s.stream x).aus
      ∧ (u.stream x).state = (s.stream x).state ∧ (∀ y : Nat, y ≠ x → u.stream y = s.stream y) ∧ u.events = s.events))

/-- R39, R88, R84, R86, R85: a sender report sets its stream's mapping, and an RTCP datagram without one is counted as malformed (log 120); a frame
with a bad FCS is only counted, an ARP request for an own address is answered, another one is unmatched; and a link that comes up or goes down is
reported. -/
def Obligations.PortTraffic : Prop :=
  (∀ (s : State) (f : NetFrame) (x : Nat) (d : UdpIn) (r : SrIn), s.claims f d (.rtcp x) → f.basinUe = false → usableSr s x d.data = some r →
    Completes (.rtcpSrReceived f) s (fun u =>
      u.stream x = { s.stream x with srMap := some (natOf (ntpTime s r), r.rtp, rxTime s.cfg f.port f.rx) }
      ∧ (∀ y : Nat, y ≠ x → u.stream y = s.stream y) ∧ u.events = s.events ∧ u.out = s.out))
  ∧ (∀ (s : State) (f : NetFrame) (x : Nat) (d : UdpIn), s.claims f d (.rtcp x) → f.basinUe = false → usableSr s x d.data = none →
    2 < (s.stream x).cnt.spill.length →
    Completes (.rtcpSrReceived f) s (fun u =>
      nth 0 (u.stream x).cnt.spill 2 = (nth 0 (s.stream x).cnt.spill 2 + 1) % 2 ^ 64 ∧ (u.stream x).srMap = (s.stream x).srMap
      ∧ (∀ y : Nat, y ≠ x → u.stream y = s.stream y) ∧ u.events = s.events))
  ∧ (∀ (s : State) (f : EthFrame), s.netOn f.port = true → f.fcsOk = false → Completes (.ethFrameReceived f) s (fun u =>
      u.ethPort f.port = { s.ethPort f.port with fcsErr := ((s.ethPort f.port).fcsErr + 1) % 2 ^ 64 } ∧ u.out = s.out
      ∧ u.streams = s.streams ∧ u.events = s.events))
  ∧ (∀ (s : State) (f : EthFrame) (a : Bytes), s.netOn f.port = true → f.fcsOk = true → f.len ≤ 9216 → f.tags ≤ 1 →
    f.kind = .arpRequest a → Completes (.ethFrameReceived f) s (fun u =>
      (u.ethPort f.port).framesRx = ((s.ethPort f.port).framesRx + 1) % 2 ^ 64
      ∧ (if ownAddress s.cfg f.port a then u.out = s.out ++ [.frame f.port f.kind]
            ∧ (u.ethPort f.port).framesTx = ((s.ethPort f.port).framesTx + 1) % 2 ^ 64
          else u.out = s.out ∧ (u.ethPort f.port).unmatched = ((s.ethPort f.port).unmatched + 1) % 2 ^ 64)
      ∧ u.streams = s.streams ∧ u.events = s.events))
  ∧ ∀ (s : State) (p : Fin 4) (up : Bool) (t : Time64), s.portOn p = true → (s.ethPort p).link ≠ up →
    Completes (.netLink p up t) s (fun u =>
      u.ethPort p = { s.ethPort p with link := up } ∧ (∀ q : Nat, q ≠ p.val → u.ethPort q = s.ethPort q)
      ∧ s.raised u .netLink none [(1, p.val), (1, pv s.cfg pNetPortMode p), (1, b2n up)] ∧ u.cfg = s.cfg ∧ u.streams = s.streams)

/-- R95, R97, R99: the jitter buffer. The access unit that is due at its front leaves it, and from PRIMING an entry point starts the flow where
another one starts a wait for an entry; with nothing due nothing changes. A gap timeout closes an incomplete access unit, and a FLOWING stream whose
packets have stopped is GAPPED. R99, R93: a stream that waits and has had no packet for its silence time is SILENT, an idle one never; and when the
merge window of a number closes, a number seen on one path of two is counted for that path. -/
def Obligations.JitterBuffer : Prop :=
  ((∀ (s : State) (x : Fin 128) (t : Time64) (a : Au) (r : List Au), (s.stream x).aus = a :: r → a.complete.isSome = true →
    auDue s.cfg x (s.stream x) t a = true →
    Completes (.jitterRelease x t) s (fun u =>
      (u.stream x).aus.length = r.length ∧ (u.stream x).lastAuEnd.isSome = true
      ∧ ((s.stream x).state = .priming → (u.stream x).state = if (pictureOf s.cfg x (s.stream x) a t false).entry then .flowing else .resync)
      ∧ ((s.stream x).state = .flowing → (u.stream x).state = .flowing)
      ∧ (∀ y : Nat, y ≠ x.val → u.stream y = s.stream y) ∧ u.ledger = s.ledger ∧ u.cfg = s.cfg))
  ∧ (∀ (s : State) (x : Fin 128) (t : Time64), (s.stream x).aus = [] →
    Completes (.jitterRelease x t) s (fun u => u = { s with time := { s.time with now := t } }))
  ∧ (∀ (s : State) (x : Fin 128) (t : Time64) (a : Au), (s.stream x).aus = [a] → a.complete = none → a.closed = false →
    a.lastT + 1000 * pv s.cfg pSrcGapTimeoutUs x ≤ t → pv s.cfg pSrcPartialPolicy x = 0 → (s.stream x).state = .flowing →
    Completes (.gapTimeout x t) s (fun u =>
      (u.stream x).aus = [] ∧ (u.stream x).state = .gapped
      ∧ (u.stream x).cnt.auPartial = ((s.stream x).cnt.auPartial + 1) % 2 ^ 32
      ∧ s.raised u .streamState none [(1, x.val), (1, 2), (1, 3), (1, 4)] ∧ (∀ y : Nat, y ≠ x.val → u.stream y = s.stream y)))
  ∧ (∀ (s : State) (x : Fin 128) (t l : Time64), (s.stream x).aus = [] → (s.stream x).state = .flowing → (s.stream x).lastPkt = some l →
    l + 1000 * pv s.cfg pSrcGapTimeoutUs x ≤ t →
    Completes (.gapTimeout x t) s (fun u =>
      u.stream x = { (s.stream x).leaveFlow t with state := .gapped } ∧ s.raised u .streamState none [(1, x.val), (1, 2), (1, 3), (1, 3)]
      ∧ (∀ y : Nat, y ≠ x.val → u.stream y = s.stream y))))
  ∧ ((∀ (s : State) (x : Fin 128) (t l : Time64),
    ((s.stream x).state = .priming ∨ (s.stream x).state = .resync ∨ (s.stream x).state = .gapped) → (s.stream x).lastPkt = some l →
    l + 1000 * pv s.cfg pSrcSilenceUs x ≤ t →
    Completes (.silenceTimeout x t) s (fun u =>
      u.stream x = { (s.stream x).leaveFlow t with state := .silent }
      ∧ s.raised u .streamState none [(1, x.val), (1, (s.stream x).state.code), (1, 4), (1, 5)]
      ∧ (∀ y : Nat, y ≠ x.val → u.stream y = s.stream y)))
  ∧ (∀ (s : State) (x : Fin 128) (t : Time64), (s.stream x).state = .idle →
    Completes (.silenceTimeout x t) s (fun u => u = { s with time := { s.time with now := t } }))
  ∧ ∀ (s : State) (x : Fin 128) (ext : Nat) (t : Time64) (e : SeenSeq), (s.stream x).seen.find? (fun q => q.ext == ext) = some e →
    e.t + 1000 * pv s.cfg pSrcPathSkewUs x ≤ t → bothPaths s.cfg x = true →
    Completes (.mergeWindowClose x ext t) s (fun u =>
      (u.stream x).seen = (s.stream x).seen.filter (fun q => q.ext != ext)
      ∧ (u.stream x).cnt.pathOnlyA = ((s.stream x).cnt.pathOnlyA + b2n (!e.both && e.path == 0)) % 2 ^ 64
      ∧ (u.stream x).cnt.pathOnlyB = ((s.stream x).cnt.pathOnlyB + b2n (!e.both && e.path == 1)) % 2 ^ 64
      ∧ (∀ y : Nat, y ≠ x.val → u.stream y = s.stream y) ∧ u.events = s.events))

/-! ## Decode -/

/-- R123, R124: a free lane takes the first picture in order, after the backlogs were trimmed; at a row boundary a picture of a better class takes the
lane of another, which resumes from that row, but not a lane that is being disabled (R126). R126, R128: at its safe point a disabled lane stops, or
with DEC_LANE_READY starts again; a read of the playback ring takes the descriptors posted and moves its consumer index (log 90). -/
def Obligations.DecodeLanes : Prop :=
  ((∀ (s w : State) (lane : Fin 12) (x : Nat) (t : Time64), s.alive = true →
    w = s.streams.foldl (fun a e => trimBacklog e.1 a) (atTime t s) → laneOpen w lane = true → choosePicture w = some x →
    Completes (.laneFree lane t) s (fun u =>
      (u.lane lane).stream = some x
      ∧ (u.stream x).queue = (match (w.stream x).queue with
          | q :: r => { q with lane := some lane.val } :: r
          | [] => [])
      ∧ (∀ l : Nat, l ≠ lane.val → u.lane l = s.lane l) ∧ u.ledger = s.ledger ∧ u.events = s.events))
  ∧ (∀ (s w : State) (lane : Fin 12) (t : Time64), s.alive = true →
    w = s.streams.foldl (fun a e => trimBacklog e.1 a) (atTime t s) → (laneOpen w lane = false ∨ choosePicture w = none) →
    Completes (.laneFree lane t) s (fun u => u.lanes = s.lanes ∧ u.streams = w.streams ∧ u.ledger = s.ledger))
  ∧ (∀ (s : State) (lane : Fin 12) (row x y : Nat) (t : Time64), (s.lane lane).stream = some x → choosePicture (atTime t s) = some y →
    (s.lane lane).stopping = false → preempts s.cfg.profile (s.stream y).cls (s.stream x).cls = true →
    Completes (.decodePreempt lane row t) s (fun u =>
      u = { fillLane lane (((atTime t s).modStream x (fun m => { m with queue := match m.queue with
              | q :: r => { q with lane := none, row := max q.row row } :: r
              | [] => [] })).modLane lane (fun d => { d with stream := none })) with
            pending := s.pending, seatB := s.seatB, dram := s.dram }))
  ∧ ∀ (s : State) (lane : Fin 12) (row x y : Nat) (t : Time64), (s.lane lane).stream = some x → choosePicture (atTime t s) = some y →
    ((s.lane lane).stopping = true ∨ preempts s.cfg.profile (s.stream y).cls (s.stream x).cls = false) →
    Completes (.decodePreempt lane row t) s (fun u => u = { s with time := { s.time with now := t } }))
  ∧ ((∀ (s : State) (lane : Fin 12) (t : Time64), (s.lane lane).stopping = true → (s.lane lane).stream = none →
    (s.lane lane).restart = false →
    Completes (.decLaneSafePoint lane t) s (fun u =>
      u.lane lane = ⟨none, false, true, false⟩ ∧ (∀ l : Nat, l ≠ lane.val → u.lane l = s.lane l) ∧ u.events = s.events ∧ u.cmd = s.cmd))
  ∧ (∀ (s : State) (lane : Fin 12) (t : Time64) (h : CmdHdr) (k : Cmd), (s.lane lane).stopping = true → (s.lane lane).stream = none →
    (s.lane lane).restart = true → s.cmd.deferred.find? (fun q => q.1 == .lane lane.val) = some (.lane lane.val, h, k) →
    Completes (.decLaneSafePoint lane t) s (fun u =>
      u.lane lane = ⟨none, false, false, false⟩ ∧ (∀ l : Nat, l ≠ lane.val → u.lane l = s.lane l)
      ∧ s.raised u .decLaneReady (some h.tag) [(1, lane.val)]
      ∧ u.cmd.deferred = s.cmd.deferred.filter (fun q => q.1 != .lane lane.val)))
  ∧ (∀ (s : State) (x : Fin 128) (r : PlaybackRead) (t : Time64) (g : Ring) (n : Nat), (s.stream x).ring = some g →
    pv s.cfg pSrcEnable x ≠ 0 → pv s.cfg pDecOrigin x = 1 → s.alive = true →
    n = (r.producer + 2 ^ g.log2 - g.consumer) % 2 ^ g.log2 / 32 → n ≠ 0 →
    Completes (.playbackPoll x r t) s (fun u =>
      (u.stream x).ring = some { g with producer := r.producer % 2 ^ g.log2, consumer := (g.consumer + 32 * n) % 2 ^ g.log2 }
      ∧ (∃ l, u.out = s.out ++ [.hostWrite (g.base - 56) (le 8 ((g.consumer + 32 * n) % 2 ^ g.log2)),
          .hostRead (fld r.ring 0 8) (fld r.ring 8 4)] ++ l)
      ∧ (u.stream x).state = .flowing ∧ (u.stream x).lastPkt = some t ∧ (u.stream x).session = true
      ∧ (∀ y : Nat, y ≠ x.val → u.stream y = s.stream y)))
  ∧ ∀ (s : State) (x : Fin 128) (r : PlaybackRead) (t : Time64) (g : Ring), (s.stream x).ring = some g →
    pv s.cfg pSrcEnable x ≠ 0 → pv s.cfg pDecOrigin x = 1 → s.alive = true →
    r.producer % 2 ^ g.log2 = g.consumer % 2 ^ g.log2 → g.consumer < 2 ^ g.log2 →
    Completes (.playbackPoll x r t) s (fun u => u = { s with time := { s.time with now := t } }))

/-- R117, R119, R131, R56: a picture that has been decoded leaves its lane and its queue and gets the source's next frame number; a RASL picture after
a point at which decoding starts is skipped and counted; one that its stream cannot use is discarded, and a FLOWING stream waits for an entry point
(log 128). R98, R89, R56: the oldest released frame of an ST 2110-20 stream, once written, leaves the queue with the source's next frame number. -/
def Obligations.DecodedFrames : Prop :=
  ((∀ (s : State) (lane : Fin 12) (x : Nat) (q : Picture) (rest : List Picture) (d : CodedPicture) (t : Time64),
    (s.lane lane).stream = some x → (s.stream x).queue = q :: rest → pictureFault s.cfg x d.seq = none →
    (isRasl (isH265 s.cfg x) q && (s.stream x).raslSkip) = false →
    Completes (.decodeComplete lane d t) s (fun u =>
      (u.lane lane).stream = none ∧ (∀ l : Nat, l ≠ lane.val → u.lane l = s.lane l) ∧ (u.stream x).queue = rest
      ∧ (u.source x).frameSeq = ((s.source x).frameSeq + 1) % 2 ^ 32 ∧ (∀ y : Nat, y ≠ x → u.source y = s.source y) ∧ u.cfg = s.cfg))
  ∧ (∀ (s : State) (lane : Fin 12) (x : Nat) (q : Picture) (rest : List Picture) (d : CodedPicture) (t : Time64),
    (s.lane lane).stream = some x → (s.stream x).queue = q :: rest → pictureFault s.cfg x d.seq = none →
    (isRasl (isH265 s.cfg x) q && (s.stream x).raslSkip) = true →
    Completes (.decodeComplete lane d t) s (fun u =>
      (u.lane lane).stream = none ∧ (u.stream x).queue = rest
      ∧ (u.stream x).cnt.raslSkip = ((s.stream x).cnt.raslSkip + 1) % 2 ^ 32 ∧ u.sources = s.sources ∧ u.ledger = s.ledger
      ∧ u.events = s.events ∧ u.cfg = s.cfg))
  ∧ (∀ (s : State) (lane : Fin 12) (x k : Nat) (q : Picture) (rest : List Picture) (d : CodedPicture) (t : Time64),
    (s.lane lane).stream = some x → (s.stream x).queue = q :: rest → pictureFault s.cfg x d.seq = some k →
    Completes (.decodeComplete lane d t) s (fun u =>
      (u.lane lane).stream = none
      ∧ (u.stream x).state = (if (s.stream x).state = .flowing then .resync else (s.stream x).state)
      ∧ (∀ p ∈ (u.stream x).queue, ∃ p' ∈ rest, p.ts = p'.ts) ∧ u.ledger = s.ledger ∧ u.sources = s.sources ∧ u.cfg = s.cfg)))
  ∧ (∀ (s : State) (x : Fin 128) (q : Picture) (rest : List Picture) (t : Time64), (s.stream x).queue = q :: rest →
    is2110 s.cfg x = true →
    Completes (.ingestFrameComplete x (q.ts % 2 ^ 32) t) s (fun u =>
      (u.stream x).queue = rest ∧ (u.source x).frameSeq = ((s.source x).frameSeq + 1) % 2 ^ 32
      ∧ (∀ y : Nat, y ≠ x.val → u.source y = s.source y) ∧ u.lanes = s.lanes ∧ u.cfg = s.cfg))

/-! ## Freeze detection -/

/-- R153, R155, R145: what a picture does to the freeze latch of its source. It is set with evidence only and cleared only by a picture with positive
evidence and none of freezing, each with its event; a payload that has repeated FRZ_PAYLOAD_COUNT times is evidence; and the latches of other sources
stay as they are. -/
def Obligations.FreezeDecision : Prop :=
  ∀ (x : Nat) (i : FreezeIn) (s : State),
    ((s.frz x).frz = true → ((freezeEval x i s).2.frz x).frz = false →
      ((freezeEval x i s).2.frz x).evLast = 16 ∧ ((freezeEval x i s).2.frz x).evidenceT = i.cap
      ∧ s.raised (freezeEval x i s).2 .freezeClear none [(1, x), (4, i.seq), (1, 16), (8, 0)])
    ∧ ((s.frz x).frz = false → ((freezeEval x i s).2.frz x).frz = true →
      ((freezeEval x i s).2.frz x).evLast % 16 ≠ 0 ∧ ((freezeEval x i s).2.frz x).setCount = ((s.frz x).setCount + 1) % 2 ^ 32
      ∧ s.raised (freezeEval x i s).2 .freezeSet none [(1, x), (4, i.seq), (1, ((freezeEval x i s).2.frz x).evLast),
          (8, ((freezeEval x i s).2.frz x).frzSince.t)])
    ∧ (i.uncomp = false → (s.frz x).lastCrc = some i.auCrc → pv s.cfg pFrzPayloadCount x ≤ ((s.frz x).payloadRun + 1) % 2 ^ 32 →
      ((freezeEval x i s).2.frz x).frz = true)
    ∧ (∀ y : Nat, y ≠ x → (freezeEval x i s).2.frz y = s.frz y)
    ∧ (freezeEval x i s).2.cfg = s.cfg ∧ (freezeEval x i s).2.streams = s.streams ∧ (freezeEval x i s).2.panes = s.panes

/-! ## Flips, heads and ports -/

/-- R183, R187, R180: a late fence is counted in the groups whose flips name it; a group that has stalled another FG_STALL_TICKS ticks is reported
with its members that are not ready (its contents are log 41); and a held buffer that nothing shows is IDLE again, with the last head frames that
fetched from it; one that is still shown stays (log 83). -/
def Obligations.FlipsAndBuffers : Prop :=
  (∀ (s : State) (f : Nat), Completes (.fenceReadLate f) s (fun t =>
    (∀ g : Nat, t.group g = if (s.group g).pending.any (fun p => p.layers.any (fun l => l.fence == f))
      then { s.group g with late := ((s.group g).late + 1) % 2 ^ 32 } else s.group g)
    ∧ t = { s with groups := t.groups }))
  ∧ (∀ (s : State) (g : Fin 64), (s.group g).pending.isSome = true → (s.group g).stall ≠ 0 →
    (s.group g).stall % pv s.cfg pFgStallTicks 0 = 0 → (s.group g).said ≠ (s.group g).stall →
    Completes (.flipStall g) s (fun t =>
      t.group g = { s.group g with said := (s.group g).stall } ∧ (∀ k : Nat, k ≠ g.val → t.group k = s.group k)
      ∧ s.raised t .flipStall none ([(1, g.val), (1, (s.group g).notReady.length)] ++ ((s.group g).notReady.take 3).flatMap (fun p =>
          [(2, p), (8, ((layerFlip (s.group g).pending (paneSource s.cfg p)).bind (fun l => fenceRead (s.group g).values l.fence)).getD 0)]))))
  ∧ ∀ (s : State) (b : Fin 1024) (at' : Time64), (s.buf b).state = 2 →
    Completes (.bufRetired b at') s (fun t =>
      if bufShown s b then t = s
      else t.buf b = bufInit ∧ (∀ k : Nat, k ≠ b.val → t.buf k = s.buf k) ∧ t.ledger = s.ledger
        ∧ s.raised t .bufRetired none ([(2, b.val), (1, 0)] ++ (s.buf b).scans.flatMap (fun q => [(1, q.1), (4, q.2)])))

/-- R46, R194, R80, R196, R197, R69: a scheduled head frame starts at its instant with the number of the tick grid; a black one has every tile DARK
and no live state, which otherwise rises only where no guarded tile is other than LIVE; a head that retimes only counts, up to the first frame that
starts HEAD_WEIR_HIGH after the retime's steps. A frame's end is the start of blanking, once its last active pixel has left; a committed timing is
taken then, or with the frame's record where that is still to come (R71). R199, R197: a head that is being disabled stops at the start of blanking,
and shows nothing of the frames already latched unless it is enabled again; and the steps of a retime, the PLL's lock and the port's slots, after both
of which the retime has its ready instant. -/
def Obligations.HeadFrames : Prop :=
  ((∀ (s : State) (h : Fin 32) (fi : FrameIn) (rest : List FrameIn), (s.head h).nextIn = fi :: rest → (s.head h).retime = none →
    (s.head h).running = true →
    Completes (.frameStart h) s (fun t =>
      (t.head h).frame = some fi ∧ (t.head h).nextIn = rest ∧ (t.head h).inFrame = true
      ∧ (t.head h).frameCnt = frameCntOf (s.head h).timing fi.tick fi.second
      ∧ (t.head h).frameStart = (departure s.grid (s.head h).timing fi.tick fi.second 0).floor
      ∧ t.time.now = max s.time.now (departure s.grid (s.head h).timing fi.tick fi.second 0).floor
      ∧ ((t.head h).blankNow = true → (t.head h).live = false ∧ ∀ e ∈ (t.head h).tiles, e.2.verdict = .dark)
      ∧ ((t.head h).live = true → (s.head h).live = true ∨ mayRise (t.head h).tiles = true)
      ∧ (∀ g : Nat, g ≠ h.val → t.head g = s.head g) ∧ t.cfg = s.cfg ∧ t.ledger = s.ledger))
  ∧ (∀ (s : State) (h : Fin 32) (fi : FrameIn) (rest : List FrameIn) (r : Retime), (s.head h).nextIn = fi :: rest →
    (s.head h).retime = some r →
    Completes (.frameStart h) s (fun t =>
      (t.head h).frameCnt = frameCntOf (s.head h).timing fi.tick fi.second ∧ (t.head h).nextIn = rest
      ∧ (∀ g : Nat, g ≠ h.val → t.head g = s.head g)
      ∧ (if r.endsAt fi (departure s.grid (s.head h).timing fi.tick fi.second 0).floor then
          (t.head h).retime = none ∧ (t.head h).running = true ∧ (t.head h).inFrame = true ∧ (t.head h).frame = some fi
        else (t.head h).retime = some r ∧ (t.head h).inFrame = (s.head h).inFrame ∧ (t.head h).tiles = (s.head h).tiles
          ∧ (t.head h).live = (s.head h).live ∧ t.events = s.events)))
  ∧ (∀ (s : State) (h : Fin 32) (at' : Time64), (s.head h).inFrame = true → afterLast s h 0 ≤ at' → (s.head h).shadow = none →
    (∀ p : Nat, (s.head h).timing.port = some p → (s.dpPort p).pendingCfg = false) →
    Completes (.vblankStart h at') s (fun t =>
      (t.head h).inFrame = false ∧ (t.head h).vblank = true ∧ (t.head h).timing = (s.head h).timing
      ∧ (t.head h).running = (s.head h).running
      ∧ (s.hot = false → (s.head h).timing.vactive ≤ (s.head h).composed → (t.head h).live = (s.head h).live)
      ∧ (∀ g : Nat, g ≠ h.val → t.head g = s.head g) ∧ t.dp = s.dp))
  ∧ (∀ (s : State) (h : Fin 32) (x : HeadTiming) (at' : Time64), (s.head h).inFrame = true → afterLast s h 0 ≤ at' →
    (s.head h).shadow = some x → (s.head h).recDone = false → s.retimeRuns h = false →
    (∀ p : Nat, (s.head h).timing.port = some p → (s.dpPort p).pendingCfg = false) →
    Completes (.vblankStart h at') s (fun t =>
      (t.head h).inFrame = false ∧ (t.head h).shadow = some x ∧ (t.head h).shadowDue = true ∧ (t.head h).timing = (s.head h).timing))
  ∧ (∀ (s : State) (h : Fin 32) (x : HeadTiming) (at' : Time64), (s.head h).inFrame = false → (s.head h).retime.isSome = true →
    (s.head h).shadow = some x → (s.head h).recDone = true → s.retimeRuns h = false →
    (∀ p : Nat, (s.head h).timing.port = some p → (s.dpPort p).pendingCfg = false) →
    Completes (.vblankStart h at') s (fun t =>
      (t.head h).timing = x ∧ (t.head h).shadow = none ∧ (t.head h).running = false ∧ (t.head h).live = false
      ∧ (x.port.isSome = true → (t.head h).retime.isSome = true)))
  ∧ ∀ (s : State) (h : Fin 32) (at' : Time64),
    ((s.head h).inFrame = true ∧ at' < afterLast s h 0 ∨ (s.head h).inFrame = false ∧ (s.head h).retime = none) →
    Completes (.vblankStart h at') s (fun t => t = s))
  ∧ ((∀ (s : State) (h : Fin 32) (at' : Time64), (s.head h).disabling = true → (s.head h).inFrame = false →
    Completes (.headSafePoint h at') s (fun t =>
      (t.head h).disabling = false ∧ (t.head h).enabled = false ∧ (t.head h).blankNow = true ∧ (t.head h).live = false
      ∧ (t.head h).timing = (s.head h).timing ∧ (t.head h).retime = (s.head h).retime
      ∧ (t.head h).nextIn = (s.head h).nextIn.map (fun fi => { fi with on := (s.head h).reEnable.isSome })
      ∧ (∀ g : Nat, g ≠ h.val → t.head g = s.head g) ∧ t.dp = s.dp ∧ t.events = s.events))
  ∧ (∀ (s : State) (h : Fin 32) (r : Retime) (at' : Time64), (s.head h).retime = some r →
    Completes (.headPllLocked h at') s (fun t =>
      (t.head h).retime = some { r with pllDone := true, readyT := if r.portDone && r.readyT.isNone then some at' else r.readyT }
      ∧ (t.head h).timing = (s.head h).timing ∧ (t.head h).running = (s.head h).running ∧ (t.head h).inFrame = (s.head h).inFrame
      ∧ (t.head h).tiles = (s.head h).tiles ∧ (t.head h).live = (s.head h).live ∧ (t.head h).frameCnt = (s.head h).frameCnt
      ∧ (∀ g : Nat, g ≠ h.val → t.head g = s.head g) ∧ t = { s with heads := t.heads, time := { s.time with now := at' } }))
  ∧ ∀ (s : State) (h : Fin 32) (r : Retime) (p : Nat) (at' : Time64), (s.head h).retime = some r → (s.head h).timing.port = some p →
    (s.dpPort p).trained = true →
    Completes (.mstAllocationDone h at') s (fun t =>
      (t.head h).retime = some { r with portDone := true, readyT := if r.pllDone && r.readyT.isNone then some at' else r.readyT }
      ∧ (t.head h).timing = (s.head h).timing ∧ (t.head h).running = (s.head h).running ∧ (t.head h).inFrame = (s.head h).inFrame
      ∧ (t.head h).tiles = (s.head h).tiles ∧ (t.head h).live = (s.head h).live ∧ (t.head h).frameCnt = (s.head h).frameCnt
      ∧ (if (s.dpPort p).mode = 2 then tfind (t.dpPort p).slots h = some (slotsOf s h p) else t.dp = s.dp)
      ∧ (∀ q : Nat, q ≠ p → t.dpPort q = s.dpPort q) ∧ (∀ g : Nat, g ≠ h.val → t.head g = s.head g)
      ∧ t = { s with heads := t.heads, dp := t.dp, time := { s.time with now := at' } }))

/-- R210: compose of the next line of the frame under way, or of the next frame ahead of its start, which leaves the frame under way as it is; in a
retime it is the first new frame (R197). No line is begun earlier than its departure minus the compose lead. A line whose departure has passed fills
the rest of its tile row (R212). R80, R212: the departure of a tile. A guarded tile that is not LIVE, or a tile that lost its data, lets the live
state fall; a pixel that is not in the FIFO fills the rest of the tile row, whose tiles are all UNVERIFIED. -/
def Obligations.ComposeAndDeparture : Prop :=
  ((∀ (s : State) (h : Fin 32) (fi : FrameIn) (lost : List LostData), s.alive = true → (s.head h).running = true →
    (s.head h).inFrame = true → (s.head h).frame = some fi → (s.head h).blankNow = false →
    (s.head h).composed < (s.head h).timing.vactive → s.time.now ≤ lineDep s h fi (s.head h).composed →
    Completes (.lineCompose h (s.head h).composed lost) s (fun t =>
      (t.head h).composed = (s.head h).composed + 1
      ∧ (∃ w, (t.head h).lines = (s.head h).lines ++ [((s.head h).composed, w)])
      ∧ (∀ dep : Nat, dep = lineDep s h fi (s.head h).composed → t.time.now = max s.time.now (dep - composeLead s fi dep))
      ∧ t.cfg = s.cfg ∧ t.dram = s.dram))
  ∧ (∀ (s : State) (h : Fin 32) (fi : FrameIn) (lost : List LostData), s.alive = true → (s.head h).running = true →
    (s.head h).inFrame = true → (s.head h).frame = some fi → (s.head h).blankNow = false →
    (s.head h).composed < (s.head h).timing.vactive → lineDep s h fi (s.head h).composed < s.time.now →
    Completes (.lineCompose h (s.head h).composed lost) s (fun t =>
      (t.head h).live = false ∧ (t.head h).sticky.testBit 18 = true ∧ t.time = s.time
      ∧ min (s.head h).timing.vactive (64 * ((s.head h).composed / 64) + 64) ≤ (t.head h).composed
      ∧ (∀ g : Nat, g ≠ h.val → t.head g = s.head g) ∧ t.ledger = s.ledger ∧ t.cfg = s.cfg ∧ t.dram = s.dram))
  ∧ ∀ (s : State) (h : Fin 32) (fi : FrameIn) (rest : List FrameIn) (lost : List LostData), s.alive = true →
    ((s.head h).inFrame = false ∨ (s.head h).timing.vactive ≤ (s.head h).composed) → (s.head h).nextIn = fi :: rest →
    (match (s.head h).retime with
      | some r => r.endsAt fi (departure s.grid (s.head h).timing fi.tick fi.second 0).floor
      | none => (s.head h).running) = true →
    frameBlank s h fi (departure s.grid (s.head h).timing fi.tick fi.second 0).floor = false →
    (s.head h).preComposed < (s.head h).timing.vactive →
    Completes (.lineCompose h (s.head h).preComposed lost) s (fun t =>
      (t.head h).preComposed = (s.head h).preComposed + 1
      ∧ (∃ w, (t.head h).preLines = (s.head h).preLines ++ [((s.head h).preComposed, w)])
      ∧ (t.head h).frame = (s.head h).frame ∧ (t.head h).tiles = (s.head h).tiles ∧ (t.head h).lines = (s.head h).lines
      ∧ (t.head h).composed = (s.head h).composed ∧ t.cfg = s.cfg ∧ t.dram = s.dram))
  ∧ ((∀ (s : State) (p : TilePos) (fi : FrameIn) (x : TileOut), (s.head p.head).frame = some fi → (s.head p.head).inFrame = true →
    tfind (s.head p.head).tiles (p.row * (s.head p.head).cols + p.col) = some x → p.col < (s.head p.head).cols →
    x.departed = false → x.filled = false → x.verdict ≠ .dark → (s.head p.head).blankNow = false → (s.head p.head).fillRun = none →
    64 * p.row < (s.head p.head).composed →
    Completes (.tileDeparture p false) s (fun t =>
      t.head p.head = { s.head p.head with
        tiles := (s.head p.head).tiles.map (fun e =>
          (e.1, if e.1 = p.row * (s.head p.head).cols + p.col then { e.2 with departed := true } else e.2)),
        live := (s.head p.head).live && !((x.guarded && x.verdict != .live)
          || (s.head p.head).lostTiles.contains (p.row * (s.head p.head).cols + p.col)) }
      ∧ (∀ g : Nat, g ≠ p.head.val → t.head g = s.head g) ∧ t.events = s.events))
  ∧ ∀ (s : State) (p : TilePos) (missing : Bool) (fi : FrameIn) (x : TileOut), (s.head p.head).frame = some fi →
    (s.head p.head).inFrame = true → tfind (s.head p.head).tiles (p.row * (s.head p.head).cols + p.col) = some x →
    p.col < (s.head p.head).cols → x.departed = false → x.filled = false → x.verdict ≠ .dark → (s.head p.head).blankNow = false →
    (missing = true ∨ (s.head p.head).composed ≤ 64 * p.row) →
    Completes (.tileDeparture p missing) s (fun t =>
      (t.head p.head).live = false ∧ (t.head p.head).sticky.testBit 18 = true
      ∧ (64 * p.row ≤ (s.head p.head).composed →
        (t.head p.head).cnt.fillRows = ((s.head p.head).cnt.fillRows + b2n (!(s.head p.head).rowFilled p.row)) % 2 ^ 32)
      ∧ (∀ (i : Nat) (y : TileOut), tfind (s.head p.head).tiles i = some y → i / (s.head p.head).cols = p.row → y.verdict ≠ .dark →
        ∃ z, tfind (t.head p.head).tiles i = some z ∧ z.verdict = .unverified ∧ z.filled = true)
      ∧ (∀ g : Nat, g ≠ p.head.val → t.head g = s.head g) ∧ t.ledger = s.ledger ∧ t.cfg = s.cfg))

/-- R334, R72, R219: the comparison of an output tile with the lane's two copies. Where nothing disturbs them it matches; a disturbed result is a data
mismatch, with CU_MISMATCH, the tile UNVERIFIED and no live state; a row that the lane did not finish counts as a miss, which is no mismatch. -/
def Obligations.OutputChecks : Prop :=
  ∀ (s : State) (p : TilePos) (o : CheckObs) (fi : FrameIn) (x : TileOut) (at' : Time64), (s.head p.head).frame = some fi →
    tfind (s.head p.head).tiles (p.row * (s.head p.head).cols + p.col) = some x → p.col < (s.head p.head).cols →
    (s.head p.head).recDone = false → x.checked = false → x.departed = true → x.filled = false → x.verdict ≠ .dark →
    rowChecked (s.head p.head) p.head p.row fi = true →
    o.copyA = 0 → o.copyB = 0 → o.guardA = 0 → o.guardB = 0 →
    (o.finished = true → (s.head p.head).unread.contains p.row = false → p.col + 1 < (s.head p.head).cols → o.disturb = 0 →
      Completes (.outputCheckComplete p o at') s (fun t =>
        tfind (t.head p.head).tiles (p.row * (s.head p.head).cols + p.col)
          = some { x with checked := true, outSig := outSig p.head (s.head p.head) fi p.row p.col }
        ∧ (t.head p.head).cnt.mismatch = (s.head p.head).cnt.mismatch ∧ (t.head p.head).live = (s.head p.head).live
        ∧ t.events = s.events ∧ ∀ g : Nat, g ≠ p.head.val → t.head g = s.head g))
    ∧ (o.finished = true → (s.head p.head).unread.contains p.row = false → p.col + 1 < (s.head p.head).cols → o.disturb ≠ 0 →
      Completes (.outputCheckComplete p o at') s (fun t =>
        (∃ z, tfind (t.head p.head).tiles (p.row * (s.head p.head).cols + p.col) = some z ∧ z.verdict = .unverified ∧ z.checked = true)
        ∧ (t.head p.head).cnt.mismatch = ((s.head p.head).cnt.mismatch + 1) % 2 ^ 32 ∧ (t.head p.head).live = false
        ∧ (∃ (unit : Nat) (l : List (Nat × Nat)), s.raised t .cuMismatch none ([(1, unit), (1, 1), (1, 0)] ++ l))
        ∧ ∀ g : Nat, g ≠ p.head.val → t.head g = s.head g))
    ∧ (o.finished = false → p.col + 1 = (s.head p.head).cols →
      Completes (.outputCheckComplete p o at') s (fun t =>
        (t.head p.head).cnt.verifyMiss = ((s.head p.head).cnt.verifyMiss + 1) % 2 ^ 32
        ∧ tget 0 (t.head p.head).rowMissed p.row = tget 0 (s.head p.head).rowMissed p.row + 1
        ∧ (t.head p.head).cnt.mismatch = (s.head p.head).cnt.mismatch ∧ (t.head p.head).tiles = (s.head p.head).tiles
        ∧ (t.head p.head).live = (s.head p.head).live ∧ t.events = s.events))

/-- R71, R267, R269, R60: the row verdict is the worst of its tiles' verdicts. With the record of a frame that has ended, 64 pixel clocks after its
last active pixel, the verdicts are final: the summary and WORST are those of the frame, and a head with FLAUND enabled and its link up sends a record
of five packets. A timing committed for that blanking is taken with it (R196). -/
def Obligations.RowVerdictsAndRecords : Prop :=
  (∀ (d : Head) (row : Nat), 0 < d.cols →
    (∀ (c : Nat) (x : TileOut), c < d.cols → tfind d.tiles (row * d.cols + c) = some x → x.verdict.code ≤ (d.rowVerdict row).code)
    ∧ ((∀ c : Nat, c < d.cols → (tfind d.tiles (row * d.cols + c)).isSome = true) →
      ∃ (c : Nat) (x : TileOut), c < d.cols ∧ tfind d.tiles (row * d.cols + c) = some x ∧ d.rowVerdict row = x.verdict))
  ∧ (∀ (s : State) (h : Fin 32) (fi : FrameIn) (at' : Time64), (s.head h).frame = some fi → (s.head h).inFrame = false →
    (s.head h).recDone = false → afterLast s h 64 ≤ at' →
    Completes (.flaundRecordAssembly h at') s (fun t =>
      (t.head h).recDone = true ∧ (t.head h).vsum = vsumOf (s.head h) ∧ (t.head h).vsumCnt = (s.head h).frameCnt
      ∧ (t.head h).worst = worstOf ((List.range (s.head h).rows).map (fun r => (s.head h).rowVerdict r))
      ∧ (fi.flaund = true → s.linkUp h = true → s.alive = true → (s.head h).retime = none →
        ∃ (parts : List Bytes) (l₁ l₂ : List Out), t.out = s.out ++ l₁ ++ [.flaundRecord h parts] ++ l₂ ∧ parts.length = 5)
      ∧ t.cfg = s.cfg ∧ t.ledger = s.ledger))
  ∧ ∀ (s : State) (h : Fin 32) (fi : FrameIn) (x : HeadTiming) (at' : Time64), (s.head h).frame = some fi → (s.head h).inFrame = false →
    (s.head h).recDone = false → afterLast s h 64 ≤ at' → (s.head h).shadow = some x → (s.head h).shadowDue = true →
    Completes (.flaundRecordAssembly h at') s (fun t =>
      (t.head h).timing = x ∧ (t.head h).shadow = none ∧ (t.head h).running = false ∧ (t.head h).live = false
      ∧ (x.port.isSome = true → (t.head h).retime.isSome = true))

/-- R203 to R205, R197, R207: link training and its end, failure, also of an MST reallocation, and retry, unplugs, returns and IRQ_HPD. A head whose
port trains, has failed or is unplugged has no live state; a CONNECTION_STATUS_NOTIFY on an MST port blanks the heads whose sinks have left. The cause
codes of DP_LINK are the model's (log 22). -/
def Obligations.PortTraining : Prop :=
  (∀ (s : State) (p : Fin 8) (info : SinkInfo) (sinks : List (Fin 32 × SinkInfo)) (at' : Time64), (s.dpPort p).training = true →
    (s.dpPort p).unplugged = false →
    Completes (.linkTrainComplete p ⟨info, sinks⟩ at') s (fun t =>
      t.dpPort p = { s.dpPort p with
        trained := true, training := false, failedT := none, dpcd := padTo 256 info.dpcd, edid := info.edid.take 512
        sinks := (t.dpPort p).sinks, slots := (t.dpPort p).slots }
      ∧ ((s.dpPort p).mode ≠ 2 → (t.dpPort p).sinks = [] ∧ (t.dpPort p).slots = [])
      ∧ ((s.dpPort p).mode = 2 → (∀ h ∈ s.portHeads p, (tfind (t.dpPort p).slots h).isSome = true)
        ∧ ∀ q ∈ sinks, (tfind (t.dpPort p).sinks q.1.val).isSome = true)
      ∧ (∀ h ∈ s.portHeads p, ∀ r, (t.head h).retime = some r → r.portDone = true)
      ∧ (∀ q : Nat, q ≠ p.val → t.dpPort q = s.dpPort q) ∧ (∀ h : Nat, (t.head h).live = (s.head h).live) ∧ t.events = s.events))
  ∧ (∀ (s : State) (p : Fin 8) (phase : Nat) (at' : Time64), ((s.dpPort p).training = true ∨ awaitsSlots s p = true) →
    Completes (.linkTrainFail p phase at') s (fun t =>
      (t.dpPort p).training = false ∧ (t.dpPort p).trained = false ∧ (t.dpPort p).failedT = some at'
      ∧ (∀ h ∈ s.portHeads p, (t.head h).blankNow = true ∧ (t.head h).live = false)
      ∧ s.raised t .linkTrainFail none [(1, p.val), (1, phase)]))
  ∧ (∀ (s : State) (p : Fin 8) (f at' : Time64), (s.dpPort p).failedT = some f → f + 1000000000 ≤ at' → (s.dpPort p).mode ≠ 0 →
    (s.dpPort p).unplugged = false →
    Completes (.linkTrainRetry p at') s (fun t =>
      (t.dpPort p).training = true ∧ (t.dpPort p).failedT = none
      ∧ (∀ h ∈ s.portHeads p, (t.head h).running = false ∧ (t.head h).live = false)
      ∧ s.raised t .dpLink none [(1, p.val), (1, 3)]))
  ∧ (∀ (s : State) (p : Fin 8) (at' : Time64), (s.dpPort p).unplugged = false →
    Completes (.hpdUnplug p at') s (fun t =>
      (t.dpPort p).unplugged = true ∧ (t.dpPort p).trained = false
      ∧ (∀ h ∈ s.portHeads p, (t.head h).blankNow = true ∧ (t.head h).running = false ∧ (t.head h).live = false)
      ∧ s.raised t .dpLink none [(1, p.val), (1, 0)]))
  ∧ (∀ (s : State) (p : Fin 8) (lost : Bool) (at' : Time64), (s.dpPort p).trained = true → (s.dpPort p).mode ≠ 0 →
    (s.dpPort p).unplugged = false →
    Completes (.irqHpd p lost at') s (fun t =>
      if lost then (t.dpPort p).trained = false ∧ (t.dpPort p).training = true
        ∧ (∀ h ∈ s.portHeads p, (t.head h).running = false ∧ (t.head h).live = false) ∧ s.raised t .dpLink none [(1, p.val), (1, 2)]
      else t = { s with time := { s.time with now := at' } }))
  ∧ (∀ (s : State) (p : Fin 8) (at' : Time64), (s.dpPort p).unplugged = true → (s.dpPort p).mode ≠ 0 →
    Completes (.hpdReturn p at') s (fun t =>
      (t.dpPort p).unplugged = false ∧ (t.dpPort p).training = true ∧ (∀ h ∈ s.portHeads p, (t.head h).live = false)
      ∧ s.raised t .dpLink none [(1, p.val), (1, 3)]))
  ∧ ∀ (s : State) (p : Fin 8) (gone : List Nat) (at' : Time64), (s.dpPort p).mode = 2 →
    Completes (.dpTopology p gone at') s (fun t =>
      (∀ h ∈ s.portHeads p, h ∈ gone → (s.head h).unplugged = false →
        (t.head h).unplugged = true ∧ (t.head h).blankNow = true ∧ (t.head h).live = false)
      ∧ (∀ h : Nat, h ∉ s.portHeads p → t.head h = s.head h) ∧ (∀ q : Nat, q ≠ p.val → t.dpPort q = s.dpPort q)
      ∧ t.dpPort p = { s.dpPort p with slots := (t.dpPort p).slots }
      ∧ (∀ h ∈ s.portHeads p, h ∈ gone → (s.head h).unplugged = false → tfind (t.dpPort p).slots h = none)
      ∧ ((∀ h ∈ s.portHeads p, h ∉ gone ∨ (s.head h).unplugged = true) → s.raised t .dpTopology none [(1, p.val)]))

/-! ## The twin -/

/-- R232, R233, R236: the lanes. A lane that is lost is no longer good, one that has run without an error is good again, both without a change of the
stripe before the next tick boundary; and the link comes down at its safe point and not before, which changes no mode. R234, R235: the handshake. A
HELLO that is due goes out signed over both nonces, the first with the certificate; one received with the other seat, a good signature, the same
installation and firmware, and a signature over this seat's own nonce verifies a peer that is the partner, and fails with TWIN_PARTNER_REPLACED where
it is another; any failed check leaves the peer unverified and changes no mode. -/
def Obligations.TwinLink : Prop :=
  ((∀ (s : State) (l : Fin 8) (at' : Time64), s.twin.linkOn = true →
    Completes (.flumeLaneLoss l at') s (fun t =>
      t = { s with time := { s.time with now := at' },
                   twin := { s.twin with lanesGood := setNth false s.twin.lanesGood l, prbsErr := t.twin.prbsErr } }
      ∧ t.twin.lanes = s.twin.lanes ∧ (l.val ∈ s.twin.lanes → t.twin.prbsErr = s.twin.prbsErr)))
  ∧ (∀ (s : State) (l : Fin 8) (at' : Time64), s.twin.linkOn = true →
    Completes (.flumeLaneRejoin l at') s (fun t =>
      t = { s with time := { s.time with now := at' }, twin := { s.twin with lanesGood := setNth true s.twin.lanesGood l } }
      ∧ t.twin.lanes = s.twin.lanes))
  ∧ (∀ (s : State) (at' : Time64), s.twin.linkDown = true → atSafePoint s = true →
    Completes (.flumeSafePoint at') s (fun t =>
      t.twin.linkOn = s.twin.linkAgain ∧ t.twin.linkDown = false ∧ t.twin.lanesUsed = 0 ∧ t.twin.verified = false ∧ t.twin.nonce = []
      ∧ t.twin.mode = s.twin.mode ∧ t.twin.linkAgain = s.twin.linkAgain ∧ OnlyTwin s t))
  ∧ ∀ (s : State) (at' : Time64), s.twin.linkDown = false ∨ atSafePoint s = false →
    Completes (.flumeSafePoint at') s (fun t => t = s))
  ∧ ((∀ (s : State) (at' : Time64), s.linkUsed = true → twinPermitted s = true →
    (∀ u : Time64, s.twin.helloT = some u → u + (if s.twin.answered then 1000000000 else 100000000) ≤ at') →
    Completes (.helloSend at') s (fun t =>
      (∃ m : Hello, s.sentBody t (.hello m) ∧ m.nonce = t.twin.nonce ∧ m.peerNonce = padTo 16 s.twin.peerNonce
        ∧ m.seat = b2n s.seatB ∧ m.uniqueId = s.life.uid ∧ m.signature = Config.ecdsaSign (helloBody m)
        ∧ m.cert = (if s.twin.nonce = [] then s.life.cert else []))
      ∧ (s.twin.nonce ≠ [] → t.twin.nonce = s.twin.nonce) ∧ (s.twin.nonce = [] → t.twin.nonce.length = 16)
      ∧ t.twin.helloT = some at' ∧ t.twin.mode = s.twin.mode ∧ t.cfg = s.cfg))
  ∧ (∀ (s : State) (w : FlumeFrame) (f : FlumeHdr × Bytes) (joinable : Bool) (at' : Time64) (m : Hello),
    s.receives 1 (twinPermitted s) w f → m = readHello joinable at' f.2 → m.seat ≠ b2n s.seatB →
    Config.ecdsaVerify (if m.cert = [] then s.twin.peerCert else m.cert) (helloBody m) m.signature = true →
    m.installId = s.life.installId.getD (zeros 16) → m.fwDigest = s.fwDigest →
    s.twin.nonce ≠ [] → m.peerNonce = s.twin.nonce →
    Completes (.helloReceived ⟨w, joinable, at'⟩) s (fun t =>
      t.twin.peerUid = m.uniqueId ∧ t.twin.mode = s.twin.mode
      ∧ (s.twin.partner = some m.uniqueId → t.twin.verified = true ∧ t.twin.helloFail = 0 ∧ t.twin.replaced = false)
      ∧ (s.twin.partner ≠ some m.uniqueId → t.twin.verified = false ∧ t.twin.helloFail = 5 ∧ t.twin.replaced = true ∧ t.twin.join = none)))
  ∧ (∀ (s : State) (w : FlumeFrame) (f : FlumeHdr × Bytes) (joinable : Bool) (at' : Time64) (m : Hello),
    s.receives 1 (twinPermitted s) w f → m = readHello joinable at' f.2 →
    (m.seat = b2n s.seatB
      ∨ Config.ecdsaVerify (if m.cert = [] then s.twin.peerCert else m.cert) (helloBody m) m.signature = false
      ∨ m.installId ≠ s.life.installId.getD (zeros 16) ∨ m.fwDigest ≠ s.fwDigest) →
    Completes (.helloReceived ⟨w, joinable, at'⟩) s (fun t =>
      t.twin.verified = false ∧ t.twin.mode = s.twin.mode ∧ t.twin.partner = s.twin.partner ∧ t.cfg = s.cfg ∧ t.twin.join = none
      ∧ (m.seat = b2n s.seatB → s.twin.helloFail ≠ 1 → s.twin.join = none → s.raised t .twinSeatConflict none [])))
  ∧ ∀ (s : State) (at' : Time64), s.linkUsed = true → s.twin.replaced = true →
    (∀ u : Time64, s.twin.replacedT = some u → u + 10000000000 ≤ at') →
    Completes (.twinPartnerReplaced at') s (fun t =>
      s.raised t .twinPartnerReplaced none [(16, ofLe s.twin.peerUid)] ∧ t.twin.replacedT = some at' ∧ t.twin.partner = s.twin.partner
      ∧ OnlyEvents s t))

/-- R237 to R239, R263: heartbeats on the three paths, each counted for its tick: that of the frame's header on the Flume, that in the bytes which the
MAC covers over UDP (their layout is log 35). A path that has been silent for three ticks is reported, once; with all three silent the partner has
failed: an active seat is ORPHANED, a standby with TWIN_TAKEOVER AUTO takes over (its tick is log 36). What is not silent or does not authenticate
changes nothing (log 83). -/
def Obligations.TwinHeartbeats : Prop :=
  (∀ (s : State) (m : Heartbeat) (w : FlumeFrame) (f : FlumeHdr × Bytes), s.receives 2 s.beats w f →
    Completes (.heartbeatReceived ⟨m, w⟩) s (fun t =>
      t.twin.hbLast = setNth (some (max f.1.tick ((nth none s.twin.hbLast 0).getD f.1.tick))) s.twin.hbLast 0
      ∧ t.twin.peerLeft = (match m.leaving with
          | some n => some (min n (s.twin.peerLeft.getD n))
          | none => s.twin.peerLeft)
      ∧ t.twin.cnt.framesRx = (s.twin.cnt.framesRx + 1) % 2 ^ 64
      ∧ t.power.peerLevel = (if m.thermal = 0 then .normal else if m.thermal = 1 then .warning else .throttle)
      ∧ t.twin.mode = s.twin.mode
      ∧ (s.twin.mode = .orphaned → s.twin.partnerLost = true → t.twin.partnerLost = false ∧ s.raised t .twinPartnerSeen none [])))
  ∧ (∀ (s : State) (m : Heartbeat) (w : FlumeFrame), s.linkUsed = true → s.beats = false →
    Completes (.heartbeatReceived ⟨m, w⟩) s (fun t =>
      t = { s with twin := { s.twin with cnt := { s.twin.cnt with
        corrected := (s.twin.cnt.corrected + (frameData w).2) % 2 ^ 32, frameErr := (s.twin.cnt.frameErr + 1) % 2 ^ 32 } } }))
  ∧ (∀ (s : State) (at' : Time64), s.beats = true →
    Completes (.twinHbInEdge at') s (fun t =>
      t.twin.hbLast = setNth (some (max (s.grid.tickAt (at' + 10000))
        ((nth none s.twin.hbLast 1).getD (s.grid.tickAt (at' + 10000))))) s.twin.hbLast 1
      ∧ t.twin.mode = s.twin.mode ∧ OnlyEvents s t))
  ∧ (∀ (s : State) (m : UdpHeartbeat), s.beats = true → s.life.installId.isSome = true →
    m.mac = (Config.hmacSha256 s.life.installKey m.body).take 16 → fld m.body 0 1 ≠ b2n s.seatB →
    s.twin.partner = some (slice m.body 16 16) →
    Completes (.udpHeartbeatReceived m) s (fun t =>
      t.twin.hbLast = setNth (some (max (fld m.body 8 8) ((nth none s.twin.hbLast 2).getD (fld m.body 8 8)))) s.twin.hbLast 2
      ∧ t.twin.mode = s.twin.mode ∧ OnlyEvents s t))
  ∧ (∀ (s : State) (m : UdpHeartbeat), m.mac ≠ (Config.hmacSha256 s.life.installKey m.body).take 16 →
    Completes (.udpHeartbeatReceived m) s (fun t => t = s))
  ∧ (∀ (s : State) (path : Fin 3) (at' : Time64), s.beats = true → pathSilent s s.time.tick path = true →
    nth false s.twin.hbSaid path = false →
    Completes (.twinHbPath path at') s (fun t =>
      s.raised t .twinHbPath none [(1, path.val)] ∧ t.twin.hbSaid = setNth true s.twin.hbSaid path ∧ t.twin.mode = s.twin.mode
      ∧ OnlyEvents s t))
  ∧ (∀ (s : State) (at' : Time64), s.alive = true → s.paired = true → s.twin.peerLeft = none → s.twin.partnerLost = false →
    (∀ p : Nat, p < 3 → pathSilent s (s.grid.decidedAt at') p = true) →
    Completes (.partnerFailed at') s (fun t =>
      t.twin.partnerLost = true
      ∧ (if s.twin.mode = .coldStandby then t.twin.mode = .coldStandby
          ∧ (pv s.cfg pTwinTakeover 0 = 0 → t.twin.takeover = some (s.grid.firstDecision (at' + 1000000)))
        else t.twin.mode = .orphaned)))
  ∧ ∀ (s : State) (p : Nat) (at' : Time64), p < 3 → pathSilent s (s.grid.decidedAt at') p = false →
    Completes (.partnerFailed at') s (fun t => t = s)

/-- R50, R245 to R250, R255, R257, R244: the frames that a HOT pair exchanges in a tick. LEAD_STATE goes out TWIN_LATCH_LEAD before the decision point
that it counts for; an ADMIT counts for the next decision point, and a late one is discarded; at E(n) without the peer's list the tick is late and no
pane takes a frame; the peer's signatures are kept, and one that has not come within a tick period counts; a STATE frame says what the peer has
become; and a peer's event waits for the union. -/
def Obligations.TwinExchanges : Prop :=
  (∀ (s : State) (at' : Time64), s.linkUsed = true → s.hot = true → s.timeLead = true → 2 ≤ s.twin.lanesUsed → leadStateT s ≤ at' →
    (∀ l : LeadState, s.time.leadRecv = some l → l.tick ≠ s.time.decided + 1) →
    Completes (.leadStateSend at') s (fun t => ∃ l : LeadState, s.sentBody t (.leadState l) ∧ l.tick = s.time.decided + 1 ∧ l.at' = at'
      ∧ t.time = { s.time with now := at', leadRecv := some l } ∧ t.cfg = s.cfg ∧ t.events = s.events))
  ∧ (∀ (s : State) (at' : Time64), at' < leadStateT s → Completes (.leadStateSend at') s (fun t => t = s))
  ∧ (∀ (s : State) (tstate uWall : Nat) (w : FlumeFrame) (f : FlumeHdr × Bytes) (at' : Time64),
    s.receives 4 (s.hot && 2 ≤ s.twin.lanesUsed) w f → s.timeLead = false → f.1.tick = s.time.decided + 1 →
    Completes (.leadStateReceived ⟨tstate, uWall, w, at'⟩) s (fun t =>
      t.time = { s.time with now := at', leadRecv := some ⟨f.1.tick, tstate, uWall, at'⟩ }
      ∧ t.twin.cnt.framesRx = (s.twin.cnt.framesRx + 1) % 2 ^ 64 ∧ t.events = s.events ∧ t.cfg = s.cfg))
  ∧ (∀ (s : State) (w : FlumeFrame) (f : FlumeHdr × Bytes) (at' : Time64),
    s.receives 5 (s.hot && 2 ≤ s.twin.lanesUsed) w f → s.twin.xchgTick = none → f.1.tick = s.time.decided + 1 →
    Completes (.admitReceived ⟨w, at'⟩) s (fun t =>
      t.twin.peerAdmit = (if at' ≤ xchgDeadline s f.1.tick then some (readAdmit f.1.tick at' f.2) else s.twin.peerAdmit)
      ∧ t.twin.cnt.framesRx = (s.twin.cnt.framesRx + 1) % 2 ^ 64 ∧ OnlyTwin s t))
  ∧ (∀ (s : State) (n : Nat) (own : Admit) (at' : Time64), s.twin.xchgTick = some n → s.twin.ownAdmit = some own → own.tick = n →
    s.twin.peerAdmit = none → s.hot = true → s.goesAlone = false → xchgDeadline s n ≤ at' →
    Completes (.xchgDeadline at') s (fun t =>
      t.twin.xchgTick = none ∧ t.twin.lateRun = s.twin.lateRun + 1 ∧ t.twin.cnt.xchgLate = (s.twin.cnt.xchgLate + 1) % 2 ^ 32
      ∧ (∀ p : Nat, (t.pane p).shown = (s.pane p).shown)))
  ∧ (∀ (s : State) (w : FlumeFrame) (f : FlumeHdr × Bytes) (at' : Time64) (m : SigFrame),
    s.receives 8 (s.hot && 2 ≤ s.twin.lanesUsed) w f → m = readSig at' f.2 →
    Completes (.sigReceived ⟨w, at'⟩) s (fun t =>
      t.twin.peerFaulted = m.selfFault
      ∧ ∃ r ∈ (t.head m.head).peerSigs, r.frameCnt = m.frameCnt ∧ r.frameSig = m.frameSig ∧ r.rowSigs = m.rowSigs))
  ∧ (∀ (s : State) (h : Fin 32) (r : SigRecord) (at' : Time64), (s.head h).sigs.find? (fun r => !r.compared) = some r → s.hot = true →
    3 * r.formedT + s.grid.p3 ≤ 3 * at' →
    Completes (.sigLate h at') s (fun t =>
      tget 0 t.twin.sigRun h = tget 0 s.twin.sigRun h + 1 ∧ t.twin.cnt.sigLate = (s.twin.cnt.sigLate + 1) % 2 ^ 32
      ∧ (tget 0 s.twin.sigRun h = 2 → s.raised t .twinSigMissing none [(1, h.val)])))
  ∧ (∀ (s : State) (w : FlumeFrame) (f : FlumeHdr × Bytes) (at' : Time64), s.receives 12 s.hot w f →
    Completes (.stateFrameReceived ⟨.reinstate, w⟩ at') s (fun t =>
      t.twin.peerWithdrawn = false ∧ t.twin.peerFaulted = false ∧ OnlyTwin s t)
    ∧ Completes (.stateFrameReceived ⟨.selfFault, w⟩ at') s (fun t => t.twin.peerFaulted = true ∧ OnlyTwin s t)
    ∧ (∀ n : Nat, Completes (.stateFrameReceived ⟨.leave n, w⟩ at') s (fun t =>
        t.twin.peerLeft = some (min n (s.twin.peerLeft.getD n)) ∧ t.twin.mode = s.twin.mode ∧ OnlyTwin s t))
    ∧ (∀ n : Nat, s.twin.withdrawn = false → Completes (.stateFrameReceived ⟨.withdraw n, w⟩ at') s (fun t =>
        t.twin.peerWithdrawn = true ∧ t.twin.withdrawn = false ∧ (s.seatB = true → t.twin.primaryB = true) ∧ t.events = s.events)))
  ∧ ∀ (s : State) (e : PeerEvent) (w : FlumeFrame) (f : FlumeHdr × Bytes) (at' : Time64), s.receives 11 s.hot w f →
    Completes (.eventFrameReceived ⟨e, w⟩ at') s (fun t =>
      t.twin.peerEvents = s.twin.peerEvents ++ [⟨e.time, !s.seatB, s.twin.evOrder, .peer e.code, none, e.payload⟩]
      ∧ t.twin.evOrder = s.twin.evOrder + 1 ∧ OnlyTwin s t)

/-- R231, R242: the commands of a HOT pair. A seat runs the same checks on a forwarded packet and answers with its status; the acknowledgement fixes
the command's tick at least 50 µs ahead, a rejection drops it; and a frame without an answer is sent three more times with RESEND, after which its
command fails (how the peer learns of that is log 130). -/
def Obligations.TwinCommands : Prop :=
  (∀ (s : State) (m : CmdFrame) (w : FlumeFrame) (f : FlumeHdr × Bytes) (h : CmdHdr) (k : Cmd), s.receives 9 s.hot w f →
    m.packet = some (h, k) → seenFrame s f.1.fseq = false →
    checkCmd { (atTime m.at' s) with twin := { (takeFrame 9 s.hot w s).2.twin with rxCmd := some f.1.fseq } } { h with transport := .peer } k = none →
    Completes (.cmdFrameReceived ⟨m, w⟩) s (fun t =>
      (∃ a, t.cmd.accepted = s.cmd.accepted ++ [a] ∧ a.hdr = { h with transport := .peer } ∧ a.cmd = k ∧ a.fseq = some f.1.fseq
        ∧ a.acked = true ∧ a.peer = true ∧ s.time.decided < a.tick)
      ∧ s.sentBody t (.cmdAck ⟨f.1.fseq, 0, 0, m.at'⟩) ∧ t.twin.rxCmd = some f.1.fseq ∧ t.cfg = s.cfg ∧ OnlyAcceptance s t))
  ∧ (∀ (s : State) (m : CmdFrame) (w : FlumeFrame) (f : FlumeHdr × Bytes) (h : CmdHdr) (k : Cmd) (st : Status) (d : Nat),
    s.receives 9 s.hot w f → m.packet = some (h, k) → seenFrame s f.1.fseq = false →
    checkCmd { (atTime m.at' s) with twin := { (takeFrame 9 s.hot w s).2.twin with rxCmd := some f.1.fseq } } { h with transport := .peer } k
      = some (st, d) →
    Completes (.cmdFrameReceived ⟨m, w⟩) s (fun t =>
      t.cmd = s.cmd ∧ s.sentBody t (.cmdAck ⟨f.1.fseq, st.code, d, m.at'⟩) ∧ OnlyTwin s t))
  ∧ (∀ (s : State) (m : CmdFrame) (w : FlumeFrame) (f : FlumeHdr × Bytes) (h : CmdHdr) (k : Cmd), s.receives 9 s.hot w f →
    m.packet = some (h, k) → seenFrame s f.1.fseq = true →
    Completes (.cmdFrameReceived ⟨m, w⟩) s (fun t =>
      t.cmd = s.cmd ∧ s.sentBody t (.cmdAck ⟨f.1.fseq, 0, 0, m.at'⟩) ∧ OnlyTwin s t))
  ∧ (∀ (s : State) (m : CmdAck) (w : FlumeFrame) (f : FlumeHdr × Bytes), s.receives 10 s.hot w f →
    s.twin.outstanding.any (fun o => o.fseq == m.fseq && !o.snap) = true → m.status < 0x100 →
    Completes (.cmdAckReceived ⟨m, w⟩) s (fun t =>
      t.cmd.accepted = s.cmd.accepted.map (fun a => if a.fseq = some m.fseq then { a with
        acked := true
        tick := if s.routeBoth then a.tick else ackTick (atTime m.at' s) a.hdr } else a)
      ∧ t.twin.outstanding = s.twin.outstanding.filter (fun o => o.snap || o.fseq != m.fseq) ∧ t.out = s.out ∧ OnlyAcceptance s t))
  ∧ (∀ (s : State) (m : CmdAck) (w : FlumeFrame) (f : FlumeHdr × Bytes), s.receives 10 s.hot w f →
    s.twin.outstanding.any (fun o => o.fseq == m.fseq && !o.snap) = true → 0x100 ≤ m.status →
    Completes (.cmdAckReceived ⟨m, w⟩) s (fun t =>
      t.cmd.accepted = s.cmd.accepted.filter (fun a => a.fseq != some m.fseq) ∧ t.cfg = s.cfg ∧ OnlyAcceptance s t))
  ∧ (∀ (s : State) (fseq : Nat) (o : Outstanding) (a : Accepted) (at' : Time64), s.linkUsed = true →
    s.twin.outstanding.find? (fun o => o.fseq == fseq && o.snap == false) = some o → o.sentT + 20000 ≤ at' → o.resent < 3 →
    s.cmd.accepted.find? (fun a => a.fseq == some fseq && !a.peer) = some a →
    Completes (.flumeResend ⟨false, fseq⟩ at') s (fun t =>
      (∃ h fr, s.sent t (.flume h (.cmd (cmdFrameOf s.routeBoth a.hdr a.cmd at')) fr) ∧ h.fseq = fseq ∧ h.resend = true)
      ∧ t.cmd = s.cmd
      ∧ t.twin.outstanding = s.twin.outstanding.filter (fun q => !(q.fseq == fseq && q.snap == false))
        ++ [{ o with sentT := at', resent := o.resent + 1 }]
      ∧ OnlyTwin s t))
  ∧ ∀ (s : State) (fseq : Nat) (o : Outstanding) (at' : Time64), s.hot = true →
    s.twin.outstanding.find? (fun o => o.fseq == fseq && o.snap == false) = some o → o.sentT + 20000 ≤ at' → 3 ≤ o.resent →
    Completes (.flumeResend ⟨false, fseq⟩ at') s (fun t =>
      t.cmd.accepted = s.cmd.accepted.filter (fun a => a.fseq != some fseq)
      ∧ t.twin.outstanding = s.twin.outstanding.filter (fun q => !(q.fseq == fseq && q.snap == false)) ∧ t.cfg = s.cfg
      ∧ OnlyAcceptance s t)

/-- R231, R261, R262: snapshot transfers. A segment is stored and acknowledged, a repeated one acknowledged again, one whose whole does not check is
not; an acknowledgement moves the transfer on (a segment has 4,096 bytes, log 44), COLD-ACTIVE sends a snapshot each period, and a standby reports one
that is older than three periods, once. -/
def Obligations.SnapshotTransfers : Prop :=
  (∀ (s : State) (m : SnapSegment) (w : FlumeFrame) (f : FlumeHdr × Bytes), s.receives 13 (takesSnapshot s m.purpose) w f →
    f.1.resend = false → m.offset = 0 → m.data.length < m.total →
    Completes (.snapReceived ⟨m, w⟩) s (fun t =>
      t.twin.receiving = some ⟨m.purpose, m.snapId, m.tick, m.total, m.data⟩ ∧ s.sentBody t (.snapAck m.snapId 0)
      ∧ t.twin.snapHeld = s.twin.snapHeld ∧ OnlyTwin s t))
  ∧ (∀ (s : State) (m : SnapSegment) (w : FlumeFrame) (f : FlumeHdr × Bytes), s.receives 13 (takesSnapshot s m.purpose) w f →
    f.1.resend = true → knownSegment m s = true →
    Completes (.snapReceived ⟨m, w⟩) s (fun t =>
      s.sentBody t (.snapAck m.snapId m.offset) ∧ t.twin.receiving = s.twin.receiving ∧ t.twin.snapHeld = s.twin.snapHeld ∧ OnlyTwin s t))
  ∧ (∀ (s : State) (m : SnapSegment) (w : FlumeFrame) (f : FlumeHdr × Bytes) (r : Receiving), s.receives 13 (takesSnapshot s m.purpose) w f →
    f.1.resend = false → m.offset ≠ 0 → s.twin.receiving = some r → r.snapId = m.snapId → r.data.length = m.offset →
    r.total ≤ (r.data ++ m.data).length → snapshotCrc (r.data ++ m.data) ≠ m.crc →
    Completes (.snapReceived ⟨m, w⟩) s (fun t => t.twin.receiving = none ∧ t.out = s.out ∧ t.twin.snapHeld = s.twin.snapHeld ∧ OnlyTwin s t))
  ∧ (∀ (s : State) (x : Sending) (w : FlumeFrame) (f : FlumeHdr × Bytes) (at' : Time64), s.receives 14 s.twin.sending.isSome w f →
    s.twin.sending = some x → s.twin.linkDown = false → x.acked + 4096 < x.size →
    Completes (.snapAckReceived x.snapId x.acked ⟨true, w⟩ at') s (fun t =>
      t.twin.sending = some { x with acked := x.acked + 4096 }
      ∧ s.sentBody t (.snap (segmentOf { x with acked := x.acked + 4096 } at')) ∧ OnlyTwin s t))
  ∧ (∀ (s : State) (at' : Time64), s.linkUsed = true → s.twin.mode = .coldActive → s.twin.sending = none →
    (∀ u : Time64, s.twin.snapSentT = some u → u + 1000000000 * pv s.cfg pTwinSnapPeriod 0 ≤ at') →
    Completes (.snapshotPeriod at') s (fun t =>
      (∃ x, t.twin.sending = some x ∧ x.snapId = (s.twin.snapId + 1) % 2 ^ 32 ∧ x.acked = 0 ∧ x.purpose = 0 ∧ s.sentBody t (.snap (segmentOf x at')))
      ∧ t.twin.snapSentT = some at' ∧ t.twin.mode = .coldActive ∧ OnlyTwin s t))
  ∧ ∀ (s : State) (u at' : Time64), s.alive = true → s.twin.mode = .coldStandby → s.twin.snapT = some u →
    u + 3000000000 * pv s.cfg pTwinSnapPeriod 0 < at' → s.twin.snapOldSaid = false →
    Completes (.twinSnapOld at') s (fun t =>
      s.raised t .twinSnapOld none [] ∧ t.twin.snapOldSaid = true ∧ t.twin.mode = .coldStandby ∧ OnlyEvents s t)

/-- R251 to R253: borrowing. What a stream has missed for TWIN_BORROW_WAIT is asked for; a silent stream asks from its next number on, anew every 100
ms; a packet that the lender does not hold is answered so, and one that it holds goes out with its bytes, path and ARRIVAL_T while the lane budget
lasts; borrowed packets are counted; and the forwarding of an open request ends. -/
def Obligations.Borrowing : Prop :=
  (∀ (s : State) (x : Fin 128) (ext : Nat) (at' : Time64), s.borrows = true → s.linkUsed = true → ext ∈ missing s x → waited s x ext at' = true →
    Completes (.borrowWaitTimeout x ext at') s (fun t =>
      s.sentBody t (.borrowReq ⟨x, (rangesOf ((missing s x).filter (fun e => waited s x e at'))).take 64, none, at'⟩)
      ∧ t.streams = s.streams ∧ OnlyTwin s t))
  ∧ (∀ (s : State) (x : Fin 128) (e : Nat) (at' : Time64), s.borrows = true → s.linkUsed = true → (s.stream x).highExt = some e →
    ((s.stream x).state = .priming ∨ (s.stream x).state = .flowing ∨ (s.stream x).state = .gapped) → ownSilent s x at' = true →
    (∀ u : Time64, tfind s.twin.borrowOpen x = some u → u + 100000000 ≤ at') →
    Completes (.borrowIdleTimeout x at') s (fun t =>
      s.sentBody t (.borrowReq ⟨x, [], some (e + 1), at'⟩) ∧ tfind t.twin.borrowOpen x = some at' ∧ OnlyTwin s t))
  ∧ (∀ (s : State) (x : Fin 128) (e : Nat) (at' : Time64) (w : FlumeFrame) (f : FlumeHdr × Bytes),
    s.receives 6 (s.hot && 2 ≤ s.twin.lanesUsed) w f → heldPacket s x e = none →
    Completes (.borrowReqReceived ⟨⟨x, [(e, e)], none, at'⟩, w⟩) s (fun t =>
      s.sentBody t (.borrowData x e 1 none) ∧ t.twin.cnt.notHeld = (s.twin.cnt.notHeld + 1) % 2 ^ 32 ∧ OnlyTwin s t))
  ∧ (∀ (s : State) (x : Fin 128) (e : Nat) (p : Held) (at' : Time64) (w : FlumeFrame) (f : FlumeHdr × Bytes),
    s.receives 6 (s.hot && 2 ≤ s.twin.lanesUsed) w f → heldPacket s x e = some p → s.twin.lendT + 1000000 ≤ at' → p.bytes.length ≤ 1562500 →
    Completes (.borrowReqReceived ⟨⟨x, [(e, e)], none, at'⟩, w⟩) s (fun t =>
      s.sentBody t (.borrowData x e 0 (some ⟨p.path, p.arr, p.bytes⟩)) ∧ t.twin.cnt.lent = (s.twin.cnt.lent + 1) % 2 ^ 64 ∧ OnlyTwin s t))
  ∧ (∀ (s : State) (x : Fin 128) (ps : List BorrowPkt) (at' : Time64) (w : FlumeFrame) (f : FlumeHdr × Bytes),
    s.receives 7 (s.hot && 2 ≤ s.twin.lanesUsed) w f →
    Completes (.borrowDataReceived ⟨ps, w⟩ true x at') s (fun t =>
      t.streams = s.streams ∧ t.twin.cnt.framesRx = (s.twin.cnt.framesRx + 1) % 2 ^ 64 ∧ OnlyTwin s t))
  ∧ (∀ (s : State) (x : Fin 128) (p : BorrowPkt) (at' : Time64) (w : FlumeFrame) (f : FlumeHdr × Bytes),
    s.receives 7 (s.hot && 2 ≤ s.twin.lanesUsed) w f → streamOn s.cfg x = true →
    Completes (.borrowDataReceived ⟨[p], w⟩ false x at') s (fun t =>
      t.twin.cnt.borrowed = (s.twin.cnt.borrowed + 1) % 2 ^ 64 ∧ t.twin.cnt.framesRx = (s.twin.cnt.framesRx + 1) % 2 ^ 64 ∧ t.cfg = s.cfg))
  ∧ ∀ (s : State) (x : Fin 128) (e at' : Time64), tfind s.twin.lendOpen x = some e → e ≤ at' →
    Completes (.openBorrowExpiry x at') s (fun t =>
      tfind t.twin.lendOpen x = none ∧ (∀ y : Nat, y ≠ x.val → tfind t.twin.lendOpen y = tfind s.twin.lendOpen y) ∧ OnlyTwin s t)

/-! ## Encode -/

/-- R282, R284, R287, R288, R291, R295, R296, R313, R406: encode sessions. The next row of a picture is coded from the samples of its area where the
bucket allows its bits and none of its data was lost, otherwise dry; the complete picture leaves with its frame record once it is due, but not from a
withdrawn seat; at its safe point a disabled session stops or starts again; and a sender report goes out each second on each path. The number of
packets beyond the fewest that ENC_MTU allows is a free value (log 98). -/
def Obligations.EncodeSessions : Prop :=
  (∀ (s : State) (x : Fin 16) (r : RowCoded) (fi : FrameIn) (c : EncFrame) (at' : Time64), (s.session x).running = true →
    (s.head (pv s.cfg pEncHead x)).frame = some fi → (s.head (pv s.cfg pEncHead x)).allDark = false →
    (s.head (pv s.cfg pEncHead x)).inFrame = true →
    (s.head (pv s.cfg pEncHead x)).frameCnt % cadence s x = 0 → r.row < encRows s.cfg x →
    (s.session x).cur = some c → c.frameCnt = (s.head (pv s.cfg pEncHead x)).frameCnt → c.rows.length = r.row →
    Completes (.encRowCoded x r at') s (fun t =>
      (∃ (c' : EncFrame) (dry : Bool), (t.session x).cur = some c' ∧ c'.rows = c.rows ++ [(r.row, dry)]
        ∧ c'.bits = c.bits + (if dry then r.dryBits else rowSize r (pickQp s x r (s.session x) c))
        ∧ c'.input = tset r.row (encRowInput s x (pv s.cfg pEncHead x) r.row) c.input
        ∧ (dry = true ↔ c.idr = false ∧ (c.allDry = true ∨ c.lost = true ∨ (∃ q ∈ c.rows, q.2 = true)
            ∨ rowCap (s.session x).level c (encRows s.cfg x) r.row < rowSize r (pickQp s x r (s.session x) c)))
        ∧ c'.spare = max 0 (rowGoal s x (s.session x) c r.row - rowSize r (pickQp s x r (s.session x) c)))
      ∧ (pv s.cfg pEncQpMin x ≤ pv s.cfg pEncQpMax x →
          pv s.cfg pEncQpMin x ≤ pickQp s x r (s.session x) c ∧ pickQp s x r (s.session x) c ≤ pv s.cfg pEncQpMax x
          ∧ ((rowSize r (pickQp s x r (s.session x) c) : Int) ≤ rowGoal s x (s.session x) c r.row ∨
              ∀ q : Nat, pv s.cfg pEncQpMin x ≤ q → q ≤ pv s.cfg pEncQpMax x → rowGoal s x (s.session x) c r.row < rowSize r q))
      ∧ (∀ y : Nat, y ≠ x.val → t.session y = s.session y) ∧ t = { s with enc := t.enc, time := { s.time with now := at' } }))
  ∧ (∀ (s : State) (x : Fin 16) (r : RowCoded) (fi : FrameIn) (at' : Time64), (s.session x).running = true →
    (s.session x).stopping = false → (s.head (pv s.cfg pEncHead x)).frame = some fi →
    (s.head (pv s.cfg pEncHead x)).allDark = false →
    (s.head (pv s.cfg pEncHead x)).inFrame = true → (s.head (pv s.cfg pEncHead x)).frameCnt % cadence s x = 0 →
    0 < encRows s.cfg x → (s.session x).cur = none → r.row = 0 →
    Completes (.encRowCoded x r at') s (fun t =>
      ∃ c' : EncFrame, (t.session x).cur = some c' ∧ c'.rows.length = 1 ∧ c'.frameCnt = (s.head (pv s.cfg pEncHead x)).frameCnt
        ∧ (((s.session x).first = true ∨ (s.session x).idrDue ≠ 0) → c'.idr = true)))
  ∧ (∀ (s : State) (x : Fin 16) (c : EncFrame) (at' : Time64), (s.session x).cur = some c → encRows s.cfg x ≤ c.rows.length →
    assemblyDue s x (pv s.cfg pEncHead x) c at' = true →
    Completes (.encRecordAssembly x at') s (fun t =>
      (t.session x).cur = none ∧ (t.session x).first = false ∧ (c.idr = false → (t.session x).level = (s.session x).level - c.bits)
      ∧ (∃ n : Nat, leastPackets s.cfg x (natOf ((s.session x).level - (t.session x).level)) c.rows.length ≤ n
          ∧ (t.session x).seq = ((s.session x).seq + n) % 65536)
      ∧ (∃ (b : Bytes) (l₁ l₂ : List Out), t.out = s.out ++ l₁ ++ [.encRecord x (pv s.cfg pEncRecordExtid x) b] ++ l₂)
      ∧ (s.hot = false → (t.session x).cnt.frames = ((s.session x).cnt.frames + 1) % 2 ^ 32)
      ∧ (s.hot = true → s.twin.withdrawn = true → (t.session x).cnt.frames = (s.session x).cnt.frames
          ∧ (t.session x).cnt.suppressed = ((s.session x).cnt.suppressed + 1) % 2 ^ 32)
      ∧ t.heads = s.heads ∧ t.events = s.events))
  ∧ (∀ (s : State) (x : Fin 16) (at' : Time64), (s.session x).stopping = true → (s.session x).cur = none →
    Completes (.encSessionSafePoint x at') s (fun t =>
      (t.session x).running = (s.session x).restart ∧ (t.session x).stopping = false ∧ (t.session x).cnt = (s.session x).cnt
      ∧ ((s.session x).restart = true → ∃ g, s.raised t .startDone g [(1, x.val)])
      ∧ ((s.session x).restart = false → t = { s with enc := t.enc, time := { s.time with now := at' } })
      ∧ ∀ y : Nat, y ≠ x.val → t.session y = s.session y))
  ∧ ∀ (s : State) (x : Fin 16) (at' : Time64), (s.session x).running = true → (s.session x).suppressed = false →
    (s.session x).srT + 1000000000 ≤ at' → s.twin.mode ≠ .coldStandby →
    Completes (.rtcpSrSend x at') s (fun t =>
      t.session x = { s.session x with srT := at' }
      ∧ (∀ path p : Nat, path < 2 → (encDest s.cfg x path).fam ≠ 0 → pathPort s path = some p →
          ∃ sec frac : Nat, Out.rtcpSr x p { encDest s.cfg x path with port := (encDest s.cfg x path).port + 1 } (encSsrc s x) sec frac
            (at' * 9 / 100000 % 2 ^ 32) ∈ t.out)
      ∧ t = { s with enc := t.enc, time := { s.time with now := at' }, out := t.out })

/-! ## Power, start and shutdown -/

/-- R405, R398, R226, R404: RESET_N and PWR_GOOD. RESET_N low idles every output; its release after 10 µs (log 37) samples SEAT, starts the
configuration and every unit at their reset values and leaves DRAM as it is; and a supply that fails idles the outputs. -/
def Obligations.ResetAndSupply : Prop :=
  (∀ (s : State) (at' : Time64), s.power.resetLow = false → (s.power.thermtrip = true → s.power.tj < 1520) →
    Completes (.resetNFall at') s (fun t =>
      t.power.phase = .held ∧ t.power.resetLow = true ∧ t.power.resetFallT = at' ∧ t.power.thermtrip = false ∧ t.power.flashQ = []
      ∧ (∀ h : Nat, h < 32 → (t.head h).running = false ∧ (t.head h).live = false) ∧ t.cfg = s.cfg ∧ t.life = s.life))
  ∧ (∀ (s : State) (r : ResetInputs), s.power.resetLow = true → s.power.resetFallT + 10000 ≤ r.at' →
    Completes (.resetNRelease r) s (fun t =>
      t.seatB = r.seatHigh ∧ t.cfg = State.reset.cfg ∧ t.cmd = State.reset.cmd ∧ t.events = State.reset.events ∧ t.time = State.reset.time
      ∧ t.heads = [] ∧ t.panes = [] ∧ t.streams = [] ∧ t.ledger = [] ∧ t.twin.mode = .solo ∧ t.power.phase = State.reset.power.phase
      ∧ t.life.state = (if s.life.state = .service then .field else s.life.state) ∧ t.life.minVersion = s.life.minVersion
      ∧ t.dram = s.dram ∧ t.pending = s.pending))
  ∧ (∀ (s : State) (r : ResetInputs), r.at' < s.power.resetFallT + 10000 → Completes (.resetNRelease r) s (fun t => t = s))
  ∧ (∀ (s : State) (at' : Time64), s.power.resetLow = false →
    Completes (.pwrGoodFall at') s (fun t =>
      t.power.phase = .supplyLost ∧ t.power.pwrGood = false
      ∧ (∀ h : Nat, h < 32 → (t.head h).running = false ∧ (t.head h).live = false) ∧ t.cfg = s.cfg))
  ∧ ∀ (s : State) (at' : Time64), s.power.resetLow = true →
    Completes (.pwrGoodFall at') s (fun t =>
      t = { s with time := { s.time with now := at' }, power := { s.power with pwrGood := false } })

/-- R399, R400, R403, R413: the steps of the start, one at a time, up to READY with START_DONE; too hot a part asserts THERMTRIP_N instead; and the
stages of the shutdown, up to the stopped device with SHUTDOWN_DONE. -/
def Obligations.StartAndShutdown : Prop :=
  (∀ (s : State) (at' : Time64), s.power.phase = .starting 0 → s.test.run = none → s.power.warm = false →
    Completes (.startSequenceStep true none at') s (fun t =>
      t.life.challenge.length = 16
      ∧ (if s.fullTest then t.power.phase = .starting 0 ∧ t.test.run.isSome = true else t.power.phase = .starting 1 ∧ t.test.run = none)))
  ∧ (∀ (s : State) (at' : Time64), s.power.phase = .starting 0 → s.test.run = none →
    Completes (.startSequenceStep false none at') s (fun t => t.power.phase = .starting 0 ∧ t.power.thermtrip = true))
  ∧ (∀ (s : State) (k : Nat) (ok : Bool) (o : Option SelftestOutcome) (at' : Time64), s.power.phase = .starting k → 1 ≤ k → k ≤ 9 →
    Completes (.startSequenceStep ok o at') s (fun t => t.power.phase = .starting (k + 1) ∧ (k = 2 → t.mem.fsp = 0 ∧ t.mem.outage = false)))
  ∧ (∀ (s : State) (ok : Bool) (o : Option SelftestOutcome) (at' : Time64), s.power.phase = .starting 10 →
    Completes (.startSequenceStep ok o at') s (fun t =>
      t.power.phase = .running ∧ t.cmd.ready = true ∧ t.life.minVersion = max s.life.minVersion s.secVersion
      ∧ s.raised t .startDone (s.power.restartHdr.map (fun h => h.1.tag)) []))
  ∧ (∀ (s : State) (o : Option SelftestOutcome) (at' : Time64), s.power.phase = .stopping 0 →
    Completes (.shutdownStep o at') s (fun t =>
      t.power.phase = .stopping 1 ∧ t.lanes = [] ∧ ∀ h : Nat, (t.head h).running = false ∧ (t.head h).live = false))
  ∧ (∀ (s : State) (o : Option SelftestOutcome) (at' : Time64), s.power.phase = .stopping 1 →
    Completes (.shutdownStep o at') s (fun t => t.power.phase = .stopping 2 ∧ ∀ p : Nat, (t.dpPort p).trained = false))
  ∧ (∀ (s : State) (o : Option SelftestOutcome) (at' : Time64), s.power.phase = .stopping 2 →
    Completes (.shutdownStep o at') s (fun t =>
      t.power.phase = .stopping 3 ∧ (s.power.shutMode = 0 → t.test.run.isSome = true) ∧ (s.power.shutMode ≠ 0 → t.test.run = s.test.run)))
  ∧ (∀ (s : State) (o : Option SelftestOutcome) (at' : Time64), s.power.phase = .stopping 3 → s.test.run = none →
    Completes (.shutdownStep o at') s (fun t => t.power.phase = .stopping 4 ∧ t.cfg = s.cfg))
  ∧ ∀ (s : State) (o : Option SelftestOutcome) (at' : Time64), s.power.phase = .stopping 4 → s.power.restartHdr = none →
    Completes (.shutdownStep o at') s (fun t =>
      t.power.phase = .stopped ∧ t.cmd.ready = false ∧ t.panes = [] ∧ t.ledger = []
      ∧ s.raised t .shutdownDone (s.power.shutHdr.map (fun h => h.1.tag)) [])

/-! ## Thermal, flash and self-test -/

/-- R407 to R413, R396: a sample in which the sensors agree gives the junction temperature and the level by its thresholds, and a second one in a row
at 125 °C trips the device; the level is repeated every 10 s above the operating range; and a fourth bad read-back of the core voltage is reported.
The contents of THERMAL_LEVEL are log 28. -/
def Obligations.ThermalLimits : Prop :=
  (∀ (s : State) (v : Int) (at' : Time64), s.powered = true → (∀ i : Nat, i < 16 → (s.sensor i).faulty = false) →
    Completes (.thermalSample (List.replicate 16 v) at') s (fun t =>
      t.power.tj = v
      ∧ t.power.decided = (if s.mem.chans.any (fun e => e.2.rate == 2) then .throttle else levelBy s.power.variantE s.power.decided v)
      ∧ (v < 2000 → t.power.tripRun = 0 ∧ t = { s with power := t.power, time := { s.time with now := at' } })
      ∧ (2000 ≤ v → t.power.tripRun = s.power.tripRun + 1 ∧ (1 ≤ s.power.tripRun →
          t.power.phase = .tripped ∧ t.power.thermtrip = true ∧ ∀ h : Nat, h < 32 → (t.head h).running = false ∧ (t.head h).live = false))))
  ∧ (∀ (s : State) (at' : Time64), s.powered = true → (if s.power.variantE then 1840 else 1680) < s.power.tj →
    s.power.level = .throttle → s.power.levelT + 10000000000 ≤ at' →
    Completes (.thermalLevelRepeat at') s (fun t =>
      s.raised t .thermalLevel none [(1, 2), (2, twos 16 s.power.tj), (1, s.power.hottest)] ∧ t.power.levelT = at' ∧ t.power.level = .throttle))
  ∧ (∀ (s : State) (mv : Nat) (at' : Time64), s.powered = true → 39 * s.power.vAvs ≤ 40 * mv → 40 * mv ≤ 41 * s.power.vAvs →
    Completes (.avsReadback mv at') s (fun t =>
      t = { s with time := { s.time with now := at' }, power := { s.power with avsBad := 0 } }))
  ∧ ∀ (s : State) (mv : Nat) (at' : Time64), s.powered = true → (40 * mv < 39 * s.power.vAvs ∨ 41 * s.power.vAvs < 40 * mv) →
    Completes (.avsReadback mv at') s (fun t =>
      t.power.avsBad = s.power.avsBad + 1
      ∧ (s.power.avsBad = 3 → t.power.avsFail = true
        ∧ s.raised t .thermalLevel none [(1, s.power.level.code), (2, twos 16 s.power.tj), (1, 0xFF)]))

/-- R414, R404, R262: the queue of flash writes drains in order in the temperature window, with FLASH_WRITTEN, and a write that fails leaves it queued
(log 24); and the running configuration, or in COLD-STANDBY the last snapshot, is written when a minute has passed. -/
def Obligations.FlashWrites : Prop :=
  (∀ (s : State) (r : FlashRec) (q : List FlashRec) (at' : Time64), s.power.flashQ = r :: q → s.flashAllowed = true → s.flashWindow = true →
    Completes (.flashQueueDrain true at') s (fun t =>
      t.power.flashQ = q ∧ s.raised t .flashWritten none [] ∧ (∀ b, r = .touch b → t.touch.saved = some b)
      ∧ (∀ x, r = .test x → t.test.written = some x) ∧ (∀ u, r = .partner u → t.twin.partnerFlash = some u)))
  ∧ (∀ (s : State) (at' : Time64), Completes (.flashQueueDrain false at') s (fun t => t = s))
  ∧ (∀ (s : State) (at' : Time64), s.alive = true → s.flashAllowed = true → s.flashWindow = true → (atTime at' s).snapWriteDue = true →
    s.twin.mode ≠ .coldStandby → s.power.cfgDirty = true →
    Completes (.configSnapshotWrite true at') s (fun t =>
      (∃ p, t.power.cfgSaved = some p ∧ p.cfg = s.cfg) ∧ t.power.cfgSavedT = some at' ∧ t.power.cfgDirty = false ∧ t.cfg = s.cfg))
  ∧ ∀ (s : State) (r : Receiving) (at' : Time64), s.alive = true → s.flashAllowed = true → s.flashWindow = true →
    (atTime at' s).snapWriteDue = true → s.twin.mode = .coldStandby → s.twin.snapHeld = some r → s.twin.snapFlash ≠ some r →
    Completes (.configSnapshotWrite true at') s (fun t =>
      t.twin.snapFlash = some r ∧ t.power.cfgSavedT = some at' ∧ t.power.cfgSaved = s.power.cfgSaved ∧ t.events = s.events)

/-- R415, R419 to R423, R426: a check of the preconditions is kept for the run under way; a slice counts for its part, and a failed one is reported
and holds its lane or makes the next start test everything; a record that reaches seven days starts slices; and a SERVICE token that expires returns
the part to FIELD. How SELFTEST_SLICE names a unit is log 29. -/
def Obligations.SelfTestAndService : Prop :=
  (∀ (s : State) (clk vdd : Bool) (at' : Time64), s.powered = true →
    Completes (.selftestPrecondCheck clk vdd at') s (fun t =>
      t.test.lastPre = b2n (!clk) + 2 * b2n (!vdd)
      ∧ (∀ r, s.test.run = some r → t.test.run = some (if r.source = 3 then r else { r with precond := r.precond ||| t.precondNow }))
      ∧ t = { s with time := { s.time with now := at' }, test := t.test }))
  ∧ (∀ (s : State) (u : SliceUnit) (pass : Bool) (at' : Time64), sliceAllowed (atTime at' s) u = true → s.test.run = none →
    (∃ q ∈ sweepParts s, q.1 ≠ (slicePart u).1 ∧ ¬(100 ≤ q.1 ∧ q.1 < 200) ∧ tget 0 s.test.swept q.1 < q.2) →
    Completes (.selftestSlice u pass at') s (fun t =>
      tget 0 t.test.swept (slicePart u).1 = tget 0 s.test.swept (slicePart u).1 + 1 ∧ t.test.sliceTick = some s.time.tick
      ∧ (if pass then t.events = s.events ∧ t.test.heldLanes = s.test.heldLanes
        else s.raised t .selftestSlice none [(1, (sliceCode u).1), (2, (sliceCode u).2), (1, 1)]
          ∧ (∀ l, u = .decodeLane l → t.test.heldLanes = s.test.heldLanes ||| 2 ^ l.val)
          ∧ ((∀ l, u ≠ .decodeLane l) → t.test.fullNext = true))))
  ∧ (∀ (s : State) (r : TestRecord) (at' : Time64), s.powered = true → s.test.record = some r → r.quickOk = true →
    s.test.expired = false →
    Completes (.selftestRecordAge at') s (fun t =>
      if (atTime at' s).recordOld r then t.test.expired = true ∧ t.test.sliceMode = true ∧ t.test.swept = [] ∧ t.test.record = some r
      else t = { s with time := { s.time with now := at' } }))
  ∧ ∀ (s : State) (e at' : Time64), s.life.state = .service → s.life.serviceEnd = some e → s.powered = true → s.mem.fatal = false →
    e ≤ at' →
    Completes (.serviceTokenExpiry at') s (fun t =>
      t.life.state = .field ∧ t.life.serviceEnd = none ∧ (∀ a ∈ t.cmd.accepted, serviceOnly a.cmd = false)
      ∧ (∀ p : Nat, p < 8 → (t.dpPort p).pattern = 0) ∧ (∀ p : Nat, p < 4 → (t.ethPort p).prbs = none) ∧ t.cfg = s.cfg)

/-! ## Commands at their apply tick -/

/-- R363, R390: what some commands do when their tick comes. Each is answered with OK and the tick, and sets what its opcode says: buffers and legends
are registered and removed, a flip waits in its group, and colours and coefficients are staged, committed and loaded (excess bits of an entry are log
46). -/
def Obligations.AppliedCommands : Prop :=
  ∀ (n : Nat) (a : Accepted) (s : State), a.fseq = none → a.hdr.transport ≠ .reg →
    cannotApply n a.cmd { s with twin := { s.twin with
      peerCmds := s.twin.peerCmds.filter (fun e => !(e.1 == a.hdr.seq && e.2.1 == a.hdr.crc)) } } = false →
    (∀ b off w h f st l, a.cmd = .bufRegister b off w h f st l →
      ((applyOne n a s).buf b = bufInit ∧ (applyOne n a s).cfg = applyCfg s.power.forced s.cfg a.cmd
        ∧ ∃ r, s.sent (applyOne n a s) (.reply r) ∧ r.status = .ok ∧ r.tick = n ∧ r.tag = a.hdr.tag))
    ∧ (∀ b, a.cmd = .bufUnregister b →
      ((applyOne n a s).bufs = tdel b s.bufs ∧ (applyOne n a s).cfg = applyCfg s.power.forced s.cfg a.cmd
        ∧ ∃ r, s.sent (applyOne n a s) (.reply r) ∧ r.status = .ok ∧ r.tick = n ∧ r.tag = a.hdr.tag))
    ∧ (∀ g layers, a.cmd = .flip g layers → g < 64 →
      ((applyOne n a s).group g).pending = some ⟨layers, a.hdr.tag⟩ ∧ (∀ k : Nat, k ≠ g → (applyOne n a s).group k = s.group k))
    ∧ (∀ h part d, a.cmd = .colourStage h part d →
      (applyOne n a s).head h = { s.head h with
        staged := stagePart part d (s.head h).staged, stagedMask := (s.head h).stagedMask ||| 2 ^ part }
      ∧ ∃ r, s.sent (applyOne n a s) (.reply r) ∧ r.status = .ok ∧ r.tick = n)
    ∧ (∀ h, a.cmd = .colourCommit h →
      (applyOne n a s).head h = { s.head h with commitBank := some (s.head h).staged, stagedMask := 0 }
      ∧ (∀ g : Nat, g ≠ h → (applyOne n a s).head g = s.head g))
    ∧ (∀ i d, a.cmd = .scalerCoefLoad i d → tfind (applyOne n a s).coef i = some (coefTaps d))
    ∧ (∀ l p m, a.cmd = .legendRegister l p m → tfind (applyOne n a s).legends l = some ⟨p, m, none, [], false⟩)
    ∧ (∀ l, a.cmd = .legendDelete l → tfind (applyOne n a s).legends l = none)
    ∧ (∀ m, a.cmd = .encIdr m → ∀ x : Nat, x < 16 → bit m x = true → (s.session x).running = true →
      0 < ((applyOne n a s).session x).idrDue)

/-! ## The whole machine -/

/-- R303: DRAM keeps its canonical form, addresses rising and no zero byte listed, over every step from every state that has it. -/
def Obligations.StepKeepsDramCanonical : Prop :=
  ∀ s t : State, Memory.wf s.dram = true → step s = .next t → Memory.wf t.dram = true

/-- The state after reset (R405, R400): DRAM has its canonical form, nothing waits, the start is at its first step, in mode SOLO and not READY, the
counter reads 0 in FREE-RUN, no head is live and no interrupt is pending. -/
def Obligations.ResetValues : Prop :=
  Memory.wf State.reset.dram = true ∧ State.reset.pending = [] ∧ State.reset.power.phase = .starting 0 ∧ State.reset.twin.mode = .solo
  ∧ State.reset.cmd.ready = false ∧ State.reset.time.now = 0 ∧ State.reset.time.state = .freeRun ∧ State.reset.cmd.irqCause = 0
  ∧ (∀ h : Nat, (State.reset.head h).live = false) ∧ State.reset.events.history = [] ∧ State.reset.pins.live = 0

/-- R226, R303, R360: what no command can do. A step takes exactly its command off the queue; the bytes of DRAM change by a write through the aperture
only; and the seat changes at a release of RESET_N only. -/
def Obligations.StepFrame : Prop :=
  ∀ (s t : State) (i : Instr) (rest : List Instr), s.pending = i :: rest → step s = .next t →
    t.pending = rest ∧ ((∀ off data, i ≠ .bar2Write off data) → t.dram = s.dram)
    ∧ ((∀ r, i ≠ .resetNRelease r) → t.seatB = s.seatB)

/-- R194: HEAD_FRAME_CNT at every frame start, shown or not, is the number of the tick grid for the head's multiple. -/
def Obligations.FrameNumbers : Prop :=
  ∀ (s : State) (h : Fin 32) (fi : FrameIn) (rest : List FrameIn), (s.head h).nextIn = fi :: rest →
    Completes (.frameStart h) s (fun t =>
      (t.head h).frameCnt = (match (s.head h).timing.mult with
        | 0 => fi.tick / 2 % 2 ^ 32
        | 1 => fi.tick % 2 ^ 32
        | _ => (2 * fi.tick + (if fi.second then 1 else 0)) % 2 ^ 32)
      ∧ ∀ g : Nat, g ≠ h.val → (t.head g).frameCnt = (s.head g).frameCnt)

/-- R60: the codes of the verdicts, a larger one worse, 7 never written; and the worst of several verdicts is their maximum. -/
def Obligations.VerdictCodes : Prop :=
  [Verdict.live, .aged, .concealed, .frozen, .stale, .unverified, .dark].map Verdict.code = [0, 1, 2, 3, 4, 5, 6]
  ∧ (∀ v : Verdict, v.code < 7 ∧ verdictOf v.code = v)
  ∧ (∀ a b : Verdict, (worse a b).code = max a.code b.code)
  ∧ ∀ l : List Verdict, (∀ v ∈ l, v.code ≤ (worstOf l).code) ∧ (l ≠ [] → worstOf l ∈ l)

/-- R322: the check-value algorithms, each with its width, polynomial, initial value, reflection, final XOR and its check over "123456789". The
polynomial of a reflected one is held bit-reversed. -/
def Obligations.CrcAlgorithms : Prop :=
  (∀ k : Nat, (crcAlg k).refl = decide (k ≠ 2))
  ∧ ((crcAlg 0).width = 32 ∧ (crcAlg 0).init = 0xFFFFFFFF ∧ (crcAlg 0).xorOut = 0xFFFFFFFF
      ∧ ∀ i : Fin 32, (crcAlg 0).poly.getLsbD i = (0x1EDC6F41 : BitVec 64).getLsbD (31 - i))
  ∧ ((crcAlg 1).width = 32 ∧ (crcAlg 1).init = 0xFFFFFFFF ∧ (crcAlg 1).xorOut = 0xFFFFFFFF
      ∧ ∀ i : Fin 32, (crcAlg 1).poly.getLsbD i = (0x04C11DB7 : BitVec 64).getLsbD (31 - i))
  ∧ ((crcAlg 2).width = 16 ∧ (crcAlg 2).init = 0xFFFF ∧ (crcAlg 2).xorOut = 0 ∧ (crcAlg 2).poly = 0x1021)
  ∧ ((crcAlg 3).width = 64 ∧ (crcAlg 3).init = BitVec.allOnes 64 ∧ (crcAlg 3).xorOut = BitVec.allOnes 64
      ∧ ∀ i : Fin 64, (crcAlg 3).poly.getLsbD i = (0x42F0E1EBA9EA3693 : BitVec 64).getLsbD (63 - i))
  ∧ (∀ d : Bytes, d = [0x31, 0x32, 0x33, 0x34, 0x35, 0x36, 0x37, 0x38, 0x39] →
      crcOf 0 none d = 0xE3069283 ∧ crcOf 1 none d = 0xCBF43926 ∧ crcOf 2 none d = 0x29B1 ∧ crcOf 3 none d = 0x995DC9BBDF1939FA)

/-- R369: a status read shifts out a copy of the window, and both sticky flags are cleared when it is taken. While a reply is unread, neither the read
nor a write of SYS_IRQ_CAUSE clears the cause of the replies, and the window says REPLY_READY. -/
def Obligations.StatusReads : Prop :=
  (∀ (s : State) (at' : Time64), s.powered = true →
    Completes (.statusRead at') s (fun t =>
      s.sent t (.miso (statusWindow (atTime at' s))) ∧ t.cmd.spi.crcErr = false ∧ t.cmd.spi.overrun = false
      ∧ t.cmd.spi.replies = s.cmd.spi.replies ∧ t.cmd.irqCause = s.cmd.irqCause ∧ OnlyInterface s t))
  ∧ (∀ (s : State), s.cmd.spi.replies ≠ [] → ∃ f : BitVec 8, (statusWindow s)[2]? = some f ∧ f.getLsbD 1 = true)
  ∧ ∀ (s : State) (v : Reg32), s.bar0Open = true → s.cmd.spi.replies ≠ [] → s.cmd.irqCause.getLsbD 9 = true →
    Completes (.sysIrqCauseW1c v) s (fun t => t.cmd.irqCause.getLsbD 9 = true)
end

