-- ==== Sys2Proof/Laws/Table.lean ====
section
/-! SUPPORT. The laws of numbered tables and of lists read by position: a read after a write. -/
namespace Sys2Proof.Machine

/-- A table reads at a number what was set there. -/
@[simp] theorem tget_tset_same {α : Type} (d : α) (t : Table α) (i : Nat) (v : α) : tget d (tset i v t) i = v := by
  induction t with
  | nil => simp [tset, tget]
  | cons x r ih =>
    obtain ⟨j, w⟩ := x
    simp only [tset]
    split
    · simp [tget]
    · split <;> simp [tget, *]

/-- Setting one number leaves the others. -/
theorem tget_tset_ne {α : Type} (d : α) (t : Table α) (i k : Nat) (v : α) (h : k ≠ i) : tget d (tset i v t) k = tget d t k := by
  induction t with
  | nil => simp [tset, tget, h]
  | cons x r ih =>
    obtain ⟨j, w⟩ := x
    simp only [tset]
    split
    · simp [tget, h]
    · split
      · subst_vars; simp [tget, h]
      · simp [tget, ih]

/-- A table finds at a number what was set there. -/
@[simp] theorem tfind_tset_same {α : Type} (t : Table α) (i : Nat) (v : α) : tfind (tset i v t) i = some v := by
  induction t with
  | nil => simp [tset, tfind]
  | cons x r ih =>
    obtain ⟨j, w⟩ := x
    simp only [tset]
    split
    · simp [tfind]
    · split <;> simp [tfind, *]

/-- Finding at another number is left as it was. -/
theorem tfind_tset_ne {α : Type} (t : Table α) (i k : Nat) (v : α) (h : k ≠ i) : tfind (tset i v t) k = tfind t k := by
  induction t with
  | nil => simp [tset, tfind, h]
  | cons x r ih =>
    obtain ⟨j, w⟩ := x
    simp only [tset]
    split
    · simp [tfind, h]
    · split
      · subst_vars; simp [tfind, h]
      · simp [tfind, ih]

/-- A deleted number is not found. -/
@[simp] theorem tfind_tdel_same {α : Type} (t : Table α) (i : Nat) : tfind (tdel i t) i = none := by
  induction t with
  | nil => rfl
  | cons x r ih =>
    obtain ⟨j, w⟩ := x
    simp only [tdel]
    split
    · exact ih
    · rename_i h; simp [tfind, h, ih]

/-- Deleting one number leaves the others. -/
theorem tfind_tdel_ne {α : Type} (t : Table α) (i k : Nat) (h : k ≠ i) : tfind (tdel i t) k = tfind t k := by
  induction t with
  | nil => rfl
  | cons x r ih =>
    obtain ⟨j, w⟩ := x
    simp only [tdel]
    split
    · subst_vars; simp [tfind, h, ih]
    · simp [tfind, ih]

/-- A position that is there reads what was set. -/
theorem nth_setNth {α : Type} (d v : α) (l : List α) (i : Nat) (h : i < l.length) : nth d (setNth v l i) i = v := by
  induction l generalizing i with
  | nil => simp at h
  | cons x r ih => cases i with
    | zero => rfl
    | succ n => exact ih n (by simpa using h)

/-- Setting a position leaves the others. -/
theorem nth_setNth_ne {α : Type} (d v : α) (l : List α) (i k : Nat) (h : k ≠ i) : nth d (setNth v l i) k = nth d l k := by
  induction l generalizing i k with
  | nil => rfl
  | cons x r ih => cases i <;> cases k <;> simp_all [setNth, nth]

end Sys2Proof.Machine
end

