-- ==== Sys2Proof/Laws/State.lean ====
section
/-! SUPPORT. One lemma for each field and each update of the state, true by unfolding, so that no proof unfolds an update: the frame of a
meaning, the setters of the numbered units, the clock reading, the output log, interrupt causes and events. -/
namespace Sys2Proof.Machine

/-! ## Meanings -/

/-- An ordinary meaning answers a next state. -/
theorem act_next (f : State → State) (s : State) :
    act f s = .next { f s with pending := s.pending, seatB := s.seatB, dram := s.dram } := rfl

/-! ## The setters of the numbered units -/

@[simp] theorem setHead_pending (s : State) (i : Nat) (v : Head) : (s.setHead i v).pending = s.pending := rfl
@[simp] theorem setHead_free (s : State) (i : Nat) (v : Head) : (s.setHead i v).free = s.free := rfl
@[simp] theorem setHead_out (s : State) (i : Nat) (v : Head) : (s.setHead i v).out = s.out := rfl
@[simp] theorem setHead_seatB (s : State) (i : Nat) (v : Head) : (s.setHead i v).seatB = s.seatB := rfl
@[simp] theorem setHead_cfg (s : State) (i : Nat) (v : Head) : (s.setHead i v).cfg = s.cfg := rfl
@[simp] theorem setHead_cmd (s : State) (i : Nat) (v : Head) : (s.setHead i v).cmd = s.cmd := rfl
@[simp] theorem setHead_events (s : State) (i : Nat) (v : Head) : (s.setHead i v).events = s.events := rfl
@[simp] theorem setHead_time (s : State) (i : Nat) (v : Head) : (s.setHead i v).time = s.time := rfl
@[simp] theorem setHead_ledger (s : State) (i : Nat) (v : Head) : (s.setHead i v).ledger = s.ledger := rfl
@[simp] theorem setHead_sources (s : State) (i : Nat) (v : Head) : (s.setHead i v).sources = s.sources := rfl
@[simp] theorem setHead_streams (s : State) (i : Nat) (v : Head) : (s.setHead i v).streams = s.streams := rfl
@[simp] theorem setHead_lanes (s : State) (i : Nat) (v : Head) : (s.setHead i v).lanes = s.lanes := rfl
@[simp] theorem setHead_freeze (s : State) (i : Nat) (v : Head) : (s.setHead i v).freeze = s.freeze := rfl
@[simp] theorem setHead_eth (s : State) (i : Nat) (v : Head) : (s.setHead i v).eth = s.eth := rfl
@[simp] theorem setHead_decRing (s : State) (i : Nat) (v : Head) : (s.setHead i v).decRing = s.decRing := rfl
@[simp] theorem setHead_decDrop (s : State) (i : Nat) (v : Head) : (s.setHead i v).decDrop = s.decDrop := rfl
@[simp] theorem setHead_mirror (s : State) (i : Nat) (v : Head) : (s.setHead i v).mirror = s.mirror := rfl
@[simp] theorem setHead_mirrorDrop (s : State) (i : Nat) (v : Head) : (s.setHead i v).mirrorDrop = s.mirrorDrop := rfl
@[simp] theorem setHead_panes (s : State) (i : Nat) (v : Head) : (s.setHead i v).panes = s.panes := rfl
@[simp] theorem setHead_groups (s : State) (i : Nat) (v : Head) : (s.setHead i v).groups = s.groups := rfl
@[simp] theorem setHead_bufs (s : State) (i : Nat) (v : Head) : (s.setHead i v).bufs = s.bufs := rfl
@[simp] theorem setHead_dp (s : State) (i : Nat) (v : Head) : (s.setHead i v).dp = s.dp := rfl
@[simp] theorem setHead_pins (s : State) (i : Nat) (v : Head) : (s.setHead i v).pins = s.pins := rfl
@[simp] theorem setHead_coef (s : State) (i : Nat) (v : Head) : (s.setHead i v).coef = s.coef := rfl
@[simp] theorem setHead_cu (s : State) (i : Nat) (v : Head) : (s.setHead i v).cu = s.cu := rfl
@[simp] theorem setHead_refs (s : State) (i : Nat) (v : Head) : (s.setHead i v).refs = s.refs := rfl
@[simp] theorem setHead_recheckN (s : State) (i : Nat) (v : Head) : (s.setHead i v).recheckN = s.recheckN := rfl
@[simp] theorem setHead_touch (s : State) (i : Nat) (v : Head) : (s.setHead i v).touch = s.touch := rfl
@[simp] theorem setHead_legends (s : State) (i : Nat) (v : Head) : (s.setHead i v).legends = s.legends := rfl
@[simp] theorem setHead_evi (s : State) (i : Nat) (v : Head) : (s.setHead i v).evi = s.evi := rfl
@[simp] theorem setHead_enc (s : State) (i : Nat) (v : Head) : (s.setHead i v).enc = s.enc := rfl
@[simp] theorem setHead_mem (s : State) (i : Nat) (v : Head) : (s.setHead i v).mem = s.mem := rfl
@[simp] theorem setHead_dram (s : State) (i : Nat) (v : Head) : (s.setHead i v).dram = s.dram := rfl
@[simp] theorem setHead_twin (s : State) (i : Nat) (v : Head) : (s.setHead i v).twin = s.twin := rfl
@[simp] theorem setHead_test (s : State) (i : Nat) (v : Head) : (s.setHead i v).test = s.test := rfl
@[simp] theorem setHead_life (s : State) (i : Nat) (v : Head) : (s.setHead i v).life = s.life := rfl
@[simp] theorem setHead_power (s : State) (i : Nat) (v : Head) : (s.setHead i v).power = s.power := rfl
@[simp] theorem head_setHead (s : State) (i : Nat) (v : Head) : (s.setHead i v).head i = v := tget_tset_same _ _ _ _
theorem head_setHead_ne (s : State) (i : Nat) (v : Head) {k : Nat} (h : k ≠ i) : (s.setHead i v).head k = s.head k :=
  tget_tset_ne _ _ _ _ _ h
@[simp] theorem modHead_eq (s : State) (i : Nat) (g : Head → Head) : s.modHead i g = s.setHead i (g (s.head i)) := rfl

@[simp] theorem setSource_pending (s : State) (i : Nat) (v : SourceRun) : (s.setSource i v).pending = s.pending := rfl
@[simp] theorem setSource_free (s : State) (i : Nat) (v : SourceRun) : (s.setSource i v).free = s.free := rfl
@[simp] theorem setSource_out (s : State) (i : Nat) (v : SourceRun) : (s.setSource i v).out = s.out := rfl
@[simp] theorem setSource_seatB (s : State) (i : Nat) (v : SourceRun) : (s.setSource i v).seatB = s.seatB := rfl
@[simp] theorem setSource_cfg (s : State) (i : Nat) (v : SourceRun) : (s.setSource i v).cfg = s.cfg := rfl
@[simp] theorem setSource_cmd (s : State) (i : Nat) (v : SourceRun) : (s.setSource i v).cmd = s.cmd := rfl
@[simp] theorem setSource_events (s : State) (i : Nat) (v : SourceRun) : (s.setSource i v).events = s.events := rfl
@[simp] theorem setSource_time (s : State) (i : Nat) (v : SourceRun) : (s.setSource i v).time = s.time := rfl
@[simp] theorem setSource_ledger (s : State) (i : Nat) (v : SourceRun) : (s.setSource i v).ledger = s.ledger := rfl
@[simp] theorem setSource_streams (s : State) (i : Nat) (v : SourceRun) : (s.setSource i v).streams = s.streams := rfl
@[simp] theorem setSource_lanes (s : State) (i : Nat) (v : SourceRun) : (s.setSource i v).lanes = s.lanes := rfl
@[simp] theorem setSource_freeze (s : State) (i : Nat) (v : SourceRun) : (s.setSource i v).freeze = s.freeze := rfl
@[simp] theorem setSource_eth (s : State) (i : Nat) (v : SourceRun) : (s.setSource i v).eth = s.eth := rfl
@[simp] theorem setSource_decRing (s : State) (i : Nat) (v : SourceRun) : (s.setSource i v).decRing = s.decRing := rfl
@[simp] theorem setSource_decDrop (s : State) (i : Nat) (v : SourceRun) : (s.setSource i v).decDrop = s.decDrop := rfl
@[simp] theorem setSource_mirror (s : State) (i : Nat) (v : SourceRun) : (s.setSource i v).mirror = s.mirror := rfl
@[simp] theorem setSource_mirrorDrop (s : State) (i : Nat) (v : SourceRun) : (s.setSource i v).mirrorDrop = s.mirrorDrop := rfl
@[simp] theorem setSource_panes (s : State) (i : Nat) (v : SourceRun) : (s.setSource i v).panes = s.panes := rfl
@[simp] theorem setSource_groups (s : State) (i : Nat) (v : SourceRun) : (s.setSource i v).groups = s.groups := rfl
@[simp] theorem setSource_bufs (s : State) (i : Nat) (v : SourceRun) : (s.setSource i v).bufs = s.bufs := rfl
@[simp] theorem setSource_heads (s : State) (i : Nat) (v : SourceRun) : (s.setSource i v).heads = s.heads := rfl
@[simp] theorem setSource_dp (s : State) (i : Nat) (v : SourceRun) : (s.setSource i v).dp = s.dp := rfl
@[simp] theorem setSource_pins (s : State) (i : Nat) (v : SourceRun) : (s.setSource i v).pins = s.pins := rfl
@[simp] theorem setSource_coef (s : State) (i : Nat) (v : SourceRun) : (s.setSource i v).coef = s.coef := rfl
@[simp] theorem setSource_cu (s : State) (i : Nat) (v : SourceRun) : (s.setSource i v).cu = s.cu := rfl
@[simp] theorem setSource_refs (s : State) (i : Nat) (v : SourceRun) : (s.setSource i v).refs = s.refs := rfl
@[simp] theorem setSource_recheckN (s : State) (i : Nat) (v : SourceRun) : (s.setSource i v).recheckN = s.recheckN := rfl
@[simp] theorem setSource_touch (s : State) (i : Nat) (v : SourceRun) : (s.setSource i v).touch = s.touch := rfl
@[simp] theorem setSource_legends (s : State) (i : Nat) (v : SourceRun) : (s.setSource i v).legends = s.legends := rfl
@[simp] theorem setSource_evi (s : State) (i : Nat) (v : SourceRun) : (s.setSource i v).evi = s.evi := rfl
@[simp] theorem setSource_enc (s : State) (i : Nat) (v : SourceRun) : (s.setSource i v).enc = s.enc := rfl
@[simp] theorem setSource_mem (s : State) (i : Nat) (v : SourceRun) : (s.setSource i v).mem = s.mem := rfl
@[simp] theorem setSource_dram (s : State) (i : Nat) (v : SourceRun) : (s.setSource i v).dram = s.dram := rfl
@[simp] theorem setSource_twin (s : State) (i : Nat) (v : SourceRun) : (s.setSource i v).twin = s.twin := rfl
@[simp] theorem setSource_test (s : State) (i : Nat) (v : SourceRun) : (s.setSource i v).test = s.test := rfl
@[simp] theorem setSource_life (s : State) (i : Nat) (v : SourceRun) : (s.setSource i v).life = s.life := rfl
@[simp] theorem setSource_power (s : State) (i : Nat) (v : SourceRun) : (s.setSource i v).power = s.power := rfl
@[simp] theorem source_setSource (s : State) (i : Nat) (v : SourceRun) : (s.setSource i v).source i = v := tget_tset_same _ _ _ _
theorem source_setSource_ne (s : State) (i : Nat) (v : SourceRun) {k : Nat} (h : k ≠ i) : (s.setSource i v).source k = s.source k :=
  tget_tset_ne _ _ _ _ _ h
@[simp] theorem modSource_eq (s : State) (i : Nat) (g : SourceRun → SourceRun) : s.modSource i g = s.setSource i (g (s.source i)) := rfl

@[simp] theorem setStream_pending (s : State) (i : Nat) (v : Stream) : (s.setStream i v).pending = s.pending := rfl
@[simp] theorem setStream_free (s : State) (i : Nat) (v : Stream) : (s.setStream i v).free = s.free := rfl
@[simp] theorem setStream_out (s : State) (i : Nat) (v : Stream) : (s.setStream i v).out = s.out := rfl
@[simp] theorem setStream_seatB (s : State) (i : Nat) (v : Stream) : (s.setStream i v).seatB = s.seatB := rfl
@[simp] theorem setStream_cfg (s : State) (i : Nat) (v : Stream) : (s.setStream i v).cfg = s.cfg := rfl
@[simp] theorem setStream_cmd (s : State) (i : Nat) (v : Stream) : (s.setStream i v).cmd = s.cmd := rfl
@[simp] theorem setStream_events (s : State) (i : Nat) (v : Stream) : (s.setStream i v).events = s.events := rfl
@[simp] theorem setStream_time (s : State) (i : Nat) (v : Stream) : (s.setStream i v).time = s.time := rfl
@[simp] theorem setStream_ledger (s : State) (i : Nat) (v : Stream) : (s.setStream i v).ledger = s.ledger := rfl
@[simp] theorem setStream_sources (s : State) (i : Nat) (v : Stream) : (s.setStream i v).sources = s.sources := rfl
@[simp] theorem setStream_lanes (s : State) (i : Nat) (v : Stream) : (s.setStream i v).lanes = s.lanes := rfl
@[simp] theorem setStream_freeze (s : State) (i : Nat) (v : Stream) : (s.setStream i v).freeze = s.freeze := rfl
@[simp] theorem setStream_eth (s : State) (i : Nat) (v : Stream) : (s.setStream i v).eth = s.eth := rfl
@[simp] theorem setStream_decRing (s : State) (i : Nat) (v : Stream) : (s.setStream i v).decRing = s.decRing := rfl
@[simp] theorem setStream_decDrop (s : State) (i : Nat) (v : Stream) : (s.setStream i v).decDrop = s.decDrop := rfl
@[simp] theorem setStream_mirror (s : State) (i : Nat) (v : Stream) : (s.setStream i v).mirror = s.mirror := rfl
@[simp] theorem setStream_mirrorDrop (s : State) (i : Nat) (v : Stream) : (s.setStream i v).mirrorDrop = s.mirrorDrop := rfl
@[simp] theorem setStream_panes (s : State) (i : Nat) (v : Stream) : (s.setStream i v).panes = s.panes := rfl
@[simp] theorem setStream_groups (s : State) (i : Nat) (v : Stream) : (s.setStream i v).groups = s.groups := rfl
@[simp] theorem setStream_bufs (s : State) (i : Nat) (v : Stream) : (s.setStream i v).bufs = s.bufs := rfl
@[simp] theorem setStream_heads (s : State) (i : Nat) (v : Stream) : (s.setStream i v).heads = s.heads := rfl
@[simp] theorem setStream_dp (s : State) (i : Nat) (v : Stream) : (s.setStream i v).dp = s.dp := rfl
@[simp] theorem setStream_pins (s : State) (i : Nat) (v : Stream) : (s.setStream i v).pins = s.pins := rfl
@[simp] theorem setStream_coef (s : State) (i : Nat) (v : Stream) : (s.setStream i v).coef = s.coef := rfl
@[simp] theorem setStream_cu (s : State) (i : Nat) (v : Stream) : (s.setStream i v).cu = s.cu := rfl
@[simp] theorem setStream_refs (s : State) (i : Nat) (v : Stream) : (s.setStream i v).refs = s.refs := rfl
@[simp] theorem setStream_recheckN (s : State) (i : Nat) (v : Stream) : (s.setStream i v).recheckN = s.recheckN := rfl
@[simp] theorem setStream_touch (s : State) (i : Nat) (v : Stream) : (s.setStream i v).touch = s.touch := rfl
@[simp] theorem setStream_legends (s : State) (i : Nat) (v : Stream) : (s.setStream i v).legends = s.legends := rfl
@[simp] theorem setStream_evi (s : State) (i : Nat) (v : Stream) : (s.setStream i v).evi = s.evi := rfl
@[simp] theorem setStream_enc (s : State) (i : Nat) (v : Stream) : (s.setStream i v).enc = s.enc := rfl
@[simp] theorem setStream_mem (s : State) (i : Nat) (v : Stream) : (s.setStream i v).mem = s.mem := rfl
@[simp] theorem setStream_dram (s : State) (i : Nat) (v : Stream) : (s.setStream i v).dram = s.dram := rfl
@[simp] theorem setStream_twin (s : State) (i : Nat) (v : Stream) : (s.setStream i v).twin = s.twin := rfl
@[simp] theorem setStream_test (s : State) (i : Nat) (v : Stream) : (s.setStream i v).test = s.test := rfl
@[simp] theorem setStream_life (s : State) (i : Nat) (v : Stream) : (s.setStream i v).life = s.life := rfl
@[simp] theorem setStream_power (s : State) (i : Nat) (v : Stream) : (s.setStream i v).power = s.power := rfl
@[simp] theorem stream_setStream (s : State) (i : Nat) (v : Stream) : (s.setStream i v).stream i = v := tget_tset_same _ _ _ _
theorem stream_setStream_ne (s : State) (i : Nat) (v : Stream) {k : Nat} (h : k ≠ i) : (s.setStream i v).stream k = s.stream k :=
  tget_tset_ne _ _ _ _ _ h
@[simp] theorem modStream_eq (s : State) (i : Nat) (g : Stream → Stream) : s.modStream i g = s.setStream i (g (s.stream i)) := rfl

@[simp] theorem setLane_pending (s : State) (i : Nat) (v : Lane) : (s.setLane i v).pending = s.pending := rfl
@[simp] theorem setLane_free (s : State) (i : Nat) (v : Lane) : (s.setLane i v).free = s.free := rfl
@[simp] theorem setLane_out (s : State) (i : Nat) (v : Lane) : (s.setLane i v).out = s.out := rfl
@[simp] theorem setLane_seatB (s : State) (i : Nat) (v : Lane) : (s.setLane i v).seatB = s.seatB := rfl
@[simp] theorem setLane_cfg (s : State) (i : Nat) (v : Lane) : (s.setLane i v).cfg = s.cfg := rfl
@[simp] theorem setLane_cmd (s : State) (i : Nat) (v : Lane) : (s.setLane i v).cmd = s.cmd := rfl
@[simp] theorem setLane_events (s : State) (i : Nat) (v : Lane) : (s.setLane i v).events = s.events := rfl
@[simp] theorem setLane_time (s : State) (i : Nat) (v : Lane) : (s.setLane i v).time = s.time := rfl
@[simp] theorem setLane_ledger (s : State) (i : Nat) (v : Lane) : (s.setLane i v).ledger = s.ledger := rfl
@[simp] theorem setLane_sources (s : State) (i : Nat) (v : Lane) : (s.setLane i v).sources = s.sources := rfl
@[simp] theorem setLane_streams (s : State) (i : Nat) (v : Lane) : (s.setLane i v).streams = s.streams := rfl
@[simp] theorem setLane_freeze (s : State) (i : Nat) (v : Lane) : (s.setLane i v).freeze = s.freeze := rfl
@[simp] theorem setLane_eth (s : State) (i : Nat) (v : Lane) : (s.setLane i v).eth = s.eth := rfl
@[simp] theorem setLane_decRing (s : State) (i : Nat) (v : Lane) : (s.setLane i v).decRing = s.decRing := rfl
@[simp] theorem setLane_decDrop (s : State) (i : Nat) (v : Lane) : (s.setLane i v).decDrop = s.decDrop := rfl
@[simp] theorem setLane_mirror (s : State) (i : Nat) (v : Lane) : (s.setLane i v).mirror = s.mirror := rfl
@[simp] theorem setLane_mirrorDrop (s : State) (i : Nat) (v : Lane) : (s.setLane i v).mirrorDrop = s.mirrorDrop := rfl
@[simp] theorem setLane_panes (s : State) (i : Nat) (v : Lane) : (s.setLane i v).panes = s.panes := rfl
@[simp] theorem setLane_groups (s : State) (i : Nat) (v : Lane) : (s.setLane i v).groups = s.groups := rfl
@[simp] theorem setLane_bufs (s : State) (i : Nat) (v : Lane) : (s.setLane i v).bufs = s.bufs := rfl
@[simp] theorem setLane_heads (s : State) (i : Nat) (v : Lane) : (s.setLane i v).heads = s.heads := rfl
@[simp] theorem setLane_dp (s : State) (i : Nat) (v : Lane) : (s.setLane i v).dp = s.dp := rfl
@[simp] theorem setLane_pins (s : State) (i : Nat) (v : Lane) : (s.setLane i v).pins = s.pins := rfl
@[simp] theorem setLane_coef (s : State) (i : Nat) (v : Lane) : (s.setLane i v).coef = s.coef := rfl
@[simp] theorem setLane_cu (s : State) (i : Nat) (v : Lane) : (s.setLane i v).cu = s.cu := rfl
@[simp] theorem setLane_refs (s : State) (i : Nat) (v : Lane) : (s.setLane i v).refs = s.refs := rfl
@[simp] theorem setLane_recheckN (s : State) (i : Nat) (v : Lane) : (s.setLane i v).recheckN = s.recheckN := rfl
@[simp] theorem setLane_touch (s : State) (i : Nat) (v : Lane) : (s.setLane i v).touch = s.touch := rfl
@[simp] theorem setLane_legends (s : State) (i : Nat) (v : Lane) : (s.setLane i v).legends = s.legends := rfl
@[simp] theorem setLane_evi (s : State) (i : Nat) (v : Lane) : (s.setLane i v).evi = s.evi := rfl
@[simp] theorem setLane_enc (s : State) (i : Nat) (v : Lane) : (s.setLane i v).enc = s.enc := rfl
@[simp] theorem setLane_mem (s : State) (i : Nat) (v : Lane) : (s.setLane i v).mem = s.mem := rfl
@[simp] theorem setLane_dram (s : State) (i : Nat) (v : Lane) : (s.setLane i v).dram = s.dram := rfl
@[simp] theorem setLane_twin (s : State) (i : Nat) (v : Lane) : (s.setLane i v).twin = s.twin := rfl
@[simp] theorem setLane_test (s : State) (i : Nat) (v : Lane) : (s.setLane i v).test = s.test := rfl
@[simp] theorem setLane_life (s : State) (i : Nat) (v : Lane) : (s.setLane i v).life = s.life := rfl
@[simp] theorem setLane_power (s : State) (i : Nat) (v : Lane) : (s.setLane i v).power = s.power := rfl
@[simp] theorem lane_setLane (s : State) (i : Nat) (v : Lane) : (s.setLane i v).lane i = v := tget_tset_same _ _ _ _
theorem lane_setLane_ne (s : State) (i : Nat) (v : Lane) {k : Nat} (h : k ≠ i) : (s.setLane i v).lane k = s.lane k :=
  tget_tset_ne _ _ _ _ _ h
@[simp] theorem modLane_eq (s : State) (i : Nat) (g : Lane → Lane) : s.modLane i g = s.setLane i (g (s.lane i)) := rfl

@[simp] theorem setFrz_pending (s : State) (i : Nat) (v : Freeze) : (s.setFrz i v).pending = s.pending := rfl
@[simp] theorem setFrz_free (s : State) (i : Nat) (v : Freeze) : (s.setFrz i v).free = s.free := rfl
@[simp] theorem setFrz_out (s : State) (i : Nat) (v : Freeze) : (s.setFrz i v).out = s.out := rfl
@[simp] theorem setFrz_seatB (s : State) (i : Nat) (v : Freeze) : (s.setFrz i v).seatB = s.seatB := rfl
@[simp] theorem setFrz_cfg (s : State) (i : Nat) (v : Freeze) : (s.setFrz i v).cfg = s.cfg := rfl
@[simp] theorem setFrz_cmd (s : State) (i : Nat) (v : Freeze) : (s.setFrz i v).cmd = s.cmd := rfl
@[simp] theorem setFrz_events (s : State) (i : Nat) (v : Freeze) : (s.setFrz i v).events = s.events := rfl
@[simp] theorem setFrz_time (s : State) (i : Nat) (v : Freeze) : (s.setFrz i v).time = s.time := rfl
@[simp] theorem setFrz_ledger (s : State) (i : Nat) (v : Freeze) : (s.setFrz i v).ledger = s.ledger := rfl
@[simp] theorem setFrz_sources (s : State) (i : Nat) (v : Freeze) : (s.setFrz i v).sources = s.sources := rfl
@[simp] theorem setFrz_streams (s : State) (i : Nat) (v : Freeze) : (s.setFrz i v).streams = s.streams := rfl
@[simp] theorem setFrz_lanes (s : State) (i : Nat) (v : Freeze) : (s.setFrz i v).lanes = s.lanes := rfl
@[simp] theorem setFrz_eth (s : State) (i : Nat) (v : Freeze) : (s.setFrz i v).eth = s.eth := rfl
@[simp] theorem setFrz_decRing (s : State) (i : Nat) (v : Freeze) : (s.setFrz i v).decRing = s.decRing := rfl
@[simp] theorem setFrz_decDrop (s : State) (i : Nat) (v : Freeze) : (s.setFrz i v).decDrop = s.decDrop := rfl
@[simp] theorem setFrz_mirror (s : State) (i : Nat) (v : Freeze) : (s.setFrz i v).mirror = s.mirror := rfl
@[simp] theorem setFrz_mirrorDrop (s : State) (i : Nat) (v : Freeze) : (s.setFrz i v).mirrorDrop = s.mirrorDrop := rfl
@[simp] theorem setFrz_panes (s : State) (i : Nat) (v : Freeze) : (s.setFrz i v).panes = s.panes := rfl
@[simp] theorem setFrz_groups (s : State) (i : Nat) (v : Freeze) : (s.setFrz i v).groups = s.groups := rfl
@[simp] theorem setFrz_bufs (s : State) (i : Nat) (v : Freeze) : (s.setFrz i v).bufs = s.bufs := rfl
@[simp] theorem setFrz_heads (s : State) (i : Nat) (v : Freeze) : (s.setFrz i v).heads = s.heads := rfl
@[simp] theorem setFrz_dp (s : State) (i : Nat) (v : Freeze) : (s.setFrz i v).dp = s.dp := rfl
@[simp] theorem setFrz_pins (s : State) (i : Nat) (v : Freeze) : (s.setFrz i v).pins = s.pins := rfl
@[simp] theorem setFrz_coef (s : State) (i : Nat) (v : Freeze) : (s.setFrz i v).coef = s.coef := rfl
@[simp] theorem setFrz_cu (s : State) (i : Nat) (v : Freeze) : (s.setFrz i v).cu = s.cu := rfl
@[simp] theorem setFrz_refs (s : State) (i : Nat) (v : Freeze) : (s.setFrz i v).refs = s.refs := rfl
@[simp] theorem setFrz_recheckN (s : State) (i : Nat) (v : Freeze) : (s.setFrz i v).recheckN = s.recheckN := rfl
@[simp] theorem setFrz_touch (s : State) (i : Nat) (v : Freeze) : (s.setFrz i v).touch = s.touch := rfl
@[simp] theorem setFrz_legends (s : State) (i : Nat) (v : Freeze) : (s.setFrz i v).legends = s.legends := rfl
@[simp] theorem setFrz_evi (s : State) (i : Nat) (v : Freeze) : (s.setFrz i v).evi = s.evi := rfl
@[simp] theorem setFrz_enc (s : State) (i : Nat) (v : Freeze) : (s.setFrz i v).enc = s.enc := rfl
@[simp] theorem setFrz_mem (s : State) (i : Nat) (v : Freeze) : (s.setFrz i v).mem = s.mem := rfl
@[simp] theorem setFrz_dram (s : State) (i : Nat) (v : Freeze) : (s.setFrz i v).dram = s.dram := rfl
@[simp] theorem setFrz_twin (s : State) (i : Nat) (v : Freeze) : (s.setFrz i v).twin = s.twin := rfl
@[simp] theorem setFrz_test (s : State) (i : Nat) (v : Freeze) : (s.setFrz i v).test = s.test := rfl
@[simp] theorem setFrz_life (s : State) (i : Nat) (v : Freeze) : (s.setFrz i v).life = s.life := rfl
@[simp] theorem setFrz_power (s : State) (i : Nat) (v : Freeze) : (s.setFrz i v).power = s.power := rfl
@[simp] theorem frz_setFrz (s : State) (i : Nat) (v : Freeze) : (s.setFrz i v).frz i = v := tget_tset_same _ _ _ _
theorem frz_setFrz_ne (s : State) (i : Nat) (v : Freeze) {k : Nat} (h : k ≠ i) : (s.setFrz i v).frz k = s.frz k :=
  tget_tset_ne _ _ _ _ _ h
@[simp] theorem modFrz_eq (s : State) (i : Nat) (g : Freeze → Freeze) : s.modFrz i g = s.setFrz i (g (s.frz i)) := rfl

@[simp] theorem setEthPort_pending (s : State) (i : Nat) (v : EthPort) : (s.setEthPort i v).pending = s.pending := rfl
@[simp] theorem setEthPort_free (s : State) (i : Nat) (v : EthPort) : (s.setEthPort i v).free = s.free := rfl
@[simp] theorem setEthPort_out (s : State) (i : Nat) (v : EthPort) : (s.setEthPort i v).out = s.out := rfl
@[simp] theorem setEthPort_seatB (s : State) (i : Nat) (v : EthPort) : (s.setEthPort i v).seatB = s.seatB := rfl
@[simp] theorem setEthPort_cfg (s : State) (i : Nat) (v : EthPort) : (s.setEthPort i v).cfg = s.cfg := rfl
@[simp] theorem setEthPort_cmd (s : State) (i : Nat) (v : EthPort) : (s.setEthPort i v).cmd = s.cmd := rfl
@[simp] theorem setEthPort_events (s : State) (i : Nat) (v : EthPort) : (s.setEthPort i v).events = s.events := rfl
@[simp] theorem setEthPort_time (s : State) (i : Nat) (v : EthPort) : (s.setEthPort i v).time = s.time := rfl
@[simp] theorem setEthPort_ledger (s : State) (i : Nat) (v : EthPort) : (s.setEthPort i v).ledger = s.ledger := rfl
@[simp] theorem setEthPort_sources (s : State) (i : Nat) (v : EthPort) : (s.setEthPort i v).sources = s.sources := rfl
@[simp] theorem setEthPort_streams (s : State) (i : Nat) (v : EthPort) : (s.setEthPort i v).streams = s.streams := rfl
@[simp] theorem setEthPort_lanes (s : State) (i : Nat) (v : EthPort) : (s.setEthPort i v).lanes = s.lanes := rfl
@[simp] theorem setEthPort_freeze (s : State) (i : Nat) (v : EthPort) : (s.setEthPort i v).freeze = s.freeze := rfl
@[simp] theorem setEthPort_decRing (s : State) (i : Nat) (v : EthPort) : (s.setEthPort i v).decRing = s.decRing := rfl
@[simp] theorem setEthPort_decDrop (s : State) (i : Nat) (v : EthPort) : (s.setEthPort i v).decDrop = s.decDrop := rfl
@[simp] theorem setEthPort_mirror (s : State) (i : Nat) (v : EthPort) : (s.setEthPort i v).mirror = s.mirror := rfl
@[simp] theorem setEthPort_mirrorDrop (s : State) (i : Nat) (v : EthPort) : (s.setEthPort i v).mirrorDrop = s.mirrorDrop := rfl
@[simp] theorem setEthPort_panes (s : State) (i : Nat) (v : EthPort) : (s.setEthPort i v).panes = s.panes := rfl
@[simp] theorem setEthPort_groups (s : State) (i : Nat) (v : EthPort) : (s.setEthPort i v).groups = s.groups := rfl
@[simp] theorem setEthPort_bufs (s : State) (i : Nat) (v : EthPort) : (s.setEthPort i v).bufs = s.bufs := rfl
@[simp] theorem setEthPort_heads (s : State) (i : Nat) (v : EthPort) : (s.setEthPort i v).heads = s.heads := rfl
@[simp] theorem setEthPort_dp (s : State) (i : Nat) (v : EthPort) : (s.setEthPort i v).dp = s.dp := rfl
@[simp] theorem setEthPort_pins (s : State) (i : Nat) (v : EthPort) : (s.setEthPort i v).pins = s.pins := rfl
@[simp] theorem setEthPort_coef (s : State) (i : Nat) (v : EthPort) : (s.setEthPort i v).coef = s.coef := rfl
@[simp] theorem setEthPort_cu (s : State) (i : Nat) (v : EthPort) : (s.setEthPort i v).cu = s.cu := rfl
@[simp] theorem setEthPort_refs (s : State) (i : Nat) (v : EthPort) : (s.setEthPort i v).refs = s.refs := rfl
@[simp] theorem setEthPort_recheckN (s : State) (i : Nat) (v : EthPort) : (s.setEthPort i v).recheckN = s.recheckN := rfl
@[simp] theorem setEthPort_touch (s : State) (i : Nat) (v : EthPort) : (s.setEthPort i v).touch = s.touch := rfl
@[simp] theorem setEthPort_legends (s : State) (i : Nat) (v : EthPort) : (s.setEthPort i v).legends = s.legends := rfl
@[simp] theorem setEthPort_evi (s : State) (i : Nat) (v : EthPort) : (s.setEthPort i v).evi = s.evi := rfl
@[simp] theorem setEthPort_enc (s : State) (i : Nat) (v : EthPort) : (s.setEthPort i v).enc = s.enc := rfl
@[simp] theorem setEthPort_mem (s : State) (i : Nat) (v : EthPort) : (s.setEthPort i v).mem = s.mem := rfl
@[simp] theorem setEthPort_dram (s : State) (i : Nat) (v : EthPort) : (s.setEthPort i v).dram = s.dram := rfl
@[simp] theorem setEthPort_twin (s : State) (i : Nat) (v : EthPort) : (s.setEthPort i v).twin = s.twin := rfl
@[simp] theorem setEthPort_test (s : State) (i : Nat) (v : EthPort) : (s.setEthPort i v).test = s.test := rfl
@[simp] theorem setEthPort_life (s : State) (i : Nat) (v : EthPort) : (s.setEthPort i v).life = s.life := rfl
@[simp] theorem setEthPort_power (s : State) (i : Nat) (v : EthPort) : (s.setEthPort i v).power = s.power := rfl
@[simp] theorem ethPort_setEthPort (s : State) (i : Nat) (v : EthPort) : (s.setEthPort i v).ethPort i = v := tget_tset_same _ _ _ _
theorem ethPort_setEthPort_ne (s : State) (i : Nat) (v : EthPort) {k : Nat} (h : k ≠ i) : (s.setEthPort i v).ethPort k = s.ethPort k :=
  tget_tset_ne _ _ _ _ _ h
@[simp] theorem modEthPort_eq (s : State) (i : Nat) (g : EthPort → EthPort) : s.modEthPort i g = s.setEthPort i (g (s.ethPort i)) := rfl

@[simp] theorem setPane_pending (s : State) (i : Nat) (v : PaneRun) : (s.setPane i v).pending = s.pending := rfl
@[simp] theorem setPane_free (s : State) (i : Nat) (v : PaneRun) : (s.setPane i v).free = s.free := rfl
@[simp] theorem setPane_out (s : State) (i : Nat) (v : PaneRun) : (s.setPane i v).out = s.out := rfl
@[simp] theorem setPane_seatB (s : State) (i : Nat) (v : PaneRun) : (s.setPane i v).seatB = s.seatB := rfl
@[simp] theorem setPane_cfg (s : State) (i : Nat) (v : PaneRun) : (s.setPane i v).cfg = s.cfg := rfl
@[simp] theorem setPane_cmd (s : State) (i : Nat) (v : PaneRun) : (s.setPane i v).cmd = s.cmd := rfl
@[simp] theorem setPane_events (s : State) (i : Nat) (v : PaneRun) : (s.setPane i v).events = s.events := rfl
@[simp] theorem setPane_time (s : State) (i : Nat) (v : PaneRun) : (s.setPane i v).time = s.time := rfl
@[simp] theorem setPane_ledger (s : State) (i : Nat) (v : PaneRun) : (s.setPane i v).ledger = s.ledger := rfl
@[simp] theorem setPane_sources (s : State) (i : Nat) (v : PaneRun) : (s.setPane i v).sources = s.sources := rfl
@[simp] theorem setPane_streams (s : State) (i : Nat) (v : PaneRun) : (s.setPane i v).streams = s.streams := rfl
@[simp] theorem setPane_lanes (s : State) (i : Nat) (v : PaneRun) : (s.setPane i v).lanes = s.lanes := rfl
@[simp] theorem setPane_freeze (s : State) (i : Nat) (v : PaneRun) : (s.setPane i v).freeze = s.freeze := rfl
@[simp] theorem setPane_eth (s : State) (i : Nat) (v : PaneRun) : (s.setPane i v).eth = s.eth := rfl
@[simp] theorem setPane_decRing (s : State) (i : Nat) (v : PaneRun) : (s.setPane i v).decRing = s.decRing := rfl
@[simp] theorem setPane_decDrop (s : State) (i : Nat) (v : PaneRun) : (s.setPane i v).decDrop = s.decDrop := rfl
@[simp] theorem setPane_mirror (s : State) (i : Nat) (v : PaneRun) : (s.setPane i v).mirror = s.mirror := rfl
@[simp] theorem setPane_mirrorDrop (s : State) (i : Nat) (v : PaneRun) : (s.setPane i v).mirrorDrop = s.mirrorDrop := rfl
@[simp] theorem setPane_groups (s : State) (i : Nat) (v : PaneRun) : (s.setPane i v).groups = s.groups := rfl
@[simp] theorem setPane_bufs (s : State) (i : Nat) (v : PaneRun) : (s.setPane i v).bufs = s.bufs := rfl
@[simp] theorem setPane_heads (s : State) (i : Nat) (v : PaneRun) : (s.setPane i v).heads = s.heads := rfl
@[simp] theorem setPane_dp (s : State) (i : Nat) (v : PaneRun) : (s.setPane i v).dp = s.dp := rfl
@[simp] theorem setPane_pins (s : State) (i : Nat) (v : PaneRun) : (s.setPane i v).pins = s.pins := rfl
@[simp] theorem setPane_coef (s : State) (i : Nat) (v : PaneRun) : (s.setPane i v).coef = s.coef := rfl
@[simp] theorem setPane_cu (s : State) (i : Nat) (v : PaneRun) : (s.setPane i v).cu = s.cu := rfl
@[simp] theorem setPane_refs (s : State) (i : Nat) (v : PaneRun) : (s.setPane i v).refs = s.refs := rfl
@[simp] theorem setPane_recheckN (s : State) (i : Nat) (v : PaneRun) : (s.setPane i v).recheckN = s.recheckN := rfl
@[simp] theorem setPane_touch (s : State) (i : Nat) (v : PaneRun) : (s.setPane i v).touch = s.touch := rfl
@[simp] theorem setPane_legends (s : State) (i : Nat) (v : PaneRun) : (s.setPane i v).legends = s.legends := rfl
@[simp] theorem setPane_evi (s : State) (i : Nat) (v : PaneRun) : (s.setPane i v).evi = s.evi := rfl
@[simp] theorem setPane_enc (s : State) (i : Nat) (v : PaneRun) : (s.setPane i v).enc = s.enc := rfl
@[simp] theorem setPane_mem (s : State) (i : Nat) (v : PaneRun) : (s.setPane i v).mem = s.mem := rfl
@[simp] theorem setPane_dram (s : State) (i : Nat) (v : PaneRun) : (s.setPane i v).dram = s.dram := rfl
@[simp] theorem setPane_twin (s : State) (i : Nat) (v : PaneRun) : (s.setPane i v).twin = s.twin := rfl
@[simp] theorem setPane_test (s : State) (i : Nat) (v : PaneRun) : (s.setPane i v).test = s.test := rfl
@[simp] theorem setPane_life (s : State) (i : Nat) (v : PaneRun) : (s.setPane i v).life = s.life := rfl
@[simp] theorem setPane_power (s : State) (i : Nat) (v : PaneRun) : (s.setPane i v).power = s.power := rfl
@[simp] theorem pane_setPane (s : State) (i : Nat) (v : PaneRun) : (s.setPane i v).pane i = v := tget_tset_same _ _ _ _
theorem pane_setPane_ne (s : State) (i : Nat) (v : PaneRun) {k : Nat} (h : k ≠ i) : (s.setPane i v).pane k = s.pane k :=
  tget_tset_ne _ _ _ _ _ h
@[simp] theorem modPane_eq (s : State) (i : Nat) (g : PaneRun → PaneRun) : s.modPane i g = s.setPane i (g (s.pane i)) := rfl

@[simp] theorem setGroup_pending (s : State) (i : Nat) (v : Group) : (s.setGroup i v).pending = s.pending := rfl
@[simp] theorem setGroup_free (s : State) (i : Nat) (v : Group) : (s.setGroup i v).free = s.free := rfl
@[simp] theorem setGroup_out (s : State) (i : Nat) (v : Group) : (s.setGroup i v).out = s.out := rfl
@[simp] theorem setGroup_seatB (s : State) (i : Nat) (v : Group) : (s.setGroup i v).seatB = s.seatB := rfl
@[simp] theorem setGroup_cfg (s : State) (i : Nat) (v : Group) : (s.setGroup i v).cfg = s.cfg := rfl
@[simp] theorem setGroup_cmd (s : State) (i : Nat) (v : Group) : (s.setGroup i v).cmd = s.cmd := rfl
@[simp] theorem setGroup_events (s : State) (i : Nat) (v : Group) : (s.setGroup i v).events = s.events := rfl
@[simp] theorem setGroup_time (s : State) (i : Nat) (v : Group) : (s.setGroup i v).time = s.time := rfl
@[simp] theorem setGroup_ledger (s : State) (i : Nat) (v : Group) : (s.setGroup i v).ledger = s.ledger := rfl
@[simp] theorem setGroup_sources (s : State) (i : Nat) (v : Group) : (s.setGroup i v).sources = s.sources := rfl
@[simp] theorem setGroup_streams (s : State) (i : Nat) (v : Group) : (s.setGroup i v).streams = s.streams := rfl
@[simp] theorem setGroup_lanes (s : State) (i : Nat) (v : Group) : (s.setGroup i v).lanes = s.lanes := rfl
@[simp] theorem setGroup_freeze (s : State) (i : Nat) (v : Group) : (s.setGroup i v).freeze = s.freeze := rfl
@[simp] theorem setGroup_eth (s : State) (i : Nat) (v : Group) : (s.setGroup i v).eth = s.eth := rfl
@[simp] theorem setGroup_decRing (s : State) (i : Nat) (v : Group) : (s.setGroup i v).decRing = s.decRing := rfl
@[simp] theorem setGroup_decDrop (s : State) (i : Nat) (v : Group) : (s.setGroup i v).decDrop = s.decDrop := rfl
@[simp] theorem setGroup_mirror (s : State) (i : Nat) (v : Group) : (s.setGroup i v).mirror = s.mirror := rfl
@[simp] theorem setGroup_mirrorDrop (s : State) (i : Nat) (v : Group) : (s.setGroup i v).mirrorDrop = s.mirrorDrop := rfl
@[simp] theorem setGroup_panes (s : State) (i : Nat) (v : Group) : (s.setGroup i v).panes = s.panes := rfl
@[simp] theorem setGroup_bufs (s : State) (i : Nat) (v : Group) : (s.setGroup i v).bufs = s.bufs := rfl
@[simp] theorem setGroup_heads (s : State) (i : Nat) (v : Group) : (s.setGroup i v).heads = s.heads := rfl
@[simp] theorem setGroup_dp (s : State) (i : Nat) (v : Group) : (s.setGroup i v).dp = s.dp := rfl
@[simp] theorem setGroup_pins (s : State) (i : Nat) (v : Group) : (s.setGroup i v).pins = s.pins := rfl
@[simp] theorem setGroup_coef (s : State) (i : Nat) (v : Group) : (s.setGroup i v).coef = s.coef := rfl
@[simp] theorem setGroup_cu (s : State) (i : Nat) (v : Group) : (s.setGroup i v).cu = s.cu := rfl
@[simp] theorem setGroup_refs (s : State) (i : Nat) (v : Group) : (s.setGroup i v).refs = s.refs := rfl
@[simp] theorem setGroup_recheckN (s : State) (i : Nat) (v : Group) : (s.setGroup i v).recheckN = s.recheckN := rfl
@[simp] theorem setGroup_touch (s : State) (i : Nat) (v : Group) : (s.setGroup i v).touch = s.touch := rfl
@[simp] theorem setGroup_legends (s : State) (i : Nat) (v : Group) : (s.setGroup i v).legends = s.legends := rfl
@[simp] theorem setGroup_evi (s : State) (i : Nat) (v : Group) : (s.setGroup i v).evi = s.evi := rfl
@[simp] theorem setGroup_enc (s : State) (i : Nat) (v : Group) : (s.setGroup i v).enc = s.enc := rfl
@[simp] theorem setGroup_mem (s : State) (i : Nat) (v : Group) : (s.setGroup i v).mem = s.mem := rfl
@[simp] theorem setGroup_dram (s : State) (i : Nat) (v : Group) : (s.setGroup i v).dram = s.dram := rfl
@[simp] theorem setGroup_twin (s : State) (i : Nat) (v : Group) : (s.setGroup i v).twin = s.twin := rfl
@[simp] theorem setGroup_test (s : State) (i : Nat) (v : Group) : (s.setGroup i v).test = s.test := rfl
@[simp] theorem setGroup_life (s : State) (i : Nat) (v : Group) : (s.setGroup i v).life = s.life := rfl
@[simp] theorem setGroup_power (s : State) (i : Nat) (v : Group) : (s.setGroup i v).power = s.power := rfl
@[simp] theorem group_setGroup (s : State) (i : Nat) (v : Group) : (s.setGroup i v).group i = v := tget_tset_same _ _ _ _
theorem group_setGroup_ne (s : State) (i : Nat) (v : Group) {k : Nat} (h : k ≠ i) : (s.setGroup i v).group k = s.group k :=
  tget_tset_ne _ _ _ _ _ h
@[simp] theorem modGroup_eq (s : State) (i : Nat) (g : Group → Group) : s.modGroup i g = s.setGroup i (g (s.group i)) := rfl

@[simp] theorem setBuf_pending (s : State) (i : Nat) (v : BufRun) : (s.setBuf i v).pending = s.pending := rfl
@[simp] theorem setBuf_free (s : State) (i : Nat) (v : BufRun) : (s.setBuf i v).free = s.free := rfl
@[simp] theorem setBuf_out (s : State) (i : Nat) (v : BufRun) : (s.setBuf i v).out = s.out := rfl
@[simp] theorem setBuf_seatB (s : State) (i : Nat) (v : BufRun) : (s.setBuf i v).seatB = s.seatB := rfl
@[simp] theorem setBuf_cfg (s : State) (i : Nat) (v : BufRun) : (s.setBuf i v).cfg = s.cfg := rfl
@[simp] theorem setBuf_cmd (s : State) (i : Nat) (v : BufRun) : (s.setBuf i v).cmd = s.cmd := rfl
@[simp] theorem setBuf_events (s : State) (i : Nat) (v : BufRun) : (s.setBuf i v).events = s.events := rfl
@[simp] theorem setBuf_time (s : State) (i : Nat) (v : BufRun) : (s.setBuf i v).time = s.time := rfl
@[simp] theorem setBuf_ledger (s : State) (i : Nat) (v : BufRun) : (s.setBuf i v).ledger = s.ledger := rfl
@[simp] theorem setBuf_sources (s : State) (i : Nat) (v : BufRun) : (s.setBuf i v).sources = s.sources := rfl
@[simp] theorem setBuf_streams (s : State) (i : Nat) (v : BufRun) : (s.setBuf i v).streams = s.streams := rfl
@[simp] theorem setBuf_lanes (s : State) (i : Nat) (v : BufRun) : (s.setBuf i v).lanes = s.lanes := rfl
@[simp] theorem setBuf_freeze (s : State) (i : Nat) (v : BufRun) : (s.setBuf i v).freeze = s.freeze := rfl
@[simp] theorem setBuf_eth (s : State) (i : Nat) (v : BufRun) : (s.setBuf i v).eth = s.eth := rfl
@[simp] theorem setBuf_decRing (s : State) (i : Nat) (v : BufRun) : (s.setBuf i v).decRing = s.decRing := rfl
@[simp] theorem setBuf_decDrop (s : State) (i : Nat) (v : BufRun) : (s.setBuf i v).decDrop = s.decDrop := rfl
@[simp] theorem setBuf_mirror (s : State) (i : Nat) (v : BufRun) : (s.setBuf i v).mirror = s.mirror := rfl
@[simp] theorem setBuf_mirrorDrop (s : State) (i : Nat) (v : BufRun) : (s.setBuf i v).mirrorDrop = s.mirrorDrop := rfl
@[simp] theorem setBuf_panes (s : State) (i : Nat) (v : BufRun) : (s.setBuf i v).panes = s.panes := rfl
@[simp] theorem setBuf_groups (s : State) (i : Nat) (v : BufRun) : (s.setBuf i v).groups = s.groups := rfl
@[simp] theorem setBuf_heads (s : State) (i : Nat) (v : BufRun) : (s.setBuf i v).heads = s.heads := rfl
@[simp] theorem setBuf_dp (s : State) (i : Nat) (v : BufRun) : (s.setBuf i v).dp = s.dp := rfl
@[simp] theorem setBuf_pins (s : State) (i : Nat) (v : BufRun) : (s.setBuf i v).pins = s.pins := rfl
@[simp] theorem setBuf_coef (s : State) (i : Nat) (v : BufRun) : (s.setBuf i v).coef = s.coef := rfl
@[simp] theorem setBuf_cu (s : State) (i : Nat) (v : BufRun) : (s.setBuf i v).cu = s.cu := rfl
@[simp] theorem setBuf_refs (s : State) (i : Nat) (v : BufRun) : (s.setBuf i v).refs = s.refs := rfl
@[simp] theorem setBuf_recheckN (s : State) (i : Nat) (v : BufRun) : (s.setBuf i v).recheckN = s.recheckN := rfl
@[simp] theorem setBuf_touch (s : State) (i : Nat) (v : BufRun) : (s.setBuf i v).touch = s.touch := rfl
@[simp] theorem setBuf_legends (s : State) (i : Nat) (v : BufRun) : (s.setBuf i v).legends = s.legends := rfl
@[simp] theorem setBuf_evi (s : State) (i : Nat) (v : BufRun) : (s.setBuf i v).evi = s.evi := rfl
@[simp] theorem setBuf_enc (s : State) (i : Nat) (v : BufRun) : (s.setBuf i v).enc = s.enc := rfl
@[simp] theorem setBuf_mem (s : State) (i : Nat) (v : BufRun) : (s.setBuf i v).mem = s.mem := rfl
@[simp] theorem setBuf_dram (s : State) (i : Nat) (v : BufRun) : (s.setBuf i v).dram = s.dram := rfl
@[simp] theorem setBuf_twin (s : State) (i : Nat) (v : BufRun) : (s.setBuf i v).twin = s.twin := rfl
@[simp] theorem setBuf_test (s : State) (i : Nat) (v : BufRun) : (s.setBuf i v).test = s.test := rfl
@[simp] theorem setBuf_life (s : State) (i : Nat) (v : BufRun) : (s.setBuf i v).life = s.life := rfl
@[simp] theorem setBuf_power (s : State) (i : Nat) (v : BufRun) : (s.setBuf i v).power = s.power := rfl
@[simp] theorem buf_setBuf (s : State) (i : Nat) (v : BufRun) : (s.setBuf i v).buf i = v := tget_tset_same _ _ _ _
theorem buf_setBuf_ne (s : State) (i : Nat) (v : BufRun) {k : Nat} (h : k ≠ i) : (s.setBuf i v).buf k = s.buf k :=
  tget_tset_ne _ _ _ _ _ h
@[simp] theorem modBuf_eq (s : State) (i : Nat) (g : BufRun → BufRun) : s.modBuf i g = s.setBuf i (g (s.buf i)) := rfl

@[simp] theorem setDpPort_pending (s : State) (i : Nat) (v : DpPort) : (s.setDpPort i v).pending = s.pending := rfl
@[simp] theorem setDpPort_free (s : State) (i : Nat) (v : DpPort) : (s.setDpPort i v).free = s.free := rfl
@[simp] theorem setDpPort_out (s : State) (i : Nat) (v : DpPort) : (s.setDpPort i v).out = s.out := rfl
@[simp] theorem setDpPort_seatB (s : State) (i : Nat) (v : DpPort) : (s.setDpPort i v).seatB = s.seatB := rfl
@[simp] theorem setDpPort_cfg (s : State) (i : Nat) (v : DpPort) : (s.setDpPort i v).cfg = s.cfg := rfl
@[simp] theorem setDpPort_cmd (s : State) (i : Nat) (v : DpPort) : (s.setDpPort i v).cmd = s.cmd := rfl
@[simp] theorem setDpPort_events (s : State) (i : Nat) (v : DpPort) : (s.setDpPort i v).events = s.events := rfl
@[simp] theorem setDpPort_time (s : State) (i : Nat) (v : DpPort) : (s.setDpPort i v).time = s.time := rfl
@[simp] theorem setDpPort_ledger (s : State) (i : Nat) (v : DpPort) : (s.setDpPort i v).ledger = s.ledger := rfl
@[simp] theorem setDpPort_sources (s : State) (i : Nat) (v : DpPort) : (s.setDpPort i v).sources = s.sources := rfl
@[simp] theorem setDpPort_streams (s : State) (i : Nat) (v : DpPort) : (s.setDpPort i v).streams = s.streams := rfl
@[simp] theorem setDpPort_lanes (s : State) (i : Nat) (v : DpPort) : (s.setDpPort i v).lanes = s.lanes := rfl
@[simp] theorem setDpPort_freeze (s : State) (i : Nat) (v : DpPort) : (s.setDpPort i v).freeze = s.freeze := rfl
@[simp] theorem setDpPort_eth (s : State) (i : Nat) (v : DpPort) : (s.setDpPort i v).eth = s.eth := rfl
@[simp] theorem setDpPort_decRing (s : State) (i : Nat) (v : DpPort) : (s.setDpPort i v).decRing = s.decRing := rfl
@[simp] theorem setDpPort_decDrop (s : State) (i : Nat) (v : DpPort) : (s.setDpPort i v).decDrop = s.decDrop := rfl
@[simp] theorem setDpPort_mirror (s : State) (i : Nat) (v : DpPort) : (s.setDpPort i v).mirror = s.mirror := rfl
@[simp] theorem setDpPort_mirrorDrop (s : State) (i : Nat) (v : DpPort) : (s.setDpPort i v).mirrorDrop = s.mirrorDrop := rfl
@[simp] theorem setDpPort_panes (s : State) (i : Nat) (v : DpPort) : (s.setDpPort i v).panes = s.panes := rfl
@[simp] theorem setDpPort_groups (s : State) (i : Nat) (v : DpPort) : (s.setDpPort i v).groups = s.groups := rfl
@[simp] theorem setDpPort_bufs (s : State) (i : Nat) (v : DpPort) : (s.setDpPort i v).bufs = s.bufs := rfl
@[simp] theorem setDpPort_heads (s : State) (i : Nat) (v : DpPort) : (s.setDpPort i v).heads = s.heads := rfl
@[simp] theorem setDpPort_pins (s : State) (i : Nat) (v : DpPort) : (s.setDpPort i v).pins = s.pins := rfl
@[simp] theorem setDpPort_coef (s : State) (i : Nat) (v : DpPort) : (s.setDpPort i v).coef = s.coef := rfl
@[simp] theorem setDpPort_cu (s : State) (i : Nat) (v : DpPort) : (s.setDpPort i v).cu = s.cu := rfl
@[simp] theorem setDpPort_refs (s : State) (i : Nat) (v : DpPort) : (s.setDpPort i v).refs = s.refs := rfl
@[simp] theorem setDpPort_recheckN (s : State) (i : Nat) (v : DpPort) : (s.setDpPort i v).recheckN = s.recheckN := rfl
@[simp] theorem setDpPort_touch (s : State) (i : Nat) (v : DpPort) : (s.setDpPort i v).touch = s.touch := rfl
@[simp] theorem setDpPort_legends (s : State) (i : Nat) (v : DpPort) : (s.setDpPort i v).legends = s.legends := rfl
@[simp] theorem setDpPort_evi (s : State) (i : Nat) (v : DpPort) : (s.setDpPort i v).evi = s.evi := rfl
@[simp] theorem setDpPort_enc (s : State) (i : Nat) (v : DpPort) : (s.setDpPort i v).enc = s.enc := rfl
@[simp] theorem setDpPort_mem (s : State) (i : Nat) (v : DpPort) : (s.setDpPort i v).mem = s.mem := rfl
@[simp] theorem setDpPort_dram (s : State) (i : Nat) (v : DpPort) : (s.setDpPort i v).dram = s.dram := rfl
@[simp] theorem setDpPort_twin (s : State) (i : Nat) (v : DpPort) : (s.setDpPort i v).twin = s.twin := rfl
@[simp] theorem setDpPort_test (s : State) (i : Nat) (v : DpPort) : (s.setDpPort i v).test = s.test := rfl
@[simp] theorem setDpPort_life (s : State) (i : Nat) (v : DpPort) : (s.setDpPort i v).life = s.life := rfl
@[simp] theorem setDpPort_power (s : State) (i : Nat) (v : DpPort) : (s.setDpPort i v).power = s.power := rfl
@[simp] theorem dpPort_setDpPort (s : State) (i : Nat) (v : DpPort) : (s.setDpPort i v).dpPort i = v := tget_tset_same _ _ _ _
theorem dpPort_setDpPort_ne (s : State) (i : Nat) (v : DpPort) {k : Nat} (h : k ≠ i) : (s.setDpPort i v).dpPort k = s.dpPort k :=
  tget_tset_ne _ _ _ _ _ h
@[simp] theorem modDpPort_eq (s : State) (i : Nat) (g : DpPort → DpPort) : s.modDpPort i g = s.setDpPort i (g (s.dpPort i)) := rfl

@[simp] theorem setCuUnit_pending (s : State) (i : Nat) (v : CheckUnit) : (s.setCuUnit i v).pending = s.pending := rfl
@[simp] theorem setCuUnit_free (s : State) (i : Nat) (v : CheckUnit) : (s.setCuUnit i v).free = s.free := rfl
@[simp] theorem setCuUnit_out (s : State) (i : Nat) (v : CheckUnit) : (s.setCuUnit i v).out = s.out := rfl
@[simp] theorem setCuUnit_seatB (s : State) (i : Nat) (v : CheckUnit) : (s.setCuUnit i v).seatB = s.seatB := rfl
@[simp] theorem setCuUnit_cfg (s : State) (i : Nat) (v : CheckUnit) : (s.setCuUnit i v).cfg = s.cfg := rfl
@[simp] theorem setCuUnit_cmd (s : State) (i : Nat) (v : CheckUnit) : (s.setCuUnit i v).cmd = s.cmd := rfl
@[simp] theorem setCuUnit_events (s : State) (i : Nat) (v : CheckUnit) : (s.setCuUnit i v).events = s.events := rfl
@[simp] theorem setCuUnit_time (s : State) (i : Nat) (v : CheckUnit) : (s.setCuUnit i v).time = s.time := rfl
@[simp] theorem setCuUnit_ledger (s : State) (i : Nat) (v : CheckUnit) : (s.setCuUnit i v).ledger = s.ledger := rfl
@[simp] theorem setCuUnit_sources (s : State) (i : Nat) (v : CheckUnit) : (s.setCuUnit i v).sources = s.sources := rfl
@[simp] theorem setCuUnit_streams (s : State) (i : Nat) (v : CheckUnit) : (s.setCuUnit i v).streams = s.streams := rfl
@[simp] theorem setCuUnit_lanes (s : State) (i : Nat) (v : CheckUnit) : (s.setCuUnit i v).lanes = s.lanes := rfl
@[simp] theorem setCuUnit_freeze (s : State) (i : Nat) (v : CheckUnit) : (s.setCuUnit i v).freeze = s.freeze := rfl
@[simp] theorem setCuUnit_eth (s : State) (i : Nat) (v : CheckUnit) : (s.setCuUnit i v).eth = s.eth := rfl
@[simp] theorem setCuUnit_decRing (s : State) (i : Nat) (v : CheckUnit) : (s.setCuUnit i v).decRing = s.decRing := rfl
@[simp] theorem setCuUnit_decDrop (s : State) (i : Nat) (v : CheckUnit) : (s.setCuUnit i v).decDrop = s.decDrop := rfl
@[simp] theorem setCuUnit_mirror (s : State) (i : Nat) (v : CheckUnit) : (s.setCuUnit i v).mirror = s.mirror := rfl
@[simp] theorem setCuUnit_mirrorDrop (s : State) (i : Nat) (v : CheckUnit) : (s.setCuUnit i v).mirrorDrop = s.mirrorDrop := rfl
@[simp] theorem setCuUnit_panes (s : State) (i : Nat) (v : CheckUnit) : (s.setCuUnit i v).panes = s.panes := rfl
@[simp] theorem setCuUnit_groups (s : State) (i : Nat) (v : CheckUnit) : (s.setCuUnit i v).groups = s.groups := rfl
@[simp] theorem setCuUnit_bufs (s : State) (i : Nat) (v : CheckUnit) : (s.setCuUnit i v).bufs = s.bufs := rfl
@[simp] theorem setCuUnit_heads (s : State) (i : Nat) (v : CheckUnit) : (s.setCuUnit i v).heads = s.heads := rfl
@[simp] theorem setCuUnit_dp (s : State) (i : Nat) (v : CheckUnit) : (s.setCuUnit i v).dp = s.dp := rfl
@[simp] theorem setCuUnit_pins (s : State) (i : Nat) (v : CheckUnit) : (s.setCuUnit i v).pins = s.pins := rfl
@[simp] theorem setCuUnit_coef (s : State) (i : Nat) (v : CheckUnit) : (s.setCuUnit i v).coef = s.coef := rfl
@[simp] theorem setCuUnit_refs (s : State) (i : Nat) (v : CheckUnit) : (s.setCuUnit i v).refs = s.refs := rfl
@[simp] theorem setCuUnit_recheckN (s : State) (i : Nat) (v : CheckUnit) : (s.setCuUnit i v).recheckN = s.recheckN := rfl
@[simp] theorem setCuUnit_touch (s : State) (i : Nat) (v : CheckUnit) : (s.setCuUnit i v).touch = s.touch := rfl
@[simp] theorem setCuUnit_legends (s : State) (i : Nat) (v : CheckUnit) : (s.setCuUnit i v).legends = s.legends := rfl
@[simp] theorem setCuUnit_evi (s : State) (i : Nat) (v : CheckUnit) : (s.setCuUnit i v).evi = s.evi := rfl
@[simp] theorem setCuUnit_enc (s : State) (i : Nat) (v : CheckUnit) : (s.setCuUnit i v).enc = s.enc := rfl
@[simp] theorem setCuUnit_mem (s : State) (i : Nat) (v : CheckUnit) : (s.setCuUnit i v).mem = s.mem := rfl
@[simp] theorem setCuUnit_dram (s : State) (i : Nat) (v : CheckUnit) : (s.setCuUnit i v).dram = s.dram := rfl
@[simp] theorem setCuUnit_twin (s : State) (i : Nat) (v : CheckUnit) : (s.setCuUnit i v).twin = s.twin := rfl
@[simp] theorem setCuUnit_test (s : State) (i : Nat) (v : CheckUnit) : (s.setCuUnit i v).test = s.test := rfl
@[simp] theorem setCuUnit_life (s : State) (i : Nat) (v : CheckUnit) : (s.setCuUnit i v).life = s.life := rfl
@[simp] theorem setCuUnit_power (s : State) (i : Nat) (v : CheckUnit) : (s.setCuUnit i v).power = s.power := rfl
@[simp] theorem cuUnit_setCuUnit (s : State) (i : Nat) (v : CheckUnit) : (s.setCuUnit i v).cuUnit i = v := tget_tset_same _ _ _ _
theorem cuUnit_setCuUnit_ne (s : State) (i : Nat) (v : CheckUnit) {k : Nat} (h : k ≠ i) : (s.setCuUnit i v).cuUnit k = s.cuUnit k :=
  tget_tset_ne _ _ _ _ _ h
@[simp] theorem modCuUnit_eq (s : State) (i : Nat) (g : CheckUnit → CheckUnit) : s.modCuUnit i g = s.setCuUnit i (g (s.cuUnit i)) := rfl

@[simp] theorem setRefSlot_pending (s : State) (i : Nat) (v : RefSlot) : (s.setRefSlot i v).pending = s.pending := rfl
@[simp] theorem setRefSlot_free (s : State) (i : Nat) (v : RefSlot) : (s.setRefSlot i v).free = s.free := rfl
@[simp] theorem setRefSlot_out (s : State) (i : Nat) (v : RefSlot) : (s.setRefSlot i v).out = s.out := rfl
@[simp] theorem setRefSlot_seatB (s : State) (i : Nat) (v : RefSlot) : (s.setRefSlot i v).seatB = s.seatB := rfl
@[simp] theorem setRefSlot_cfg (s : State) (i : Nat) (v : RefSlot) : (s.setRefSlot i v).cfg = s.cfg := rfl
@[simp] theorem setRefSlot_cmd (s : State) (i : Nat) (v : RefSlot) : (s.setRefSlot i v).cmd = s.cmd := rfl
@[simp] theorem setRefSlot_events (s : State) (i : Nat) (v : RefSlot) : (s.setRefSlot i v).events = s.events := rfl
@[simp] theorem setRefSlot_time (s : State) (i : Nat) (v : RefSlot) : (s.setRefSlot i v).time = s.time := rfl
@[simp] theorem setRefSlot_ledger (s : State) (i : Nat) (v : RefSlot) : (s.setRefSlot i v).ledger = s.ledger := rfl
@[simp] theorem setRefSlot_sources (s : State) (i : Nat) (v : RefSlot) : (s.setRefSlot i v).sources = s.sources := rfl
@[simp] theorem setRefSlot_streams (s : State) (i : Nat) (v : RefSlot) : (s.setRefSlot i v).streams = s.streams := rfl
@[simp] theorem setRefSlot_lanes (s : State) (i : Nat) (v : RefSlot) : (s.setRefSlot i v).lanes = s.lanes := rfl
@[simp] theorem setRefSlot_freeze (s : State) (i : Nat) (v : RefSlot) : (s.setRefSlot i v).freeze = s.freeze := rfl
@[simp] theorem setRefSlot_eth (s : State) (i : Nat) (v : RefSlot) : (s.setRefSlot i v).eth = s.eth := rfl
@[simp] theorem setRefSlot_decRing (s : State) (i : Nat) (v : RefSlot) : (s.setRefSlot i v).decRing = s.decRing := rfl
@[simp] theorem setRefSlot_decDrop (s : State) (i : Nat) (v : RefSlot) : (s.setRefSlot i v).decDrop = s.decDrop := rfl
@[simp] theorem setRefSlot_mirror (s : State) (i : Nat) (v : RefSlot) : (s.setRefSlot i v).mirror = s.mirror := rfl
@[simp] theorem setRefSlot_mirrorDrop (s : State) (i : Nat) (v : RefSlot) : (s.setRefSlot i v).mirrorDrop = s.mirrorDrop := rfl
@[simp] theorem setRefSlot_panes (s : State) (i : Nat) (v : RefSlot) : (s.setRefSlot i v).panes = s.panes := rfl
@[simp] theorem setRefSlot_groups (s : State) (i : Nat) (v : RefSlot) : (s.setRefSlot i v).groups = s.groups := rfl
@[simp] theorem setRefSlot_bufs (s : State) (i : Nat) (v : RefSlot) : (s.setRefSlot i v).bufs = s.bufs := rfl
@[simp] theorem setRefSlot_heads (s : State) (i : Nat) (v : RefSlot) : (s.setRefSlot i v).heads = s.heads := rfl
@[simp] theorem setRefSlot_dp (s : State) (i : Nat) (v : RefSlot) : (s.setRefSlot i v).dp = s.dp := rfl
@[simp] theorem setRefSlot_pins (s : State) (i : Nat) (v : RefSlot) : (s.setRefSlot i v).pins = s.pins := rfl
@[simp] theorem setRefSlot_coef (s : State) (i : Nat) (v : RefSlot) : (s.setRefSlot i v).coef = s.coef := rfl
@[simp] theorem setRefSlot_cu (s : State) (i : Nat) (v : RefSlot) : (s.setRefSlot i v).cu = s.cu := rfl
@[simp] theorem setRefSlot_recheckN (s : State) (i : Nat) (v : RefSlot) : (s.setRefSlot i v).recheckN = s.recheckN := rfl
@[simp] theorem setRefSlot_touch (s : State) (i : Nat) (v : RefSlot) : (s.setRefSlot i v).touch = s.touch := rfl
@[simp] theorem setRefSlot_legends (s : State) (i : Nat) (v : RefSlot) : (s.setRefSlot i v).legends = s.legends := rfl
@[simp] theorem setRefSlot_evi (s : State) (i : Nat) (v : RefSlot) : (s.setRefSlot i v).evi = s.evi := rfl
@[simp] theorem setRefSlot_enc (s : State) (i : Nat) (v : RefSlot) : (s.setRefSlot i v).enc = s.enc := rfl
@[simp] theorem setRefSlot_mem (s : State) (i : Nat) (v : RefSlot) : (s.setRefSlot i v).mem = s.mem := rfl
@[simp] theorem setRefSlot_dram (s : State) (i : Nat) (v : RefSlot) : (s.setRefSlot i v).dram = s.dram := rfl
@[simp] theorem setRefSlot_twin (s : State) (i : Nat) (v : RefSlot) : (s.setRefSlot i v).twin = s.twin := rfl
@[simp] theorem setRefSlot_test (s : State) (i : Nat) (v : RefSlot) : (s.setRefSlot i v).test = s.test := rfl
@[simp] theorem setRefSlot_life (s : State) (i : Nat) (v : RefSlot) : (s.setRefSlot i v).life = s.life := rfl
@[simp] theorem setRefSlot_power (s : State) (i : Nat) (v : RefSlot) : (s.setRefSlot i v).power = s.power := rfl
@[simp] theorem refSlot_setRefSlot (s : State) (i : Nat) (v : RefSlot) : (s.setRefSlot i v).refSlot i = v := tget_tset_same _ _ _ _
theorem refSlot_setRefSlot_ne (s : State) (i : Nat) (v : RefSlot) {k : Nat} (h : k ≠ i) : (s.setRefSlot i v).refSlot k = s.refSlot k :=
  tget_tset_ne _ _ _ _ _ h
@[simp] theorem modRefSlot_eq (s : State) (i : Nat) (g : RefSlot → RefSlot) : s.modRefSlot i g = s.setRefSlot i (g (s.refSlot i)) := rfl

@[simp] theorem setEviIn_pending (s : State) (i : Nat) (v : EviInput) : (s.setEviIn i v).pending = s.pending := rfl
@[simp] theorem setEviIn_free (s : State) (i : Nat) (v : EviInput) : (s.setEviIn i v).free = s.free := rfl
@[simp] theorem setEviIn_out (s : State) (i : Nat) (v : EviInput) : (s.setEviIn i v).out = s.out := rfl
@[simp] theorem setEviIn_seatB (s : State) (i : Nat) (v : EviInput) : (s.setEviIn i v).seatB = s.seatB := rfl
@[simp] theorem setEviIn_cfg (s : State) (i : Nat) (v : EviInput) : (s.setEviIn i v).cfg = s.cfg := rfl
@[simp] theorem setEviIn_cmd (s : State) (i : Nat) (v : EviInput) : (s.setEviIn i v).cmd = s.cmd := rfl
@[simp] theorem setEviIn_events (s : State) (i : Nat) (v : EviInput) : (s.setEviIn i v).events = s.events := rfl
@[simp] theorem setEviIn_time (s : State) (i : Nat) (v : EviInput) : (s.setEviIn i v).time = s.time := rfl
@[simp] theorem setEviIn_ledger (s : State) (i : Nat) (v : EviInput) : (s.setEviIn i v).ledger = s.ledger := rfl
@[simp] theorem setEviIn_sources (s : State) (i : Nat) (v : EviInput) : (s.setEviIn i v).sources = s.sources := rfl
@[simp] theorem setEviIn_streams (s : State) (i : Nat) (v : EviInput) : (s.setEviIn i v).streams = s.streams := rfl
@[simp] theorem setEviIn_lanes (s : State) (i : Nat) (v : EviInput) : (s.setEviIn i v).lanes = s.lanes := rfl
@[simp] theorem setEviIn_freeze (s : State) (i : Nat) (v : EviInput) : (s.setEviIn i v).freeze = s.freeze := rfl
@[simp] theorem setEviIn_eth (s : State) (i : Nat) (v : EviInput) : (s.setEviIn i v).eth = s.eth := rfl
@[simp] theorem setEviIn_decRing (s : State) (i : Nat) (v : EviInput) : (s.setEviIn i v).decRing = s.decRing := rfl
@[simp] theorem setEviIn_decDrop (s : State) (i : Nat) (v : EviInput) : (s.setEviIn i v).decDrop = s.decDrop := rfl
@[simp] theorem setEviIn_mirror (s : State) (i : Nat) (v : EviInput) : (s.setEviIn i v).mirror = s.mirror := rfl
@[simp] theorem setEviIn_mirrorDrop (s : State) (i : Nat) (v : EviInput) : (s.setEviIn i v).mirrorDrop = s.mirrorDrop := rfl
@[simp] theorem setEviIn_panes (s : State) (i : Nat) (v : EviInput) : (s.setEviIn i v).panes = s.panes := rfl
@[simp] theorem setEviIn_groups (s : State) (i : Nat) (v : EviInput) : (s.setEviIn i v).groups = s.groups := rfl
@[simp] theorem setEviIn_bufs (s : State) (i : Nat) (v : EviInput) : (s.setEviIn i v).bufs = s.bufs := rfl
@[simp] theorem setEviIn_heads (s : State) (i : Nat) (v : EviInput) : (s.setEviIn i v).heads = s.heads := rfl
@[simp] theorem setEviIn_dp (s : State) (i : Nat) (v : EviInput) : (s.setEviIn i v).dp = s.dp := rfl
@[simp] theorem setEviIn_pins (s : State) (i : Nat) (v : EviInput) : (s.setEviIn i v).pins = s.pins := rfl
@[simp] theorem setEviIn_coef (s : State) (i : Nat) (v : EviInput) : (s.setEviIn i v).coef = s.coef := rfl
@[simp] theorem setEviIn_cu (s : State) (i : Nat) (v : EviInput) : (s.setEviIn i v).cu = s.cu := rfl
@[simp] theorem setEviIn_refs (s : State) (i : Nat) (v : EviInput) : (s.setEviIn i v).refs = s.refs := rfl
@[simp] theorem setEviIn_recheckN (s : State) (i : Nat) (v : EviInput) : (s.setEviIn i v).recheckN = s.recheckN := rfl
@[simp] theorem setEviIn_touch (s : State) (i : Nat) (v : EviInput) : (s.setEviIn i v).touch = s.touch := rfl
@[simp] theorem setEviIn_legends (s : State) (i : Nat) (v : EviInput) : (s.setEviIn i v).legends = s.legends := rfl
@[simp] theorem setEviIn_enc (s : State) (i : Nat) (v : EviInput) : (s.setEviIn i v).enc = s.enc := rfl
@[simp] theorem setEviIn_mem (s : State) (i : Nat) (v : EviInput) : (s.setEviIn i v).mem = s.mem := rfl
@[simp] theorem setEviIn_dram (s : State) (i : Nat) (v : EviInput) : (s.setEviIn i v).dram = s.dram := rfl
@[simp] theorem setEviIn_twin (s : State) (i : Nat) (v : EviInput) : (s.setEviIn i v).twin = s.twin := rfl
@[simp] theorem setEviIn_test (s : State) (i : Nat) (v : EviInput) : (s.setEviIn i v).test = s.test := rfl
@[simp] theorem setEviIn_life (s : State) (i : Nat) (v : EviInput) : (s.setEviIn i v).life = s.life := rfl
@[simp] theorem setEviIn_power (s : State) (i : Nat) (v : EviInput) : (s.setEviIn i v).power = s.power := rfl
@[simp] theorem eviIn_setEviIn (s : State) (i : Nat) (v : EviInput) : (s.setEviIn i v).eviIn i = v := tget_tset_same _ _ _ _
theorem eviIn_setEviIn_ne (s : State) (i : Nat) (v : EviInput) {k : Nat} (h : k ≠ i) : (s.setEviIn i v).eviIn k = s.eviIn k :=
  tget_tset_ne _ _ _ _ _ h
@[simp] theorem modEviIn_eq (s : State) (i : Nat) (g : EviInput → EviInput) : s.modEviIn i g = s.setEviIn i (g (s.eviIn i)) := rfl

@[simp] theorem setSession_pending (s : State) (i : Nat) (v : Session) : (s.setSession i v).pending = s.pending := rfl
@[simp] theorem setSession_free (s : State) (i : Nat) (v : Session) : (s.setSession i v).free = s.free := rfl
@[simp] theorem setSession_out (s : State) (i : Nat) (v : Session) : (s.setSession i v).out = s.out := rfl
@[simp] theorem setSession_seatB (s : State) (i : Nat) (v : Session) : (s.setSession i v).seatB = s.seatB := rfl
@[simp] theorem setSession_cfg (s : State) (i : Nat) (v : Session) : (s.setSession i v).cfg = s.cfg := rfl
@[simp] theorem setSession_cmd (s : State) (i : Nat) (v : Session) : (s.setSession i v).cmd = s.cmd := rfl
@[simp] theorem setSession_events (s : State) (i : Nat) (v : Session) : (s.setSession i v).events = s.events := rfl
@[simp] theorem setSession_time (s : State) (i : Nat) (v : Session) : (s.setSession i v).time = s.time := rfl
@[simp] theorem setSession_ledger (s : State) (i : Nat) (v : Session) : (s.setSession i v).ledger = s.ledger := rfl
@[simp] theorem setSession_sources (s : State) (i : Nat) (v : Session) : (s.setSession i v).sources = s.sources := rfl
@[simp] theorem setSession_streams (s : State) (i : Nat) (v : Session) : (s.setSession i v).streams = s.streams := rfl
@[simp] theorem setSession_lanes (s : State) (i : Nat) (v : Session) : (s.setSession i v).lanes = s.lanes := rfl
@[simp] theorem setSession_freeze (s : State) (i : Nat) (v : Session) : (s.setSession i v).freeze = s.freeze := rfl
@[simp] theorem setSession_eth (s : State) (i : Nat) (v : Session) : (s.setSession i v).eth = s.eth := rfl
@[simp] theorem setSession_decRing (s : State) (i : Nat) (v : Session) : (s.setSession i v).decRing = s.decRing := rfl
@[simp] theorem setSession_decDrop (s : State) (i : Nat) (v : Session) : (s.setSession i v).decDrop = s.decDrop := rfl
@[simp] theorem setSession_mirror (s : State) (i : Nat) (v : Session) : (s.setSession i v).mirror = s.mirror := rfl
@[simp] theorem setSession_mirrorDrop (s : State) (i : Nat) (v : Session) : (s.setSession i v).mirrorDrop = s.mirrorDrop := rfl
@[simp] theorem setSession_panes (s : State) (i : Nat) (v : Session) : (s.setSession i v).panes = s.panes := rfl
@[simp] theorem setSession_groups (s : State) (i : Nat) (v : Session) : (s.setSession i v).groups = s.groups := rfl
@[simp] theorem setSession_bufs (s : State) (i : Nat) (v : Session) : (s.setSession i v).bufs = s.bufs := rfl
@[simp] theorem setSession_heads (s : State) (i : Nat) (v : Session) : (s.setSession i v).heads = s.heads := rfl
@[simp] theorem setSession_dp (s : State) (i : Nat) (v : Session) : (s.setSession i v).dp = s.dp := rfl
@[simp] theorem setSession_pins (s : State) (i : Nat) (v : Session) : (s.setSession i v).pins = s.pins := rfl
@[simp] theorem setSession_coef (s : State) (i : Nat) (v : Session) : (s.setSession i v).coef = s.coef := rfl
@[simp] theorem setSession_cu (s : State) (i : Nat) (v : Session) : (s.setSession i v).cu = s.cu := rfl
@[simp] theorem setSession_refs (s : State) (i : Nat) (v : Session) : (s.setSession i v).refs = s.refs := rfl
@[simp] theorem setSession_recheckN (s : State) (i : Nat) (v : Session) : (s.setSession i v).recheckN = s.recheckN := rfl
@[simp] theorem setSession_touch (s : State) (i : Nat) (v : Session) : (s.setSession i v).touch = s.touch := rfl
@[simp] theorem setSession_legends (s : State) (i : Nat) (v : Session) : (s.setSession i v).legends = s.legends := rfl
@[simp] theorem setSession_evi (s : State) (i : Nat) (v : Session) : (s.setSession i v).evi = s.evi := rfl
@[simp] theorem setSession_mem (s : State) (i : Nat) (v : Session) : (s.setSession i v).mem = s.mem := rfl
@[simp] theorem setSession_dram (s : State) (i : Nat) (v : Session) : (s.setSession i v).dram = s.dram := rfl
@[simp] theorem setSession_twin (s : State) (i : Nat) (v : Session) : (s.setSession i v).twin = s.twin := rfl
@[simp] theorem setSession_test (s : State) (i : Nat) (v : Session) : (s.setSession i v).test = s.test := rfl
@[simp] theorem setSession_life (s : State) (i : Nat) (v : Session) : (s.setSession i v).life = s.life := rfl
@[simp] theorem setSession_power (s : State) (i : Nat) (v : Session) : (s.setSession i v).power = s.power := rfl
@[simp] theorem session_setSession (s : State) (i : Nat) (v : Session) : (s.setSession i v).session i = v := tget_tset_same _ _ _ _
theorem session_setSession_ne (s : State) (i : Nat) (v : Session) {k : Nat} (h : k ≠ i) : (s.setSession i v).session k = s.session k :=
  tget_tset_ne _ _ _ _ _ h
@[simp] theorem modSession_eq (s : State) (i : Nat) (g : Session → Session) : s.modSession i g = s.setSession i (g (s.session i)) := rfl

/-! ## Queue pairs -/

@[simp] theorem setQueue_pending (s : State) (q : Nat) (v : QueuePair) : (s.setQueue q v).pending = s.pending := rfl
@[simp] theorem setQueue_free (s : State) (q : Nat) (v : QueuePair) : (s.setQueue q v).free = s.free := rfl
@[simp] theorem setQueue_out (s : State) (q : Nat) (v : QueuePair) : (s.setQueue q v).out = s.out := rfl
@[simp] theorem setQueue_seatB (s : State) (q : Nat) (v : QueuePair) : (s.setQueue q v).seatB = s.seatB := rfl
@[simp] theorem setQueue_cfg (s : State) (q : Nat) (v : QueuePair) : (s.setQueue q v).cfg = s.cfg := rfl
@[simp] theorem setQueue_events (s : State) (q : Nat) (v : QueuePair) : (s.setQueue q v).events = s.events := rfl
@[simp] theorem setQueue_time (s : State) (q : Nat) (v : QueuePair) : (s.setQueue q v).time = s.time := rfl
@[simp] theorem setQueue_ledger (s : State) (q : Nat) (v : QueuePair) : (s.setQueue q v).ledger = s.ledger := rfl
@[simp] theorem setQueue_sources (s : State) (q : Nat) (v : QueuePair) : (s.setQueue q v).sources = s.sources := rfl
@[simp] theorem setQueue_streams (s : State) (q : Nat) (v : QueuePair) : (s.setQueue q v).streams = s.streams := rfl
@[simp] theorem setQueue_lanes (s : State) (q : Nat) (v : QueuePair) : (s.setQueue q v).lanes = s.lanes := rfl
@[simp] theorem setQueue_freeze (s : State) (q : Nat) (v : QueuePair) : (s.setQueue q v).freeze = s.freeze := rfl
@[simp] theorem setQueue_eth (s : State) (q : Nat) (v : QueuePair) : (s.setQueue q v).eth = s.eth := rfl
@[simp] theorem setQueue_decRing (s : State) (q : Nat) (v : QueuePair) : (s.setQueue q v).decRing = s.decRing := rfl
@[simp] theorem setQueue_decDrop (s : State) (q : Nat) (v : QueuePair) : (s.setQueue q v).decDrop = s.decDrop := rfl
@[simp] theorem setQueue_mirror (s : State) (q : Nat) (v : QueuePair) : (s.setQueue q v).mirror = s.mirror := rfl
@[simp] theorem setQueue_mirrorDrop (s : State) (q : Nat) (v : QueuePair) : (s.setQueue q v).mirrorDrop = s.mirrorDrop := rfl
@[simp] theorem setQueue_panes (s : State) (q : Nat) (v : QueuePair) : (s.setQueue q v).panes = s.panes := rfl
@[simp] theorem setQueue_groups (s : State) (q : Nat) (v : QueuePair) : (s.setQueue q v).groups = s.groups := rfl
@[simp] theorem setQueue_bufs (s : State) (q : Nat) (v : QueuePair) : (s.setQueue q v).bufs = s.bufs := rfl
@[simp] theorem setQueue_heads (s : State) (q : Nat) (v : QueuePair) : (s.setQueue q v).heads = s.heads := rfl
@[simp] theorem setQueue_dp (s : State) (q : Nat) (v : QueuePair) : (s.setQueue q v).dp = s.dp := rfl
@[simp] theorem setQueue_pins (s : State) (q : Nat) (v : QueuePair) : (s.setQueue q v).pins = s.pins := rfl
@[simp] theorem setQueue_coef (s : State) (q : Nat) (v : QueuePair) : (s.setQueue q v).coef = s.coef := rfl
@[simp] theorem setQueue_cu (s : State) (q : Nat) (v : QueuePair) : (s.setQueue q v).cu = s.cu := rfl
@[simp] theorem setQueue_refs (s : State) (q : Nat) (v : QueuePair) : (s.setQueue q v).refs = s.refs := rfl
@[simp] theorem setQueue_recheckN (s : State) (q : Nat) (v : QueuePair) : (s.setQueue q v).recheckN = s.recheckN := rfl
@[simp] theorem setQueue_touch (s : State) (q : Nat) (v : QueuePair) : (s.setQueue q v).touch = s.touch := rfl
@[simp] theorem setQueue_legends (s : State) (q : Nat) (v : QueuePair) : (s.setQueue q v).legends = s.legends := rfl
@[simp] theorem setQueue_evi (s : State) (q : Nat) (v : QueuePair) : (s.setQueue q v).evi = s.evi := rfl
@[simp] theorem setQueue_enc (s : State) (q : Nat) (v : QueuePair) : (s.setQueue q v).enc = s.enc := rfl
@[simp] theorem setQueue_mem (s : State) (q : Nat) (v : QueuePair) : (s.setQueue q v).mem = s.mem := rfl
@[simp] theorem setQueue_dram (s : State) (q : Nat) (v : QueuePair) : (s.setQueue q v).dram = s.dram := rfl
@[simp] theorem setQueue_twin (s : State) (q : Nat) (v : QueuePair) : (s.setQueue q v).twin = s.twin := rfl
@[simp] theorem setQueue_test (s : State) (q : Nat) (v : QueuePair) : (s.setQueue q v).test = s.test := rfl
@[simp] theorem setQueue_life (s : State) (q : Nat) (v : QueuePair) : (s.setQueue q v).life = s.life := rfl
@[simp] theorem setQueue_power (s : State) (q : Nat) (v : QueuePair) : (s.setQueue q v).power = s.power := rfl
@[simp] theorem queue_setQueue (s : State) (q : Nat) (v : QueuePair) : (s.setQueue q v).queue q = v := tget_tset_same _ _ _ _
theorem queue_setQueue_ne (s : State) (q : Nat) (v : QueuePair) {k : Nat} (h : k ≠ q) : (s.setQueue q v).queue k = s.queue k :=
  tget_tset_ne _ _ _ _ _ h

/-! ## The clock reading, outputs and interrupt causes -/

@[simp] theorem atTime_pending (t : Time64) (s : State) : (atTime t s).pending = s.pending := rfl
@[simp] theorem atTime_free (t : Time64) (s : State) : (atTime t s).free = s.free := rfl
@[simp] theorem atTime_out (t : Time64) (s : State) : (atTime t s).out = s.out := rfl
@[simp] theorem atTime_seatB (t : Time64) (s : State) : (atTime t s).seatB = s.seatB := rfl
@[simp] theorem atTime_cfg (t : Time64) (s : State) : (atTime t s).cfg = s.cfg := rfl
@[simp] theorem atTime_cmd (t : Time64) (s : State) : (atTime t s).cmd = s.cmd := rfl
@[simp] theorem atTime_events (t : Time64) (s : State) : (atTime t s).events = s.events := rfl
@[simp] theorem atTime_ledger (t : Time64) (s : State) : (atTime t s).ledger = s.ledger := rfl
@[simp] theorem atTime_sources (t : Time64) (s : State) : (atTime t s).sources = s.sources := rfl
@[simp] theorem atTime_streams (t : Time64) (s : State) : (atTime t s).streams = s.streams := rfl
@[simp] theorem atTime_lanes (t : Time64) (s : State) : (atTime t s).lanes = s.lanes := rfl
@[simp] theorem atTime_freeze (t : Time64) (s : State) : (atTime t s).freeze = s.freeze := rfl
@[simp] theorem atTime_eth (t : Time64) (s : State) : (atTime t s).eth = s.eth := rfl
@[simp] theorem atTime_decRing (t : Time64) (s : State) : (atTime t s).decRing = s.decRing := rfl
@[simp] theorem atTime_decDrop (t : Time64) (s : State) : (atTime t s).decDrop = s.decDrop := rfl
@[simp] theorem atTime_mirror (t : Time64) (s : State) : (atTime t s).mirror = s.mirror := rfl
@[simp] theorem atTime_mirrorDrop (t : Time64) (s : State) : (atTime t s).mirrorDrop = s.mirrorDrop := rfl
@[simp] theorem atTime_panes (t : Time64) (s : State) : (atTime t s).panes = s.panes := rfl
@[simp] theorem atTime_groups (t : Time64) (s : State) : (atTime t s).groups = s.groups := rfl
@[simp] theorem atTime_bufs (t : Time64) (s : State) : (atTime t s).bufs = s.bufs := rfl
@[simp] theorem atTime_heads (t : Time64) (s : State) : (atTime t s).heads = s.heads := rfl
@[simp] theorem atTime_dp (t : Time64) (s : State) : (atTime t s).dp = s.dp := rfl
@[simp] theorem atTime_pins (t : Time64) (s : State) : (atTime t s).pins = s.pins := rfl
@[simp] theorem atTime_coef (t : Time64) (s : State) : (atTime t s).coef = s.coef := rfl
@[simp] theorem atTime_cu (t : Time64) (s : State) : (atTime t s).cu = s.cu := rfl
@[simp] theorem atTime_refs (t : Time64) (s : State) : (atTime t s).refs = s.refs := rfl
@[simp] theorem atTime_recheckN (t : Time64) (s : State) : (atTime t s).recheckN = s.recheckN := rfl
@[simp] theorem atTime_touch (t : Time64) (s : State) : (atTime t s).touch = s.touch := rfl
@[simp] theorem atTime_legends (t : Time64) (s : State) : (atTime t s).legends = s.legends := rfl
@[simp] theorem atTime_evi (t : Time64) (s : State) : (atTime t s).evi = s.evi := rfl
@[simp] theorem atTime_enc (t : Time64) (s : State) : (atTime t s).enc = s.enc := rfl
@[simp] theorem atTime_mem (t : Time64) (s : State) : (atTime t s).mem = s.mem := rfl
@[simp] theorem atTime_dram (t : Time64) (s : State) : (atTime t s).dram = s.dram := rfl
@[simp] theorem atTime_twin (t : Time64) (s : State) : (atTime t s).twin = s.twin := rfl
@[simp] theorem atTime_test (t : Time64) (s : State) : (atTime t s).test = s.test := rfl
@[simp] theorem atTime_life (t : Time64) (s : State) : (atTime t s).life = s.life := rfl
@[simp] theorem atTime_power (t : Time64) (s : State) : (atTime t s).power = s.power := rfl
@[simp] theorem atTime_now (t : Time64) (s : State) : (atTime t s).time.now = t := rfl
@[simp] theorem emit_pending (o : Out) (s : State) : (emit o s).pending = s.pending := rfl
@[simp] theorem emit_free (o : Out) (s : State) : (emit o s).free = s.free := rfl
@[simp] theorem emit_seatB (o : Out) (s : State) : (emit o s).seatB = s.seatB := rfl
@[simp] theorem emit_cfg (o : Out) (s : State) : (emit o s).cfg = s.cfg := rfl
@[simp] theorem emit_cmd (o : Out) (s : State) : (emit o s).cmd = s.cmd := rfl
@[simp] theorem emit_events (o : Out) (s : State) : (emit o s).events = s.events := rfl
@[simp] theorem emit_time (o : Out) (s : State) : (emit o s).time = s.time := rfl
@[simp] theorem emit_ledger (o : Out) (s : State) : (emit o s).ledger = s.ledger := rfl
@[simp] theorem emit_sources (o : Out) (s : State) : (emit o s).sources = s.sources := rfl
@[simp] theorem emit_streams (o : Out) (s : State) : (emit o s).streams = s.streams := rfl
@[simp] theorem emit_lanes (o : Out) (s : State) : (emit o s).lanes = s.lanes := rfl
@[simp] theorem emit_freeze (o : Out) (s : State) : (emit o s).freeze = s.freeze := rfl
@[simp] theorem emit_eth (o : Out) (s : State) : (emit o s).eth = s.eth := rfl
@[simp] theorem emit_decRing (o : Out) (s : State) : (emit o s).decRing = s.decRing := rfl
@[simp] theorem emit_decDrop (o : Out) (s : State) : (emit o s).decDrop = s.decDrop := rfl
@[simp] theorem emit_mirror (o : Out) (s : State) : (emit o s).mirror = s.mirror := rfl
@[simp] theorem emit_mirrorDrop (o : Out) (s : State) : (emit o s).mirrorDrop = s.mirrorDrop := rfl
@[simp] theorem emit_panes (o : Out) (s : State) : (emit o s).panes = s.panes := rfl
@[simp] theorem emit_groups (o : Out) (s : State) : (emit o s).groups = s.groups := rfl
@[simp] theorem emit_bufs (o : Out) (s : State) : (emit o s).bufs = s.bufs := rfl
@[simp] theorem emit_heads (o : Out) (s : State) : (emit o s).heads = s.heads := rfl
@[simp] theorem emit_dp (o : Out) (s : State) : (emit o s).dp = s.dp := rfl
@[simp] theorem emit_pins (o : Out) (s : State) : (emit o s).pins = s.pins := rfl
@[simp] theorem emit_coef (o : Out) (s : State) : (emit o s).coef = s.coef := rfl
@[simp] theorem emit_cu (o : Out) (s : State) : (emit o s).cu = s.cu := rfl
@[simp] theorem emit_refs (o : Out) (s : State) : (emit o s).refs = s.refs := rfl
@[simp] theorem emit_recheckN (o : Out) (s : State) : (emit o s).recheckN = s.recheckN := rfl
@[simp] theorem emit_touch (o : Out) (s : State) : (emit o s).touch = s.touch := rfl
@[simp] theorem emit_legends (o : Out) (s : State) : (emit o s).legends = s.legends := rfl
@[simp] theorem emit_evi (o : Out) (s : State) : (emit o s).evi = s.evi := rfl
@[simp] theorem emit_enc (o : Out) (s : State) : (emit o s).enc = s.enc := rfl
@[simp] theorem emit_mem (o : Out) (s : State) : (emit o s).mem = s.mem := rfl
@[simp] theorem emit_dram (o : Out) (s : State) : (emit o s).dram = s.dram := rfl
@[simp] theorem emit_twin (o : Out) (s : State) : (emit o s).twin = s.twin := rfl
@[simp] theorem emit_test (o : Out) (s : State) : (emit o s).test = s.test := rfl
@[simp] theorem emit_life (o : Out) (s : State) : (emit o s).life = s.life := rfl
@[simp] theorem emit_power (o : Out) (s : State) : (emit o s).power = s.power := rfl
@[simp] theorem emit_out (o : Out) (s : State) : (emit o s).out = s.out ++ [o] := rfl
/-- All that a sent frame can change: the output log and the twin unit. -/
theorem sendFrame_form (n : Nat) (r : Option Nat) (b : FlumeBody) (s : State) :
    ∃ o t, sendFrame n r b s = { s with out := o, twin := t } := by
  cases r <;> (simp only [sendFrame, Option.isSome, Bool.false_eq_true, if_false, if_true]; split) <;> exact ⟨_, _, rfl⟩
@[simp] theorem sendFrame_pending (n : Nat) (r : Option Nat) (b : FlumeBody) (s : State) : (sendFrame n r b s).pending = s.pending := by
  obtain ⟨_, _, h⟩ := sendFrame_form n r b s; rw [h]
@[simp] theorem sendFrame_free (n : Nat) (r : Option Nat) (b : FlumeBody) (s : State) : (sendFrame n r b s).free = s.free := by
  obtain ⟨_, _, h⟩ := sendFrame_form n r b s; rw [h]
@[simp] theorem sendFrame_seatB (n : Nat) (r : Option Nat) (b : FlumeBody) (s : State) : (sendFrame n r b s).seatB = s.seatB := by
  obtain ⟨_, _, h⟩ := sendFrame_form n r b s; rw [h]
@[simp] theorem sendFrame_cfg (n : Nat) (r : Option Nat) (b : FlumeBody) (s : State) : (sendFrame n r b s).cfg = s.cfg := by
  obtain ⟨_, _, h⟩ := sendFrame_form n r b s; rw [h]
@[simp] theorem sendFrame_cmd (n : Nat) (r : Option Nat) (b : FlumeBody) (s : State) : (sendFrame n r b s).cmd = s.cmd := by
  obtain ⟨_, _, h⟩ := sendFrame_form n r b s; rw [h]
@[simp] theorem sendFrame_events (n : Nat) (r : Option Nat) (b : FlumeBody) (s : State) : (sendFrame n r b s).events = s.events := by
  obtain ⟨_, _, h⟩ := sendFrame_form n r b s; rw [h]
@[simp] theorem sendFrame_time (n : Nat) (r : Option Nat) (b : FlumeBody) (s : State) : (sendFrame n r b s).time = s.time := by
  obtain ⟨_, _, h⟩ := sendFrame_form n r b s; rw [h]
@[simp] theorem sendFrame_ledger (n : Nat) (r : Option Nat) (b : FlumeBody) (s : State) : (sendFrame n r b s).ledger = s.ledger := by
  obtain ⟨_, _, h⟩ := sendFrame_form n r b s; rw [h]
@[simp] theorem sendFrame_sources (n : Nat) (r : Option Nat) (b : FlumeBody) (s : State) : (sendFrame n r b s).sources = s.sources := by
  obtain ⟨_, _, h⟩ := sendFrame_form n r b s; rw [h]
@[simp] theorem sendFrame_streams (n : Nat) (r : Option Nat) (b : FlumeBody) (s : State) : (sendFrame n r b s).streams = s.streams := by
  obtain ⟨_, _, h⟩ := sendFrame_form n r b s; rw [h]
@[simp] theorem sendFrame_lanes (n : Nat) (r : Option Nat) (b : FlumeBody) (s : State) : (sendFrame n r b s).lanes = s.lanes := by
  obtain ⟨_, _, h⟩ := sendFrame_form n r b s; rw [h]
@[simp] theorem sendFrame_freeze (n : Nat) (r : Option Nat) (b : FlumeBody) (s : State) : (sendFrame n r b s).freeze = s.freeze := by
  obtain ⟨_, _, h⟩ := sendFrame_form n r b s; rw [h]
@[simp] theorem sendFrame_eth (n : Nat) (r : Option Nat) (b : FlumeBody) (s : State) : (sendFrame n r b s).eth = s.eth := by
  obtain ⟨_, _, h⟩ := sendFrame_form n r b s; rw [h]
@[simp] theorem sendFrame_decRing (n : Nat) (r : Option Nat) (b : FlumeBody) (s : State) : (sendFrame n r b s).decRing = s.decRing := by
  obtain ⟨_, _, h⟩ := sendFrame_form n r b s; rw [h]
@[simp] theorem sendFrame_decDrop (n : Nat) (r : Option Nat) (b : FlumeBody) (s : State) : (sendFrame n r b s).decDrop = s.decDrop := by
  obtain ⟨_, _, h⟩ := sendFrame_form n r b s; rw [h]
@[simp] theorem sendFrame_mirror (n : Nat) (r : Option Nat) (b : FlumeBody) (s : State) : (sendFrame n r b s).mirror = s.mirror := by
  obtain ⟨_, _, h⟩ := sendFrame_form n r b s; rw [h]
@[simp] theorem sendFrame_mirrorDrop (n : Nat) (r : Option Nat) (b : FlumeBody) (s : State) : (sendFrame n r b s).mirrorDrop = s.mirrorDrop := by
  obtain ⟨_, _, h⟩ := sendFrame_form n r b s; rw [h]
@[simp] theorem sendFrame_panes (n : Nat) (r : Option Nat) (b : FlumeBody) (s : State) : (sendFrame n r b s).panes = s.panes := by
  obtain ⟨_, _, h⟩ := sendFrame_form n r b s; rw [h]
@[simp] theorem sendFrame_groups (n : Nat) (r : Option Nat) (b : FlumeBody) (s : State) : (sendFrame n r b s).groups = s.groups := by
  obtain ⟨_, _, h⟩ := sendFrame_form n r b s; rw [h]
@[simp] theorem sendFrame_bufs (n : Nat) (r : Option Nat) (b : FlumeBody) (s : State) : (sendFrame n r b s).bufs = s.bufs := by
  obtain ⟨_, _, h⟩ := sendFrame_form n r b s; rw [h]
@[simp] theorem sendFrame_heads (n : Nat) (r : Option Nat) (b : FlumeBody) (s : State) : (sendFrame n r b s).heads = s.heads := by
  obtain ⟨_, _, h⟩ := sendFrame_form n r b s; rw [h]
@[simp] theorem sendFrame_dp (n : Nat) (r : Option Nat) (b : FlumeBody) (s : State) : (sendFrame n r b s).dp = s.dp := by
  obtain ⟨_, _, h⟩ := sendFrame_form n r b s; rw [h]
@[simp] theorem sendFrame_pins (n : Nat) (r : Option Nat) (b : FlumeBody) (s : State) : (sendFrame n r b s).pins = s.pins := by
  obtain ⟨_, _, h⟩ := sendFrame_form n r b s; rw [h]
@[simp] theorem sendFrame_coef (n : Nat) (r : Option Nat) (b : FlumeBody) (s : State) : (sendFrame n r b s).coef = s.coef := by
  obtain ⟨_, _, h⟩ := sendFrame_form n r b s; rw [h]
@[simp] theorem sendFrame_cu (n : Nat) (r : Option Nat) (b : FlumeBody) (s : State) : (sendFrame n r b s).cu = s.cu := by
  obtain ⟨_, _, h⟩ := sendFrame_form n r b s; rw [h]
@[simp] theorem sendFrame_refs (n : Nat) (r : Option Nat) (b : FlumeBody) (s : State) : (sendFrame n r b s).refs = s.refs := by
  obtain ⟨_, _, h⟩ := sendFrame_form n r b s; rw [h]
@[simp] theorem sendFrame_recheckN (n : Nat) (r : Option Nat) (b : FlumeBody) (s : State) : (sendFrame n r b s).recheckN = s.recheckN := by
  obtain ⟨_, _, h⟩ := sendFrame_form n r b s; rw [h]
@[simp] theorem sendFrame_touch (n : Nat) (r : Option Nat) (b : FlumeBody) (s : State) : (sendFrame n r b s).touch = s.touch := by
  obtain ⟨_, _, h⟩ := sendFrame_form n r b s; rw [h]
@[simp] theorem sendFrame_legends (n : Nat) (r : Option Nat) (b : FlumeBody) (s : State) : (sendFrame n r b s).legends = s.legends := by
  obtain ⟨_, _, h⟩ := sendFrame_form n r b s; rw [h]
@[simp] theorem sendFrame_evi (n : Nat) (r : Option Nat) (b : FlumeBody) (s : State) : (sendFrame n r b s).evi = s.evi := by
  obtain ⟨_, _, h⟩ := sendFrame_form n r b s; rw [h]
@[simp] theorem sendFrame_enc (n : Nat) (r : Option Nat) (b : FlumeBody) (s : State) : (sendFrame n r b s).enc = s.enc := by
  obtain ⟨_, _, h⟩ := sendFrame_form n r b s; rw [h]
@[simp] theorem sendFrame_mem (n : Nat) (r : Option Nat) (b : FlumeBody) (s : State) : (sendFrame n r b s).mem = s.mem := by
  obtain ⟨_, _, h⟩ := sendFrame_form n r b s; rw [h]
@[simp] theorem sendFrame_dram (n : Nat) (r : Option Nat) (b : FlumeBody) (s : State) : (sendFrame n r b s).dram = s.dram := by
  obtain ⟨_, _, h⟩ := sendFrame_form n r b s; rw [h]
@[simp] theorem sendFrame_test (n : Nat) (r : Option Nat) (b : FlumeBody) (s : State) : (sendFrame n r b s).test = s.test := by
  obtain ⟨_, _, h⟩ := sendFrame_form n r b s; rw [h]
@[simp] theorem sendFrame_life (n : Nat) (r : Option Nat) (b : FlumeBody) (s : State) : (sendFrame n r b s).life = s.life := by
  obtain ⟨_, _, h⟩ := sendFrame_form n r b s; rw [h]
@[simp] theorem sendFrame_power (n : Nat) (r : Option Nat) (b : FlumeBody) (s : State) : (sendFrame n r b s).power = s.power := by
  obtain ⟨_, _, h⟩ := sendFrame_form n r b s; rw [h]
/-- An MSI-X message changes the output log and when its ring last signalled only. -/
theorem sendMsix_form (n v : Nat) (s : State) :
    ∃ m l, sendMsix n v s = { s with cmd := { s.cmd with msixT := m }, out := s.out ++ l } := by
  unfold sendMsix; dsimp only; split
  · exact ⟨s.cmd.msixT, [], by simp⟩
  · exact ⟨_, _, rfl⟩
/-- Of the twin unit a sent frame changes at most its number and the counters. -/
theorem sendFrame_twin (n : Nat) (r : Option Nat) (b : FlumeBody) (s : State) :
    ∃ f c, (sendFrame n r b s).twin = { s.twin with fseqs := f, cnt := c } := by
  cases r <;> (simp only [sendFrame, Option.isSome, Bool.false_eq_true, if_false, if_true]; split) <;> exact ⟨_, _, rfl⟩
@[simp] theorem sendFrame_mode (n : Nat) (r : Option Nat) (b : FlumeBody) (s : State) : (sendFrame n r b s).twin.mode = s.twin.mode := by
  obtain ⟨_, _, h⟩ := sendFrame_twin n r b s; rw [h]
@[simp] theorem sendFrame_ownEvents (n : Nat) (r : Option Nat) (b : FlumeBody) (s : State) : (sendFrame n r b s).twin.ownEvents = s.twin.ownEvents := by
  obtain ⟨_, _, h⟩ := sendFrame_twin n r b s; rw [h]
@[simp] theorem sendFrame_peerEvents (n : Nat) (r : Option Nat) (b : FlumeBody) (s : State) : (sendFrame n r b s).twin.peerEvents = s.twin.peerEvents := by
  obtain ⟨_, _, h⟩ := sendFrame_twin n r b s; rw [h]
@[simp] theorem sendFrame_linkOn (n : Nat) (r : Option Nat) (b : FlumeBody) (s : State) : (sendFrame n r b s).twin.linkOn = s.twin.linkOn := by
  obtain ⟨_, _, h⟩ := sendFrame_twin n r b s; rw [h]
@[simp] theorem sendFrame_hbLast (n : Nat) (r : Option Nat) (b : FlumeBody) (s : State) : (sendFrame n r b s).twin.hbLast = s.twin.hbLast := by
  obtain ⟨_, _, h⟩ := sendFrame_twin n r b s; rw [h]
@[simp] theorem sendFrame_xchgTick (n : Nat) (r : Option Nat) (b : FlumeBody) (s : State) : (sendFrame n r b s).twin.xchgTick = s.twin.xchgTick := by
  obtain ⟨_, _, h⟩ := sendFrame_twin n r b s; rw [h]
/-- What a frame that goes out adds to the output log: itself where a lane carries it, nothing where none does. -/
theorem sendFrame_out (n : Nat) (b : FlumeBody) (s : State) :
    (sendFrame n none b s).out = s.out ++ (if s.twin.linkOn && s.twin.lanes != [] then
      [.flume ⟨flumeType b, s.seatB, false, frameLen (bodyBytes b), s.nextFseq (flumeType b), n⟩ b
        (frameOut ⟨flumeType b, s.seatB, false, frameLen (bodyBytes b), s.nextFseq (flumeType b), n⟩ (bodyBytes b))] else []) := by
  simp only [sendFrame, Option.isSome, Option.getD, Bool.false_eq_true, if_false]; split <;> simp [emit]
@[simp] theorem sendFlume_pending (b : FlumeBody) (s : State) : (sendFlume b s).pending = s.pending := sendFrame_pending ..
@[simp] theorem sendFlume_free (b : FlumeBody) (s : State) : (sendFlume b s).free = s.free := sendFrame_free ..
@[simp] theorem sendFlume_seatB (b : FlumeBody) (s : State) : (sendFlume b s).seatB = s.seatB := sendFrame_seatB ..
@[simp] theorem sendFlume_cfg (b : FlumeBody) (s : State) : (sendFlume b s).cfg = s.cfg := sendFrame_cfg ..
@[simp] theorem sendFlume_cmd (b : FlumeBody) (s : State) : (sendFlume b s).cmd = s.cmd := sendFrame_cmd ..
@[simp] theorem sendFlume_events (b : FlumeBody) (s : State) : (sendFlume b s).events = s.events := sendFrame_events ..
@[simp] theorem sendFlume_time (b : FlumeBody) (s : State) : (sendFlume b s).time = s.time := sendFrame_time ..
@[simp] theorem sendFlume_ledger (b : FlumeBody) (s : State) : (sendFlume b s).ledger = s.ledger := sendFrame_ledger ..
@[simp] theorem sendFlume_sources (b : FlumeBody) (s : State) : (sendFlume b s).sources = s.sources := sendFrame_sources ..
@[simp] theorem sendFlume_streams (b : FlumeBody) (s : State) : (sendFlume b s).streams = s.streams := sendFrame_streams ..
@[simp] theorem sendFlume_lanes (b : FlumeBody) (s : State) : (sendFlume b s).lanes = s.lanes := sendFrame_lanes ..
@[simp] theorem sendFlume_freeze (b : FlumeBody) (s : State) : (sendFlume b s).freeze = s.freeze := sendFrame_freeze ..
@[simp] theorem sendFlume_eth (b : FlumeBody) (s : State) : (sendFlume b s).eth = s.eth := sendFrame_eth ..
@[simp] theorem sendFlume_decRing (b : FlumeBody) (s : State) : (sendFlume b s).decRing = s.decRing := sendFrame_decRing ..
@[simp] theorem sendFlume_decDrop (b : FlumeBody) (s : State) : (sendFlume b s).decDrop = s.decDrop := sendFrame_decDrop ..
@[simp] theorem sendFlume_mirror (b : FlumeBody) (s : State) : (sendFlume b s).mirror = s.mirror := sendFrame_mirror ..
@[simp] theorem sendFlume_mirrorDrop (b : FlumeBody) (s : State) : (sendFlume b s).mirrorDrop = s.mirrorDrop := sendFrame_mirrorDrop ..
@[simp] theorem sendFlume_panes (b : FlumeBody) (s : State) : (sendFlume b s).panes = s.panes := sendFrame_panes ..
@[simp] theorem sendFlume_groups (b : FlumeBody) (s : State) : (sendFlume b s).groups = s.groups := sendFrame_groups ..
@[simp] theorem sendFlume_bufs (b : FlumeBody) (s : State) : (sendFlume b s).bufs = s.bufs := sendFrame_bufs ..
@[simp] theorem sendFlume_heads (b : FlumeBody) (s : State) : (sendFlume b s).heads = s.heads := sendFrame_heads ..
@[simp] theorem sendFlume_dp (b : FlumeBody) (s : State) : (sendFlume b s).dp = s.dp := sendFrame_dp ..
@[simp] theorem sendFlume_pins (b : FlumeBody) (s : State) : (sendFlume b s).pins = s.pins := sendFrame_pins ..
@[simp] theorem sendFlume_coef (b : FlumeBody) (s : State) : (sendFlume b s).coef = s.coef := sendFrame_coef ..
@[simp] theorem sendFlume_cu (b : FlumeBody) (s : State) : (sendFlume b s).cu = s.cu := sendFrame_cu ..
@[simp] theorem sendFlume_refs (b : FlumeBody) (s : State) : (sendFlume b s).refs = s.refs := sendFrame_refs ..
@[simp] theorem sendFlume_recheckN (b : FlumeBody) (s : State) : (sendFlume b s).recheckN = s.recheckN := sendFrame_recheckN ..
@[simp] theorem sendFlume_touch (b : FlumeBody) (s : State) : (sendFlume b s).touch = s.touch := sendFrame_touch ..
@[simp] theorem sendFlume_legends (b : FlumeBody) (s : State) : (sendFlume b s).legends = s.legends := sendFrame_legends ..
@[simp] theorem sendFlume_evi (b : FlumeBody) (s : State) : (sendFlume b s).evi = s.evi := sendFrame_evi ..
@[simp] theorem sendFlume_enc (b : FlumeBody) (s : State) : (sendFlume b s).enc = s.enc := sendFrame_enc ..
@[simp] theorem sendFlume_mem (b : FlumeBody) (s : State) : (sendFlume b s).mem = s.mem := sendFrame_mem ..
@[simp] theorem sendFlume_dram (b : FlumeBody) (s : State) : (sendFlume b s).dram = s.dram := sendFrame_dram ..
@[simp] theorem sendFlume_test (b : FlumeBody) (s : State) : (sendFlume b s).test = s.test := sendFrame_test ..
@[simp] theorem sendFlume_life (b : FlumeBody) (s : State) : (sendFlume b s).life = s.life := sendFrame_life ..
@[simp] theorem sendFlume_power (b : FlumeBody) (s : State) : (sendFlume b s).power = s.power := sendFrame_power ..
@[simp] theorem setIrq_pending (i : Nat) (s : State) : (setIrq i s).pending = s.pending := rfl
@[simp] theorem setIrq_free (i : Nat) (s : State) : (setIrq i s).free = s.free := rfl
@[simp] theorem setIrq_out (i : Nat) (s : State) : (setIrq i s).out = s.out := rfl
@[simp] theorem setIrq_seatB (i : Nat) (s : State) : (setIrq i s).seatB = s.seatB := rfl
@[simp] theorem setIrq_cfg (i : Nat) (s : State) : (setIrq i s).cfg = s.cfg := rfl
@[simp] theorem setIrq_events (i : Nat) (s : State) : (setIrq i s).events = s.events := rfl
@[simp] theorem setIrq_time (i : Nat) (s : State) : (setIrq i s).time = s.time := rfl
@[simp] theorem setIrq_ledger (i : Nat) (s : State) : (setIrq i s).ledger = s.ledger := rfl
@[simp] theorem setIrq_sources (i : Nat) (s : State) : (setIrq i s).sources = s.sources := rfl
@[simp] theorem setIrq_streams (i : Nat) (s : State) : (setIrq i s).streams = s.streams := rfl
@[simp] theorem setIrq_lanes (i : Nat) (s : State) : (setIrq i s).lanes = s.lanes := rfl
@[simp] theorem setIrq_freeze (i : Nat) (s : State) : (setIrq i s).freeze = s.freeze := rfl
@[simp] theorem setIrq_eth (i : Nat) (s : State) : (setIrq i s).eth = s.eth := rfl
@[simp] theorem setIrq_decRing (i : Nat) (s : State) : (setIrq i s).decRing = s.decRing := rfl
@[simp] theorem setIrq_decDrop (i : Nat) (s : State) : (setIrq i s).decDrop = s.decDrop := rfl
@[simp] theorem setIrq_mirror (i : Nat) (s : State) : (setIrq i s).mirror = s.mirror := rfl
@[simp] theorem setIrq_mirrorDrop (i : Nat) (s : State) : (setIrq i s).mirrorDrop = s.mirrorDrop := rfl
@[simp] theorem setIrq_panes (i : Nat) (s : State) : (setIrq i s).panes = s.panes := rfl
@[simp] theorem setIrq_groups (i : Nat) (s : State) : (setIrq i s).groups = s.groups := rfl
@[simp] theorem setIrq_bufs (i : Nat) (s : State) : (setIrq i s).bufs = s.bufs := rfl
@[simp] theorem setIrq_heads (i : Nat) (s : State) : (setIrq i s).heads = s.heads := rfl
@[simp] theorem setIrq_dp (i : Nat) (s : State) : (setIrq i s).dp = s.dp := rfl
@[simp] theorem setIrq_pins (i : Nat) (s : State) : (setIrq i s).pins = s.pins := rfl
@[simp] theorem setIrq_coef (i : Nat) (s : State) : (setIrq i s).coef = s.coef := rfl
@[simp] theorem setIrq_cu (i : Nat) (s : State) : (setIrq i s).cu = s.cu := rfl
@[simp] theorem setIrq_refs (i : Nat) (s : State) : (setIrq i s).refs = s.refs := rfl
@[simp] theorem setIrq_recheckN (i : Nat) (s : State) : (setIrq i s).recheckN = s.recheckN := rfl
@[simp] theorem setIrq_touch (i : Nat) (s : State) : (setIrq i s).touch = s.touch := rfl
@[simp] theorem setIrq_legends (i : Nat) (s : State) : (setIrq i s).legends = s.legends := rfl
@[simp] theorem setIrq_evi (i : Nat) (s : State) : (setIrq i s).evi = s.evi := rfl
@[simp] theorem setIrq_enc (i : Nat) (s : State) : (setIrq i s).enc = s.enc := rfl
@[simp] theorem setIrq_mem (i : Nat) (s : State) : (setIrq i s).mem = s.mem := rfl
@[simp] theorem setIrq_dram (i : Nat) (s : State) : (setIrq i s).dram = s.dram := rfl
@[simp] theorem setIrq_twin (i : Nat) (s : State) : (setIrq i s).twin = s.twin := rfl
@[simp] theorem setIrq_test (i : Nat) (s : State) : (setIrq i s).test = s.test := rfl
@[simp] theorem setIrq_life (i : Nat) (s : State) : (setIrq i s).life = s.life := rfl
@[simp] theorem setIrq_power (i : Nat) (s : State) : (setIrq i s).power = s.power := rfl
@[simp] theorem setIrq_cause (i : Nat) (s : State) : (setIrq i s).cmd.irqCause = s.cmd.irqCause ||| BitVec.ofNat 32 (2 ^ i) := rfl

/-! ## Events -/

@[simp] theorem publish_pending (h : HeldEvent) (s : State) : (publish h s).pending = s.pending := rfl
@[simp] theorem publish_free (h : HeldEvent) (s : State) : (publish h s).free = s.free := rfl
@[simp] theorem publish_out (h : HeldEvent) (s : State) : (publish h s).out = s.out := rfl
@[simp] theorem publish_seatB (h : HeldEvent) (s : State) : (publish h s).seatB = s.seatB := rfl
@[simp] theorem publish_cfg (h : HeldEvent) (s : State) : (publish h s).cfg = s.cfg := rfl
@[simp] theorem publish_cmd (h : HeldEvent) (s : State) : (publish h s).cmd = s.cmd := rfl
@[simp] theorem publish_time (h : HeldEvent) (s : State) : (publish h s).time = s.time := rfl
@[simp] theorem publish_ledger (h : HeldEvent) (s : State) : (publish h s).ledger = s.ledger := rfl
@[simp] theorem publish_sources (h : HeldEvent) (s : State) : (publish h s).sources = s.sources := rfl
@[simp] theorem publish_streams (h : HeldEvent) (s : State) : (publish h s).streams = s.streams := rfl
@[simp] theorem publish_lanes (h : HeldEvent) (s : State) : (publish h s).lanes = s.lanes := rfl
@[simp] theorem publish_freeze (h : HeldEvent) (s : State) : (publish h s).freeze = s.freeze := rfl
@[simp] theorem publish_eth (h : HeldEvent) (s : State) : (publish h s).eth = s.eth := rfl
@[simp] theorem publish_decRing (h : HeldEvent) (s : State) : (publish h s).decRing = s.decRing := rfl
@[simp] theorem publish_decDrop (h : HeldEvent) (s : State) : (publish h s).decDrop = s.decDrop := rfl
@[simp] theorem publish_mirror (h : HeldEvent) (s : State) : (publish h s).mirror = s.mirror := rfl
@[simp] theorem publish_mirrorDrop (h : HeldEvent) (s : State) : (publish h s).mirrorDrop = s.mirrorDrop := rfl
@[simp] theorem publish_panes (h : HeldEvent) (s : State) : (publish h s).panes = s.panes := rfl
@[simp] theorem publish_groups (h : HeldEvent) (s : State) : (publish h s).groups = s.groups := rfl
@[simp] theorem publish_bufs (h : HeldEvent) (s : State) : (publish h s).bufs = s.bufs := rfl
@[simp] theorem publish_heads (h : HeldEvent) (s : State) : (publish h s).heads = s.heads := rfl
@[simp] theorem publish_dp (h : HeldEvent) (s : State) : (publish h s).dp = s.dp := rfl
@[simp] theorem publish_pins (h : HeldEvent) (s : State) : (publish h s).pins = s.pins := rfl
@[simp] theorem publish_coef (h : HeldEvent) (s : State) : (publish h s).coef = s.coef := rfl
@[simp] theorem publish_cu (h : HeldEvent) (s : State) : (publish h s).cu = s.cu := rfl
@[simp] theorem publish_refs (h : HeldEvent) (s : State) : (publish h s).refs = s.refs := rfl
@[simp] theorem publish_recheckN (h : HeldEvent) (s : State) : (publish h s).recheckN = s.recheckN := rfl
@[simp] theorem publish_touch (h : HeldEvent) (s : State) : (publish h s).touch = s.touch := rfl
@[simp] theorem publish_legends (h : HeldEvent) (s : State) : (publish h s).legends = s.legends := rfl
@[simp] theorem publish_evi (h : HeldEvent) (s : State) : (publish h s).evi = s.evi := rfl
@[simp] theorem publish_enc (h : HeldEvent) (s : State) : (publish h s).enc = s.enc := rfl
@[simp] theorem publish_mem (h : HeldEvent) (s : State) : (publish h s).mem = s.mem := rfl
@[simp] theorem publish_dram (h : HeldEvent) (s : State) : (publish h s).dram = s.dram := rfl
@[simp] theorem publish_twin (h : HeldEvent) (s : State) : (publish h s).twin = s.twin := rfl
@[simp] theorem publish_test (h : HeldEvent) (s : State) : (publish h s).test = s.test := rfl
@[simp] theorem publish_life (h : HeldEvent) (s : State) : (publish h s).life = s.life := rfl
@[simp] theorem publish_power (h : HeldEvent) (s : State) : (publish h s).power = s.power := rfl

@[simp] theorem raiseAt_pending (t : Time64) (c : Ev) (g : Option Nat) (p : List (Nat × Nat)) (s : State) : (raiseAt t c g p s).pending = s.pending := by
  unfold raiseAt; split <;> simp [publish]
@[simp] theorem raiseAt_free (t : Time64) (c : Ev) (g : Option Nat) (p : List (Nat × Nat)) (s : State) : (raiseAt t c g p s).free = s.free := by
  unfold raiseAt; split <;> simp [publish]
@[simp] theorem raiseAt_seatB (t : Time64) (c : Ev) (g : Option Nat) (p : List (Nat × Nat)) (s : State) : (raiseAt t c g p s).seatB = s.seatB := by
  unfold raiseAt; split <;> simp [publish]
@[simp] theorem raiseAt_cfg (t : Time64) (c : Ev) (g : Option Nat) (p : List (Nat × Nat)) (s : State) : (raiseAt t c g p s).cfg = s.cfg := by
  unfold raiseAt; split <;> simp [publish]
@[simp] theorem raiseAt_cmd (t : Time64) (c : Ev) (g : Option Nat) (p : List (Nat × Nat)) (s : State) : (raiseAt t c g p s).cmd = s.cmd := by
  unfold raiseAt; split <;> simp [publish]
@[simp] theorem raiseAt_time (t : Time64) (c : Ev) (g : Option Nat) (p : List (Nat × Nat)) (s : State) : (raiseAt t c g p s).time = s.time := by
  unfold raiseAt; split <;> simp [publish]
@[simp] theorem raiseAt_ledger (t : Time64) (c : Ev) (g : Option Nat) (p : List (Nat × Nat)) (s : State) : (raiseAt t c g p s).ledger = s.ledger := by
  unfold raiseAt; split <;> simp [publish]
@[simp] theorem raiseAt_sources (t : Time64) (c : Ev) (g : Option Nat) (p : List (Nat × Nat)) (s : State) : (raiseAt t c g p s).sources = s.sources := by
  unfold raiseAt; split <;> simp [publish]
@[simp] theorem raiseAt_streams (t : Time64) (c : Ev) (g : Option Nat) (p : List (Nat × Nat)) (s : State) : (raiseAt t c g p s).streams = s.streams := by
  unfold raiseAt; split <;> simp [publish]
@[simp] theorem raiseAt_lanes (t : Time64) (c : Ev) (g : Option Nat) (p : List (Nat × Nat)) (s : State) : (raiseAt t c g p s).lanes = s.lanes := by
  unfold raiseAt; split <;> simp [publish]
@[simp] theorem raiseAt_freeze (t : Time64) (c : Ev) (g : Option Nat) (p : List (Nat × Nat)) (s : State) : (raiseAt t c g p s).freeze = s.freeze := by
  unfold raiseAt; split <;> simp [publish]
@[simp] theorem raiseAt_eth (t : Time64) (c : Ev) (g : Option Nat) (p : List (Nat × Nat)) (s : State) : (raiseAt t c g p s).eth = s.eth := by
  unfold raiseAt; split <;> simp [publish]
@[simp] theorem raiseAt_decRing (t : Time64) (c : Ev) (g : Option Nat) (p : List (Nat × Nat)) (s : State) : (raiseAt t c g p s).decRing = s.decRing := by
  unfold raiseAt; split <;> simp [publish]
@[simp] theorem raiseAt_decDrop (t : Time64) (c : Ev) (g : Option Nat) (p : List (Nat × Nat)) (s : State) : (raiseAt t c g p s).decDrop = s.decDrop := by
  unfold raiseAt; split <;> simp [publish]
@[simp] theorem raiseAt_mirror (t : Time64) (c : Ev) (g : Option Nat) (p : List (Nat × Nat)) (s : State) : (raiseAt t c g p s).mirror = s.mirror := by
  unfold raiseAt; split <;> simp [publish]
@[simp] theorem raiseAt_mirrorDrop (t : Time64) (c : Ev) (g : Option Nat) (p : List (Nat × Nat)) (s : State) : (raiseAt t c g p s).mirrorDrop = s.mirrorDrop := by
  unfold raiseAt; split <;> simp [publish]
@[simp] theorem raiseAt_panes (t : Time64) (c : Ev) (g : Option Nat) (p : List (Nat × Nat)) (s : State) : (raiseAt t c g p s).panes = s.panes := by
  unfold raiseAt; split <;> simp [publish]
@[simp] theorem raiseAt_groups (t : Time64) (c : Ev) (g : Option Nat) (p : List (Nat × Nat)) (s : State) : (raiseAt t c g p s).groups = s.groups := by
  unfold raiseAt; split <;> simp [publish]
@[simp] theorem raiseAt_bufs (t : Time64) (c : Ev) (g : Option Nat) (p : List (Nat × Nat)) (s : State) : (raiseAt t c g p s).bufs = s.bufs := by
  unfold raiseAt; split <;> simp [publish]
@[simp] theorem raiseAt_heads (t : Time64) (c : Ev) (g : Option Nat) (p : List (Nat × Nat)) (s : State) : (raiseAt t c g p s).heads = s.heads := by
  unfold raiseAt; split <;> simp [publish]
@[simp] theorem raiseAt_dp (t : Time64) (c : Ev) (g : Option Nat) (p : List (Nat × Nat)) (s : State) : (raiseAt t c g p s).dp = s.dp := by
  unfold raiseAt; split <;> simp [publish]
@[simp] theorem raiseAt_pins (t : Time64) (c : Ev) (g : Option Nat) (p : List (Nat × Nat)) (s : State) : (raiseAt t c g p s).pins = s.pins := by
  unfold raiseAt; split <;> simp [publish]
@[simp] theorem raiseAt_coef (t : Time64) (c : Ev) (g : Option Nat) (p : List (Nat × Nat)) (s : State) : (raiseAt t c g p s).coef = s.coef := by
  unfold raiseAt; split <;> simp [publish]
@[simp] theorem raiseAt_cu (t : Time64) (c : Ev) (g : Option Nat) (p : List (Nat × Nat)) (s : State) : (raiseAt t c g p s).cu = s.cu := by
  unfold raiseAt; split <;> simp [publish]
@[simp] theorem raiseAt_refs (t : Time64) (c : Ev) (g : Option Nat) (p : List (Nat × Nat)) (s : State) : (raiseAt t c g p s).refs = s.refs := by
  unfold raiseAt; split <;> simp [publish]
@[simp] theorem raiseAt_recheckN (t : Time64) (c : Ev) (g : Option Nat) (p : List (Nat × Nat)) (s : State) : (raiseAt t c g p s).recheckN = s.recheckN := by
  unfold raiseAt; split <;> simp [publish]
@[simp] theorem raiseAt_touch (t : Time64) (c : Ev) (g : Option Nat) (p : List (Nat × Nat)) (s : State) : (raiseAt t c g p s).touch = s.touch := by
  unfold raiseAt; split <;> simp [publish]
@[simp] theorem raiseAt_legends (t : Time64) (c : Ev) (g : Option Nat) (p : List (Nat × Nat)) (s : State) : (raiseAt t c g p s).legends = s.legends := by
  unfold raiseAt; split <;> simp [publish]
@[simp] theorem raiseAt_evi (t : Time64) (c : Ev) (g : Option Nat) (p : List (Nat × Nat)) (s : State) : (raiseAt t c g p s).evi = s.evi := by
  unfold raiseAt; split <;> simp [publish]
@[simp] theorem raiseAt_enc (t : Time64) (c : Ev) (g : Option Nat) (p : List (Nat × Nat)) (s : State) : (raiseAt t c g p s).enc = s.enc := by
  unfold raiseAt; split <;> simp [publish]
@[simp] theorem raiseAt_mem (t : Time64) (c : Ev) (g : Option Nat) (p : List (Nat × Nat)) (s : State) : (raiseAt t c g p s).mem = s.mem := by
  unfold raiseAt; split <;> simp [publish]
@[simp] theorem raiseAt_dram (t : Time64) (c : Ev) (g : Option Nat) (p : List (Nat × Nat)) (s : State) : (raiseAt t c g p s).dram = s.dram := by
  unfold raiseAt; split <;> simp [publish]
@[simp] theorem raiseAt_test (t : Time64) (c : Ev) (g : Option Nat) (p : List (Nat × Nat)) (s : State) : (raiseAt t c g p s).test = s.test := by
  unfold raiseAt; split <;> simp [publish]
@[simp] theorem raiseAt_life (t : Time64) (c : Ev) (g : Option Nat) (p : List (Nat × Nat)) (s : State) : (raiseAt t c g p s).life = s.life := by
  unfold raiseAt; split <;> simp [publish]
@[simp] theorem raiseAt_power (t : Time64) (c : Ev) (g : Option Nat) (p : List (Nat × Nat)) (s : State) : (raiseAt t c g p s).power = s.power := by
  unfold raiseAt; split <;> simp [publish]
@[simp] theorem raise_pending (c : Ev) (p : List (Nat × Nat)) (s : State) : (raise c p s).pending = s.pending := raiseAt_pending ..
@[simp] theorem raise_free (c : Ev) (p : List (Nat × Nat)) (s : State) : (raise c p s).free = s.free := raiseAt_free ..
@[simp] theorem raise_seatB (c : Ev) (p : List (Nat × Nat)) (s : State) : (raise c p s).seatB = s.seatB := raiseAt_seatB ..
@[simp] theorem raise_cfg (c : Ev) (p : List (Nat × Nat)) (s : State) : (raise c p s).cfg = s.cfg := raiseAt_cfg ..
@[simp] theorem raise_cmd (c : Ev) (p : List (Nat × Nat)) (s : State) : (raise c p s).cmd = s.cmd := raiseAt_cmd ..
@[simp] theorem raise_time (c : Ev) (p : List (Nat × Nat)) (s : State) : (raise c p s).time = s.time := raiseAt_time ..
@[simp] theorem raise_ledger (c : Ev) (p : List (Nat × Nat)) (s : State) : (raise c p s).ledger = s.ledger := raiseAt_ledger ..
@[simp] theorem raise_sources (c : Ev) (p : List (Nat × Nat)) (s : State) : (raise c p s).sources = s.sources := raiseAt_sources ..
@[simp] theorem raise_streams (c : Ev) (p : List (Nat × Nat)) (s : State) : (raise c p s).streams = s.streams := raiseAt_streams ..
@[simp] theorem raise_lanes (c : Ev) (p : List (Nat × Nat)) (s : State) : (raise c p s).lanes = s.lanes := raiseAt_lanes ..
@[simp] theorem raise_freeze (c : Ev) (p : List (Nat × Nat)) (s : State) : (raise c p s).freeze = s.freeze := raiseAt_freeze ..
@[simp] theorem raise_eth (c : Ev) (p : List (Nat × Nat)) (s : State) : (raise c p s).eth = s.eth := raiseAt_eth ..
@[simp] theorem raise_decRing (c : Ev) (p : List (Nat × Nat)) (s : State) : (raise c p s).decRing = s.decRing := raiseAt_decRing ..
@[simp] theorem raise_decDrop (c : Ev) (p : List (Nat × Nat)) (s : State) : (raise c p s).decDrop = s.decDrop := raiseAt_decDrop ..
@[simp] theorem raise_mirror (c : Ev) (p : List (Nat × Nat)) (s : State) : (raise c p s).mirror = s.mirror := raiseAt_mirror ..
@[simp] theorem raise_mirrorDrop (c : Ev) (p : List (Nat × Nat)) (s : State) : (raise c p s).mirrorDrop = s.mirrorDrop := raiseAt_mirrorDrop ..
@[simp] theorem raise_panes (c : Ev) (p : List (Nat × Nat)) (s : State) : (raise c p s).panes = s.panes := raiseAt_panes ..
@[simp] theorem raise_groups (c : Ev) (p : List (Nat × Nat)) (s : State) : (raise c p s).groups = s.groups := raiseAt_groups ..
@[simp] theorem raise_bufs (c : Ev) (p : List (Nat × Nat)) (s : State) : (raise c p s).bufs = s.bufs := raiseAt_bufs ..
@[simp] theorem raise_heads (c : Ev) (p : List (Nat × Nat)) (s : State) : (raise c p s).heads = s.heads := raiseAt_heads ..
@[simp] theorem raise_dp (c : Ev) (p : List (Nat × Nat)) (s : State) : (raise c p s).dp = s.dp := raiseAt_dp ..
@[simp] theorem raise_pins (c : Ev) (p : List (Nat × Nat)) (s : State) : (raise c p s).pins = s.pins := raiseAt_pins ..
@[simp] theorem raise_coef (c : Ev) (p : List (Nat × Nat)) (s : State) : (raise c p s).coef = s.coef := raiseAt_coef ..
@[simp] theorem raise_cu (c : Ev) (p : List (Nat × Nat)) (s : State) : (raise c p s).cu = s.cu := raiseAt_cu ..
@[simp] theorem raise_refs (c : Ev) (p : List (Nat × Nat)) (s : State) : (raise c p s).refs = s.refs := raiseAt_refs ..
@[simp] theorem raise_recheckN (c : Ev) (p : List (Nat × Nat)) (s : State) : (raise c p s).recheckN = s.recheckN := raiseAt_recheckN ..
@[simp] theorem raise_touch (c : Ev) (p : List (Nat × Nat)) (s : State) : (raise c p s).touch = s.touch := raiseAt_touch ..
@[simp] theorem raise_legends (c : Ev) (p : List (Nat × Nat)) (s : State) : (raise c p s).legends = s.legends := raiseAt_legends ..
@[simp] theorem raise_evi (c : Ev) (p : List (Nat × Nat)) (s : State) : (raise c p s).evi = s.evi := raiseAt_evi ..
@[simp] theorem raise_enc (c : Ev) (p : List (Nat × Nat)) (s : State) : (raise c p s).enc = s.enc := raiseAt_enc ..
@[simp] theorem raise_mem (c : Ev) (p : List (Nat × Nat)) (s : State) : (raise c p s).mem = s.mem := raiseAt_mem ..
@[simp] theorem raise_dram (c : Ev) (p : List (Nat × Nat)) (s : State) : (raise c p s).dram = s.dram := raiseAt_dram ..
@[simp] theorem raise_test (c : Ev) (p : List (Nat × Nat)) (s : State) : (raise c p s).test = s.test := raiseAt_test ..
@[simp] theorem raise_life (c : Ev) (p : List (Nat × Nat)) (s : State) : (raise c p s).life = s.life := raiseAt_life ..
@[simp] theorem raise_power (c : Ev) (p : List (Nat × Nat)) (s : State) : (raise c p s).power = s.power := raiseAt_power ..
@[simp] theorem raiseTag_pending (c : Ev) (g : Nat) (p : List (Nat × Nat)) (s : State) : (raiseTag c g p s).pending = s.pending := raiseAt_pending ..
@[simp] theorem raiseTag_free (c : Ev) (g : Nat) (p : List (Nat × Nat)) (s : State) : (raiseTag c g p s).free = s.free := raiseAt_free ..
@[simp] theorem raiseTag_seatB (c : Ev) (g : Nat) (p : List (Nat × Nat)) (s : State) : (raiseTag c g p s).seatB = s.seatB := raiseAt_seatB ..
@[simp] theorem raiseTag_cfg (c : Ev) (g : Nat) (p : List (Nat × Nat)) (s : State) : (raiseTag c g p s).cfg = s.cfg := raiseAt_cfg ..
@[simp] theorem raiseTag_cmd (c : Ev) (g : Nat) (p : List (Nat × Nat)) (s : State) : (raiseTag c g p s).cmd = s.cmd := raiseAt_cmd ..
@[simp] theorem raiseTag_time (c : Ev) (g : Nat) (p : List (Nat × Nat)) (s : State) : (raiseTag c g p s).time = s.time := raiseAt_time ..
@[simp] theorem raiseTag_ledger (c : Ev) (g : Nat) (p : List (Nat × Nat)) (s : State) : (raiseTag c g p s).ledger = s.ledger := raiseAt_ledger ..
@[simp] theorem raiseTag_sources (c : Ev) (g : Nat) (p : List (Nat × Nat)) (s : State) : (raiseTag c g p s).sources = s.sources := raiseAt_sources ..
@[simp] theorem raiseTag_streams (c : Ev) (g : Nat) (p : List (Nat × Nat)) (s : State) : (raiseTag c g p s).streams = s.streams := raiseAt_streams ..
@[simp] theorem raiseTag_lanes (c : Ev) (g : Nat) (p : List (Nat × Nat)) (s : State) : (raiseTag c g p s).lanes = s.lanes := raiseAt_lanes ..
@[simp] theorem raiseTag_freeze (c : Ev) (g : Nat) (p : List (Nat × Nat)) (s : State) : (raiseTag c g p s).freeze = s.freeze := raiseAt_freeze ..
@[simp] theorem raiseTag_eth (c : Ev) (g : Nat) (p : List (Nat × Nat)) (s : State) : (raiseTag c g p s).eth = s.eth := raiseAt_eth ..
@[simp] theorem raiseTag_decRing (c : Ev) (g : Nat) (p : List (Nat × Nat)) (s : State) : (raiseTag c g p s).decRing = s.decRing := raiseAt_decRing ..
@[simp] theorem raiseTag_decDrop (c : Ev) (g : Nat) (p : List (Nat × Nat)) (s : State) : (raiseTag c g p s).decDrop = s.decDrop := raiseAt_decDrop ..
@[simp] theorem raiseTag_mirror (c : Ev) (g : Nat) (p : List (Nat × Nat)) (s : State) : (raiseTag c g p s).mirror = s.mirror := raiseAt_mirror ..
@[simp] theorem raiseTag_mirrorDrop (c : Ev) (g : Nat) (p : List (Nat × Nat)) (s : State) : (raiseTag c g p s).mirrorDrop = s.mirrorDrop := raiseAt_mirrorDrop ..
@[simp] theorem raiseTag_panes (c : Ev) (g : Nat) (p : List (Nat × Nat)) (s : State) : (raiseTag c g p s).panes = s.panes := raiseAt_panes ..
@[simp] theorem raiseTag_groups (c : Ev) (g : Nat) (p : List (Nat × Nat)) (s : State) : (raiseTag c g p s).groups = s.groups := raiseAt_groups ..
@[simp] theorem raiseTag_bufs (c : Ev) (g : Nat) (p : List (Nat × Nat)) (s : State) : (raiseTag c g p s).bufs = s.bufs := raiseAt_bufs ..
@[simp] theorem raiseTag_heads (c : Ev) (g : Nat) (p : List (Nat × Nat)) (s : State) : (raiseTag c g p s).heads = s.heads := raiseAt_heads ..
@[simp] theorem raiseTag_dp (c : Ev) (g : Nat) (p : List (Nat × Nat)) (s : State) : (raiseTag c g p s).dp = s.dp := raiseAt_dp ..
@[simp] theorem raiseTag_pins (c : Ev) (g : Nat) (p : List (Nat × Nat)) (s : State) : (raiseTag c g p s).pins = s.pins := raiseAt_pins ..
@[simp] theorem raiseTag_coef (c : Ev) (g : Nat) (p : List (Nat × Nat)) (s : State) : (raiseTag c g p s).coef = s.coef := raiseAt_coef ..
@[simp] theorem raiseTag_cu (c : Ev) (g : Nat) (p : List (Nat × Nat)) (s : State) : (raiseTag c g p s).cu = s.cu := raiseAt_cu ..
@[simp] theorem raiseTag_refs (c : Ev) (g : Nat) (p : List (Nat × Nat)) (s : State) : (raiseTag c g p s).refs = s.refs := raiseAt_refs ..
@[simp] theorem raiseTag_recheckN (c : Ev) (g : Nat) (p : List (Nat × Nat)) (s : State) : (raiseTag c g p s).recheckN = s.recheckN := raiseAt_recheckN ..
@[simp] theorem raiseTag_touch (c : Ev) (g : Nat) (p : List (Nat × Nat)) (s : State) : (raiseTag c g p s).touch = s.touch := raiseAt_touch ..
@[simp] theorem raiseTag_legends (c : Ev) (g : Nat) (p : List (Nat × Nat)) (s : State) : (raiseTag c g p s).legends = s.legends := raiseAt_legends ..
@[simp] theorem raiseTag_evi (c : Ev) (g : Nat) (p : List (Nat × Nat)) (s : State) : (raiseTag c g p s).evi = s.evi := raiseAt_evi ..
@[simp] theorem raiseTag_enc (c : Ev) (g : Nat) (p : List (Nat × Nat)) (s : State) : (raiseTag c g p s).enc = s.enc := raiseAt_enc ..
@[simp] theorem raiseTag_mem (c : Ev) (g : Nat) (p : List (Nat × Nat)) (s : State) : (raiseTag c g p s).mem = s.mem := raiseAt_mem ..
@[simp] theorem raiseTag_dram (c : Ev) (g : Nat) (p : List (Nat × Nat)) (s : State) : (raiseTag c g p s).dram = s.dram := raiseAt_dram ..
@[simp] theorem raiseTag_test (c : Ev) (g : Nat) (p : List (Nat × Nat)) (s : State) : (raiseTag c g p s).test = s.test := raiseAt_test ..
@[simp] theorem raiseTag_life (c : Ev) (g : Nat) (p : List (Nat × Nat)) (s : State) : (raiseTag c g p s).life = s.life := raiseAt_life ..
@[simp] theorem raiseTag_power (c : Ev) (g : Nat) (p : List (Nat × Nat)) (s : State) : (raiseTag c g p s).power = s.power := raiseAt_power ..

end Sys2Proof.Machine
end

