-- ==== Sys2Proof/Laws/Commands.lean ====
section
/-! SUPPORT. What the acceptance of a command packet can do (R357 to R363), once for each shared operation: the row of an opcode is the arrival of
its packet, arrival and acceptance change the interface only, and a reply changes what carries it. -/
namespace Sys2Proof.Machine

/-- The row of an opcode is the arrival of its packet. -/
theorem exec_packet (i : Instr) (h : CmdHdr) (k : Cmd) (s : State) (hp : i.packet = some (h, k)) :
    exec i s = act (submit h k) s := by
  cases i <;> simp only [Instr.packet, Option.some.injEq, Prod.mk.injEq, reduceCtorEq] at hp <;> obtain ⟨rfl, rfl⟩ := hp <;> rfl

/-- An ordinary meaning completes: what its function makes of the state, with the queue, the strap and DRAM as they were. -/
theorem completes_act {i : Instr} {s : State} {f : State → State} {P : State → Prop} (h : exec i s = act f s) (u : State) (hu : f s = u)
    (hp : P { u with pending := s.pending, seatB := s.seatB, dram := s.dram }) : Completes i s P :=
  ⟨_, by rw [h, act_next, hu], hp⟩

/-! ## Arrival -/

/-- Arrival changes the interface only, and neither the accepted commands nor their order. -/
theorem intake_frame (t : Transport) (s : State) :
    (intake t s).2 = { s with cmd := (intake t s).2.cmd } ∧ (intake t s).2.cmd.accepted = s.cmd.accepted
    ∧ (intake t s).2.cmd.order = s.cmd.order := by
  unfold intake
  split
  · exact ⟨rfl, rfl, rfl⟩
  · cases t with
    | pcie q => dsimp only; split; · exact ⟨rfl, rfl, rfl⟩
                split <;> exact ⟨rfl, rfl, rfl⟩
    | spi => dsimp only; split <;> exact ⟨rfl, rfl, rfl⟩
    | udp c a => exact ⟨rfl, rfl, rfl⟩
    | peer => exact ⟨rfl, rfl, rfl⟩
    | reg => exact ⟨rfl, rfl, rfl⟩

/-- A packet that gets in changes the interface only. -/
theorem intake_eq (t : Transport) (s s1 : State) (h : intake t s = (true, s1)) :
    s1 = { s with cmd := s1.cmd } ∧ s1.cmd.accepted = s.cmd.accepted ∧ s1.cmd.order = s.cmd.order := by
  have := intake_frame t s; rw [h] at this; exact this

/-- Entering a SEQ in its window changes the interface only, and neither the accepted commands nor their order. -/
theorem noteReplay_frame (h : CmdHdr) (s : State) :
    noteReplay h s = { s with cmd := (noteReplay h s).cmd } ∧ (noteReplay h s).cmd.accepted = s.cmd.accepted
    ∧ (noteReplay h s).cmd.order = s.cmd.order := by
  unfold noteReplay
  split
  · split <;> exact ⟨rfl, rfl, rfl⟩
  · exact ⟨rfl, rfl, rfl⟩

/-- Noting the TAG of an SPI packet changes the interface only. -/
theorem noteTag_frame (h : CmdHdr) (s : State) :
    noteTag h s = { s with cmd := (noteTag h s).cmd } ∧ (noteTag h s).cmd.accepted = s.cmd.accepted
    ∧ (noteTag h s).cmd.order = s.cmd.order := by
  unfold noteTag
  split <;> exact ⟨rfl, rfl, rfl⟩

/-- The apply tick depends on the grid, the counter and the numbers of the ticks only. -/
theorem resolve_eq (s u : State) (lead : Nat) (h : CmdHdr) (hc : u.cfg = s.cfg) (ht : u.time = s.time) :
    u.resolve lead h = s.resolve lead h := by
  simp only [State.resolve, State.grid, hc, ht]
  rfl

/-! ## Replies -/

/-- A PCIe completion changes the interface and the output log only, and neither the accepted commands nor their order. -/
theorem completePcie_frame (q : Nat) (r : Reply) (s : State) :
    completePcie q r s = { s with cmd := (completePcie q r s).cmd, out := (completePcie q r s).out }
    ∧ (completePcie q r s).cmd.accepted = s.cmd.accepted ∧ (completePcie q r s).cmd.order = s.cmd.order
    ∧ ∃ l, (completePcie q r s).out = s.out ++ l := by
  unfold completePcie
  dsimp only
  split
  · exact ⟨rfl, rfl, rfl, [], by simp⟩
  · generalize hm : State.setQueue _ _ _ = u
    obtain ⟨m, l, h⟩ := sendMsix_form q (bits (s.queue q).cfg.toNat 9 5) u
    rw [h, ← hm]
    split
    · exact ⟨rfl, rfl, rfl, _, by simp only [setIrq_out, emit_out, setQueue_out, List.append_assoc]; rfl⟩
    · exact ⟨rfl, rfl, rfl, _, by simp only [setIrq_out, emit_out, setQueue_out, List.append_assoc]; rfl⟩

/-- A reply is sent, and changes the interface and the output log only. -/
theorem sendReply_frame (r : Reply) (s : State) :
    sendReply r s = { s with cmd := (sendReply r s).cmd, out := (sendReply r s).out }
    ∧ (sendReply r s).cmd.accepted = s.cmd.accepted ∧ (sendReply r s).cmd.order = s.cmd.order ∧ s.sent (sendReply r s) (.reply r) := by
  unfold sendReply State.sent
  dsimp only
  split
  · obtain ⟨h1, h2, h3, l, h4⟩ := completePcie_frame _ r (emit (.reply r) s)
    exact ⟨by rw [h1]; rfl, h2, h3, l, h4⟩
  · exact ⟨rfl, rfl, rfl, [], by simp⟩
  · exact ⟨rfl, rfl, rfl, _, by simp only [emit_out]; rfl⟩
  · exact ⟨rfl, rfl, rfl, [], by simp⟩
  · exact ⟨rfl, rfl, rfl, [], by simp⟩

/-- What the peer hears of a command changes the output log and the twin unit only. -/
theorem announceCmd_form (h : CmdHdr) (k : Cmd) (n : Nat) (f : Bool) (s : State) : ∃ o t, announceCmd h k n f s = { s with out := o, twin := t } := by
  have hc : ∃ o t, sendCmdFrame h k s = { s with out := o, twin := t } := by
    unfold sendCmdFrame sendFlume
    obtain ⟨o, t, e⟩ := sendFrame_form s.time.tick none (.cmd (cmdFrameOf s.routeBoth h k s.time.now))
      { s with twin := { s.twin with outstanding := s.twin.outstanding ++ [⟨s.nextFseq 9, false, s.time.now, 0⟩] } }
    exact ⟨o, t, e⟩
  unfold announceCmd
  split
  · split
    · exact sendFrame_form ..
    · exact ⟨_, _, rfl⟩
  · split
    · exact hc
    · exact ⟨_, _, rfl⟩

/-- An accepted command joins the others as the last, and the interface and what goes to the peer with it are all that changes. -/
theorem enqueue_frame (h : CmdHdr) (k : Cmd) (s : State) :
    enqueue h k s = { s with cmd := (enqueue h k s).cmd, out := (enqueue h k s).out, twin := (enqueue h k s).twin }
    ∧ (enqueue h k s).cmd.order = s.cmd.order + 1
    ∧ ∃ a, (enqueue h k s).cmd.accepted = s.cmd.accepted ++ [a] ∧ a.hdr = h ∧ a.cmd = k ∧ a.order = s.cmd.order
      ∧ a.tick = (s.resolve 20000 h).tick := by
  unfold enqueue
  dsimp only
  obtain ⟨o, t, e⟩ := announceCmd_form h k (s.resolve 20000 h).tick (s.forwards h k)
    (noteTag h { s with cmd := { s.cmd with order := s.cmd.order + 1, accepted := s.cmd.accepted ++ [_] } })
  rw [e]
  unfold noteTag
  split <;> exact ⟨rfl, rfl, _, rfl, rfl, rfl, rfl, rfl⟩

/-- CLEAR of a statistics query leaves the commands, the configuration, the events and the outputs. -/
theorem queryClear_frame (k : Cmd) (s : State) :
  (queryClear k s).cmd.accepted = s.cmd.accepted ∧ (queryClear k s).cmd.order = s.cmd.order
  ∧ (queryClear k s).cfg = s.cfg ∧ (queryClear k s).pins = s.pins ∧ (queryClear k s).ledger = s.ledger ∧ (queryClear k s).panes = s.panes
  ∧ (queryClear k s).events = s.events ∧ (queryClear k s).power = s.power ∧ (queryClear k s).life = s.life ∧ (queryClear k s).time = s.time
  ∧ (queryClear k s).out = s.out := by
  unfold queryClear
  split <;> exact ⟨rfl, rfl, rfl, rfl, rfl, rfl, rfl, rfl, rfl, rfl, rfl⟩

/-- A read over SPI notes at most how far events have been read. -/
theorem noteSpiRead_frame (t : Transport) (k : Cmd) (s : State) : ∃ n, noteSpiRead t k s = { s with events := { s.events with spiRead := n } } := by
  unfold noteSpiRead
  split
  · exact ⟨_, rfl⟩
  · exact ⟨s.events.spiRead, rfl⟩

end Sys2Proof.Machine
end

