-- ==== Sys2Proof/Laws/Dram.lean ====
section
/-! SUPPORT. The laws of the bytes of DRAM: a read after a write, and the canonical form that every operation keeps. -/
namespace Sys2Proof.Machine

/-- A canonical list from a bound is canonical from any lower one. -/
theorem dramWfFrom_mono (m : List Host.Cell) {j k : Nat} (h : j ≤ k) (w : dramWfFrom k m = true) : dramWfFrom j m = true := by
  cases m with
  | nil => rfl
  | cons x r =>
    obtain ⟨b, v⟩ := x
    simp only [dramWfFrom, Bool.and_eq_true, decide_eq_true_eq] at w ⊢
    exact ⟨⟨by omega, w.1.2⟩, w.2⟩

/-- Writing a byte at or above the bound keeps the canonical form. -/
theorem dramSet_wfFrom (a : Nat) (x : Byte) (m : List Host.Cell) (k : Nat) (hk : k ≤ a) (w : dramWfFrom k m = true) :
    dramWfFrom k (dramSet a x m) = true := by
  induction m generalizing k with
  | nil => simp only [dramSet]; split <;> simp_all [dramWfFrom]
  | cons c r ih =>
    obtain ⟨b, v⟩ := c
    have w' := w
    simp only [dramWfFrom, Bool.and_eq_true, decide_eq_true_eq] at w
    obtain ⟨⟨h1, h2⟩, h3⟩ := w
    simp only [dramSet]
    split
    · rename_i hab
      split
      · exact w'
      · rename_i hx
        simp only [dramWfFrom, Bool.and_eq_true, decide_eq_true_eq, bne_iff_ne, ne_eq]
        exact ⟨⟨hk, hx⟩, ⟨by omega, by simpa using h2⟩, h3⟩
    · split
      · rename_i hab
        split
        · exact dramWfFrom_mono r (by omega) h3
        · rename_i hx
          subst hab
          simp only [dramWfFrom, Bool.and_eq_true, decide_eq_true_eq, bne_iff_ne, ne_eq]
          exact ⟨⟨hk, hx⟩, h3⟩
      · simp only [dramWfFrom, Bool.and_eq_true, decide_eq_true_eq]
        exact ⟨⟨h1, h2⟩, ih (b + 1) (by omega) h3⟩

/-- Writing a byte keeps the canonical form. -/
theorem dramSet_wf (a : Nat) (x : Byte) (m : List Host.Cell) (w : Memory.wf m = true) : Memory.wf (dramSet a x m) = true :=
  dramSet_wfFrom a x m 0 (Nat.zero_le _) w

/-- Writing bytes keeps the canonical form. -/
theorem dramWrite_wf (d : Bytes) (a : Nat) (m : List Host.Cell) (w : Memory.wf m = true) : Memory.wf (dramWrite a d m) = true := by
  induction d generalizing a m with
  | nil => exact w
  | cons x r ih => exact ih (a + 1) _ (dramSet_wf a x m w)

/-- An address below a canonical list's bound reads 0. -/
theorem dramGet_below (m : List Host.Cell) (k a : Nat) (h : a < k) (w : dramWfFrom k m = true) : dramGet m a = 0 := by
  induction m generalizing k with
  | nil => rfl
  | cons c r ih =>
    obtain ⟨b, v⟩ := c
    simp only [dramWfFrom, Bool.and_eq_true, decide_eq_true_eq] at w
    have hne : a ≠ b := by omega
    simp only [dramGet, hne, if_false]
    exact ih (b + 1) (by omega) w.2

/-- A written byte reads back. -/
theorem dramGet_dramSet_same (a : Nat) (x : Byte) (m : List Host.Cell) (k : Nat) (w : dramWfFrom k m = true) :
    dramGet (dramSet a x m) a = x := by
  induction m generalizing k with
  | nil => simp only [dramSet]; split <;> simp_all [dramGet]
  | cons c r ih =>
    obtain ⟨b, v⟩ := c
    simp only [dramWfFrom, Bool.and_eq_true, decide_eq_true_eq] at w
    simp only [dramSet]
    split
    · rename_i hab
      split
      · rename_i hx
        have hne : a ≠ b := by omega
        simp only [dramGet, hne, if_false, hx]
        exact dramGet_below r (b + 1) a (by omega) w.2
      · simp [dramGet]
    · split
      · rename_i hab
        split
        · rename_i hx
          rw [hx]; exact dramGet_below r (b + 1) a (by omega) w.2
        · simp [dramGet]
      · rename_i h1 h2
        simp only [dramGet, h2, if_false]
        exact ih (b + 1) w.2

/-- Writing a byte leaves every other address. -/
theorem dramGet_dramSet_ne (a c : Nat) (x : Byte) (m : List Host.Cell) (h : c ≠ a) : dramGet (dramSet a x m) c = dramGet m c := by
  induction m with
  | nil => simp only [dramSet]; split <;> simp_all [dramGet]
  | cons e r ih =>
    obtain ⟨b, v⟩ := e
    simp only [dramSet]
    split
    · split
      · rfl
      · simp [dramGet, h]
    · split
      · rename_i hab
        subst hab
        split <;> simp [dramGet, h]
      · simp only [dramGet, ih]

/-- Writing bytes leaves every address outside them. -/
theorem dramGet_dramWrite_out (d : Bytes) (a c : Nat) (m : List Host.Cell) (h : c < a ∨ a + d.length ≤ c) :
    dramGet (dramWrite a d m) c = dramGet m c := by
  induction d generalizing a m with
  | nil => rfl
  | cons x r ih =>
    simp only [List.length_cons] at h
    simp only [dramWrite]
    rw [ih (a + 1) _ (by omega), dramGet_dramSet_ne a c x m (by omega)]

/-- Written bytes read back. -/
theorem dramRead_dramWrite (d : Bytes) (a : Nat) (m : List Host.Cell) (w : Memory.wf m = true) :
    dramRead (dramWrite a d m) a d.length = d := by
  induction d generalizing a m with
  | nil => rfl
  | cons x r ih =>
    simp only [List.length_cons, dramRead, dramWrite]
    rw [ih (a + 1) _ (dramSet_wf a x m w), dramGet_dramWrite_out r (a + 1) a _ (by omega), dramGet_dramSet_same a x m 0 w]

end Sys2Proof.Machine
end

