-- ==== Sys2Proof/Laws/Events.lean ====
section
/-! SUPPORT. What raising an event does (R373, R374, R244): it is the newest of the store or of those that wait for the union of a HOT pair, and
nothing but the store, what waits and what is sent changes. -/
namespace Sys2Proof.Machine

/-- The store ends with the record pushed. -/
theorem push_last (e : EventLog) (r : EventRec) : ∃ l, (e.push r).history = l ++ [r] := by
  unfold EventLog.push
  dsimp only
  split
  · exact ⟨_, rfl⟩
  · rename_i h
    cases hh : e.history with
    | nil => rw [hh] at h; simp [historyMax] at h
    | cons x xs => simp only [List.cons_append]; split <;> exact ⟨xs, rfl⟩

/-- A raised event is the newest. -/
theorem raised_raiseAt (t : Time64) (c : Ev) (g : Option Nat) (p : List (Nat × Nat)) (s u : State) (h : u.hot = s.hot) :
    s.raised (raiseAt t c g p u) c g p := by
  unfold State.raised raiseAt
  rw [← h]
  split
  · exact ⟨_, _, by rw [sendFlume, sendFrame_ownEvents], rfl, rfl, rfl⟩
  · obtain ⟨l, hl⟩ := push_last u.events ⟨u.events.next, t, c, u.seatB, g, p⟩
    exact ⟨l, _, hl, rfl, rfl, rfl⟩

/-- Whether an event is the newest depends on the store and on what waits for the union only. -/
theorem raised_congr {s t u : State} {c : Ev} {g : Option Nat} {p : List (Nat × Nat)} (h : s.raised t c g p) (he : u.events = t.events)
    (ht : u.twin = t.twin) : s.raised u c g p := by
  unfold State.raised at *
  rw [he, ht]
  exact h

/-- Raising an event changes the store, what waits for the union and the outputs only. -/
theorem raiseAt_frame (t : Time64) (c : Ev) (g : Option Nat) (p : List (Nat × Nat)) (s : State) :
    raiseAt t c g p s = { s with events := (raiseAt t c g p s).events, out := (raiseAt t c g p s).out, twin := (raiseAt t c g p s).twin } := by
  unfold raiseAt
  split
  · obtain ⟨o, w, h⟩ := sendFrame_form s.time.tick none (.event ⟨t, c.code, p⟩)
      { s with twin := { s.twin with ownEvents := s.twin.ownEvents ++ [⟨t, s.seatB, s.twin.evOrder, c, g, p⟩], evOrder := s.twin.evOrder + 1 } }
    simp only [sendFlume] at h ⊢
    rw [h]
  · rfl

end Sys2Proof.Machine
end

