-- ==== Sys2Proof/Laws/Flume.lean ====
section
/-! SUPPORT. Frames of the Flume (R228, R229): what is put on the lanes is what is read from them. -/
namespace Sys2Proof.Machine

theorem le_length (n : Nat) : ∀ v : Nat, (le n v).length = n := by
  induction n with
  | zero => intro v; rfl
  | succ n ih => intro v; simp [le, ih]

theorem ofLe_lt (b : Bytes) : ofLe b < 256 ^ b.length := by
  induction b with
  | nil => simp [ofLe]
  | cons x r ih =>
    have hx : x.toNat < 256 := x.isLt
    simp only [ofLe, List.length_cons, Nat.pow_succ]
    omega

theorem ofLe_le (n : Nat) : ∀ v : Nat, ofLe (le n v) = v % 256 ^ n := by
  induction n with
  | zero => intro v; simp [le, ofLe, Nat.mod_one]
  | succ n ih =>
    intro v
    have h : (BitVec.ofNat 8 v).toNat = v % 256 := BitVec.toNat_ofNat v 8
    rw [le, ofLe, ih, h, Nat.pow_succ, Nat.mul_comm (256 ^ n) 256, Nat.mod_mul]

theorem le_ofLe (b : Bytes) : le b.length (ofLe b) = b := by
  induction b with
  | nil => rfl
  | cons x r ih =>
    have hx : x.toNat < 256 := x.isLt
    have h1 : (x.toNat + 256 * ofLe r) / 256 = ofLe r := by omega
    have h2 : BitVec.ofNat 8 (x.toNat + 256 * ofLe r) = x := by
      apply BitVec.eq_of_toNat_eq
      simp only [BitVec.toNat_ofNat]
      omega
    simp only [List.length_cons, le, ofLe, h1, h2, ih]

/-- Granules without an error give back their bytes. -/
theorem frameData_granules (n : Nat) : ∀ b : Bytes, b.length = 16 * n → frameData (granules b n) = (some b, 0) := by
  induction n with
  | zero =>
    intro b h
    have : b = [] := List.length_eq_zero_iff.mp (by omega)
    subst this; rfl
  | succ n ih =>
    intro b h
    have hl : (b.take 16).length = 16 := by simp; omega
    have hlt : ofLe (b.take 16) < 2 ^ 128 := by
      have := ofLe_lt (b.take 16)
      rw [hl] at this
      exact Nat.lt_of_lt_of_le this (by decide)
    have hb : le 16 (ofLe (b.take 16)) = b.take 16 := by
      have := le_ofLe (b.take 16)
      rwa [hl] at this
    have hg : granuleData (granuleOf (b.take 16)) = some (BitVec.ofNat 128 (ofLe (b.take 16)), false) := by simp [granuleData, granuleOf]
    have hr := ih (b.drop 16) (by simp; omega)
    have ht : (BitVec.ofNat 128 (ofLe (b.take 16))).toNat = ofLe (b.take 16) := by rw [BitVec.toNat_ofNat]; exact Nat.mod_eq_of_lt hlt
    simp only [granules, frameData, hg, hr, ht, hb, Option.map_some, List.take_append_drop]
    rfl

theorem headerBytes_length (h : FlumeHdr) : (headerBytes h).length = 16 := by simp [headerBytes, le_length]

theorem padTo_length (n : Nat) (b : Bytes) : (padTo n b).length = n := by simp [padTo, zeros]

theorem frameBytes_length (h : FlumeHdr) (body : Bytes) : (frameBytes h body).length = 16 * frameLen body := by
  have : 4 ≤ 16 * frameLen body := by unfold frameLen; omega
  simp [frameBytes, padTo_length, le_length]; omega

/-- The first field of a layout, and what follows it. -/
theorem fld_zero (n v : Nat) (r : Bytes) : fld (le n v ++ r) 0 n = v % 256 ^ n := by
  have h : (le n v ++ r).take n = le n v := by rw [List.take_append_of_le_length (by simp [le_length])]; simp [le_length, List.take_of_length_le]
  simp [fld, slice, h, ofLe_le]

theorem fld_skip (k off n : Nat) (a r : Bytes) (h : a.length = k) : fld (a ++ r) (k + off) n = fld r off n := by
  subst h
  simp [fld, slice, List.drop_append, List.drop_of_length_le]

/-- A header is read as it was written (R229). -/
theorem headerOf_headerBytes (h : FlumeHdr) (r : Bytes) (hty : h.ty < 256) (hl : h.len < 65536) (hf : h.fseq < 2 ^ 32) (ht : h.tick < 2 ^ 64) :
    headerOf (headerBytes h ++ r) = h := by
  have e : headerBytes h ++ r = le 1 h.ty ++ (le 1 (b2n h.seatB + 2 * b2n h.resend) ++ (le 2 h.len ++ (le 4 h.fseq ++ (le 8 h.tick ++ r)))) := by
    simp [headerBytes]
  rw [e, headerOf, fld_zero, fld_skip 1 0 1 _ _ (le_length _ _), fld_zero, fld_skip 1 1 2 _ _ (le_length _ _), fld_skip 1 0 2 _ _ (le_length _ _), fld_zero,
    fld_skip 1 3 4 _ _ (le_length _ _), fld_skip 1 2 4 _ _ (le_length _ _), fld_skip 2 0 4 _ _ (le_length _ _), fld_zero,
    fld_skip 1 7 8 _ _ (le_length _ _), fld_skip 1 6 8 _ _ (le_length _ _), fld_skip 2 4 8 _ _ (le_length _ _), fld_skip 4 0 8 _ _ (le_length _ _), fld_zero]
  obtain ⟨ty, b, g, len, fseq, tick⟩ := h
  simp only at hty hl hf ht
  rw [Nat.mod_eq_of_lt (by omega), Nat.mod_eq_of_lt (a := len) (by omega), Nat.mod_eq_of_lt (a := fseq) (by omega), Nat.mod_eq_of_lt (a := tick) (by omega)]
  cases b <;> cases g <;> simp [b2n, bit]

/-- A frame on the lanes is read as it was sent, its body filled up to its granules (R228, R229). -/
theorem readFrame_frameBytes (h : FlumeHdr) (body : Bytes) (hty : h.ty < 256) (hf : h.fseq < 2 ^ 32) (ht : h.tick < 2 ^ 64) (hl : body.length ≤ 8204) :
    readFrame (frameBytes h body) = some ({ h with len := frameLen body }, padTo (16 * frameLen body - 20) body) := by
  have hn : 2 ≤ frameLen body ∧ frameLen body ≤ 514 ∧ 16 + body.length ≤ 16 * frameLen body - 4 := by unfold frameLen; omega
  have hlen := frameBytes_length h body
  have hd : padTo (16 * frameLen body - 4) (headerBytes { h with len := frameLen body } ++ body)
      = headerBytes { h with len := frameLen body } ++ padTo (16 * frameLen body - 20) body := by
    simp only [padTo, List.append_assoc]
    rw [List.take_append, headerBytes_length, List.take_of_length_le (by rw [headerBytes_length]; omega)]
    have hk : 16 * frameLen body - 4 - 16 = 16 * frameLen body - 20 := by omega
    rw [hk, List.take_append, List.take_append, zeros, zeros, List.take_replicate, List.take_replicate]
    congr 3
    omega
  have hdl : (padTo (16 * frameLen body - 4) (headerBytes { h with len := frameLen body } ++ body)).length = 16 * frameLen body - 4 := padTo_length _ _
  have hb : frameBytes h body = padTo (16 * frameLen body - 4) (headerBytes { h with len := frameLen body } ++ body)
      ++ le 4 (crc32c 0 (padTo (16 * frameLen body - 4) (headerBytes { h with len := frameLen body } ++ body))).toNat := rfl
  have htk : (frameBytes h body).take (16 * frameLen body - 4) = padTo (16 * frameLen body - 4) (headerBytes { h with len := frameLen body } ++ body) := by
    rw [hb, List.take_append_of_le_length (by omega), List.take_of_length_le (by omega)]
  have hdr : (frameBytes h body).drop (16 * frameLen body - 4)
      = le 4 (crc32c 0 (padTo (16 * frameLen body - 4) (headerBytes { h with len := frameLen body } ++ body))).toNat := by
    rw [hb, List.drop_append, hdl, List.drop_of_length_le (by omega)]; simp
  have hh : headerOf (frameBytes h body) = { h with len := frameLen body } := by
    rw [hb, hd, List.append_assoc]
    exact headerOf_headerBytes _ _ hty (by simp only; omega) hf ht
  have hc : ∀ v : BitVec 32, ofLe (le 4 v.toNat) = v.toNat := fun v => by
    rw [ofLe_le]; exact Nat.mod_eq_of_lt v.isLt
  unfold readFrame
  simp only [hlen, hh, htk, hdr, hc, beq_self_eq_true, Bool.and_true]
  rw [hd]
  simp [headerBytes_length, hn.1, hn.2.1]

/-- What a seat takes from the lanes is what was sent (R228). -/
theorem frameData_frameOut (h : FlumeHdr) (body : Bytes) : frameData (frameOut h body) = (some (frameBytes h body), 0) :=
  frameData_granules _ _ (frameBytes_length h body)

/-- A frame sent whole to a seat that takes its type is taken and counted (R228, R230). -/
theorem takeFrame_frameOut (s : State) (h : FlumeHdr) (body : Bytes) (hs : s.linkUsed = true) (hty : h.ty < 256) (hf : h.fseq < 2 ^ 32)
    (ht : h.tick < 2 ^ 64) (hl : body.length ≤ 8204) :
    takeFrame h.ty true (frameOut h body) s = (some ({ h with len := frameLen body }, padTo (16 * frameLen body - 20) body),
      { s with twin := { s.twin with cnt := { s.twin.cnt with
        corrected := (s.twin.cnt.corrected + 0) % 2 ^ 32, framesRx := (s.twin.cnt.framesRx + 1) % 2 ^ 64 } } }) := by
  simp [takeFrame, hs, frameData_frameOut, readFrame_frameBytes h body hty hf ht hl, Option.filter]

end Sys2Proof.Machine
end

