-- ==== Sys2Proof/Laws/Time.lean ====
section
/-! SUPPORT. The laws of the tick grid (R42, R45): its period is positive, and the first decision point at or after an instant is the least of
those that are. -/
namespace Sys2Proof.Machine

/-- Division rounded up is the least bound. -/
theorem ceilDiv_le (a b m : Nat) (hb : 0 < b) : ceilDiv a b ≤ m ↔ a ≤ m * b := by
  unfold ceilDiv
  rw [Nat.div_le_iff_le_mul_add_pred hb, Nat.mul_comm m b]
  omega

/-- A tick has a length. -/
theorem p3_pos (g : Grid) : 0 < g.p3 := by
  have : 0 < (rateRow g.rate).ns := by unfold rateRow; split <;> decide
  unfold Grid.p3
  omega

/-- The first decision point at or after an instant is the least one. -/
theorem firstDecision_le (g : Grid) (t m : Nat) (ht : 0 < t) : g.firstDecision t ≤ m ↔ t ≤ g.decideT m := by
  unfold Grid.firstDecision Grid.decideT Grid.t3
  rw [ceilDiv_le _ _ _ (p3_pos g), Nat.le_div_iff_mul_le (by decide)]
  omega

end Sys2Proof.Machine
end

