-- ==== Sys2Proof/Machine/Sink.lean ====
section
/-! DEFINITION. What a Flaund sink does with what a Riane's port sends (R270 to R277): the record's validity, the signature over the decoded
pixels, acceptable copies, new sequences, the choice between two inputs, and the fallback. A sink is another device: no command of the table reaches
it, and nothing of it stands in State. -/
namespace Sys2Proof.Machine

/-- What the integrator sets at a sink (R270, R274): the expected identifier and head, and its class. -/
structure SinkCfg where
  flaundId : Nat
  head     : Nat
  buffered : Bool
  deriving DecidableEq, Repr

/-- A record that a sink has read (R268). -/
structure SinkRecord where
  seatB     : Bool
  withdrawn : Bool
  wdNext    : Bool
  dark      : Bool
  late      : Bool
  resync    : Bool
  hot       : Bool
  cnt       : Nat
  sig       : BitVec 32
  unver     : Nat
  deriving DecidableEq, Repr

/-- A frame on one input: the words of R216 of its decoded lines, whether every active pixel arrived at the timing of the MSA, and the packets of
the vertical blanking after it. -/
structure SinkCopy where
  lines : List (List Nat)
  whole : Bool
  parts : List Bytes
  deriving DecidableEq, Repr

/-- What a sink holds (R271, R273, R274): the count of the last frame that it has shown, its current input (true for the second), and for each
input the count of the valid record of the preceding vertical blanking. -/
structure Sink where
  shown   : Option Nat
  current : Bool
  prevA   : Option Nat
  prevB   : Option Nat
  deriving DecidableEq, Repr

/-! ## The record (R267, R268, R270) -/

/-- Whether a packet is a part of a record: HB1, SIGNATURE and VERSION (R267). -/
def isPart (b : Bytes) : Bool := b.length == 36 && fld b 1 1 == 0x81 && fld b 7 4 == 0x444E4C46 && fld b 11 1 == 1

/-- The part with an index. -/
def partAt (l : List Bytes) (i : Nat) : Option Bytes := (l.filter isPart).find? (fun b => fld b 12 1 % 8 == i)

/-- The number of rows that a body codes as UNVERIFIED. -/
def unverifiedRows (body : Bytes) : Nat :=
  ((List.range (fld body 3 1)).filter (fun r => fld body (20 + r / 2) 1 / (if r % 2 = 0 then 1 else 16) % 8 == Verdict.unverified.code)).length

/-- The valid record of a vertical blanking (R270). -/
def validRecord (c : SinkCfg) (l : List Bytes) : Option SinkRecord :=
  match (List.range 5).filterMap (partAt l) with
  | [p0, p1, p2, p3, p4] =>
    let ps := [p0, p1, p2, p3, p4]
    let body := ps.flatMap (fun p => slice p 16 20)
    let cnt := fld body 4 4
    let flags := fld body 0 1
    if ps.all (fun p => fld p 14 2 == cnt % 65536 && fld p 4 3 == c.flaundId) && fld body 96 4 == (crc32c 0 (body.take 96)).toNat
        && fld body 2 1 == c.head then
      some { seatB := bit flags 0, withdrawn := bit flags 1, wdNext := bit flags 2, dark := bit flags 3, late := bit flags 4, resync := bit flags 6,
             hot := fld body 1 1 == TwinMode.hot.code, cnt := cnt, sig := BitVec.ofNat 32 (fld body 16 4), unver := unverifiedRows body }
    else none
  | _ => none

/-! ## The signature (R271) -/

/-- OUT_SIG of the tile of a tile row and column over decoded lines. -/
def sinkTileSig (cnt h row col : Nat) (rows : List (List Nat)) : BitVec 32 :=
  crc32c (tripleFold cnt h row col) (rows.flatMap (fun l => ((l.drop (64 * col)).take 64).flatMap (le 4)))

/-- ROW_SIG over the lines of a tile row. -/
def sinkRowSig (cnt h row : Nat) (rows : List (List Nat)) : BitVec 32 :=
  crc32c (tripleFold cnt h row 255)
    ((List.range (tileCols (rows.headD []).length)).flatMap (fun col => le 4 (sinkTileSig cnt h row col rows).toNat))

/-- FRAME_SIG that the sink computes. -/
def sinkFrameSig (cnt h : Nat) (lines : List (List Nat)) : BitVec 32 :=
  crc32c (tripleFold cnt h 255 255)
    ((List.range (tileCols lines.length)).flatMap (fun row => le 4 (sinkRowSig cnt h row ((lines.drop (64 * row)).take 64)).toNat))

/-! ## Acceptable copies (R272, R273) -/

/-- A count that is later than another, modulo 2³² (R272). -/
def laterCount (a b : Nat) : Bool :=
  let d := (a + 2 ^ 32 - b % 2 ^ 32) % 2 ^ 32
  0 < d && d < 2 ^ 31

/-- Whether a copy is acceptable, with its record (R272); the count is the preceding record's and one more (R271). -/
def acceptable (c : SinkCfg) (shown prev : Option Nat) (q : SinkCopy) : Option SinkRecord :=
  match validRecord c q.parts, prev with
  | some r, some p =>
    let cnt := (p + 1) % 2 ^ 32
    if q.whole && r.cnt == cnt && sinkFrameSig cnt c.head q.lines == r.sig && shown.all (fun n => laterCount r.cnt n) && !r.withdrawn then some r
    else none
  | _, _ => none

/-- The records that arrived after a frame: each becomes its input's preceding one, and one with RESYNC begins a new sequence (R273). -/
def takeRecords (a b : Option SinkRecord) (k : Sink) : Sink :=
  let start := fun (n : Option Nat) (r : Option SinkRecord) => match r with
    | some v => if v.resync then some v.cnt else n
    | none => n
  { k with shown := start (start k.shown a) b, prevA := a.map (fun r => r.cnt), prevB := b.map (fun r => r.cnt) }

/-! ## The choice (R274) -/

/-- The candidates that a preference keeps, where it keeps any. -/
def prefer (p : SinkRecord → Bool) (l : List (Bool × SinkRecord)) : List (Bool × SinkRecord) :=
  if l.any (fun q => p q.2) then l.filter (fun q => p q.2) else l

/-- The chosen input among the candidates of a frame (R274): a blanking request wins, then a copy whose exchange was not late, then the fewest rows
coded UNVERIFIED, then the current input, then seat A's copy. -/
def chooseInput (current : Bool) (cands : List (Bool × SinkRecord)) : Option (Bool × SinkRecord) :=
  let l1 := if cands.all (fun q => q.2.hot) then prefer (fun r => r.dark) cands else cands
  let l2 := prefer (fun r => !r.late) l1
  let least := l2.foldl (fun m q => Nat.min m q.2.unver) ((l2.head?.map (fun q => q.2.unver)).getD 0)
  let l3 := l2.filter (fun q => q.2.unver == least)
  match l3.find? (fun q => q.1 == current) with
  | some q => some q
  | none =>
    match l3.find? (fun q => !q.2.seatB) with
    | some q => some q
    | none => l3.head?

/-- What a sink shows of a frame (R275, R276): a chosen copy whole, or a fallback with its indication, UNVERIFIED over a complete copy and STALE over
the last picture or black. -/
inductive SinkShow where
  | copy (second : Bool)
  | unverified (second : Bool)
  | stale
  deriving DecidableEq, Repr

/-- The fallback of a frame without an acceptable copy (R276): a complete copy, of the current input where it has one. -/
def fallback (current : Bool) (a b : Option SinkCopy) : SinkShow :=
  let whole := fun (q : Option SinkCopy) => q.any (fun v => v.whole)
  let own := if current then b else a
  let other := if current then a else b
  if whole own then .unverified current else if whole other then .unverified (!current) else .stale

/-- Whether a record begins a new sequence on either input (R273). -/
def newSequence (a b : Option SinkRecord) : Bool := a.any (fun r => r.resync) || b.any (fun r => r.resync)

/-- A frame at a sink (R271 to R276), each input's copy where it has arrived. The count of the last frame shown is the chosen copy's, or after it that
of a record that begins a new sequence, so that the frames after that record pass (R273). A pass-through sink makes the same choice with the copies of the frame
before, and counts an input only where its record has WD_NEXT clear (R274). -/
def sinkFrame (c : SinkCfg) (a b : Option SinkCopy) (k : Sink) : SinkShow × Sink :=
  let rec' := fun (q : Option SinkCopy) => q.bind (fun v => validRecord c v.parts)
  let ok := fun (q : Option SinkCopy) (prev : Option Nat) => (q.bind (acceptable c k.shown prev)).filter (fun r => c.buffered || !r.wdNext)
  let cands := ((ok a k.prevA).toList.map (fun r => (false, r))) ++ ((ok b k.prevB).toList.map (fun r => (true, r)))
  match chooseInput k.current cands with
  | some (i, r) =>
    let next := takeRecords (rec' a) (rec' b) k
    (.copy i, { next with shown := if newSequence (rec' a) (rec' b) then next.shown else some r.cnt, current := i })
  | none => (fallback k.current a b, takeRecords (rec' a) (rec' b) k)

/-- The verdict of a sink's indication (R277), whose HEAD_MARK_COLOUR it has. -/
def indication (m : SinkShow) : Option Verdict :=
  match m with
  | .copy _ => none
  | .unverified _ => some .unverified
  | .stale => some .stale

/-- The pixels of a screen that an indication takes (R277): a border of 8 pixels, the least that the rule allows. -/
def onIndication (width height x y : Nat) : Bool := decide (x < 8) || decide (y < 8) || decide (width ≤ x + 8) || decide (height ≤ y + 8)

/-- The pixel that a sink shows: its indication's colour on the border, the picture elsewhere (R276, R277). `colour` is what the integrator has loaded
for a verdict. -/
def sinkPixel (m : SinkShow) (colour : Verdict → Nat) (width height x y picture : Nat) : Nat :=
  match indication m with
  | some v => if onIndication width height x y then colour v else picture
  | none => picture

/-- The bound on the frame start skew between the inputs, in nanoseconds, for a pixel period given in picoseconds (R278): 2 pixel clocks and 6 ns in HOT,
the sum of the seats' U_WALL with 4 ns in ORPHANED. -/
def skewBound (hot : Bool) (pixelPs uWallA uWallB : Nat) : Nat :=
  (if hot then 6 else uWallA + uWallB + 4) + ceilDiv (2 * pixelPs) 1000

/-- Whether a frame is missing on an input at a time after the other's frame start, or after the start that the MSA timing expects (R278). -/
def missingAt (start now : Time64) : Bool := start + 100000 ≤ now

end Sys2Proof.Machine
end

