-- ==== Sys2Proof/Tests/Slice0.lean ====
section
/-! SUPPORT. My own tests: an ill-formed term for each check of WellFormed.lean, for each statement with hypotheses a concrete state and operands that
meet them clause by clause, a state in which each opcode is accepted, and some single steps on small states. -/
open Sys2Proof Sys2Proof.Machine
namespace Sys2Proof.Tests
set_option Elab.async false

/-! ## Small states -/

/-- A started device in FIELD, alone, at one second. -/
def run0 : State :=
  { State.reset with
    power := { State.reset.power with phase := .running }
    cmd := { State.reset.cmd with ready := true }
    life := { State.reset.life with state := .field }
    time := { State.reset.time with now := 1000000000, tick := 59, decided := 59 } }

/-- The same device as the active seat of a HOT pair with a verified peer and all lanes. -/
def hot0 : State :=
  { run0 with
    twin := { run0.twin with mode := .hot, linkOn := true, verified := true, lanes := List.range 8, lanesGood := List.replicate 8 true } }

/-- A state with a numeric parameter set. -/
def withPar (pid idx v : Nat) (s : State) : State :=
  { s with cfg := { s.cfg with params := tset (pkey pid idx 0) (.num v) s.cfg.params } }

/-- A header of the SPI console port, of APPLY_TICK 0. -/
def hd : CmdHdr := ⟨.spi, 7, 1, 0, false, 0, 0, 0, 1000000001⟩

/-- Whether a command fails no check when it arrives. -/
def passes (s : State) (k : Cmd) : Bool :=
  (intake .spi s).1 && checkCmd (atTime hd.arrival (intake .spi s).2) hd k == none

/-! ## Frames of the Flume -/

/-- The header of a frame of the other seat of a type, with number 5 and tick 60. -/
def flumeHdr (type : Nat) (resend : Bool) : FlumeHdr := ⟨type, true, resend, 0, 5, 60⟩

/-- Such a frame. -/
def flume (type : Nat) (resend : Bool) (body : Bytes) : FlumeFrame := frameOut (flumeHdr type resend) body

/-- What it says. -/
def flumeIn (type : Nat) (resend : Bool) (body : Bytes) : FlumeHdr × Bytes :=
  ({ flumeHdr type resend with len := frameLen body }, padTo (16 * frameLen body - 20) body)

/-- A seat that has taken a frame without a corrected granule. -/
def framed (s : State) : State :=
  { s with twin := { s.twin with cnt := { s.twin.cnt with
    corrected := (s.twin.cnt.corrected + 0) % 2 ^ 32, framesRx := (s.twin.cnt.framesRx + 1) % 2 ^ 64 } } }

theorem takes_flume (s : State) (type : Nat) (ok resend : Bool) (body : Bytes) (hs : s.linkUsed = true) (ho : ok = true)
    (hr : type < 256 ∧ body.length ≤ 8204) : takeFrame type ok (flume type resend body) s = (some (flumeIn type resend body), framed s) := by
  subst ho
  exact takeFrame_frameOut s (flumeHdr type resend) body hs hr.1 (by show 5 < 2 ^ 32; decide) (by show 60 < 2 ^ 64; decide) hr.2

theorem receives_flume (s : State) (type : Nat) (ok resend : Bool) (body : Bytes) (hs : s.linkUsed = true) (ho : ok = true)
    (hr : type < 256 ∧ body.length ≤ 8204) : s.receives type ok (flume type resend body) (flumeIn type resend body) := by
  simp [State.receives, takes_flume s type ok resend body hs ho hr]

/-! ## Well-formedness: for each check a term that it refuses -/

theorem test_fits_bounds : fits 1 255 = true ∧ fits 1 256 = false ∧ fits 8 (2 ^ 64 - 1) = true ∧ fits 8 (2 ^ 64) = false := by decide

theorem test_time_ok : timeOk (2 ^ 64 - 1) = true ∧ timeOk (2 ^ 64) = false := by decide

/-- An address record with every field at its largest value. -/
def addrMax : AddrRec := ⟨255, 255, 65535, 65535, 255, 255, zeros 16, zeros 16⟩

theorem test_wf_addr : addrMax.wf = true
    ∧ [{ addrMax with fam := 256 }, { addrMax with plen := 256 }, { addrMax with port := 65536 }, { addrMax with vlan := 65536 },
        { addrMax with dscp := 256 }, { addrMax with portMask := 256 }, { addrMax with addr := zeros 15 },
        { addrMax with addr2 := zeros 17 }].any AddrRec.wf = false := by decide +kernel

theorem test_wf_val : (Val.num (2 ^ 64)).wf = false ∧ (Val.addr { addrMax with fam := 256 }).wf = false
    ∧ (Val.bytes (zeros 1024)).wf = true ∧ (Val.bytes (zeros 1025)).wf = false := by decide +kernel

theorem test_wf_set_rec : (SetRec.mk 65535 65535 255 (.num 0)).wf = true
    ∧ [SetRec.mk 65536 0 0 (.num 0), ⟨0, 65536, 0, .num 0⟩, ⟨0, 0, 256, .num 0⟩, ⟨0, 0, 0, .num (2 ^ 64)⟩].any SetRec.wf = false := by decide +kernel

theorem test_wf_get_key : (GetKey.mk 65535 65535 255).wf = true
    ∧ [GetKey.mk 65536 0 0, ⟨0, 65536, 0⟩, ⟨0, 0, 256⟩].any GetKey.wf = false := by decide +kernel

/-- A flip layer of zeros. -/
def layer0 : FlipLayer := ⟨0, 0, 0, false, false, 0, 0, 0, 0⟩

theorem test_wf_flip_layer : layer0.wf = true
    ∧ [{ layer0 with source := 256 }, { layer0 with buf := 65536 }, { layer0 with fence := 256 }, { layer0 with target := 2 ^ 64 },
        { layer0 with captureT := 2 ^ 64 }, { layer0 with u := 2 ^ 32 }, { layer0 with generation := 2 ^ 32 }].any FlipLayer.wf = false := by
  decide +kernel

theorem test_wf_header : hd.wf = true
    ∧ [{ hd with tag := 65536 }, { hd with seq := 2 ^ 32 }, { hd with applyTick := 2 ^ 64 }, { hd with resultAddr := 2 ^ 64 },
        { hd with resultMax := 2 ^ 32 }, { hd with crc := 2 ^ 32 }, { hd with arrival := 2 ^ 64 }].any CmdHdr.wf = false := by decide +kernel

/-- A record and a key that no SET and no GET may carry. -/
def badRec : List SetRec := [⟨65536, 0, 0, .num 0⟩]

/-- A key out of its field. -/
def badKey : List GetKey := [⟨0, 0, 256⟩]

theorem test_wf_records : [Cmd.sysSet badRec, .timeSet badRec, .srcSet badRec, .paneSet badRec, .headSet badRec, .codecSet badRec, .twinSet badRec,
    .touchSet badRec, .memSet badRec, .netSet badRec, .sysGet badKey, .timeGet badKey, .srcGet badKey, .paneGet badKey, .headGet badKey,
    .codecGet badKey, .twinGet badKey, .touchGet badKey, .memGet badKey, .netGet badKey].any Cmd.wf = false := by decide +kernel

theorem test_wf_counters : [Cmd.srcStats 65536 false, .srcFreezeStatus 65536 false, .headStats 65536 false, .encStats 65536 false,
    .decCounters 65536 false, .twinStats 65536 false, .memStats 65536 false, .netStats 65536 false].any Cmd.wf = false := by decide +kernel

theorem test_wf_sys_src_pane : [Cmd.sysProfile 256 0, .sysProfile 0 256, .sysShutdown 256, .sysEventRead (2 ^ 64) 1, .sysEventRead 0 256,
    .srcLedgerRead 256 0 0 0, .srcLedgerRead 0 256 0 0, .srcLedgerRead 0 0 65536 0, .srcLedgerRead 0 0 0 65536, .paneCreate 65536 0 0 [],
    .paneCreate 0 256 0 [], .paneCreate 0 0 256 [], .paneCreate 0 0 0 badRec, .paneDelete 65536].any Cmd.wf = false := by decide +kernel

theorem test_wf_host_layers : [Cmd.layerDeclare 256 0 1 1 [], .layerDeclare 128 256 1 1 [], .layerDeclare 128 0 65536 1 [],
    .layerDeclare 128 0 1 65536 [], .layerDeclare 128 3 1 1 (zeros 1025), .bufRegister 65536 0 1 1 0 0 [], .bufRegister 0 256 1 1 0 0 [],
    .bufRegister 0 0 65536 1 0 0 [], .bufRegister 0 0 1 65536 0 0 [], .bufRegister 0 0 1 1 (2 ^ 64) 0 [], .bufRegister 0 0 1 1 0 (2 ^ 32) [],
    .bufRegister 0 3 1 1 0 0 (zeros 1025), .bufUnregister 65536, .fenceConfig 256 0 0, .fenceConfig 0 256 0, .fenceConfig 0 0 (2 ^ 64),
    .flip 256 [], .flip 0 (List.replicate 256 layer0), .flip 0 [{ layer0 with source := 256 }], .bufState 65536 0, .bufState 0 65536,
    .groupStatus 256].any Cmd.wf = false := by decide +kernel

theorem test_wf_heads : [Cmd.headDark 0 256, .colourStage 256 0 [], .colourStage 0 256 [], .colourCommit 256, .scalerCoefLoad 256 (zeros 1024),
    .scalerCoefLoad 0 (zeros 1023), .dpSinkInfo 256].any Cmd.wf = false := by decide +kernel

theorem test_wf_colour_data : (Cmd.colourStage 0 0 (List.replicate 4069 0)).wf = false ∧ (Cmd.colourStage 0 0 (List.replicate 4068 0)).wf = true := by
  simp only [Cmd.wf, List.length_replicate]
  decide

theorem test_wf_codec_twin : [Cmd.encIdr 65536, .playbackRing 256 0 12 0, .playbackRing 0 256 12 0, .playbackRing 0 0 256 0,
    .playbackRing 0 0 12 (2 ^ 64), .decStatsRing 256 16 0, .decStatsRing 0 256 0, .decStatsRing 0 16 (2 ^ 64), .netMirrorRing 256 16 0,
    .netMirrorRing 0 256 0, .netMirrorRing 0 16 (2 ^ 64), .twinJoin 256, .twinAdopt (zeros 15)].any Cmd.wf = false := by decide +kernel

theorem test_wf_touch_check : [Cmd.legendRegister 256 0 1, .legendRegister 0 65536 1, .legendRegister 0 0 (2 ^ 128), .legendDelete 256, .touchRead 256,
    .cuStart 256 0 0 0, .cuStart 0 256 0 0, .cuStart 0 0 256 0, .cuFeed 256 1 0 1 [], .cuFeed 0 256 0 1 [], .cuFeed 0 1 (2 ^ 64) 1 [],
    .cuFeed 0 1 0 (2 ^ 64) [], .cuFeed 0 0 0 2 [0], .cuFeed 0 1 0 1 [0], .cuCtxRead 256, .cuFinish 256, .cuCtxWrite 256 ⟨0, false, 0, 0⟩,
    .cuCtxWrite 0 ⟨256, false, 0, 0⟩, .cuCtxWrite 0 ⟨0, false, 0, 2 ^ 64⟩, .cuCompare 256 0 0 0 0 0 0, .cuCompare 0 256 0 0 0 0 0,
    .cuCompare 0 0 256 0 0 0 0, .cuCompare 0 0 0 0 65536 0 0, .cuCompare 0 0 0 0 0 0 65536, .cuStore 256 0, .cuStore 0 256].any Cmd.wf = false := by
  decide +kernel

theorem test_wf_mem_diag_sec : [Cmd.memSetpoint 256, .diagDpPattern 256 0 (zeros 10), .diagDpPattern 0 256 (zeros 10), .diagDpPattern 0 0 (zeros 9),
    .diagEthPrbs 256 0 0, .diagEthPrbs 0 256 0, .diagEthPrbs 0 0 256, .selftestRun (2 ^ 32) 0, .selftestRun 0 256, .installSet (zeros 15) (zeros 32),
    .installSet (zeros 16) (zeros 31), .lcUnlock (zeros 257), .fwStage 256 0 [], .fwStage 0 (2 ^ 32) [], .fwActivate 256,
    .attest (zeros 31)].any Cmd.wf = false := by decide +kernel

theorem test_wf_stage_data : (Cmd.fwStage 0 0 (List.replicate 4001 0)).wf = false ∧ (Cmd.fwStage 0 0 (List.replicate 4000 0)).wf = true := by
  simp only [Cmd.wf, List.length_replicate]
  decide

/-- An instant past the 64-bit counter. -/
def late : Time64 := 2 ^ 64

theorem test_wf_interface : [Instr.cmdqSqTail 0 (2 ^ 32) 0, .cmdqSqTail 0 0 late, .sqEntryFetch 0 ⟨zeros 63, [], false, false⟩ 0,
    .sqEntryFetch 0 ⟨zeros 64, [], false, false⟩ late, .cmdqCqHead 0 (2 ^ 32), .evqCons (2 ^ 32), .liveMapWrite 0 0 late, .liveDarkMapWrite 0 0 late,
    .liveDarkPolWrite 0 late, .bar0LowWordRead (2 ^ 32) 0, .bar0LowWordRead 0 late, .registerWrite (2 ^ 32) 0, .bar2Write (2 ^ 32) [],
    .bar2Read (2 ^ 32) 1 [], .statusRead late, .cmdWrite [] true late, .udpCommandDatagram { addrMax with fam := 256 } [] false 0,
    .udpCommandDatagram addrMax [] false late].any Instr.wf = false := by decide +kernel

theorem test_wf_long_frames (d : Bytes) (h : d.length = 65537) : (Instr.bar2Write 0 d).wf = false ∧ (Instr.cmdWrite d true 0).wf = false
    ∧ (Instr.udpCommandDatagram addrMax d false 0).wf = false := by
  simp [Instr.wf, Instr.packet, Instr.operandsOk, h]

theorem test_wf_packet_row : (Instr.lcField hd).wf = true ∧ (Instr.lcField { hd with tag := 65536 }).wf = false
    ∧ (Instr.paneDelete hd 65536).wf = false := by decide +kernel

/-- A TIME80 (R51) of so many nanoseconds of the first second. -/
def t80 (ns : Nat) : Bytes := zeros 6 ++ [BitVec.ofNat 8 (ns / 2 ^ 24), BitVec.ofNat 8 (ns / 2 ^ 16), BitVec.ofNat 8 (ns / 2 ^ 8), BitVec.ofNat 8 ns]

/-- A PTP Sync of a domain. -/
def ptp (d : Nat) (t : Time64) : PtpSync := ⟨0, d, 0, 20, 5, 1, false, t80 900000000, 0, -3, t, 0⟩

/-- A Follow_Up or Delay_Resp. -/
def ptpR (d : Nat) (t : Time64) : PtpReply := ⟨0, d, 0, 20, 5, 1, t80 900000000, 0, t⟩

/-- An Announce. -/
def ptpA (d : Nat) (t : Time64) : PtpAnnounce := ⟨0, d, 0, 20, 5, 128, 6, 0x21, 0, 128, 5, 0, true, 37, true, t⟩

/-- A frame on port 3. -/
def net (b : Bytes) (t : Time64) : NetFrame := ⟨3, b, true, false, t⟩

/-- A time-transfer exchange. -/
def xfer (t : Time64) : TimeXfer := ⟨0, 0, 0, 0, 0, t⟩

theorem test_wf_time_net : [Instr.ptpSyncReceived (ptp 128 0), .ptpSyncReceived (ptp 0 late), .ptpSyncReceived { ptp 0 0 with origin := zeros 9 },
    .ptpSyncReceived { ptp 0 0 with rxQ := 4 }, .ptpFollowUpReceived (ptpR 128 0), .ptpFollowUpReceived (ptpR 0 late),
    .ptpFollowUpReceived { ptpR 0 0 with time := zeros 11 }, .ptpDelayRespReceived (ptpR 128 0), .ptpDelayRespReceived (ptpR 0 late),
    .ptpDelayRespReceived { ptpR 0 0 with time := [] }, .ptpAnnounceReceived (ptpA 128 0), .ptpAnnounceReceived (ptpA 0 late),
    .announceReceiptTimeout 0 late, .delayReqSend 0 0 ⟨late, 0⟩, .delayReqSend 0 0 ⟨0, 4⟩, .timeSlewEnd late, .holdoverLimit late,
    .timeXferReceived ⟨xfer late, []⟩, .ppsInEdge late 0, .ppsOutSecond late, .twinHbInEdge late, .ethFrameReceived ⟨0, 64, 0, true, .unmatched, late⟩,
    .rtpPacketReceived (net [] late), .rtcpSrReceived (net [] late), .netLink 0 true late, .jitterRelease 0 late, .gapTimeout 0 late,
    .silenceTimeout 0 late, .mergeWindowClose 0 0 late, .laneFree 0 late, .decodePreempt 0 0 late, .decLaneSafePoint 0 late,
    .playbackPoll 0 ⟨0, [], []⟩ late].any Instr.wf = false := by decide +kernel

/-- A heartbeat, an ADMIT and a SNAP segment of a peer. -/
def hb (t : Time64) : Heartbeat := ⟨1, 1, false, none, 0, 0, 0, t⟩

/-- An ADMIT list with no entry. -/
def admitL (n : Nat) (t : Time64) : Admit := ⟨n, false, true, 0, 0, [], [], t⟩

/-- A SNAP segment. -/
def seg (off total : Nat) (d : Bytes) (t : Time64) : SnapSegment := ⟨0, 1, 60, total, off, d, 0, t⟩

theorem test_wf_twin : [Instr.partnerFailed late, .twinHbPath 0 late, .helloReceived ⟨[], false, late⟩, .helloSend late, .heartbeatReceived ⟨hb late, []⟩,
    .udpHeartbeatReceived ⟨[], [], late⟩, .leadStateReceived ⟨1, 5, [], late⟩, .leadStateReceived ⟨256, 5, [], 0⟩, .leadStateReceived ⟨1, 2 ^ 32, [], 0⟩,
    .leadStateSend late, .admitReceived ⟨[], late⟩, .xchgDeadline late, .borrowReqReceived ⟨⟨0, [], none, late⟩, []⟩, .borrowDataReceived ⟨[], []⟩ true 0 late,
    .borrowWaitTimeout 0 0 late, .borrowIdleTimeout 0 late, .openBorrowExpiry 0 late, .sigReceived ⟨[], late⟩, .sigLate 0 late,
    .cmdFrameReceived ⟨⟨none, none, late⟩, []⟩, .cmdAckReceived ⟨⟨0, 0, 0, late⟩, []⟩, .flumeResend ⟨false, 0⟩ late, .flumeResend ⟨true, 2 ^ 32⟩ 0,
    .eventFrameReceived ⟨⟨late, 0, []⟩, []⟩ 0, .eventFrameReceived ⟨⟨0, 65536, []⟩, []⟩ 0, .eventFrameReceived ⟨⟨0, 0, []⟩, []⟩ late,
    .stateFrameReceived ⟨.reinstate, []⟩ late, .snapReceived ⟨seg 0 1 [] late, []⟩, .snapAckReceived 0 (2 ^ 32) ⟨true, []⟩ 0,
    .snapAckReceived 0 0 ⟨true, []⟩ late, .snapshotPeriod late, .flumeLaneLoss 0 late, .flumeLaneRejoin 0 late, .flumeSafePoint late,
    .twinPartnerReplaced late, .twinSnapOld late].any Instr.wf = false := by
  decide +kernel

/-- Parameter sets of an H.264 High stream of 64 by 64 samples. -/
def seq0 : SeqParams := ⟨true, 100, false, 40, false, 1, 8, 8, true, false, false, false, 64, 64, 0, 0, 0, 0, 1, 1, 0⟩

/-- A picture without units. -/
def coded0 : CodedPicture := ⟨seq0, 0, 0, 0, 16, 1, [], [], []⟩

theorem test_wf_pictures : [Instr.decodeComplete 0 coded0 late, .ingestFrameComplete 0 (2 ^ 32) 0, .ingestFrameComplete 0 0 late, .vblankStart 0 late, .lineCompose 0 8192 [],
    .tileDeparture ⟨0, 128, 0⟩ false, .tileDeparture ⟨0, 0, 128⟩ false, .outputCheckComplete ⟨0, 128, 0⟩ ⟨true, 0, 0, 0, 0, 0⟩ 0,
    .outputCheckComplete ⟨0, 0, 128⟩ ⟨true, 0, 0, 0, 0, 0⟩ 0, .outputCheckComplete ⟨0, 0, 0⟩ ⟨true, 0, 0, 0, 0, 0⟩ late, .flaundRecordAssembly 0 late,
    .bufRetired 0 late, .headSafePoint 0 late, .headPllLocked 0 late, .mstAllocationDone 0 late, .linkTrainComplete 0 ⟨⟨[], []⟩, []⟩ late,
    .linkTrainFail 0 1 late, .linkTrainRetry 0 late, .hpdUnplug 0 late, .irqHpd 0 true late, .hpdReturn 0 late, .dpTopology 0 [] late,
    .encRowCoded 0 ⟨0, List.replicate 51 0, 0, 0⟩ 0, .encRowCoded 0 ⟨0, List.replicate 52 0, 0, 0⟩ late, .encRecordAssembly 0 late, .encSessionSafePoint 0 late, .rtcpSrSend 0 late].any Instr.wf = false := by
  decide +kernel

theorem test_wf_pins_touch : [Instr.darkPinEdge 0 true late, .eviSample 0 true late, .eviAccept 0 late, .eviStuck 0 late,
    .touchSlotMeasure 0 (List.replicate 15 0) 0, .touchSlotMeasure 0 (List.replicate 16 4096) 0, .touchSlotMeasure 0 (List.replicate 16 0) late,
    .touchMaxHold 0 late, .touchDriftUncomp 0 late, .touchSave late, .touchSafePoint late].any Instr.wf = false := by decide +kernel

theorem test_wf_memory : [Instr.memReadResult 0 (2 ^ 40) .ok ⟨.bar2, []⟩ 0, .memReadResult 0 0 .ok ⟨.bar2, [⟨none, 7, 2 ^ 40, 0⟩]⟩ 0,
    .memReadResult 0 0 .ok ⟨.bar2, [⟨none, 7, 0, late⟩]⟩ 0, .memReadResult 0 0 .ok ⟨.bar2, []⟩ late, .ceRewrite 0 (2 ^ 40) 0, .ceRewrite 0 0 late,
    .scrubSegment 0 (2 ^ 24) (zeros 16) [] 0, .scrubSegment 0 0 (zeros 16) [] late, .scrubSegment 0 0 [] [] 0, .basinScrub .firmware .ok late, .basinUe .firmware late,
    .refreshDue 0 false late, .mr4Read 0 3 0, .mr4Read 0 0 late, .coldRankIdle 0 late, .rankWake 0 late, .setpointSwitch true 0 true late,
    .memSetpointDone late, .cuFeedComplete 0 none late].any Instr.wf = false := by decide +kernel

theorem test_wf_power : [Instr.resetNFall late, .resetNRelease ⟨true, true, true, late⟩, .startSequenceStep true none late, .pwrGoodFall late,
    .shutdownStep none late, .selftestPrecondCheck true true late, .thermalSample (List.replicate 15 400) 0, .thermalSample (List.replicate 16 400) late,
    .thermalLevelRepeat late, .avsReadback 750 late, .flashQueueDrain true late, .configSnapshotWrite true late, .selftestSlice (.basin 768) true 0,
    .selftestSlice (.basin 767) true late, .selftestRecordAge late, .serviceTokenExpiry late].any Instr.wf = false := by decide +kernel

theorem test_wf_happenings : [Instr.registerWrite 0x2C 5, .bar2Write 0 [1], .tickStart, .decisionPoint [], .rtpPacketReceived (net [] 0), .ptpSyncReceived (ptp 127 0),
    .touchSlotMeasure 0 (List.replicate 16 4095) 0, .selftestSlice (.basin 767) true 0, .lineCompose 31 8191 [], .mr4Read 7 2 0].all Instr.wf = true := by
  decide +kernel

/-! ## Each opcode is accepted somewhere

With `CommandsJoinAccepted` and `QueriesAnsweredAtOnce`, whose hypotheses these states meet, every opcode has a state in which it completes with its own
effect. Objects stand at the last value of their ranges. -/

/-- A key and a record of one parameter at index 0. -/
def keys (p : Nat) : List GetKey := [⟨p, 0, 0⟩]

/-- A record of one parameter at index 0. -/
def rec1 (p v : Nat) : List SetRec := [⟨p, 0, 0, .num v⟩]

/-- A unit coefficient in every phase. -/
def coefBytes : Bytes := (List.replicate 64 (le 2 256 ++ zeros 14)).flatten

theorem test_accepts_sys_time : [.sysSet (rec1 pSysHostDramRate 5), .sysProfile 0 0, .sysShutdown 0, .sysRestart, .sysGet (keys pSysHostDramRate), .sysInfo,
    .sysEventRead 0 16, .timeSet (rec1 pTimePpsFree 1), .timeGet (keys pTimePpsFree), .timeStatus].all (passes run0) = true := by decide +kernel

theorem test_accepts_src_pane : [.srcSet (rec1 pSrcPt 97), .srcGet (keys pSrcPt), .srcStats 127 true, .srcFreezeStatus 127 true, .srcLedgerRead 191 3 0 499,
    .paneCreate 511 31 192 [], .layerDeclare 191 3 16384 1 (zeros 1024), .bufRegister 1023 0 64 64 0 256 [], .fenceConfig 255 1 0, .bufState 0 1024,
    .groupStatus 63].all (passes run0) = true := by decide +kernel

theorem test_accepts_head_codec : [.headSet (rec1 pHeadBgColour 0), .headDark 0xFFFFFFFF 1, .colourStage 31 3 (zeros 48), .scalerCoefLoad 15 coefBytes,
    .headGet (keys pHeadZmode), .headStats 31 true, .dpSinkInfo 31, .codecSet (rec1 pDecMaxDpb 16), .encIdr 0xFFFF, .decStatsRing 0 16 4096,
    .codecGet (keys pDecMaxDpb), .encStats 15 true, .decCounters 127 true].all (passes run0) = true := by decide +kernel

theorem test_accepts_twin_touch : [.twinSet (rec1 pTwinJoinable 1), .twinLeave, .twinGet (keys pTwinRoute), .twinStats 0 true,
    .touchSet (rec1 pTouchMinCount 100), .touchGet (keys pTouchMinCount), .touchRead 7].all (passes run0) = true := by decide +kernel

theorem test_accepts_check_mem : [.cuStart 7 3 1 0, .cuFeed 7 0 0 4 (zeros 4), .cuCtxRead 7, .cuCtxWrite 7 ⟨2, false, 0xFFFF, 0⟩, .cuFinish 7,
    .cuCompare 7 2 63 0 0 0 0, .cuStore 7 63, .memSet (rec1 pMemCeThreshold 100), .memGet (keys pMemCeThreshold),
    .memStats 7 true].all (passes run0) = true := by decide +kernel

theorem test_accepts_sec_net : [.selftestResult, .diagThermal, .lcUnlock (zeros 256), .fwStage 1 0 (zeros 4), .fwActivate 1, .attest (zeros 32), .certRead,
    .netSet (rec1 pNetMirrorRate 5), .netMirrorRing 0 16 4096, .netGet (keys pNetPortMode), .netStats 3 true].all (passes run0) = true := by
  decide +kernel

/-- A pane of a declared host layer. -/
def pane0 : State := { run0 with cfg := { run0.cfg with panes := [(0, ⟨0, 128⟩)], layers := [(128, ⟨0, 64, 64, []⟩)] } }

/-- A buffer, a fence and a legend beside it. -/
def buf0 : State :=
  { pane0 with
    cfg := { pane0.cfg with bufs := [(5, ⟨0, 64, 64, 0, 256, []⟩)], fences := [(3, ⟨false, 4096⟩)] }
    legends := [(9, ⟨0, 1, none, [], false⟩)] }

/-- A device in SERVICE, for another second. -/
def serv0 : State := { run0 with life := { run0.life with state := .service, serviceEnd := some 2000000000 } }

/-- A seat of a pair in a mode. -/
def mode0 (m : TwinMode) : State := { hot0 with twin := { hot0.twin with mode := m } }

theorem test_accepts_objects : passes pane0 (.paneSet (rec1 pPaneZ 3)) = true ∧ passes pane0 (.paneGet (keys pPaneZ)) = true
    ∧ passes pane0 (.paneDelete 0) = true ∧ passes buf0 (.bufUnregister 5) = true
    ∧ passes buf0 (.flip 128 [{ layer0 with source := 128, buf := 5, fence := 3 }]) = true ∧ passes buf0 (.legendDelete 9) = true
    ∧ passes buf0 (.legendRegister 8 0 2) = true ∧ passes (run0.modHead 31 (fun d => { d with stagedMask := 127 })) (.colourCommit 31) = true
    ∧ passes (withPar pDecOrigin 127 1 run0) (.playbackRing 127 0 20 4096) = true
    ∧ passes { run0 with cfg := { run0.cfg with profile := .endurance } } (.memSetpoint 1) = true := by decide +kernel

theorem test_accepts_life : passes { run0 with life := { run0.life with state := .provisioned, installId := some (zeros 16) } } .lcField = true
    ∧ passes { run0 with life := { run0.life with state := .provisioned } } (.installSet (zeros 16) (zeros 32)) = true
    ∧ passes { run0 with life := { run0.life with state := .fabricated } } .lcProvision = true ∧ passes serv0 .lcDecommission = true
    ∧ passes serv0 (.diagDpPattern 7 4 (zeros 10)) = true ∧ passes serv0 (.diagEthPrbs 3 1 1) = true ∧ passes serv0 (.selftestRun 0 1) = true := by
  decide +kernel

theorem test_accepts_pair : passes { run0 with twin := { run0.twin with verified := true, peerJoinable := true, lanes := [0] } } (.twinJoin 1) = true
    ∧ passes (mode0 .coldActive) .twinTakeover = true ∧ passes hot0 .twinWithdraw = true
    ∧ passes { hot0 with twin := { hot0.twin with peerWithdrawn := true } } .twinReinstate = true
    ∧ passes { run0 with twin := { run0.twin with peerUid := zeros 16 } } (.twinAdopt (zeros 16)) = true := by decide +kernel

/-! ## What the statements suppose, met -/

/-- A table's entry put into a state's queue pairs. -/
def withQueue (q : QueuePair) : State := run0.setQueue 7 q

/-- An enabled pair of 8 entries with one that waits. -/
def pair0 : QueuePair := { queueInit with cfg := 7, tail := 1 }

/-- A reply that nobody has read. -/
def reply0 : State := { run0 with cmd := { run0.cmd with spi := { run0.cmd.spi with replies := [[1]] }, irqCause := 0x200 } }

/-- An event ring of 4 records with an event of the store not written yet. -/
def ring0 : State :=
  { run0 with events := { run0.events with cfg := 5, next := 1, history := [⟨0, 5, .netLink, false, none, []⟩] } }

theorem witness_StepRunsFrontCommand : { run0 with pending := [Instr.tickStart] }.pending = .tickStart :: [] ∧ run0.pending = [] := by decide +kernel

theorem witness_AbsentAddressesFault : 65535 % 4 ≠ 0 ∧ 65536 ≤ 65536 ∧ 2 ^ 28 < 2 ^ 28 + [(0 : Byte)].length ∧ 2 ^ 28 < 2 ^ 28 - 1 + 2
    ∧ 14 * 2 ^ 30 ≤ 14 * 2 ^ 30 := by decide

theorem witness_HostRings : (withQueue pair0).bar0Open = true ∧ ((withQueue pair0).queue 7).enabled = true ∧ 7 < ((withQueue pair0).queue 7).size
    ∧ ¬ 8 < ((withQueue pair0).queue 7).size ∧ (run0.queue 7).enabled = false ∧ (1 : Reg32).getLsbD 0 = true
    ∧ run0.bar0Open = true ∧ run0.events.enabled = false ∧ run0.events.gap = none
    ∧ ring0.bar0Open = true ∧ ring0.events.enabled = true ∧ 3 < ring0.events.size ∧ ring0.events.gap = none ∧ ring0.powered = true
    ∧ ring0.power.perst = false ∧ ring0.events.room = true
    ∧ ring0.events.history.find? (fun x => ring0.events.written ≤ x.seq) = some ⟨0, 5, .netLink, false, none, []⟩ := by decide +kernel

theorem witness_HostRegisters : run0.powered = true ∧ run0.power.perst = false ∧ run0.bar0Open = true ∧ run0.cmd.spi.replies = []
    ∧ reply0.bar0Open = true ∧ reply0.cmd.spi.replies ≠ [] ∧ ((0 : Reg32) &&& 0x1FFF).toNat + 256 ≤ pv run0.cfg pMemHostSize 0
    ∧ { run0 with cmd := { run0.cmd with bar2Next := some 1 } }.cmd.bar2Next = some 1
    ∧ reply0.powered = true ∧ reply0.cmd.spi.replies = [1] :: [] := by decide +kernel

theorem witness_PerstResetsEndpoint : { run0 with power := { run0.power with perst := true } }.power.perst = true := by decide +kernel

/-- The state in which the SPI port has taken a packet in, and in which queue pair 7 has fetched its entry. -/
def taken (t : Transport) (s : State) : State := (intake t s).2

theorem intake_taken (t : Transport) (s : State) (h : (intake t s).1 = true) : intake t s = (true, taken t s) := Prod.ext h rfl

theorem witness_CommandsJoinAccepted : (Instr.headDark hd 1 1).packet = some (hd, .headDark 1 1) ∧ isQuery (.headDark 1 1) = false
    ∧ intake hd.transport run0 = (true, taken .spi run0) ∧ checkCmd (atTime hd.arrival (taken .spi run0)) hd (.headDark 1 1) = none
    ∧ intake (.pcie 7) (withQueue pair0) = (true, taken (.pcie 7) (withQueue pair0))
    ∧ checkCmd (atTime 1000000001 (taken (.pcie 7) (withQueue pair0))) { hd with transport := .pcie 7 } (.headDark 1 1) = none :=
  ⟨rfl, rfl, intake_taken _ _ (by decide +kernel), by decide +kernel, intake_taken _ _ (by decide +kernel), by decide +kernel⟩

theorem witness_QueriesAnsweredAtOnce : (Instr.sysInfo hd).packet = some (hd, .sysInfo) ∧ isQuery .sysInfo = true
    ∧ intake hd.transport run0 = (true, taken .spi run0) ∧ checkCmd (atTime hd.arrival (taken .spi run0)) hd .sysInfo = none :=
  ⟨rfl, rfl, intake_taken _ _ (by decide +kernel), by decide +kernel⟩

theorem witness_RejectionsChangeNothing : (Instr.twinWithdraw hd).packet = some (hd, .twinWithdraw) ∧ intake hd.transport run0 = (true, taken .spi run0)
    ∧ hd.transport ≠ .reg ∧ checkCmd (atTime hd.arrival (taken .spi run0)) hd .twinWithdraw = some (.rejState, 0xFFFF)
    ∧ checkCmd (atTime hd.arrival (taken .spi run0)) hd (.paneDelete 512) = some (.rejRange, 6) :=
  ⟨rfl, intake_taken _ _ (by decide +kernel), by decide, by decide +kernel, by decide +kernel⟩

theorem witness_ApplyTickRule : ({ hd with applyTick := 61 } : CmdHdr).applyTick ≠ 0 ∧ 61 ≤ run0.time.tick + 2 ^ 24 ∧ run0.time.decided < 61
    ∧ run0.time.now + 20000 ≤ run0.grid.decideT 61 ∧ run0.grid.decideT 60 < run0.time.now + 20000
    ∧ run0.time.tick + 2 ^ 24 < 59 + 2 ^ 24 + 1 := by decide +kernel

/-- HEAD_DARK of head 0, TAG 7, SEQ 1: its bytes by R355 and R390, the CRC computed by hand outside the model (R355). -/
def pkt : Bytes :=
  [0x01, 0x00, 0x02, 0x05, 0x07, 0x00, 0x08, 0x00, 0x00, 0x00, 0x00, 0x00, 0x00, 0x00, 0x00, 0x00, 0x01, 0x00, 0x00, 0x00, 0xD1, 0x3F, 0xBE, 0x07,
    0x01, 0x00, 0x00, 0x00, 0x01, 0x00, 0x00, 0x00]

/-- Its CMD_WRITE frame (R367), the FRAME_CRC computed outside the model. -/
def frame : Bytes := [0x20, 0x00] ++ pkt ++ [0xBE, 0x2E, 0xE0, 0x27]

/-- Its submission entry (R365). -/
def entry : SqFetch := ⟨pkt.take 24 ++ zeros 20 ++ pkt.drop 24 ++ zeros 12, [], false, false⟩

/-- A submission entry of the query TIME_STATUS with a result address (R355, R365, R390), the CRC computed outside the model, whose result's write
meets a PCIe error. -/
def queryEntry0 : SqFetch :=
  ⟨[0x01, 0x00, 0x82, 0x02, 0x07, 0x00, 0x06, 0x00, 0x00, 0x00, 0x00, 0x00, 0x00, 0x00, 0x00, 0x00, 0x02, 0x00, 0x00, 0x00, 0x9F, 0xE7, 0x57, 0x23]
    ++ zeros 8 ++ [0x40] ++ zeros 7 ++ [0x00, 0x10] ++ zeros 22, [], false, true⟩

/-- Its datagram from client 15 but for the MAC (R371). -/
def dgram : Bytes := [0x0F, 0x00, 0x00, 0x00] ++ pkt

/-- The datagram with the MAC of a key. -/
def signed (key : Bytes) : Bytes := dgram ++ padTo 16 (Config.hmacSha256 key dgram)

/-- An installed device whose UDP clients may send HEAD commands. -/
def udp0 : State := withPar pCmdUdpAllow 0 0x3FFF { run0 with life := { run0.life with installId := some (zeros 16), installKey := zeros 32 } }

/-- A device whose SPI port has no free buffer. -/
def full0 : State := { run0 with cmd := { run0.cmd with spi := { run0.cmd.spi with held := 4 } } }

theorem padTo_length (n : Nat) (b : Bytes) : (padTo n b).length = n := by
  simp [padTo, zeros]

theorem signed_take (key : Bytes) : (signed key).take ((signed key).length - 16) = dgram := by
  have h : (signed key).length - 16 = dgram.length := by simp [signed, padTo_length]
  rw [h, signed, List.take_left]

theorem signed_mac (key : Bytes) : udpMacOk key (signed key) = true := by
  have h : (signed key).length - 16 = dgram.length := by simp [signed, padTo_length]
  have h20 : 20 ≤ (signed key).length := by simp [signed, padTo_length, dgram, pkt]
  simp only [udpMacOk, signed_take, h20, decide_true, Bool.true_and, beq_iff_eq]
  rw [h, signed, List.drop_left]

theorem signed_packet (key : Bytes) : udpPacket (signed key) = pkt ∧ udpClient (signed key) = 15 ∧ fld (signed key) 2 2 = 0 := by
  refine ⟨?_, rfl, rfl⟩
  rw [udpPacket, signed_take]
  rfl

theorem ok_of_option {k : Cmd} {r : Except Nat Cmd} (h : r.toOption = some k) : r = .ok k := by
  cases r with
  | error _ => cases h
  | ok _ => cases h; rfl

theorem test_packet_parses : (parsePacket pkt).cmd = .ok (.headDark 1 1) ∧ (parseSq entry).cmd = .ok (.headDark 1 1) ∧ spiPacket frame = some pkt :=
  ⟨ok_of_option (by decide +kernel), ok_of_option (by decide +kernel), by decide +kernel⟩

theorem witness_PacketTransports : intake (.pcie 7) (withQueue pair0) = (true, taken (.pcie 7) (withQueue pair0)) ∧ entry.pcieErr = false
    ∧ (parseSq entry).cmd = .ok (.headDark 1 1) ∧ isQuery (.headDark 1 1) = false
    ∧ checkCmd (atTime 1000000001 (taken (.pcie 7) (withQueue pair0)))
        (hdrOf (.pcie 7) 1000000001 (fld entry.entry 32 8) (fld entry.entry 40 4) (parseSq entry).hdr) (.headDark 1 1) = none
    ∧ run0.powered = true ∧ run0.mem.fatal = false ∧ run0.cmd.spi.held < 4 ∧ spiPacket frame = some pkt ∧ (parsePacket pkt).cmd = .ok (.headDark 1 1)
    ∧ checkCmd (atTime 1000000001 { run0 with cmd := { run0.cmd with spi := { run0.cmd.spi with held := run0.cmd.spi.held + 1 } } })
        (hdrOf .spi 1000000001 0 0 (parsePacket pkt).hdr) (.headDark 1 1) = none
    ∧ udp0.powered = true ∧ udp0.mem.fatal = false ∧ udp0.life.installId.isSome = true ∧ udpMacOk udp0.life.installKey (signed (zeros 32)) = true
    ∧ udpClient (signed (zeros 32)) < 16 ∧ fld (signed (zeros 32)) 2 2 = 0 ∧ udpPacket (signed (zeros 32)) = pkt
    ∧ checkCmd (atTime 1000000001 udp0) (hdrOf (.udp 15 addrMax) 1000000001 0 0 (parsePacket pkt).hdr) (.headDark 1 1) = none
    ∧ (spiPacket (frame.dropLast ++ [0])).isNone = true ∧ (spiPacket frame).isSome = true ∧ 4 ≤ full0.cmd.spi.held ∧ full0.powered = true
    ∧ full0.mem.fatal = false ∧ ({ entry with pcieErr := true } : SqFetch).pcieErr = true ∧ udpMacOk udp0.life.installKey [] = false
    ∧ queryEntry0.pcieErr = false ∧ queryEntry0.resultErr = true ∧ queryEntry queryEntry0 = true
    ∧ wroteResult queryEntry0 (taken (.pcie 7) (withQueue pair0)) (acceptParsed (.pcie 7) 1000000001 (fld queryEntry0.entry 32 8)
        (fld queryEntry0.entry 40 4) (parseSq queryEntry0) (atTime 1000000001 (taken (.pcie 7) (withQueue pair0)))) = true :=
  ⟨intake_taken _ _ (by decide +kernel), rfl, test_packet_parses.2.1, rfl, by decide +kernel, by decide +kernel, by decide +kernel, by decide +kernel,
    by decide +kernel, test_packet_parses.1,
    by decide +kernel, by decide +kernel, by decide +kernel, by decide +kernel, signed_mac _, by decide +kernel, rfl, (signed_packet _).1, by decide +kernel,
    by decide +kernel, by decide +kernel, by decide +kernel, by decide +kernel, by decide +kernel, rfl, rfl, rfl, rfl, by decide +kernel,
    by decide +kernel⟩

/-- The header of a BAR0 write that acts as a HEAD command. -/
def regHd : CmdHdr := ⟨.reg, 0, 0, 0, false, 0, 0, 0, 1000000001⟩

theorem witness_LiveMapWrites : run0.bar0Open = true ∧ run0.mem.fatal = false
    ∧ checkCmd (atTime 1000000001 run0) regHd (.headSet [⟨pLiveMap, (15 : Fin 16).val, 0, .num (0xFFFFFFFF : Reg32).toNat⟩]) = none
    ∧ checkCmd (atTime 1000000001 run0) regHd (.headSet [⟨pLiveDarkMap, (3 : Fin 4).val, 0, .num (0xFFFFFFFF : Reg32).toNat⟩]) = none
    ∧ checkCmd (atTime 1000000001 run0) regHd (.headSet [⟨pLiveDarkPol, 0, 0, .num (0xF : Reg32).toNat⟩]) = none := by decide +kernel

/-- A device with memory of a kind. -/
def withMem (f : Mem → Mem) : State := { run0 with mem := f run0.mem }

theorem witness_ApertureAccess : 2 ^ 28 - 1 + [(5 : Byte)].length ≤ 2 ^ 28 ∧ run0.cmd.ready = true ∧ run0.powered = true ∧ run0.power.perst = false
    ∧ run0.mem.fatal = false ∧ Memory.wf run0.dram = true ∧ run0.mem.outage = false ∧ (withMem (fun m => { m with outage := true })).mem.outage = true := by
  decide +kernel

/-- The last granule's address of the device on some channel. -/
def lastAddr : Nat := 14 * 2 ^ 30 - 16

/-- The channel of an address. -/
def chOf (a : Nat) : Nat := (placeOf run0.mem a).ch

/-- A device that has lost the last granule, and corrected it. -/
def lost0 : State :=
  withMem (fun m => { m with poison := [(placeOf m lastAddr).ga],
                             rewrites := [(chOf lastAddr, (placeOf m lastAddr).seg * 64 + (placeOf m lastAddr).gi)] })

/-- Its channel. -/
def lastCh : Fin 8 := ⟨chOf lastAddr % 8, Nat.mod_lt _ (by decide)⟩

theorem reads_next {s : State} {ch : Fin 8} {addr : Nat} {q : Requester} {t : Time64} (ha : addr < deviceBytes) (hc : (placeOf s.mem addr).ch = ch.val)
    (hf : s.mem.fatal = false) (ho : s.mem.outage = false)
    (hn : (nextRequest (readTurn ch addr q [] t s) ((readTurn ch addr q [] t s).chan ch)).any (fun w => w.q == some q && w.addr == addr) = true) :
    s.readsNext ch addr q [] t := by
  obtain ⟨w, hw, hp⟩ := Option.any_eq_true _ _ |>.mp hn
  simp only [Bool.and_eq_true, beq_iff_eq] at hp
  exact ⟨ha, hc, hf, ho, w, hw, hp⟩

/-- The device with a write of the last granule queued. -/
def queued0 : State := modChan lastCh (fun c => { c with writes := [⟨none, 7, lastAddr, 999999999⟩] }) run0

theorem witness_GranulesAndScrubs : run0.readsNext lastCh lastAddr .bar2 [] 1000000100 ∧ run0.readsQueue lastCh lastAddr .bar2 [] 1000000100 = false
    ∧ run0.mem.poison.contains (placeOf run0.mem lastAddr).ga = false
    ∧ queued0.readsNext lastCh lastAddr .bar2 [] 1000000100 ∧ queued0.readsQueue lastCh lastAddr .bar2 [] 1000000100 = true
    ∧ run0.readsNext lastCh lastAddr (.decRef 127 [3]) [] 1000000100 ∧ run0.readsQueue lastCh lastAddr (.decRef 127 [3]) [] 1000000100 = false
    ∧ lost0.readsNext lastCh lastAddr (.intraBase 127) [] 1000000100 ∧ lost0.readsQueue lastCh lastAddr (.intraBase 127) [] 1000000100 = false
    ∧ lost0.readsNext lastCh lastAddr (.encRef 15) [] 1000000100 ∧ lost0.readsQueue lastCh lastAddr (.encRef 15) [] 1000000100 = false
    ∧ lost0.mem.poison.contains (placeOf lost0.mem lastAddr).ga = true
    ∧ lastAddr < 14 * 2 ^ 30 ∧ (placeOf lost0.mem lastAddr).ch = lastCh.val ∧ lost0.mem.fatal = false
    ∧ lost0.mem.rewrites.contains (lastCh.val, (placeOf lost0.mem lastAddr).seg * 64 + (placeOf lost0.mem lastAddr).gi) = true
    ∧ 2 ^ 21 - 1 < 2 ^ 21 ∧ 2 ^ 20 ≤ 2 ^ 21 - 1 ∧ (run0.chan 7).rank1Pd = false ∧ run0.mem.outage = false
    ∧ (∀ gi : Nat, gi < 56 → writeQueued run0 7 (2 ^ 21 - 1) gi = false)
    ∧ ((modChan 7 (fun c => { c with rank1Pd := true }) run0).chan 7).rank1Pd = true
    ∧ (withMem (fun m => { m with outage := true })).mem.outage = true
    ∧ tagOk run0 7 0 (segmentTag 7 0 0 []) = true ∧ tagOk run0 7 0 (segmentTag 6 0 0 []) = false :=
  ⟨reads_next (by decide +kernel) (by decide +kernel) rfl rfl (by decide +kernel), by decide +kernel, by decide +kernel,
    reads_next (by decide +kernel) (by decide +kernel) rfl rfl (by decide +kernel), by decide +kernel,
    reads_next (by decide +kernel) (by decide +kernel) rfl rfl (by decide +kernel), by decide +kernel,
    reads_next (by decide +kernel) (by decide +kernel) rfl rfl (by decide +kernel), by decide +kernel,
    reads_next (by decide +kernel) (by decide +kernel) rfl rfl (by decide +kernel), by decide +kernel,
    by decide +kernel, by decide +kernel, by decide +kernel, by decide +kernel, by decide +kernel, by decide +kernel, by decide +kernel, by decide +kernel,
    by decide +kernel, by decide +kernel, by decide +kernel, by decide +kernel, by decide +kernel, by decide +kernel⟩

theorem witness_BasinFaults : run0.mem.fatal = false ∧ ReadResult.corrected ≠ .uncorrectable := by decide +kernel

/-- Channel 7 with a request of the display that waits, or with an urgent one. -/
def waits0 (r : MemReq) (rate owed : Nat) : State := modChan 7 (fun c => { c with rate := rate, owed := owed, reads := [r] }) run0

/-- A read for the display, with its whole lead. -/
def scanReq : MemReq := ⟨some (.scan 31 0 0 0), 0, 0, 999999990⟩

/-- A read that has waited for its longest time. -/
def oldReq : MemReq := ⟨some .bar2, 7, 0, 0⟩

theorem witness_RefreshAndRanks : run0.mem.outage = false ∧ (run0.chan 7).refT + refreshPeriod (run0.chan 7).rate ≤ 1000000000
    ∧ urgentWaits (run0.refreshed 7 1000000000) 7 = false ∧ scanWaits (run0.refreshed 7 1000000000) 7 = false
    ∧ urgentWaits ((waits0 scanReq 0 0).refreshed 7 1000000000) 7 = false ∧ scanWaits ((waits0 scanReq 0 0).refreshed 7 1000000000) 7 = true
    ∧ ((waits0 oldReq 0 8).chan 7).owed = refreshCap 0 ∧ ((waits0 oldReq 0 7).chan 7).owed < refreshCap 0
    ∧ 1000 < (run0.chan 7).refT + refreshPeriod (run0.chan 7).rate
    ∧ (run0.chan 7).mr4T + 1000000 ≤ 1000000 ∧ min 2 2 ≠ ((waits0 oldReq 1 0).chan 7).rate ∧ min 1 2 ≠ (run0.chan 7).rate
    ∧ ((run0.chan 7).rate = 0 ∧ 2 ≤ 2) ∧ (withMem (fun m => { m with outage := true })).mem.outage = true ∧ coldRank run0 = true ∧ run0.mem.fatal = false
    ∧ (run0.chan 7).rank1T + 1000000 * pv run0.cfg pMemColdIdle 0 ≤ 1000000 * pv run0.cfg pMemColdIdle 0 := by decide +kernel

/-- A switch to the LOW set point in the window of a tick. -/
def sw (n fails : Nat) : Switch := ⟨1, n, fails, none, some 7, (.fullDensity, 0), false⟩

theorem witness_SetpointSwitches : (withMem (fun m => { m with switch := some (sw 60 6) })).mem.switch = some (sw 60 6)
    ∧ run0.mem.outage = false ∧ run0.mem.fatal = false ∧ run0.powered = true ∧ switchStart run0 60 ≤ switchStart run0 60 - 10000 + 10000
    ∧ switchReady (atTime 1000000000 (withMem (fun m => { m with switch := some (sw 60 6) }))) = true
    ∧ switchReady (atTime 1000000000 (waits0 scanReq 0 0)) = false ∧ (sw 60 6).fails < 7
    ∧ ({ sw 60 7 with forced := true }).forced = true
    ∧ (withMem (fun m => { m with switch := some (sw 60 0), outage := true })).mem.outage = true ∧ (sw 60 0).hdr = none ∧ run0.mem.queued = [] ∧ run0.mem.held = []
    ∧ (∀ ch : Nat, ch < 8 → (run0.chan ch).mr4Held = none) := by decide +kernel

/-- A check unit that processes a feed of 2 bytes of host data. -/
def feed0 : State :=
  run0.modCuUnit 7 (fun u => { u with busy := some ⟨0, hd, .cuFeed 7 1 0x1000 2 [], 60, none, true, false⟩ })

theorem witness_CheckUnits : (feed0.cuUnit 7).busy = some ⟨0, hd, .cuFeed 7 1 0x1000 2 [], 60, none, true, false⟩ ∧ [(1 : Byte), 2].length = 2
    ∧ (feed0.cuUnit 7).queue = [] ∧ feed0.powered = true ∧ feed0.mem.fatal = false ∧ (1 : BitVec 64) ≠ 2
    ∧ (run0.setRefSlot 63 (refOf 5)).refSlot 63 = refOf 5 := by decide +kernel

theorem witness_DarkPinEdges : (withPar pLiveDarkMap 3 1 run0).pinDark 0 = false ∧ (run0.head 0).darkPin = false
    ∧ ({ run0 with pins := { run0.pins with dark := [false, false, false, true], darkMap := [0, 0, 0, 1] } }).pinDark 0 = true
    ∧ ((run0.modHead 0 (fun d => { d with darkPin := true })).head 0).darkPin = true
    ∧ (run0.modHead 0 (fun d => { d with darkPin := true })).pinDark 0 = false := by decide +kernel

/-- An event input in a run of the other level, since an instant. -/
def eviRun (rep : Bool) : State := run0.setEviIn 31 { eviInit with runLevel := true, runT := 900000000, raw := 1, reported := rep }

/-- An event input that has been active since an instant. -/
def eviOn : State := withPar pEviStuckS 31 1 (run0.setEviIn 31 { eviInit with level := true, runLevel := true, activeT := 500000000 })

theorem witness_EventInputs : run0.powered = true ∧ (false != bit (pv run0.cfg pEviPol 0) 31) = (run0.eviIn 31).runLevel
    ∧ (true != bit (pv run0.cfg pEviPol 0) 31) ≠ (run0.eviIn 31).runLevel ∧ pv run0.cfg pEviDeb 31 ≠ 0
    ∧ (eviRun false).powered = true ∧ ((eviRun false).eviIn 31).runLevel ≠ ((eviRun false).eviIn 31).level
    ∧ ((eviRun false).eviIn 31).runT + 1000000 * pv (eviRun false).cfg pEviDeb 31 ≤ 900000000 + 1000000 * pv run0.cfg pEviDeb 31
    ∧ ((eviRun false).eviIn 31).reported = false ∧ ((eviRun true).eviIn 31).reported = true ∧ eviOn.powered = true ∧ (eviOn.eviIn 31).level = true
    ∧ (eviOn.eviIn 31).stuck = false ∧ pv eviOn.cfg pEviStuckS 31 ≠ 0
    ∧ (eviOn.eviIn 31).activeT + 1000000000 * pv eviOn.cfg pEviStuckS 31 ≤ 1500000000 := by decide +kernel

theorem witness_TimePins : run0.powered = true ∧ run0.alive = true ∧ 2000000000 % 1000000000 = 0 ∧ run0.time.state = .freeRun
    ∧ pv (withPar pTimePpsFree 0 1 run0).cfg pTimePpsFree 0 = 1 ∧ ({ run0 with time := { run0.time with state := .dual } }).time.state ≠ .freeRun
    ∧ pv run0.cfg pTimePpsFree 0 = 0 := by decide +kernel

/-- A running touch unit that measures group 7, whose electrode 127 is HOLD and electrode 126 MOMENTARY. -/
def touch0 : State :=
  withPar pTouchClass 127 2 (withPar pTouchClass 126 1 (withPar pTouchGroupEn 0 0x80 { run0 with touch := { run0.touch with running := true } }))

/-- The start of its slot in scan tick 60. -/
def slotT : Time64 := touch0.grid.tickT 60 + slotOffset touch0.cfg 7

/-- The touch unit with an electrode in a state. -/
def key0 (e : Nat) (f : Electrode → Electrode) : State := touch0.modElectrode e f

theorem witness_TouchScans : touch0.touch.running = true ∧ touch0.touch.suspended = false ∧ slotDue touch0 (touchCfg touch0 7 slotT) 7 slotT = true
    ∧ touch0.touch.saveT + 60000000000 * pv touch0.cfg pTouchSavePeriod 0 ≤ 60000000000 * pv touch0.cfg pTouchSavePeriod 0
    ∧ touch0.flashAllowed = true ∧ touch0.flashWindow = true ∧ touch0.power.flashQ = []
    ∧ ({ touch0 with touch := { touch0.touch with stopping := true } }).touch.stopping = true ∧ touch0.touch.restart = false
    ∧ windowOver { touch0 with touch := { touch0.touch with stopping := true } } 2000000000 = true := by decide +kernel

theorem witness_TouchKeys : (touch0.electrode 127).state = .released
    ∧ (pv touch0.cfg pTouchOn 127 : Int) ≤ ((key0 127 (fun x => { x with base := 16 * pv touch0.cfg pTouchOn 127, onRun := pv touch0.cfg pTouchDebOn 127 - 1 })).electrode 127).delta
    ∧ pv touch0.cfg pTouchDebOn 127 ≤ pv touch0.cfg pTouchDebOn 127 - 1 + 1 ∧ 0 + 1 < pv touch0.cfg pTouchDebOn 127 + 1
    ∧ (touch0.electrode 127).delta < (pv touch0.cfg pTouchOn 127 : Int)
    ∧ ((key0 126 (fun x => { x with state := .pressed })).electrode 126).state = .pressed ∧ classOf touch0.cfg 126 = 1
    ∧ (touch0.electrode 126).onT + 1000000 * pv touch0.cfg pTouchMaxHold 0 ≤ 1000000 * pv touch0.cfg pTouchMaxHold 0
    ∧ ((key0 127 (fun x => { x with state := .pressed, noNbrT := some 5 })).electrode 127).noNbrT = some 5
    ∧ classOf (key0 127 (fun x => { x with state := .pressed })).cfg 127 = 2 ∧ (touch0.electrode 127).driftSaid = false
    ∧ 5 + 60000000000 ≤ 60000000005 := by decide +kernel

/-! ### Time -/

theorem witness_TickGrid : 1000 * run0.grid.leadUs ≤ run0.grid.tickT 1 ∧ 0 < (1 : Time64) := by decide +kernel

/-- An estimator of 16 equal samples that heard its master and a Sync just now. -/
def est0 (off : Int) : Estimator :=
  { estInit with
    masters := [(5, { ptpA 0 1000000000 with rx := 1000000000 })], selected := some 5, lastAnnounce := some 1000000000, lastSync := some 1000000000,
    window := List.replicate 16 ⟨off, 0, 0⟩ }

/-- A device that hears both domains on port 3, with what its estimators hold. -/
def time0 (a b : Estimator) : State :=
  withPar pNetPortMode 3 1 (withPar pDom 0 0x8 (withPar pDom 1 0x108 { run0 with time := { run0.time with est := [(0, a), (1, b)] } }))

theorem witness_TimeStates : run0.estValid 0 = false ∧ run0.estValid 1 = false ∧ (time0 (est0 0) estInit).estValid 0 = true
    ∧ (time0 (est0 0) estInit).domsAgree = false ∧ (time0 (est0 0) (est0 0)).domsAgree = true ∧ (time0 (est0 0) (est0 10000000000)).domsAgree = false := by
  decide +kernel

/-- A Sync on port 3 from the selected master, at an interval. -/
def sync0 (l : Int) : PtpSync := { ptp 0 1000000100 with port := 3, logInterval := l }

/-- An estimator that waits for a Follow_Up and a Delay_Resp. -/
def est1 : Estimator := { est0 0 with twoStep := some (1, 900000000000), delayReq := some (1, 950000000000), t2mt1 := some 5000 }

/-- A Follow_Up or Delay_Resp of that master on port 3. -/
def rep0 : PtpReply := { ptpR 0 1000000100 with port := 3 }

theorem witness_PtpMeasurements : (time0 (est0 0) estInit).portOn 3 = true ∧ (time0 (est0 0) estInit).cmd.ready = true
    ∧ domHears (time0 (est0 0) estInit).cfg 0 (sync0 1).port (sync0 1).domain (sync0 1).transport = true
    ∧ domHears (time0 (est0 0) estInit).cfg (1 - 0) (sync0 1).port (sync0 1).domain (sync0 1).transport = false ∧ ptpVersionOk (sync0 1).version = true
    ∧ ((time0 (est0 0) estInit).est 0).selected = some (sync0 1).master ∧ -7 ≤ (sync0 (-7)).logInterval ∧ (sync0 1).logInterval ≤ 1
    ∧ (sync0 1).twoStep = false ∧ (time0 est1 estInit).portOn rep0.port = true ∧ (time0 est1 estInit).cmd.ready = true
    ∧ ((time0 est1 estInit).est 0).twoStep = some (rep0.seq, 900000000000)
    ∧ domHears (time0 est1 estInit).cfg 0 rep0.port rep0.domain rep0.transport = true ∧ ptpVersionOk rep0.version = true
    ∧ ((time0 est1 estInit).est (1 - 0)).twoStep = none ∧ ((time0 est1 estInit).est 0).selected = some rep0.master
    ∧ ((time0 est1 estInit).est 0).delayReq = some (rep0.seq, 950000000000) ∧ ((time0 est1 estInit).est 0).t2mt1 = some 5000
    ∧ ((time0 est1 estInit).est (1 - 0)).delayReq = none
    ∧ tfind ((time0 est1 estInit).est 0).masters 5 = some { ptpA 0 1000000000 with rx := 1000000000 } := by decide +kernel

/-- The seat that follows the pair's time, which time transfer has begun for or not. -/
def follow0 (on : Bool) : State := { hot0 with seatB := true, time := { hot0.time with xferOn := on } }

theorem witness_TimeLimitsAndTransfers : (time0 (est0 0) estInit).portOn 3 = true
    ∧ domHears (time0 (est0 0) estInit).cfg 0 3 (ptpA 0 0).domain (ptpA 0 0).transport = true
    ∧ domHears (time0 (est0 0) estInit).cfg (1 - 0) 3 (ptpA 0 0).domain (ptpA 0 0).transport = false
    ∧ -3 ≤ (ptpA 0 0).logInterval ∧ (ptpA 0 0).logInterval ≤ 3 ∧ ptpVersionOk (ptpA 0 0).version = true
    ∧ ((time0 (est0 0) estInit).est 0).selected = some 5 ∧ (tfind ((time0 (est0 0) estInit).est 0).masters 5).isSome = true
    ∧ (∀ x ∈ ((time0 (est0 0) estInit).est 0).masters, announceLive x.2 4000000001 = false)
    ∧ ({ run0.time with slewing := true } : TimeUnit).slewing = true
    ∧ ({ run0 with time := { run0.time with own := .holdover } } : State).time.own = .holdover
    ∧ (atTime (2 ^ 63) { run0 with time := { run0.time with own := .holdover } }).holdOver = true
    ∧ (follow0 true).receives 3 (follow0 true).paired (flume 3 false []) (flumeIn 3 false []) ∧ (follow0 true).follows = true
    ∧ (follow0 true).twin.xferTick ≠ some (flumeIn 3 false []).1.tick ∧ (follow0 true).time.xferOn = true ∧ (follow0 true).time.leadMissed = 0
    ∧ (follow0 false).receives 3 (follow0 false).paired (flume 3 false []) (flumeIn 3 false []) ∧ (follow0 false).follows = true
    ∧ (follow0 false).time.xferOn = false ∧ (follow0 false).time.slewing = false ∧ (follow0 false).time.leadMissed = 0
    ∧ hot0.receives 3 hot0.paired (flume 3 false []) (flumeIn 3 false []) ∧ hot0.timeLead = true ∧ 2 ≤ hot0.twin.lanesUsed
    ∧ ({ hot0 with twin := { hot0.twin with lanes := [7] } }).receives 3 hot0.paired (flume 3 false []) (flumeIn 3 false [])
    ∧ ({ hot0 with twin := { hot0.twin with lanes := [7] } }).twin.lanesUsed < 2 :=
  ⟨by decide +kernel, by decide +kernel, by decide +kernel, by decide +kernel, by decide +kernel, by decide +kernel, by decide +kernel, by decide +kernel,
    by decide +kernel, by decide +kernel, by decide +kernel, by decide +kernel,
    receives_flume _ _ _ _ _ (by decide +kernel) (by decide +kernel) (by decide +kernel), by decide +kernel, by decide +kernel, by decide +kernel,
    by decide +kernel, receives_flume _ _ _ _ _ (by decide +kernel) (by decide +kernel) (by decide +kernel), by decide +kernel, by decide +kernel,
    by decide +kernel, by decide +kernel, receives_flume _ _ _ _ _ (by decide +kernel) (by decide +kernel) (by decide +kernel), by decide +kernel,
    by decide +kernel, receives_flume _ _ _ _ _ (by decide +kernel) (by decide +kernel) (by decide +kernel), by decide +kernel⟩

theorem witness_TicksAndDecisions : run0.ticking = true ∧ ({ run0 with time := { run0.time with beforeZero := true } }).ticking = true
    ∧ (latchStep 60 (atTime (run0.grid.decideT 60) { run0 with time := { run0.time with decided := 60 } })).2 = false
    ∧ (latchStep 60 (atTime (run0.grid.decideT 60) { run0 with time := { run0.time with decided := 60 } })).1.commanded = true
    ∧ gridMoved (latchStep 60 (atTime (run0.grid.decideT 60) { run0 with time := { run0.time with decided := 60 } })).1.cfg
        (commandStep 60 (latchStep 60 (atTime (run0.grid.decideT 60) { run0 with time := { run0.time with decided := 60 } })).1).cfg = false := by
  decide +kernel

theorem witness_DueInOrder : run0.routeBoth = false := by decide +kernel

/-! ### Ingest and decode -/

/-- A parameter that is an address record. -/
def withAddr (pid idx : Nat) (a : AddrRec) (s : State) : State :=
  { s with cfg := { s.cfg with params := tset (pkey pid idx 0) (.addr a) s.cfg.params } }

/-- A group address. -/
def group0 : AddrRec := ⟨4, 0, 5004, 0, 0, 15, [239, 1, 1, 1, 0, 0, 0, 0, 0, 0, 0, 0, 0, 0, 0, 0], zeros 16⟩

/-- Stream 127 enabled on port 3, path A, with a stream's run-time state. -/
def net0 (m : Stream) : State :=
  withPar pSrcEnable 127 1 (withAddr pSrcDestA 127 group0 (withPar pNetPortMode 3 1
    ((run0.setStream 127 m).setEthPort 3 { ethInit with link := true })))

/-- A frame with a UDP datagram to that group. -/
def frame0 (port : Nat) (b : Bytes) : NetFrame :=
  ⟨3, zeros 12 ++ [8, 0, 0x45, 0] ++ be 2 (28 + b.length) ++ [0, 0, 0, 0, 64, 17, 0, 0, 10, 0, 0, 1, 239, 1, 1, 1] ++ be 2 5004 ++ be 2 port
    ++ be 2 (8 + b.length) ++ [0, 0] ++ b, true, false, 1000000000⟩

/-- What it says. -/
def gram0 (port : Nat) (b : Bytes) : UdpIn := ⟨0, [10, 0, 0, 1], [239, 1, 1, 1], some port, true, b⟩

/-- An RTP packet with number 100, of payload type 96, its first byte as given: a NAL unit of H.265. -/
def rtp0 (v : Byte) : Bytes := [v, 0xE0, 0, 100, 0, 0, 0, 9, 0, 0, 0, 1, 0x26, 1, 0x88]

/-- The packet of the stream. -/
def pkt0 : StreamPkt := ⟨⟨96, true, 100, 9, 1, [], [0x26, 1, 0x88]⟩, .nals [[0x26, 1, 0x88]], 0x2601, (frame0 5004 (rtp0 0x80)).bytes⟩

/-- A sender report of the stream. -/
def sr0 : Bytes := [0x80, 200, 0, 6, 0, 0, 0, 1] ++ be 4 3900000000 ++ zeros 4 ++ be 4 5 ++ zeros 8

/-- A stream in a session in a state. -/
def sess (st : StreamState) : Stream := { streamInit with state := st, session := true, ssrc := 1, highExt := some 65635, lastPkt := some 900000000 }

/-- A stream that has seen the packet's number on the other path. -/
def seen1 : Stream := { sess .flowing with seen := [⟨65636, 1, 999000000, false⟩] }

/-- A stream one of whose later access units has left the buffer. -/
def past1 : Stream := { sess .flowing with lastAuEnd := some 65636 }

theorem gets0 (m : Stream) (h : ssrcOk (net0 m).cfg 127 ((net0 m).stream 127) pkt0 = true ∧ ((net0 m).stream 127).session = true
      ∧ ((net0 m).stream 127).state = .flowing)
    (hc : (net0 m).netOn 3 = true ∧ claimOf (net0 m) 3 (gram0 5004 (rtp0 0x80)) = .rtp 127
      ∧ formatIn (net0 m).cfg 127 (inbound (net0 m).cfg (frame0 5004 (rtp0 0x80)) (gram0 5004 (rtp0 0x80))) = some pkt0) :
    (net0 m).gets (frame0 5004 (rtp0 0x80)) 127 pkt0 :=
  ⟨⟨gram0 5004 (rtp0 0x80), ⟨hc.1, rfl, by decide +kernel, hc.2.1⟩, hc.2.2⟩, h⟩

/-- The fate of the packet. -/
def fate0 (m : Stream) : Fate := fateOf 127 (pathOf (net0 m).cfg 3) pkt0 (rxTime (net0 m).cfg 3 1000000000) ((net0 m).heard (frame0 5004 (rtp0 0x80)) 127)

theorem witness_StreamPackets : (net0 (sess .flowing)).netOn 3 = true ∧ ({ frame0 5004 [] with fcsOk := false } : NetFrame).fcsOk = false
    ∧ datagramIn { frame0 5004 [] with bytes := zeros 60 }.bytes = none ∧ (net0 (sess .flowing)).claims (frame0 5006 [1]) (gram0 5006 [1]) .none
    ∧ (net0 (sess .flowing)).gets (frame0 5004 (rtp0 0x80)) 127 pkt0 ∧ fate0 (sess .flowing) = .accept 65636 456000
    ∧ (net0 seen1).gets (frame0 5004 (rtp0 0x80)) 127 pkt0 ∧ fate0 seen1 = .pathDup 65636
    ∧ (net0 past1).gets (frame0 5004 (rtp0 0x80)) 127 pkt0 ∧ fate0 past1 = .spilled 0 ∧ 2 < ((net0 past1).stream 127).cnt.spill.length
    ∧ (net0 (sess .flowing)).claims (frame0 5004 (rtp0 0x40)) (gram0 5004 (rtp0 0x40)) (.rtp 127)
    ∧ formatIn (net0 (sess .flowing)).cfg 127 (inbound (net0 (sess .flowing)).cfg (frame0 5004 (rtp0 0x40)) (gram0 5004 (rtp0 0x40))) = none :=
  ⟨by decide +kernel, rfl, by decide +kernel, ⟨by decide +kernel, rfl, by decide +kernel, by decide +kernel⟩,
    gets0 _ (by decide +kernel) (by decide +kernel), by decide +kernel, gets0 _ (by decide +kernel) (by decide +kernel), by decide +kernel,
    gets0 _ (by decide +kernel) (by decide +kernel), by decide +kernel, by decide +kernel,
    ⟨by decide +kernel, rfl, by decide +kernel, by decide +kernel⟩, by decide +kernel⟩

theorem witness_PortTraffic : (net0 (sess .flowing)).claims (frame0 5005 sr0) (gram0 5005 sr0) (.rtcp 127)
    ∧ usableSr (net0 (sess .flowing)) 127 sr0 = some ⟨1, 3900000000, 0, 5⟩
    ∧ (net0 (sess .flowing)).claims (frame0 5005 [0x80, 201, 0, 0]) (gram0 5005 [0x80, 201, 0, 0]) (.rtcp 127)
    ∧ usableSr (net0 (sess .flowing)) 127 [0x80, 201, 0, 0] = none ∧ 2 < ((net0 (sess .flowing)).stream 127).cnt.spill.length
    ∧ (⟨3, 9216, 1, false, .unmatched, 0⟩ : EthFrame).fcsOk = false ∧ (⟨3, 9216, 1, true, .arpRequest [10, 0, 0, 2], 0⟩ : EthFrame).len ≤ 9216
    ∧ (net0 (sess .flowing)).netOn 3 = true ∧ (net0 (sess .flowing)).portOn 3 = true ∧ ((net0 (sess .flowing)).ethPort 3).link ≠ false :=
  ⟨⟨by decide +kernel, rfl, by decide +kernel, by decide +kernel⟩, by decide +kernel, ⟨by decide +kernel, rfl, by decide +kernel, by decide +kernel⟩,
    by decide +kernel, by decide +kernel, rfl, by decide, by decide +kernel, by decide +kernel, by decide +kernel⟩

/-- A complete access unit, and one that lacks a packet. -/
def au (done : Option Time64) : Au :=
  ⟨4294967296, some 65635, some 65635, [⟨65635, 0, 900000000, 900000000, true, .nals [[0x26, 1, 0x88]], [1]⟩], done, false, []⟩

/-- A stream with an access unit at its front. -/
def front (st : StreamState) (done : Option Time64) : Stream := { sess st with aus := [au done] }

/-- A number seen on path A, of a stream of both endpoints. -/
def both0 : State := withAddr pSrcDestB 127 { group0 with port := 5006 } (net0 { sess .flowing with seen := [⟨65635, 0, 900000000, false⟩] })

theorem witness_JitterBuffer : ((net0 (front .priming (some 900000000))).stream 127).aus = au (some 900000000) :: [] ∧ (au (some 900000000)).complete.isSome = true
    ∧ auDue (net0 (front .priming (some 900000000))).cfg 127 ((net0 (front .priming (some 900000000))).stream 127) 2000000000 (au (some 900000000)) = true
    ∧ ((net0 (front .priming (some 900000000))).stream 127).state = .priming ∧ ((net0 (sess .flowing)).stream 127).aus = []
    ∧ ((net0 (front .flowing none)).stream 127).aus = [au none] ∧ (au none).complete = none ∧ (au none).closed = false
    ∧ (au none).lastT + 1000 * pv (net0 (front .flowing none)).cfg pSrcGapTimeoutUs 127 ≤ 966667000
    ∧ pv (net0 (front .flowing none)).cfg pSrcPartialPolicy 127 = 0 ∧ ((net0 (front .flowing none)).stream 127).state = .flowing
    ∧ ((net0 (sess .flowing)).stream 127).lastPkt = some 900000000 ∧ 900000000 + 1000 * pv (net0 (sess .flowing)).cfg pSrcGapTimeoutUs 127 ≤ 966667000
    ∧ ((net0 (sess .gapped)).stream 127).state = .gapped ∧ 900000000 + 1000 * pv (net0 (sess .gapped)).cfg pSrcSilenceUs 127 ≤ 1400000000
    ∧ (run0.stream 127).state = .idle ∧ (both0.stream 127).seen.find? (fun q => q.ext == 65635) = some ⟨65635, 0, 900000000, false⟩
    ∧ 900000000 + 1000 * pv both0.cfg pSrcPathSkewUs 127 ≤ 920000000 ∧ bothPaths both0.cfg 127 = true := by decide +kernel

/-- A picture that waits for a lane, or has one. -/
def pic (lane : Option Nat) : Picture :=
  ⟨5, 900000000, 950000000, true, false, false, false, true, false, lane, 0, [], none, [[0x26, 1, 0x88]], [], []⟩

/-- A stream of a class with a picture. -/
def queued (c : StreamClass) (lane : Option Nat) : Stream := { sess .flowing with cls := c, queue := [pic lane] }

/-- A lane that decodes a preview while a guarded stream waits, and one that stops. -/
def lane0 : State := ((net0 (queued .guardedVisible none)).setStream 5 (queued .preview (some 11))).setLane 11 ⟨some 5, false, false, false⟩

/-- A lane that stops. -/
def lane1 (again : Bool) : State :=
  { run0.setLane 11 ⟨none, true, false, again⟩ with cmd := { run0.cmd with deferred := [(.lane 11, hd, .codecSet [])] } }

/-- A ring of stream 127 with a descriptor posted. -/
def ring1 : State := withPar pSrcEnable 127 1 (withPar pDecOrigin 127 1 (run0.setStream 127 { streamInit with ring := some ⟨0, 12, 4096, 0, 4064, 0, 0⟩ }))

theorem witness_DecodeLanes : (net0 (queued .guardedVisible none)).alive = true
    ∧ laneOpen ((net0 (queued .guardedVisible none)).streams.foldl (fun a e => trimBacklog e.1 a) (atTime 960000000 (net0 (queued .guardedVisible none)))) 11 = true
    ∧ choosePicture ((net0 (queued .guardedVisible none)).streams.foldl (fun a e => trimBacklog e.1 a) (atTime 960000000 (net0 (queued .guardedVisible none)))) = some 127
    ∧ choosePicture (run0.streams.foldl (fun a e => trimBacklog e.1 a) (atTime 960000000 run0)) = none
    ∧ (lane0.lane 11).stream = some 5 ∧ choosePicture (atTime 960000000 lane0) = some 127
    ∧ preempts lane0.cfg.profile (lane0.stream 127).cls (lane0.stream 5).cls = true
    ∧ preempts lane0.cfg.profile .preview .guardedVisible = false
    ∧ ((lane1 false).lane 11).stopping = true ∧ ((lane1 false).lane 11).stream = none ∧ ((lane1 false).lane 11).restart = false
    ∧ ((lane1 true).lane 11).restart = true ∧ (lane1 true).cmd.deferred.find? (fun q => q.1 == .lane 11) = some (.lane 11, hd, .codecSet [])
    ∧ (ring1.stream 127).ring = some ⟨0, 12, 4096, 0, 4064, 0, 0⟩ ∧ pv ring1.cfg pSrcEnable 127 ≠ 0 ∧ pv ring1.cfg pDecOrigin 127 = 1
    ∧ ring1.alive = true ∧ (0 + 2 ^ 12 - 4064) % 2 ^ 12 / 32 = 1 ∧ 4064 % 2 ^ 12 = 4064 % 2 ^ 12 ∧ 4064 < 2 ^ 12 := by decide +kernel

/-- An ST 2110-20 stream with a frame. -/
def st0 : State := withPar pSrcFormat 127 2 (net0 (queued .unguardedVisible none))

/-- A lane with a RASL picture of a stream that skips them. -/
def rasl0 : State := (net0 (sess .flowing)).setLane 11 ⟨some 5, false, false, false⟩ |>.setStream 5
  { queued .preview (some 11) with raslSkip := true, queue := [{ pic (some 11) with nals := [[0x10, 1, 0x88]] }] }

/-- Parameter sets of H.265 Main. -/
def seq1 : SeqParams := { seq0 with profile := 1, level := 186 }

theorem witness_DecodedFrames : (lane0.lane 11).stream = some 5 ∧ (lane0.stream 5).queue = pic (some 11) :: []
    ∧ pictureFault lane0.cfg 5 seq1 = none ∧ (isRasl (isH265 lane0.cfg 5) (pic (some 11)) && (lane0.stream 5).raslSkip) = false
    ∧ (rasl0.lane 11).stream = some 5 ∧ pictureFault rasl0.cfg 5 seq1 = none
    ∧ (∃ q, (rasl0.stream 5).queue = q :: [] ∧ (isRasl (isH265 rasl0.cfg 5) q && (rasl0.stream 5).raslSkip) = true)
    ∧ pictureFault lane0.cfg 5 { seq1 with level := 187 } = some 2 ∧ pictureFault lane0.cfg 5 { seq1 with codedW := 4097 } = some 16
    ∧ (st0.stream 127).queue = pic none :: [] ∧ is2110 st0.cfg 127 = true :=
  ⟨by decide +kernel, by decide +kernel, by decide +kernel, by decide +kernel, by decide +kernel, by decide +kernel, ⟨_, rfl, by decide +kernel⟩,
    by decide +kernel, by decide +kernel, by decide +kernel, by decide +kernel⟩

/-- What the detector takes of a picture whose payload repeats. -/
def frzIn (crc : Nat) : FreezeIn :=
  ⟨8, ⟨1000000000, false⟩, 64, 64, 1, [⟨0, true, false, false, false, false, 0, 0, 0, 7⟩], [false], true, false, crc, 0, 64, [], false, false⟩

/-- A detector that has seen a payload. -/
def frz0 (frozen : Bool) : State := run0.modFrz 127 (fun f => { f with frz := frozen, seenFirst := true, lastCrc := some 9, frameSeq := 7 })

theorem witness_FreezeDecision : ((frz0 true).frz 127).frz = true ∧ ((frz0 false).frz 127).frz = false
    ∧ ((freezeEval 127 (frzIn 9) (frz0 false)).2.frz 127).frz = true
    ∧ ((freezeEval 127 (frzIn 10) ((frz0 true).modFrz 127 (fun f => { f with base := some (64, 64, [some 1]) }))).2.frz 127).frz = false ∧ (frzIn 9).uncomp = false ∧ ((frz0 false).frz 127).lastCrc = some (frzIn 9).auCrc
    ∧ pv (frz0 false).cfg pFrzPayloadCount 127 ≤ (((frz0 false).frz 127).payloadRun + 1) % 2 ^ 32 := by decide +kernel

/-! ### Flips, heads and ports -/

/-- A pending flip of group 63 whose fence is 3, stalled for 60 ticks. -/
def stall0 : State := run0.setGroup 63 { groupInit with pending := some ⟨[{ layer0 with source := 128, buf := 5, fence := 3 }], 7⟩, stall := 60, notReady := [0] }

theorem witness_FlipsAndBuffers : (stall0.group 63).pending.isSome = true ∧ (stall0.group 63).stall ≠ 0
    ∧ (stall0.group 63).stall % pv stall0.cfg pFgStallTicks 0 = 0 ∧ (stall0.group 63).said ≠ (stall0.group 63).stall
    ∧ ((run0.setBuf 1023 ⟨2, [(0, 5)]⟩).buf 1023).state = 2 ∧ bufShown (run0.setBuf 1023 ⟨2, [(0, 5)]⟩) 1023 = false := by decide +kernel

/-- A head of 128 by 128 pixels on port 7: two tile rows of two tiles. -/
def tim0 : HeadTiming := { timingInit with port := some 7, hactive := 128, vactive := 128 }

/-- The inputs of a frame of tick 60. -/
def fin0 : FrameIn := ⟨60, 5, false, true, false, none, [], 0, [], 0, 0, 0, true, 0⟩

/-- A tile that is LIVE. -/
def tileL : TileOut := ⟨.live, .live, true, false, false, 0, false⟩

/-- Head 31 in a frame with nothing departed yet and two lines composed. -/
def inFrame0 : Head :=
  { headInit with
    timing := tim0, running := true, enabled := true, inFrame := true, vblank := false, blankNow := false, frame := some fin0, composed := 2, frameCnt := 60,
    tiles := [(0, tileL), (1, tileL), (2, tileL), (3, tileL)], live := true, recDone := false }

/-- A device with that head, changed. -/
def head0 (f : Head → Head) : State := run0.setHead 31 (f inFrame0)

/-- Head 31 between two frames, the next frame's inputs fixed. -/
def next0 (f : Head → Head) : State := head0 (fun d => f { d with inFrame := false, vblank := true, nextIn := [fin0] })

/-- A retime that waits for both steps. -/
def ret0 : Retime := ⟨true, false, false, false, none⟩

/-- A timing committed for a head. -/
def shad0 (f : Head → Head) (d : Head) : Head := f { d with shadow := some tim0 }

theorem witness_HeadFrames : ((next0 id).head 31).nextIn = fin0 :: [] ∧ ((next0 id).head 31).retime = none ∧ ((next0 id).head 31).running = true
    ∧ ((next0 (fun d => { d with retime := some ret0 })).head 31).nextIn = fin0 :: []
    ∧ ((next0 (fun d => { d with retime := some ret0 })).head 31).retime = some ret0 ∧ ret0.endsAt fin0 1000000000 = false
    ∧ ({ ret0 with pllDone := true, portDone := true, readyT := some 5 } : Retime).endsAt fin0 1000000000 = true
    ∧ ((head0 id).head 31).inFrame = true ∧ afterLast (head0 id) 31 0 ≤ 2000000000 ∧ ((head0 id).head 31).shadow = none
    ∧ ((head0 id).head 31).timing.port = some 7 ∧ ((head0 id).dpPort 7).pendingCfg = false
    ∧ ((head0 (shad0 id)).head 31).shadow = some tim0 ∧ ((head0 (shad0 id)).head 31).inFrame = true ∧ afterLast (head0 (shad0 id)) 31 0 ≤ 2000000000
    ∧ ((head0 (shad0 id)).head 31).recDone = false ∧ (head0 (shad0 id)).retimeRuns 31 = false ∧ ((head0 (shad0 id)).dpPort 7).pendingCfg = false
    ∧ (∃ r, ((next0 (shad0 (fun d => { d with retime := some r, recDone := true }))).head 31).retime = some r
      ∧ ((next0 (shad0 (fun d => { d with retime := some r, recDone := true }))).head 31).inFrame = false
      ∧ ((next0 (shad0 (fun d => { d with retime := some r, recDone := true }))).head 31).shadow = some tim0
      ∧ ((next0 (shad0 (fun d => { d with retime := some r, recDone := true }))).head 31).recDone = true
      ∧ (next0 (shad0 (fun d => { d with retime := some r, recDone := true }))).retimeRuns 31 = false)
    ∧ 0 < afterLast (head0 id) 31 0 ∧ ((next0 id).head 31).inFrame = false
    ∧ ((next0 (fun d => { d with disabling := true })).head 31).disabling = true ∧ ((next0 (fun d => { d with disabling := true })).head 31).inFrame = false
    ∧ ((next0 (fun d => { d with retime := some ret0 })).setDpPort 7 { dpInit with trained := true, mode := 2 }).dpPort 7
      = { dpInit with trained := true, mode := 2 } :=
  ⟨by decide +kernel, by decide +kernel, by decide +kernel, by decide +kernel, by decide +kernel, by decide +kernel, by decide +kernel, by decide +kernel,
    by decide +kernel, by decide +kernel, by decide +kernel, by decide +kernel, by decide +kernel, by decide +kernel, by decide +kernel, by decide +kernel,
    by decide +kernel, by decide +kernel, ⟨{ ret0 with train := true, portDone := true }, by decide +kernel⟩, by decide +kernel, by decide +kernel,
    by decide +kernel, by decide +kernel, by decide +kernel⟩

theorem witness_ComposeAndDeparture : (head0 id).alive = true ∧ ((head0 id).head 31).running = true ∧ ((head0 id).head 31).inFrame = true
    ∧ ((head0 id).head 31).frame = some fin0 ∧ ((head0 id).head 31).blankNow = false ∧ ((head0 id).head 31).composed < ((head0 id).head 31).timing.vactive
    ∧ ((next0 id).head 31).inFrame = false ∧ ((next0 id).head 31).nextIn = fin0 :: []
    ∧ frameBlank (next0 id) 31 fin0 (departure (next0 id).grid tim0 60 false 0).floor = false
    ∧ ((next0 id).head 31).preComposed < ((next0 id).head 31).timing.vactive
    ∧ tfind ((head0 id).head 31).tiles (0 * ((head0 id).head 31).cols + 1) = some tileL ∧ 1 < ((head0 id).head 31).cols ∧ tileL.departed = false
    ∧ tileL.filled = false ∧ tileL.verdict ≠ .dark ∧ ((head0 id).head 31).fillRun = none ∧ 64 * 0 < ((head0 id).head 31).composed
    ∧ ((head0 id).head 31).composed ≤ 64 * 1 ∧ tfind ((head0 id).head 31).tiles (1 * ((head0 id).head 31).cols + 1) = some tileL
    ∧ (head0 id).time.now ≤ lineDep (head0 id) 31 fin0 ((head0 id).head 31).composed
    ∧ lineDep (head0 id) 31 fin0 ((head0 id).head 31).composed < (atTime (2 * (head0 id).time.now + 10 ^ 9) (head0 id)).time.now := by decide +kernel

/-- A row that the lane checks, both tiles departed. -/
def gone0 : State := head0 (fun d => { d with tiles := d.tiles.map (fun e => (e.1, { e.2 with departed := true })), rechecks := [⟨1, 0, 0, 60, 60, 60, none, false, 0, none⟩] })

/-- A check with its lane finished or not, and a disturbance of the result. -/
def obs (fin : Bool) (d : BitVec 32) : CheckObs := ⟨fin, 0, 0, 0, 0, d⟩

theorem witness_OutputChecks : (gone0.head 31).frame = some fin0
    ∧ tfind (gone0.head 31).tiles (1 * (gone0.head 31).cols + 0) = some { tileL with departed := true }
    ∧ tfind (gone0.head 31).tiles (1 * (gone0.head 31).cols + 1) = some { tileL with departed := true } ∧ 0 < (gone0.head 31).cols
    ∧ (gone0.head 31).recDone = false ∧ ({ tileL with departed := true } : TileOut).checked = false ∧ rowChecked (gone0.head 31) 31 1 fin0 = true
    ∧ (obs true 0).copyA = 0 ∧ (obs true 0).guardA = 0 ∧ (obs true 0).copyB = 0 ∧ (obs true 0).guardB = 0
    ∧ (gone0.head 31).unread.contains 1 = false ∧ 0 + 1 < (gone0.head 31).cols ∧ (obs true 1).disturb ≠ 0 ∧ (obs false 0).finished = false
    ∧ 1 + 1 = (gone0.head 31).cols := by decide +kernel

theorem witness_RowVerdictsAndRecords : 0 < inFrame0.cols ∧ tfind inFrame0.tiles (1 * inFrame0.cols + 1) = some tileL
    ∧ (∀ c : Nat, c < inFrame0.cols → (tfind inFrame0.tiles (1 * inFrame0.cols + c)).isSome = true)
    ∧ ((next0 id).head 31).frame = some fin0 ∧ ((next0 id).head 31).inFrame = false ∧ ((next0 id).head 31).recDone = false ∧ fin0.flaund = true
    ∧ afterLast (next0 id) 31 64 ≤ 2000000000
    ∧ ((next0 id).setDpPort 7 { dpInit with trained := true }).linkUp 31 = true ∧ (next0 id).alive = true ∧ ((next0 id).head 31).retime = none
    ∧ ((next0 (shad0 (fun d => { d with shadowDue := true }))).head 31).shadow = some tim0
    ∧ ((next0 (shad0 (fun d => { d with shadowDue := true }))).head 31).shadowDue = true
    ∧ ((next0 (shad0 (fun d => { d with shadowDue := true }))).head 31).recDone = false
    ∧ ((next0 (shad0 (fun d => { d with shadowDue := true }))).head 31).frame = some fin0
    ∧ ((next0 (shad0 (fun d => { d with shadowDue := true }))).head 31).inFrame = false
    ∧ afterLast (next0 (shad0 (fun d => { d with shadowDue := true }))) 31 64 ≤ 2000000000 := by
  decide +kernel

/-- Port 7 in a state, with a head on it. -/
def port0 (f : DpPort → DpPort) : State := (head0 id).setDpPort 7 (f { dpInit with mode := 1 })

/-- An MST port whose head waits for its time slots. -/
def slots0 : State := (head0 (fun d => { d with retime := some ret0 })).setDpPort 7 { dpInit with mode := 2, trained := true }

theorem witness_PortTraining : ((port0 (fun p => { p with training := true })).dpPort 7).training = true
    ∧ ((port0 (fun p => { p with training := true })).dpPort 7).unplugged = false ∧ awaitsSlots slots0 7 = true
    ∧ ((port0 id).dpPort 7).unplugged = false ∧ ((port0 (fun p => { p with failedT := some 5 })).dpPort 7).failedT = some 5 ∧ 5 + 1000000000 ≤ 1000000005
    ∧ ((port0 (fun p => { p with failedT := some 5 })).dpPort 7).mode ≠ 0 ∧ ((port0 (fun p => { p with failedT := some 5 })).dpPort 7).unplugged = false
    ∧ ((port0 (fun p => { p with trained := true })).dpPort 7).trained = true ∧ ((port0 (fun p => { p with trained := true })).dpPort 7).mode ≠ 0
    ∧ ((port0 (fun p => { p with trained := true })).dpPort 7).unplugged = false
    ∧ ((port0 (fun p => { p with unplugged := true })).dpPort 7).unplugged = true ∧ ((port0 (fun p => { p with unplugged := true })).dpPort 7).mode ≠ 0
    ∧ (slots0.dpPort 7).mode = 2 ∧ 31 ∈ slots0.portHeads 7 ∧ (slots0.head 31).unplugged = false ∧ 31 ∉ slots0.portHeads 0 := by decide +kernel

/-! ### The twin -/

/-- The seat of a pair with its twin unit changed. -/
def twin0 (f : Twin → Twin) : State := { hot0 with twin := f hot0.twin }

/-- A seat that waits for a HELLO over its own nonce. -/
def shake0 : State := twin0 (fun t => { t with nonce := zeros 16, verified := false })

/-- The body of a HELLO over that nonce from seat B, or from the seat given. -/
def hello1 (seat : Nat) : Bytes := zeros 80 ++ zeros 16 ++ le 1 seat ++ zeros 71

/-- What it says. -/
def hello2 (seat : Nat) : Hello := readHello false 1000000100 (flumeIn 1 false (hello1 seat)).2

/-- The signature and the image's digest are opaque to the model, so that the one verifies and the other is the HELLO's is supposed here. -/
theorem witness_TwinLink (digest : Config.sha256 shake0.life.slotA = zeros 32)
    (verifies : Config.ecdsaVerify shake0.twin.peerCert (helloBody (hello2 1)) (hello2 1).signature = true) :
    hot0.twin.linkOn = true ∧ 7 ∈ hot0.twin.lanes ∧ (twin0 (fun t => { t with linkDown := true, downTick := 58 })).twin.linkDown = true
    ∧ atSafePoint (twin0 (fun t => { t with linkDown := true, downTick := 58 })) = true ∧ hot0.twin.linkDown = false
    ∧ hot0.linkUsed = true ∧ twinPermitted hot0 = true ∧ hot0.twin.helloT = none
    ∧ shake0.receives 1 (twinPermitted shake0) (flume 1 false (hello1 1)) (flumeIn 1 false (hello1 1))
    ∧ (hello2 1).seat ≠ b2n shake0.seatB
    ∧ Config.ecdsaVerify (if (hello2 1).cert = [] then shake0.twin.peerCert else (hello2 1).cert) (helloBody (hello2 1)) (hello2 1).signature = true
    ∧ (hello2 1).installId = shake0.life.installId.getD (zeros 16) ∧ (hello2 1).fwDigest = shake0.fwDigest ∧ shake0.twin.nonce ≠ []
    ∧ (hello2 1).peerNonce = shake0.twin.nonce
    ∧ shake0.receives 1 (twinPermitted shake0) (flume 1 false (hello1 0)) (flumeIn 1 false (hello1 0))
    ∧ (hello2 0).seat = b2n shake0.seatB ∧ shake0.twin.helloFail ≠ 1 ∧ shake0.twin.join = none
    ∧ (twin0 (fun t => { t with replaced := true })).twin.replaced = true ∧ (twin0 (fun t => { t with replaced := true })).linkUsed = true
    ∧ hot0.twin.replacedT = none := by
  have hc : (hello2 1).cert = [] := by decide +kernel
  have hd : shake0.fwDigest = zeros 32 := by
    show padTo 32 (Config.sha256 shake0.life.slotA) = zeros 32
    rw [digest]; decide +kernel
  refine ⟨by decide +kernel, by decide +kernel, by decide +kernel, by decide +kernel, by decide +kernel, by decide +kernel, by decide +kernel, by decide +kernel,
    receives_flume _ _ _ _ _ (by decide +kernel) (by decide +kernel) (by decide +kernel), by decide +kernel, by rw [if_pos hc]; exact verifies, by decide +kernel,
    by rw [hd]; decide +kernel, by decide +kernel, by decide +kernel,
    receives_flume _ _ _ _ _ (by decide +kernel) (by decide +kernel) (by decide +kernel), by decide +kernel, by decide +kernel, by decide +kernel, by decide +kernel,
    by decide +kernel, by decide +kernel⟩

/-- A UDP heartbeat of the partner with its MAC. -/
def udpHb : UdpHeartbeat :=
  ⟨1 :: zeros 7 ++ le 8 60 ++ zeros 16, (Config.hmacSha256 (zeros 32) (1 :: zeros 7 ++ le 8 60 ++ zeros 16)).take 16, 1000000000⟩

/-- An installed seat of a pair with its partner stored. -/
def inst0 : State :=
  { (twin0 (fun t => { t with partner := some (zeros 16) })) with life := { hot0.life with installId := some (zeros 16), installKey := zeros 32 } }

theorem witness_TwinHeartbeats : hot0.receives 2 hot0.beats (flume 2 false []) (flumeIn 2 false [])
    ∧ ({ run0 with twin := { run0.twin with linkOn := true, lanes := [0] } }).linkUsed = true
    ∧ ({ run0 with twin := { run0.twin with linkOn := true, lanes := [0] } }).beats = false ∧ (mode0 .orphaned).beats = true
    ∧ (twin0 (fun t => { t with mode := .orphaned, partnerLost := true })).twin.partnerLost = true ∧ hot0.beats = true
    ∧ inst0.beats = true ∧ inst0.life.installId.isSome = true ∧ udpHb.mac = (Config.hmacSha256 inst0.life.installKey udpHb.body).take 16
    ∧ fld udpHb.body 0 1 ≠ b2n inst0.seatB ∧ inst0.twin.partner = some (slice udpHb.body 16 16)
    ∧ (∃ m : UdpHeartbeat, m.mac ≠ (Config.hmacSha256 hot0.life.installKey m.body).take 16)
    ∧ pathSilent hot0 hot0.time.tick 2 = true ∧ nth false hot0.twin.hbSaid 2 = false ∧ hot0.alive = true ∧ hot0.paired = true
    ∧ hot0.twin.peerLeft = none ∧ hot0.twin.partnerLost = false ∧ (∀ p : Nat, p < 3 → pathSilent hot0 (hot0.grid.decidedAt 1000000000) p = true)
    ∧ pathSilent (twin0 (fun t => { t with hbLast := [none, none, some 57] })) (hot0.grid.decidedAt 1000000000) 2 = false := by
  refine ⟨receives_flume _ _ _ _ _ (by decide +kernel) (by decide +kernel) (by decide +kernel), by decide +kernel, by decide +kernel, by decide +kernel,
    by decide +kernel, by decide +kernel, by decide +kernel, by decide +kernel, rfl, by decide +kernel,
    by decide +kernel, ⟨⟨[], 0 :: (Config.hmacSha256 hot0.life.installKey []).take 16, 0⟩, ?_⟩, by decide +kernel, by decide +kernel, by decide +kernel,
    by decide +kernel, by decide +kernel, by decide +kernel, by decide +kernel, by decide +kernel⟩
  intro h
  have := congrArg List.length h
  simp at this

/-- Seat B of the pair. -/
def seatB0 : State := { hot0 with seatB := true }

/-- A frame that waits for the peer's signatures. -/
def sigRec : SigRecord := ⟨5, false, 1, [], [], false, false, 1000000000, 59⟩

/-- A seat within the exchange of tick 59. -/
def xchg0 : State := twin0 (fun t => { t with xchgTick := some 59, ownAdmit := some (admitL 59 0) })

theorem witness_TwinExchanges : hot0.linkUsed = true ∧ hot0.hot = true ∧ hot0.timeLead = true ∧ 2 ≤ hot0.twin.lanesUsed
    ∧ leadStateT hot0 ≤ 2000000000 ∧ hot0.time.leadRecv = none ∧ leadStateT hot0 - 1 < leadStateT hot0
    ∧ seatB0.receives 4 (seatB0.hot && 2 ≤ seatB0.twin.lanesUsed) (flume 4 false []) (flumeIn 4 false []) ∧ seatB0.timeLead = false
    ∧ (flumeIn 4 false []).1.tick = seatB0.time.decided + 1
    ∧ hot0.receives 5 (hot0.hot && 2 ≤ hot0.twin.lanesUsed) (flume 5 false (zeros 48)) (flumeIn 5 false (zeros 48)) ∧ hot0.twin.xchgTick = none
    ∧ (flumeIn 5 false (zeros 48)).1.tick = hot0.time.decided + 1 ∧ xchgDeadline hot0 60 ≤ xchgDeadline hot0 60
    ∧ xchg0.twin.xchgTick = some 59 ∧ xchg0.twin.ownAdmit = some (admitL 59 0) ∧ (admitL 59 0).tick = 59 ∧ xchg0.twin.peerAdmit = none ∧ xchg0.hot = true
    ∧ xchg0.goesAlone = false
    ∧ hot0.receives 8 (hot0.hot && 2 ≤ hot0.twin.lanesUsed) (flume 8 false (zeros 16)) (flumeIn 8 false (zeros 16))
    ∧ ((hot0.modHead 31 (fun d => { d with sigs := [sigRec] })).head 31).sigs.find? (fun r => !r.compared) = some sigRec
    ∧ (hot0.modHead 31 (fun d => { d with sigs := [sigRec] })).hot = true ∧ 3 * sigRec.formedT + hot0.grid.p3 ≤ 3 * 1016666667
    ∧ hot0.receives 12 hot0.hot (flume 12 false []) (flumeIn 12 false []) ∧ hot0.twin.withdrawn = false
    ∧ hot0.receives 11 hot0.hot (flume 11 false []) (flumeIn 11 false []) :=
  ⟨by decide +kernel, by decide +kernel, by decide +kernel, by decide +kernel, by decide +kernel, by decide +kernel, by decide +kernel,
    receives_flume _ _ _ _ _ (by decide +kernel) (by decide +kernel) (by decide +kernel), by decide +kernel, by decide +kernel,
    receives_flume _ _ _ _ _ (by decide +kernel) (by decide +kernel) (by decide +kernel), by decide +kernel, by decide +kernel, by decide +kernel,
    by decide +kernel, by decide +kernel, by decide +kernel, by decide +kernel, by decide +kernel, by decide +kernel,
    receives_flume _ _ _ _ _ (by decide +kernel) (by decide +kernel) (by decide +kernel), by decide +kernel, by decide +kernel, by decide +kernel,
    receives_flume _ _ _ _ _ (by decide +kernel) (by decide +kernel) (by decide +kernel), by decide +kernel,
    receives_flume _ _ _ _ _ (by decide +kernel) (by decide +kernel) (by decide +kernel)⟩

/-- A CMD frame with a HEAD_DARK of head 1. -/
def cmdF (on : Nat) : CmdFrame := ⟨some ({ hd with transport := .pcie 0 }, .headDark 1 on), none, 1000000100⟩

/-- A pair whose seat A waits for the answer to frame 5. -/
def out0 (resent : Nat) : State :=
  { twin0 (fun t => { t with outstanding := [⟨5, false, 900000000, resent⟩] }) with
    cmd := { hot0.cmd with accepted := [⟨0, hd, .headDark 1 1, 61, some 5, false, false⟩] } }

theorem witness_TwinCommands : seatB0.receives 9 seatB0.hot (flume 9 false []) (flumeIn 9 false [])
    ∧ seenFrame seatB0 (flumeIn 9 false []).1.fseq = false
    ∧ checkCmd { (atTime 1000000100 seatB0) with twin := { (takeFrame 9 seatB0.hot (flume 9 false []) seatB0).2.twin with rxCmd := some (flumeIn 9 false []).1.fseq } }
        { hd with transport := .peer } (.headDark 1 1) = none
    ∧ checkCmd { (atTime 1000000100 seatB0) with twin := { (takeFrame 9 seatB0.hot (flume 9 false []) seatB0).2.twin with rxCmd := some (flumeIn 9 false []).1.fseq } }
        { hd with transport := .peer } (.headDark 1 2) = some (.rejRange, 7)
    ∧ ({ seatB0 with twin := { seatB0.twin with rxCmd := some 5 } }).receives 9 seatB0.hot (flume 9 true []) (flumeIn 9 true [])
    ∧ seenFrame { seatB0 with twin := { seatB0.twin with rxCmd := some 5 } } (flumeIn 9 true []).1.fseq = true
    ∧ (out0 2).receives 10 (out0 2).hot (flume 10 false []) (flumeIn 10 false [])
    ∧ (out0 2).linkUsed = true ∧ (out0 2).hot = true ∧ (out0 2).twin.outstanding.any (fun o => o.fseq == 5 && !o.snap) = true ∧ 0xFF < 0x100 ∧ 0x100 ≤ 0x100
    ∧ (out0 2).twin.outstanding.find? (fun o => o.fseq == 5 && o.snap == false) = some ⟨5, false, 900000000, 2⟩ ∧ 900000000 + 20000 ≤ 900020000 ∧ 2 < 3
    ∧ (out0 2).cmd.accepted.find? (fun a => a.fseq == some 5 && !a.peer) = some ⟨0, hd, .headDark 1 1, 61, some 5, false, false⟩ ∧ (out0 2).routeBoth = false
    ∧ (out0 3).twin.outstanding.find? (fun o => o.fseq == 5 && o.snap == false) = some ⟨5, false, 900000000, 3⟩ ∧ 3 ≤ 3 := by
  have hb : takeFrame 9 seatB0.hot (flume 9 false []) seatB0 = (some (flumeIn 9 false []), framed seatB0) :=
    takes_flume _ _ _ _ _ (by decide +kernel) (by decide +kernel) (by decide +kernel)
  rw [hb]
  exact ⟨receives_flume _ _ _ _ _ (by decide +kernel) (by decide +kernel) (by decide +kernel), by decide +kernel, by decide +kernel, by decide +kernel,
    receives_flume _ _ _ _ _ (by decide +kernel) (by decide +kernel) (by decide +kernel), by decide +kernel,
    receives_flume _ _ _ _ _ (by decide +kernel) (by decide +kernel) (by decide +kernel),
    by decide +kernel, by decide +kernel, by decide +kernel, by decide, by decide, by decide +kernel, by decide, by decide, by decide +kernel,
    by decide +kernel, by decide +kernel, by decide⟩

/-- A transfer under way. -/
def send0 : Sending := ⟨1, takeSnapshot 60 hot0, 8193, 4096, 0, false, 0⟩

/-- A standby with a snapshot of an instant. -/
def stand0 : State := twin0 (fun t => { t with mode := .coldStandby, snapT := some 5, receiving := some ⟨0, 1, 60, 3, [1]⟩ })

/-- A COLD-ACTIVE seat that sends, or is about to. -/
def coldA (x : Option Sending) : State := twin0 (fun t => { t with mode := .coldActive, sending := x })

theorem witness_SnapshotTransfers : stand0.receives 13 (takesSnapshot stand0 0) (flume 13 false []) (flumeIn 13 false [])
    ∧ (flumeIn 13 false []).1.resend = false ∧ (seg 0 2 [1] 0).offset = 0 ∧ (seg 0 2 [1] 0).data.length < (seg 0 2 [1] 0).total
    ∧ stand0.receives 13 (takesSnapshot stand0 0) (flume 13 true []) (flumeIn 13 true []) ∧ (flumeIn 13 true []).1.resend = true
    ∧ knownSegment (seg 0 3 [1] 0) stand0 = true
    ∧ (seg 1 3 [2, 3] 0).offset ≠ 0 ∧ stand0.twin.receiving = some ⟨0, 1, 60, 3, [1]⟩ ∧ (⟨0, 1, 60, 3, [1]⟩ : Receiving).snapId = (seg 1 3 [2, 3] 0).snapId
    ∧ (⟨0, 1, 60, 3, [1]⟩ : Receiving).data.length = (seg 1 3 [2, 3] 0).offset ∧ 3 ≤ ([(1 : Byte)] ++ [2, 3]).length ∧ snapshotCrc ([1] ++ [2, 3]) ≠ (seg 1 3 [2, 3] 0).crc
    ∧ (coldA (some send0)).receives 14 (coldA (some send0)).twin.sending.isSome (flume 14 false []) (flumeIn 14 false [])
    ∧ (coldA (some send0)).twin.sending = some send0 ∧ (coldA (some send0)).twin.linkDown = false ∧ send0.acked + 4096 < send0.size
    ∧ (coldA none).linkUsed = true ∧ (coldA none).twin.mode = .coldActive ∧ (coldA none).twin.sending = none ∧ (coldA none).twin.snapSentT = none
    ∧ stand0.alive = true ∧ stand0.twin.mode = .coldStandby ∧ stand0.twin.snapT = some 5
    ∧ 5 + 3000000000 * pv stand0.cfg pTwinSnapPeriod 0 < 6 + 3000000000 * pv stand0.cfg pTwinSnapPeriod 0 ∧ stand0.twin.snapOldSaid = false :=
  ⟨receives_flume _ _ _ _ _ (by decide +kernel) (by decide +kernel) (by decide +kernel), by decide +kernel, rfl, by decide,
    receives_flume _ _ _ _ _ (by decide +kernel) (by decide +kernel) (by decide +kernel), by decide +kernel, by decide +kernel, by decide, rfl, rfl, rfl,
    by decide, by decide +kernel, receives_flume _ _ _ _ _ (by decide +kernel) rfl (by decide +kernel), rfl, by decide +kernel, by decide,
    by decide +kernel, rfl, rfl, rfl, by decide +kernel, rfl, rfl, by decide +kernel, by decide +kernel⟩

/-- Stream 127 of a pair, in a state, that lacks a number before one it has seen. -/
def bor0 (m : Stream) : State := withPar pSrcEnable 127 1 (withAddr pSrcDestA 127 group0 (withPar pNetPortMode 3 1 (hot0.setStream 127 m)))

/-- A packet held. -/
def held0 : Held := ⟨65635, 0, 900000000, 900000000, true, .nals [[0x26, 1, 0x88]], [1]⟩

/-- A stream that lacks number 65634. -/
def gap0 : Stream := { sess .flowing with lastAuEnd := some 65633, seen := [⟨65635, 0, 900000000, false⟩], aus := [au none] }

theorem witness_Borrowing : (bor0 gap0).borrows = true ∧ (bor0 gap0).linkUsed = true ∧ 65634 ∈ missing (bor0 gap0) 127
    ∧ waited (bor0 gap0) 127 65634 (900000000 + 1000 * pv (bor0 gap0).cfg pTwinBorrowWait 0) = true
    ∧ ((bor0 gap0).stream 127).highExt = some 65635 ∧ ((bor0 gap0).stream 127).state = .flowing ∧ ownSilent (bor0 gap0) 127 1000000000 = true
    ∧ tfind (bor0 gap0).twin.borrowOpen 127 = none
    ∧ (bor0 gap0).receives 6 ((bor0 gap0).hot && 2 ≤ (bor0 gap0).twin.lanesUsed) (flume 6 false []) (flumeIn 6 false [])
    ∧ heldPacket (bor0 gap0) 127 65634 = none ∧ heldPacket (bor0 gap0) 127 65635 = some held0
    ∧ (bor0 gap0).twin.lendT + 1000000 ≤ 1000000100 ∧ held0.bytes.length ≤ 1562500
    ∧ (bor0 gap0).receives 7 ((bor0 gap0).hot && 2 ≤ (bor0 gap0).twin.lanesUsed) (flume 7 false []) (flumeIn 7 false [])
    ∧ streamOn (bor0 gap0).cfg 127 = true
    ∧ tfind (twin0 (fun t => { t with lendOpen := [(127, 5)] })).twin.lendOpen 127 = some 5 :=
  ⟨by decide +kernel, by decide +kernel, by decide +kernel, by decide +kernel, by decide +kernel, by decide +kernel, by decide +kernel, by decide +kernel,
    receives_flume _ _ _ _ _ (by decide +kernel) (by decide +kernel) (by decide +kernel), by decide +kernel, by decide +kernel, by decide +kernel,
    by decide, receives_flume _ _ _ _ _ (by decide +kernel) (by decide +kernel) (by decide +kernel), by decide +kernel, by decide +kernel⟩

/-! ### Encode, power, test -/

/-- A session of head 31, whose 128 by 128 pixels it encodes. -/
def enc0 (f : Session → Session) : State :=
  withPar pEncHead 15 31 (withPar pEncArea 15 (128 * 2 ^ 32 + 128 * 2 ^ 48) ((head0 id).setSession 15 (f { sessionInit with running := true })))

/-- A picture with rows coded. -/
def encF (n : Nat) : EncFrame := ⟨60, 0, 5, false, false, (List.range n).map (fun r => (r, false)), 0, 0, 0, 0, [], [], 0, 0, [], false, false⟩

theorem witness_EncodeSessions : ((enc0 (fun e => { e with cur := some (encF 1) })).session 15).running = true
    ∧ ((enc0 id).head (pv (enc0 id).cfg pEncHead 15)).frame = some fin0 ∧ ((enc0 id).head (pv (enc0 id).cfg pEncHead 15)).allDark = false
    ∧ ((enc0 id).head (pv (enc0 id).cfg pEncHead 15)).inFrame = true
    ∧ ((enc0 id).head (pv (enc0 id).cfg pEncHead 15)).frameCnt % cadence (enc0 id) 15 = 0 ∧ 1 < encRows (enc0 id).cfg 15
    ∧ ((enc0 (fun e => { e with cur := some (encF 1) })).session 15).cur = some (encF 1)
    ∧ (encF 1).frameCnt = ((enc0 id).head (pv (enc0 id).cfg pEncHead 15)).frameCnt ∧ (encF 1).rows.length = 1
    ∧ pv (enc0 (fun e => { e with cur := some (encF 1) })).cfg pEncQpMin 15 ≤ pv (enc0 (fun e => { e with cur := some (encF 1) })).cfg pEncQpMax 15
    ∧ ((enc0 id).session 15).stopping = false ∧ ((enc0 id).session 15).cur = none ∧ encRows (enc0 id).cfg 15 ≤ (encF 2).rows.length
    ∧ ((enc0 (fun e => { e with cur := some (encF 2) })).session 15).cur = some (encF 2)
    ∧ assemblyDue (enc0 (fun e => { e with cur := some (encF 2) })) 15 (pv (enc0 id).cfg pEncHead 15) (encF 2) 2000000000 = true
    ∧ ((enc0 (fun e => { e with stopping := true })).session 15).stopping = true ∧ ((enc0 id).session 15).suppressed = false
    ∧ ((enc0 id).session 15).srT + 1000000000 ≤ 1000000000 ∧ (enc0 id).twin.mode ≠ .coldStandby := by decide +kernel

/-- A device whose power unit is changed. -/
def pow0 (f : Power → Power) : State := { run0 with power := f run0.power }

/-- A device in a phase. -/
def phase0 (p : Phase) : State := pow0 (fun w => { w with phase := p })

theorem witness_ResetAndSupply : run0.power.resetLow = false ∧ (run0.power.thermtrip = true → run0.power.tj < 1520)
    ∧ (pow0 (fun w => { w with resetLow := true, resetFallT := 990000000 })).power.resetLow = true
    ∧ (pow0 (fun w => { w with resetLow := true, resetFallT := 990000000 })).power.resetFallT + 10000 ≤ (⟨true, true, true, 990010000⟩ : ResetInputs).at'
    ∧ (⟨true, true, true, 990009999⟩ : ResetInputs).at' < (pow0 (fun w => { w with resetFallT := 990000000 })).power.resetFallT + 10000 := by decide +kernel

theorem witness_StartAndShutdown : (phase0 (.starting 0)).power.phase = .starting 0 ∧ (phase0 (.starting 0)).test.run = none ∧ (phase0 (.starting 0)).power.warm = false
    ∧ (phase0 (.starting 9)).power.phase = .starting 9 ∧ 1 ≤ 9 ∧ 9 ≤ 9 ∧ (phase0 (.starting 10)).power.phase = .starting 10
    ∧ (phase0 (.stopping 0)).power.phase = .stopping 0 ∧ (phase0 (.stopping 1)).power.phase = .stopping 1 ∧ (phase0 (.stopping 2)).power.phase = .stopping 2
    ∧ (phase0 (.stopping 3)).power.phase = .stopping 3 ∧ (phase0 (.stopping 3)).test.run = none ∧ (phase0 (.stopping 4)).power.phase = .stopping 4
    ∧ (phase0 (.stopping 4)).power.restartHdr = none := by decide +kernel

theorem witness_ThermalLimits : run0.powered = true ∧ (∀ i : Nat, i < 16 → (run0.sensor i).faulty = false) ∧ 1999 < (2000 : Int) ∧ (2000 : Int) ≤ 2000
    ∧ 1 ≤ (pow0 (fun w => { w with tripRun := 1 })).power.tripRun
    ∧ (if (pow0 (fun w => { w with variantE := false, tj := 1681, level := .throttle })).power.variantE then 1840 else 1680)
        < (pow0 (fun w => { w with variantE := false, tj := 1681, level := .throttle })).power.tj
    ∧ (pow0 (fun w => { w with level := .throttle })).power.level = .throttle ∧ run0.power.levelT + 10000000000 ≤ 10000000000
    ∧ 39 * (pow0 (fun w => { w with vAvs := 800 })).power.vAvs ≤ 40 * 780 ∧ 40 * 820 ≤ 41 * (pow0 (fun w => { w with vAvs := 800 })).power.vAvs
    ∧ 40 * 779 < 39 * (pow0 (fun w => { w with vAvs := 800 })).power.vAvs := by decide +kernel

/-- A queue with a record. -/
def flash0 : State := pow0 (fun w => { w with flashQ := [.lifecycle 2], cfgDirty := true })

theorem witness_FlashWrites : flash0.power.flashQ = .lifecycle 2 :: [] ∧ flash0.flashAllowed = true ∧ flash0.flashWindow = true ∧ flash0.alive = true
    ∧ (atTime 1000000100 flash0).snapWriteDue = true ∧ flash0.twin.mode ≠ .coldStandby ∧ flash0.power.cfgDirty = true
    ∧ ({ stand0 with twin := { stand0.twin with snapHeld := some ⟨0, 1, 60, 1, [1]⟩ } }).twin.snapHeld = some ⟨0, 1, 60, 1, [1]⟩
    ∧ stand0.twin.snapFlash ≠ some ⟨0, 1, 60, 1, [1]⟩ ∧ stand0.flashAllowed = true ∧ stand0.flashWindow = true
    ∧ (atTime 1000000100 stand0).snapWriteDue = true := by decide +kernel

/-- A record of a passed test. -/
def rec0 : TestRecord := ⟨1, 0, 0, 5, 1000000000, 0, 100, 100, 100, 0, 0, 0, 0, 0, 0, 400, 400, 1, true⟩

/-- A device in slice mode. -/
def slice0 : State := { run0 with test := { run0.test with sliceMode := true, record := some rec0 } }

theorem witness_SelfTestAndService : run0.powered = true ∧ sliceAllowed (atTime 1000000100 slice0) (.decodeLane 11) = true ∧ slice0.test.run = none
    ∧ (∃ q ∈ sweepParts slice0, q.1 ≠ (slicePart (.decodeLane 11)).1 ∧ ¬(100 ≤ q.1 ∧ q.1 < 200) ∧ tget 0 slice0.test.swept q.1 < q.2)
    ∧ slice0.powered = true ∧ slice0.test.record = some rec0 ∧ rec0.quickOk = true ∧ slice0.test.expired = false
    ∧ serv0.life.state = .service ∧ serv0.life.serviceEnd = some 2000000000 ∧ serv0.powered = true ∧ serv0.mem.fatal = false
    ∧ 2000000000 ≤ 2000000000 := by
  refine ⟨by decide +kernel, by decide +kernel, by decide +kernel, ⟨(10, 400), ?_⟩, by decide +kernel, by decide +kernel, by decide +kernel, by decide +kernel, by decide +kernel,
    by decide +kernel, by decide +kernel, by decide +kernel, by decide⟩
  refine ⟨List.mem_append_left _ (List.mem_append_left _ (List.mem_append_left _ (List.mem_append_left _ ?_))), by decide +kernel, by decide, by decide +kernel⟩
  decide +kernel

/-! ### Commands at their tick, and the whole -/

/-- A command accepted on the SPI port. -/
def acc (k : Cmd) : Accepted := ⟨0, hd, k, 60, none, true, false⟩

/-- Whether a command can take effect at tick 60, as `AppliedCommands` supposes. -/
def applies (s : State) (k : Cmd) : Bool :=
  !cannotApply 60 (acc k).cmd { s with twin := { s.twin with
    peerCmds := s.twin.peerCmds.filter (fun e => !(e.1 == (acc k).hdr.seq && e.2.1 == (acc k).hdr.crc)) } }

theorem witness_AppliedCommands : (acc (.encIdr 1)).fseq = none ∧ (acc (.encIdr 1)).hdr.transport ≠ .reg ∧ applies run0 (.bufRegister 1023 0 64 64 0 256 []) = true
    ∧ applies buf0 (.bufUnregister 5) = true
    ∧ applies (withPar pPaneGroup 0 63 buf0) (.flip 63 [{ layer0 with source := 128, buf := 5, fence := 3 }]) = true
    ∧ applies run0 (.colourStage 31 3 (zeros 48)) = true ∧ applies (run0.modHead 31 (fun d => { d with stagedMask := 127 })) (.colourCommit 31) = true
    ∧ applies run0 (.scalerCoefLoad 15 coefBytes) = true ∧ applies buf0 (.legendRegister 8 0 2) = true ∧ applies buf0 (.legendDelete 9) = true
    ∧ applies (enc0 id) (.encIdr 0x8000) = true ∧ bit 0x8000 15 = true ∧ ((enc0 id).session 15).running = true := by decide +kernel

theorem witness_StepKeepsDramCanonical : Memory.wf run0.dram = true ∧ step run0 = .next run0 := ⟨by decide +kernel, rfl⟩

theorem witness_StepFrame : ∃ t, step { run0 with pending := [.pciePerstNLow] } = .next t := ⟨_, rfl⟩

theorem witness_FrameNumbers : ((next0 id).head 31).nextIn = fin0 :: [] := by decide +kernel

theorem witness_VerdictCodes : [Verdict.live] ≠ [] := by decide

theorem witness_StatusReads : reply0.powered = true ∧ reply0.cmd.spi.replies ≠ [] ∧ reply0.bar0Open = true ∧ reply0.cmd.irqCause.getLsbD 9 = true := by decide +kernel

/-! ## Single steps

Expected values are the spec's, or worked out by hand from its rules. -/

/-- The state that a command leads to, and the state itself where it leads to none. -/
def after (i : Instr) (s : State) : State :=
  match exec i s with
  | .next t => t
  | .fault _ => s
  | .refused _ => s

/-- R322: the check values of the four algorithms over "123456789". -/
theorem test_crc_check_values : crcOf 0 none [0x31, 0x32, 0x33, 0x34, 0x35, 0x36, 0x37, 0x38, 0x39] = 0xE3069283
    ∧ crcOf 1 none [0x31, 0x32, 0x33, 0x34, 0x35, 0x36, 0x37, 0x38, 0x39] = 0xCBF43926
    ∧ crcOf 2 none [0x31, 0x32, 0x33, 0x34, 0x35, 0x36, 0x37, 0x38, 0x39] = 0x29B1
    ∧ crcOf 3 none [0x31, 0x32, 0x33, 0x34, 0x35, 0x36, 0x37, 0x38, 0x39] = 0x995DC9BBDF1939FA := by decide +kernel

/-- R42: at 60 ticks a second, tick 60 begins after exactly one second, and tick 1 after 16,666,666 ns and two thirds. -/
theorem test_tick_grid : run0.grid.tickT 60 = 1000000000 ∧ run0.grid.tickT 1 = 16666666 ∧ run0.grid.tickT 3 = 50000000 := by decide +kernel

/-- R364: a doorbell outside the ring of 8 sets DOORBELL_ERR, one inside moves the tail. -/
theorem test_sq_tail : ((after (.cmdqSqTail 7 8 5) (withQueue pair0)).queue 7).doorbellErr = true
    ∧ ((after (.cmdqSqTail 7 7 5) (withQueue pair0)).queue 7).tail = 7 := by decide +kernel

/-- R361, R363: a command that arrives at 1 s joins with the first tick whose decision point is 20 µs ahead, here tick 61. -/
theorem test_head_dark_joins : ((after (.headDark hd 1 1) run0).cmd.accepted.map (fun a => (a.tick, a.hdr.tag))) = [(61, 7)]
    ∧ (after (.headDark hd 1 1) run0).cfg.darkCmd = 0 := by decide +kernel

/-- R357: an unknown pane is REJ_RESOURCE at its word, one out of range REJ_RANGE. -/
theorem test_pane_delete_rejected : checkCmd (atTime 1000000001 run0) hd (.paneDelete 511) = some (.rejResource, 6)
    ∧ checkCmd (atTime 1000000001 run0) hd (.paneDelete 512) = some (.rejRange, 6) := by decide +kernel

/-- R305: a channel-local offset and its device address name each other, in rank 1 too. -/
theorem test_address_inverse : (placeOf memInit (addrOf memInit 5 (896 * 1500000))).ch = 5
    ∧ (placeOf memInit (addrOf memInit 5 (896 * 1500000))).seg = 1500000 ∧ (placeOf memInit (addrOf memInit 5 (896 * 1500000))).gi = 0
    ∧ 7 * 2 ^ 30 ≤ addrOf memInit 5 (896 * 1500000) := by decide +kernel

/-- R302, R121: pools from the lowest free address upwards, past the host region; none where nothing is free. -/
theorem test_lowest_free : lowestFree [(2 ^ 32, 2 ^ 31)] (2 ^ 28) = some (2 ^ 28) ∧ lowestFree [(2 ^ 32, 2 ^ 31), (2 ^ 28, 2 ^ 31)] (2 ^ 31) = some (3 * 2 ^ 31)
    ∧ lowestFree [(2 ^ 32, 2 ^ 31)] (2 ^ 33) = none := by decide +kernel

/-- R303: what is written through the aperture reads back, and a zero byte leaves the cell unlisted. -/
theorem test_aperture : dramRead (after (.bar2Write 16 [1, 0, 3]) run0).dram (bar2Addr run0 16) 3 = [1, 0, 3]
    ∧ (after (.bar2Write 16 [1, 0, 3]) run0).dram.length = 2 := by decide +kernel

/-- R79: a DARK pin that is asserted blanks the heads mapped to it at once. -/
theorem test_dark_pin : ((after (.darkPinEdge 3 true 1000000100) { (head0 id) with pins := { run0.pins with darkMap := [0, 0, 0, 2 ^ 31], darkPol := 0 } }).head 31).blankNow
    = true := by decide +kernel

/-- R80, R212: a tile without its pixels is UNVERIFIED, and the live state falls. -/
theorem test_underflow : ((after (.tileDeparture ⟨31, 1, 1⟩ true) (head0 id)).head 31).live = false
    ∧ (tfind ((after (.tileDeparture ⟨31, 1, 1⟩ true) (head0 id)).head 31).tiles 3).map (fun x => x.verdict) = some .unverified := by decide +kernel

/-- A head of 66 by 66 pixels whose last tile, of 2 by 2 pixels, is checked. -/
def gone1 : State := gone0.modHead 31 (fun d => { d with timing := { tim0 with hactive := 66, vactive := 66 } })

/-- R219, R334: a disturbed signature is a mismatch. -/
theorem test_mismatch : ((after (.outputCheckComplete ⟨31, 1, 1⟩ (obs true 1) 1000000100) gone1).head 31).cnt.mismatch = 1
    ∧ ((after (.outputCheckComplete ⟨31, 1, 1⟩ (obs true 0) 1000000100) gone1).head 31).cnt.mismatch = 0 := by decide +kernel

/-- R349: the level is accepted only after EVI_DEB. -/
theorem test_evi_debounce : ((after (.eviAccept 31 1000000100) (withPar pEviDeb 31 200 (eviRun false))).eviIn 31).level = false
    ∧ ((after (.eviAccept 31 1100000000) (withPar pEviDeb 31 200 (eviRun false))).eviIn 31).level = true := by decide +kernel

/-- R145, R153: a repeated payload freezes the source, with one FREEZE_SET. -/
theorem test_freeze_set : ((freezeEval 127 (frzIn 9) (frz0 false)).2.events.history.map (fun e => e.code)) = [.freezeSet]
    ∧ ((freezeEval 127 (frzIn 8) (frz0 false)).2.frz 127).frz = false := by decide +kernel

/-- R318: a failed check of a switch is retried in the next tick. -/
theorem test_switch_retry : ((after (.setpointSwitch false 400 true 2000000000) (withMem (fun m => { m with switch := some (sw 60 0) }))).mem.switch.map
    (fun w => (w.tick, w.fails))) = some (61, 1) := by decide +kernel

/-- R413: two samples in a row at 125 °C trip the device. -/
theorem test_thermal_trip : (after (.thermalSample (List.replicate 16 2000) 1000000100) run0).power.phase = .running
    ∧ (after (.thermalSample (List.replicate 16 2000) 1000000200) (pow0 (fun w => { w with tripRun := 1 }))).power.phase = .tripped := by decide +kernel

/-- R238: with all three paths silent an active seat of a pair is ORPHANED. -/
theorem test_partner_failed : (after (.partnerFailed 1000000000) hot0).twin.mode = .orphaned := by decide +kernel

/-- R376, R303: addresses that do not exist. -/
theorem test_bad_addresses : exec (.registerWrite 65536 0) run0 = .fault .badAddress ∧ exec (.bar2Write (2 ^ 28) [0]) run0 = .fault .badAddress := ⟨rfl, rfl⟩

/-- No row of the table gives bits, so no word spells a command and none is put into the queue (log 4). -/
theorem test_no_word_spells : decodeTableWord 16 5 = none ∧ (run0.withFetchWord 16 5).pending = run0.pending := ⟨rfl, rfl⟩

end Sys2Proof.Tests
end

section
/-! The codes of the verdicts, and the worst of several (R60). -/
namespace Sys2Proof.Machine

/-- Codes 0 to 6 are in use, 7 is reserved (R60). -/
theorem Verdict.code_lt_seven (v : Verdict) : v.code < 7 := by
  cases v <;> decide

@[simp] theorem verdictOf_code (v : Verdict) : verdictOf v.code = v := by
  cases v <;> rfl

theorem Verdict.code_injective : Function.Injective Verdict.code :=
  Function.LeftInverse.injective verdictOf_code

theorem code_worse (a b : Verdict) : (worse a b).code = max a.code b.code := by
  unfold worse
  split
  · next hlt => exact (Nat.max_eq_right (Nat.le_of_lt hlt)).symm
  · next hge => exact (Nat.max_eq_left (Nat.le_of_not_lt hge)).symm

/-- LIVE, where `worstOf` begins, never hides a verdict: it is the least code. -/
@[simp] theorem worse_live_left (v : Verdict) : worse .live v = v :=
  Verdict.code_injective ((code_worse .live v).trans (Nat.zero_max _))

theorem worse_eq_or (a b : Verdict) : worse a b = a ∨ worse a b = b := by
  unfold worse
  split
  · exact .inr rfl
  · exact .inl rfl

/-- The codes carry `worse` to `max`, so the worst of several has the maximum of their codes. -/
theorem code_worstOf (l : List Verdict) : (worstOf l).code = (l.map Verdict.code).max?.getD 0 := by
  have hfold : (worstOf l).code = l.foldl (fun n v => max n v.code) 0 :=
    (List.foldl_hom Verdict.code fun a b => (code_worse a b).symm).symm
  rw [hfold, ← List.foldl_map, List.foldl_max, Nat.zero_max]

theorem code_le_code_worstOf {l : List Verdict} {v : Verdict} (hv : v ∈ l) : v.code ≤ (worstOf l).code := by
  rw [code_worstOf]
  exact List.le_max?_getD_of_mem (List.mem_map_of_mem hv)

theorem foldl_worse_mem (a : Verdict) (l : List Verdict) : l.foldl worse a ∈ a :: l := by
  induction l generalizing a with
  | nil => exact List.mem_singleton.mpr rfl
  | cons b l ih =>
    have hhead : worse a b ∈ a :: b :: l :=
      List.mem_cons.mpr ((worse_eq_or a b).imp_right fun h => List.mem_cons.mpr (.inl h))
    have htail : l ⊆ a :: b :: l := fun _ hv => List.mem_cons_of_mem a (List.mem_cons_of_mem b hv)
    exact List.cons_subset.mpr ⟨hhead, htail⟩ (ih (worse a b))

theorem worstOf_mem {l : List Verdict} (hl : l ≠ []) : worstOf l ∈ l := by
  cases l with
  | nil => exact absurd rfl hl
  | cons v l =>
    have hfold : worstOf (v :: l) = l.foldl worse v := congrArg (l.foldl worse) (worse_live_left v)
    exact hfold ▸ foldl_worse_mem v l

/-- Settles O58: the codes separate the verdicts, `worse` is `max` on them, and folding it from LIVE gives an upper bound that is in the list. -/
theorem verdictCodes : Obligations.VerdictCodes :=
  ⟨rfl, fun v => ⟨v.code_lt_seven, verdictOf_code v⟩, code_worse, fun _ => ⟨fun _ hv => code_le_code_worstOf hv, worstOf_mem⟩⟩

end Sys2Proof.Machine
end

section
/-! The frame counts of the heads (R194). At a head's frame start one field of one head takes the frame's number; everything else that happens there
either leaves the table of heads as it is, or changes a head in other fields than its count. -/
namespace Sys2Proof.Machine

/-! ## The counts of a table of heads -/

/-- HEAD_FRAME_CNT of each head of a table (R194). -/
def frameCnts (t : Table Head) (g : Nat) : Nat := (tget headInit t g).frameCnt

theorem head_of_heads_eq {s t : State} (h : t.heads = s.heads) (g : Nat) : t.head g = s.head g :=
  congrArg (tget headInit · g) h

theorem head_frameCnt (s : State) (g : Nat) : (s.head g).frameCnt = frameCnts s.heads g := rfl

/-- Between two states the count of one head becomes a number, and every other head keeps its count. -/
def SetsFrameCnt (h n : Nat) (s t : State) : Prop :=
  (t.head h).frameCnt = n ∧ ∀ g : Nat, g ≠ h → (t.head g).frameCnt = (s.head g).frameCnt

/-- Whether one count is set depends on the counts before and after only. -/
theorem SetsFrameCnt.congr {h n : Nat} {s s' t t' : State} (hset : SetsFrameCnt h n s t)
    (hs : frameCnts s'.heads = frameCnts s.heads) (ht : frameCnts t'.heads = frameCnts t.heads) : SetsFrameCnt h n s' t' := by
  obtain ⟨hcnt, hothers⟩ := hset
  exact ⟨(congrFun ht h).trans hcnt, fun g hg => (congrFun ht g).trans ((hothers g hg).trans (congrFun hs g).symm)⟩

theorem setsFrameCnt_modHead (s : State) (i : Nat) (f : Head → Head) : SetsFrameCnt i (f (s.head i)).frameCnt s (s.modHead i f) :=
  ⟨congrArg Head.frameCnt (head_setHead s i _), fun _ hg => congrArg Head.frameCnt (head_setHead_ne s i _ hg)⟩

theorem frameCnts_modHead_of_eq (s : State) (i : Nat) {f : Head → Head} (hf : (f (s.head i)).frameCnt = (s.head i).frameCnt) :
    frameCnts (s.modHead i f).heads = frameCnts s.heads := by
  obtain ⟨hcnt, hothers⟩ := setsFrameCnt_modHead s i f
  funext g
  by_cases hg : g = i
  · exact hg ▸ hcnt.trans hf
  · exact hothers g hg

theorem frameCntOf_half {t : HeadTiming} (ht : t.mult = 0) (n : Nat) (second : Bool) : frameCntOf t n second = n / 2 % 2 ^ 32 := by
  rw [frameCntOf, if_pos ht]

theorem frameCntOf_one {t : HeadTiming} (ht : t.mult = 1) (n : Nat) (second : Bool) : frameCntOf t n second = n % 2 ^ 32 := by
  rw [frameCntOf, if_neg (by omega), if_pos ht]

theorem frameCntOf_double {t : HeadTiming} (h0 : t.mult ≠ 0) (h1 : t.mult ≠ 1) (n : Nat) (second : Bool) :
    frameCntOf t n second = (2 * n + if second then 1 else 0) % 2 ^ 32 := by
  rw [frameCntOf, if_neg h0, if_neg h1, b2n]

/-! ## What a frame's start leaves of the heads -/

/-- What each step of a fold leaves of the heads, the fold leaves. -/
theorem heads_foldl {α : Type} {f : State → α → State} (hf : ∀ s x, (f s x).heads = s.heads) (l : List α) (s : State) :
    (l.foldl f s).heads = s.heads := by
  induction l generalizing s with
  | nil => rfl
  | cons x l ih => exact (ih (f s x)).trans (hf s x)

@[simp] theorem settlePins_heads (s : State) : (settlePins s).heads = s.heads := by
  unfold settlePins
  dsimp only
  split <;> rfl

@[simp] theorem sendMsa_heads (h : Nat) (fi : FrameIn) (s : State) : (sendMsa h fi s).heads = s.heads := by
  unfold sendMsa
  split
  · rfl
  · split
    · rfl
    · dsimp only
      split <;> rfl

@[simp] theorem leaveFuture_heads (h : Nat) (s : State) : (leaveFuture h s).heads = s.heads := rfl

@[simp] theorem noteFuture_heads (h : Nat) (fi : FrameIn) (s : State) : (noteFuture h fi s).heads = s.heads := by
  unfold noteFuture
  refine heads_foldl (fun a x => ?_) _ _
  dsimp only
  split
  · exact raise_heads ..
  · rfl

@[simp] theorem noteClips_heads (fi : FrameIn) (s : State) : (noteClips fi s).heads = s.heads := by
  unfold noteClips
  refine heads_foldl (fun a p => ?_) _ _
  split
  · dsimp only
    split
    · exact raise_heads ..
    · rfl
  · rfl

@[simp] theorem noteLegends_heads (h : Nat) (fi : FrameIn) (s : State) : (noteLegends h fi s).heads = s.heads := rfl

@[simp] theorem noteScans_heads (h : Nat) (fi : FrameIn) (s : State) : (noteScans h fi s).heads = s.heads := by
  unfold noteScans
  refine heads_foldl (fun a p => ?_) _ _
  split
  · split
    · split <;> rfl
    · rfl
  · rfl

theorem frameCnts_noteFlip (h : Nat) (fi : FrameIn) (s : State) : frameCnts (noteFlip h fi s).heads = frameCnts s.heads := by
  unfold noteFlip
  dsimp only
  split <;> exact frameCnts_modHead_of_eq _ _ rfl

theorem frameCnts_noteFrame (h cnt : Nat) (start : Time64) (black : Bool) (panes : List Nat) (s : State) :
    frameCnts (noteFrame h cnt start black panes s).heads = frameCnts s.heads :=
  frameCnts_modHead_of_eq _ _ rfl

/-! ## The start of a frame -/

/-- A head frame that begins changes the count of its head only, to its number on the tick grid. -/
theorem setsFrameCnt_beginFrame (h : Nat) (fi : FrameIn) (rest : List FrameIn) (start : Nat) (s : State) :
    SetsFrameCnt h (frameCntOf (s.head h).timing fi.tick fi.second) s (beginFrame h fi rest start s) := by
  unfold beginFrame
  extract_lets blank s1 tiles s2 s3 s4
  have hs1 : SetsFrameCnt h (frameCntOf (s.head h).timing fi.tick fi.second) s s1 := setsFrameCnt_modHead s h _
  refine hs1.congr rfl ?_
  split
  · rw [settlePins_heads, sendMsa_heads, frameCnts_noteFrame, leaveFuture_heads]
    exact frameCnts_modHead_of_eq _ _ rfl
  · have hs2 : frameCnts s2.heads = frameCnts s1.heads := frameCnts_modHead_of_eq _ _ rfl
    have hs3 : frameCnts s3.heads = frameCnts s2.heads := by
      simp only [s3, frameCnts_noteFrame, noteScans_heads, noteLegends_heads, frameCnts_noteFlip, noteClips_heads, noteFuture_heads]
    have hs4 : frameCnts s4.heads = frameCnts s3.heads := by
      unfold s4
      split
      · split
        · rw [raiseTag_heads]
          exact frameCnts_modHead_of_eq _ _ rfl
        · rfl
      · rfl
    rw [settlePins_heads, sendMsa_heads, hs4, hs3, hs2]

theorem frameCnts_endRetime (h : Nat) (fi : FrameIn) (s : State) : frameCnts (endRetime h fi s).heads = frameCnts s.heads := by
  rw [endRetime, raise_heads]
  exact frameCnts_modHead_of_eq _ _ rfl

theorem endRetime_timing (h : Nat) (fi : FrameIn) (s : State) : ((endRetime h fi s).head h).timing = (s.head h).timing := by
  rw [endRetime, head_of_heads_eq (raise_heads ..), modHead_eq, head_setHead]

theorem setsFrameCnt_endRetime_beginFrame (h : Nat) (fi : FrameIn) (rest : List FrameIn) (start : Nat) (s : State) :
    SetsFrameCnt h (frameCntOf (s.head h).timing fi.tick fi.second) s (beginFrame h fi rest start (endRetime h fi s)) := by
  rw [← endRetime_timing h fi s]
  exact (setsFrameCnt_beginFrame h fi rest start (endRetime h fi s)).congr (frameCnts_endRetime h fi s).symm rfl

/-- A frame that is not shown (R197) is noted only: the counts are those of the head as it was changed. -/
theorem setsFrameCnt_unshown (h cnt : Nat) (start : Time64) (f : Head → Head) (s : State) :
    SetsFrameCnt h (f (s.head h)).frameCnt s (leaveFuture h (noteFrame h cnt start true [] (s.modHead h f))) :=
  (setsFrameCnt_modHead s h f).congr rfl (frameCnts_noteFrame ..)

/-- FRAME_START sets the count of its head only, to the frame's number on the tick grid, whether the frame is shown or the head is retiming. -/
theorem frameStart_completes {s : State} {h : Fin 32} {fi : FrameIn} {rest : List FrameIn} (hin : (s.head h).nextIn = fi :: rest) :
    Completes (.frameStart h) s (SetsFrameCnt h (frameCntOf (s.head h).timing fi.tick fi.second) s) := by
  refine ⟨_, rfl, ?_⟩
  dsimp only
  rw [hin]
  dsimp only
  split
  · split
    · exact setsFrameCnt_endRetime_beginFrame ..
    · exact setsFrameCnt_unshown ..
  · split
    · exact setsFrameCnt_beginFrame ..
    · exact setsFrameCnt_unshown ..

/-- Settles O57: every frame start writes its number into the count of its head and into no other, by the frame lemmas of its parts. -/
theorem frameNumbers : Obligations.FrameNumbers := by
  intro s h fi rest hin
  obtain ⟨t, hexec, hcnt, hothers⟩ := frameStart_completes hin
  refine ⟨t, hexec, hcnt.trans ?_, hothers⟩
  split
  · next hm => exact frameCntOf_half hm _ _
  · next hm => exact frameCntOf_one hm _ _
  · next h0 h1 => exact frameCntOf_double h0 h1 _ _

end Sys2Proof.Machine
end

section
/-! The check-value algorithms (R322): reflection and bit-reversed polynomials. -/
namespace Sys2Proof.Machine

/-- All algorithms of R322 are reflected but CRC-16/CCITT, code 2; every code above 3 reads as 3. -/
theorem crcAlg_refl (k : Nat) : (crcAlg k).refl = decide (k ≠ 2) := by
  match k with
  | 0 | 1 | 2 => rfl
  | _ + 3 => exact (decide_eq_true (by omega)).symm

/-- A polynomial of `w` bits as the reflected algorithms hold it: bit-reversed in its width. -/
def bitReversed (w : Nat) (p : BitVec 64) : BitVec 64 := (p.setWidth w).reverse.setWidth 64

theorem getLsbD_bitReversed {w : Nat} (hw : w ≤ 64) (p : BitVec 64) (i : Fin w) :
    (bitReversed w p).getLsbD i = p.getLsbD (w - 1 - i) := by
  have hi : i.val < 64 := by omega
  have hk : w - 1 - i < w := by omega
  rw [bitReversed, BitVec.getLsbD_setWidth, BitVec.getLsbD_reverse, BitVec.getMsbD_eq_getLsbD, BitVec.getLsbD_setWidth]
  simp [hi, hk]

theorem crc32c_poly : (crcAlg 0).poly = bitReversed 32 0x1EDC6F41 := by decide +kernel

theorem crc32_poly : (crcAlg 1).poly = bitReversed 32 0x04C11DB7 := by decide +kernel

theorem crc64_poly : (crcAlg 3).poly = bitReversed 64 0x42F0E1EBA9EA3693 := by decide +kernel

/-- The nine bytes "123456789", over which R322 gives each algorithm's check. -/
def crcCheckInput : Bytes := [0x31, 0x32, 0x33, 0x34, 0x35, 0x36, 0x37, 0x38, 0x39]

theorem crc32c_check : crcOf 0 none crcCheckInput = 0xE3069283 := by decide +kernel

theorem crc32_check : crcOf 1 none crcCheckInput = 0xCBF43926 := by decide +kernel

theorem crc16_check : crcOf 2 none crcCheckInput = 0x29B1 := by decide +kernel

theorem crc64_check : crcOf 3 none crcCheckInput = 0x995DC9BBDF1939FA := by decide +kernel

/-- Settles O59: the rows of `crcAlg`, each reflected polynomial read through `getLsbD_bitReversed`, and the shift register run on the check input. -/
theorem crcAlgorithms : Obligations.CrcAlgorithms := by
  refine ⟨crcAlg_refl, ⟨rfl, rfl, rfl, fun i => ?_⟩, ⟨rfl, rfl, rfl, fun i => ?_⟩, ⟨rfl, rfl, rfl, rfl⟩, ⟨rfl, rfl, rfl, fun i => ?_⟩, ?_⟩
  · rw [crc32c_poly, getLsbD_bitReversed (by decide)]
  · rw [crc32_poly, getLsbD_bitReversed (by decide)]
  · rw [crc64_poly, getLsbD_bitReversed (by decide)]
  · rintro _ rfl
    exact ⟨crc32c_check, crc32_check, crc16_check, crc64_check⟩

end Sys2Proof.Machine
end

section
/-! The status window over SPI (R369, R370), and the cause of the replies that wait for a reader (R376, R378). -/
namespace Sys2Proof.Machine

/-! ## The flags of the window -/

/-- Six one-bit fields from bit 0 up, as the flags of R370 lie, fit a byte in which bit 1 is the second field. -/
theorem getLsbD_one_packFields (f0 f1 f2 f3 f4 f5 : Bool) :
    (BitVec.ofNat 8 (packFields
      [(0, 1, b2n f0), (1, 1, b2n f1), (2, 1, b2n f2), (3, 1, b2n f3), (4, 1, b2n f4), (5, 1, b2n f5)])).getLsbD 1 = f1 := by
  revert f0 f1 f2 f3 f4 f5
  decide

/-- REPLY_READY, bit 1 of the flags at offset 2, says whether a reply is unread (R370). -/
theorem statusWindow_replyReady (s : State) :
    ∃ f : BitVec 8, (statusWindow s)[2]? = some f ∧ f.getLsbD 1 = (s.cmd.spi.replies != []) := by
  simp only [statusWindow, List.append_assoc]
  exact ⟨_, rfl, getLsbD_one_packFields ..⟩

/-! ## The status read -/

/-- What STATUS_READ does in a part with power (R369): beside the clock reading, the copy goes out and the two sticky flags clear. -/
theorem exec_statusRead {s : State} (hpow : s.powered = true) (at' : Time64) :
    exec (.statusRead at') s = .next { s with
      time := { s.time with now := at' },
      out := s.out ++ [.miso (statusWindow (atTime at' s))],
      cmd := { s.cmd with spi := { s.cmd.spi with crcErr := false, overrun := false } } } := by
  change execStatusRead at' s = _
  simp only [execStatusRead, act_next, hpow]
  rfl

/-! ## The cause of the replies -/

/-- A write of SYS_IRQ_CAUSE through an open BAR0 is `clearIrq`. -/
theorem exec_sysIrqCauseW1c {s : State} (hopen : s.bar0Open = true) (v : Reg32) :
    exec (.sysIrqCauseW1c v) s = .next (clearIrq v s) := by
  change execSysIrqCauseW1c v s = _
  rw [execSysIrqCauseW1c, act_next, regWrite, if_pos hopen]
  rfl

/-- While a reply is unread, a write puts SPI_REPLY, bit 9, back as it was (R369, R376). -/
theorem clearIrq_irqCause_of_unread {s : State} (hunread : s.cmd.spi.replies ≠ []) (v : Reg32) :
    (clearIrq v s).cmd.irqCause = (s.cmd.irqCause &&& ~~~v) ||| (s.cmd.irqCause &&& 0x200) := by
  simp [clearIrq, hunread]

/-- So SPI_REPLY reads the same before and after such a write, whatever was written. -/
theorem clearIrq_keeps_spiReply {s : State} (hunread : s.cmd.spi.replies ≠ []) (v : Reg32) :
    (clearIrq v s).cmd.irqCause.getLsbD 9 = s.cmd.irqCause.getLsbD 9 := by
  have hmask : (0x200 : Reg32).getLsbD 9 = true := by decide
  rw [clearIrq_irqCause_of_unread hunread, BitVec.getLsbD_or, BitVec.getLsbD_and, BitVec.getLsbD_and, hmask, Bool.and_true]
  exact Bool.or_eq_right_iff_imp.mpr fun h => (Bool.and_eq_true_iff.mp h).1

/-- Settles O60: the closed form of the read, the window's REPLY_READY bit, and SPI_REPLY's way through `clearIrq` while a reply is unread. -/
theorem statusReads : Obligations.StatusReads := by
  refine ⟨fun s at' hpow => ?read, fun s hunread => ?window, fun s v hopen hunread hcause => ?cause⟩
  case read =>
    exact ⟨_, exec_statusRead hpow at', ⟨[], (List.append_nil _).symm⟩, rfl, rfl, rfl, rfl, rfl⟩
  case window =>
    obtain ⟨f, hflags, hready⟩ := statusWindow_replyReady s
    exact ⟨f, hflags, hready.trans (bne_iff_ne.mpr hunread)⟩
  case cause =>
    exact ⟨_, exec_sysIrqCauseW1c hopen v, (clearIrq_keeps_spiReply hunread v).trans hcause⟩

end Sys2Proof.Machine
end

section
/-! What one step can do to the queue, to DRAM and to the seat strap (R226, R303, R360): every meaning but two is `act`, or `act` behind an address
check, and touches none of them. -/
namespace Sys2Proof.Machine

/-- An outcome that touches neither the queue nor DRAM nor the strap. -/
inductive Ordinary (s : State) : Host.Outcome State Fault Refusal → Prop
  | next (t : State) (hpend : t.pending = s.pending) (hdram : t.dram = s.dram) (hseat : t.seatB = s.seatB) : Ordinary s (.next t)
  | fault (r : Fault) : Ordinary s (.fault r)

theorem ordinary_checked (c : Prop) [Decidable c] (r : Fault) (f : State → State) (s : State) :
    Ordinary s (if c then .fault r else act f s) := by
  split
  · exact .fault r
  · exact .next _ rfl rfl rfl

theorem Ordinary.frame {s t : State} (h : Ordinary s (.next t)) : t.pending = s.pending ∧ t.dram = s.dram ∧ t.seatB = s.seatB := by
  cases h with
  | next _ hpend hdram hseat => exact ⟨hpend, hdram, hseat⟩

/-- Every meaning is ordinary but those of BAR2_WRITE and of RESET_N's release. -/
theorem exec_ordinary (i : Instr) (s : State) (hw : ∀ off data, i ≠ .bar2Write off data) (hr : ∀ r, i ≠ .resetNRelease r) :
    Ordinary s (exec i s) := by
  cases i with
  | bar2Write off data => exact absurd rfl (hw off data)
  | resetNRelease r => exact absurd rfl (hr r)
  | registerWrite off v => exact ordinary_checked (off % 4 ≠ 0 ∨ 65536 ≤ off) ..
  | bar0LowWordRead off t => exact ordinary_checked (off % 4 ≠ 0 ∨ 65536 ≤ off) ..
  | bar2Read off n g => exact ordinary_checked (apertureBytes < off + n) ..
  | memReadResult ch addr r q t => exact ordinary_checked (deviceBytes ≤ addr) ..
  | ceRewrite ch addr t => exact ordinary_checked (deviceBytes ≤ addr) ..
  | scrubSegment ch seg tag rs t => exact ordinary_checked (segments ≤ seg) ..
  | _ => exact .next _ rfl rfl rfl

/-- Changing channels one after another changes the channels only. -/
theorem foldl_modChan_form {α : Type} (ch : State → α → Nat) (f : State → α → Chan → Chan) (l : List α) (s : State) :
    ∃ c, l.foldl (fun b x => modChan (ch b x) (f b x) b) s = { s with mem := { s.mem with chans := c } } := by
  induction l generalizing s with
  | nil => exact ⟨s.mem.chans, rfl⟩
  | cons x l ih =>
    obtain ⟨c, h⟩ := ih (modChan (ch s x) (f s x) s)
    exact ⟨c, h⟩

/-- What a BAR2 write within the aperture changes while the memory takes writes: the bytes written, the channels' queues, and what is known of the
granules (R303, R304, R309). -/
theorem exec_bar2Write {s : State} {off : Nat} {data : Bytes} (hlen : off + data.length ≤ 2 ^ 28) (hready : s.cmd.ready = true)
    (hpow : s.powered = true) (hperst : s.power.perst = false) (hfatal : s.mem.fatal = false) :
    ∃ c p r, exec (.bar2Write off data) s = .next { s with
      dram := dramWrite (bar2Addr s off) data s.dram, mem := { s.mem with chans := c, poison := p, rewrites := r } } := by
  have hin : ¬ apertureBytes < off + data.length := Nat.not_lt.mpr hlen
  change ∃ c p r, execBar2Write off data s = _
  have hopen : (!s.cmd.ready || !s.powered || s.power.perst || s.mem.fatal) = false := by simp [hready, hpow, hperst, hfatal]
  simp only [execBar2Write, if_neg hin, actMem, hopen, Bool.false_eq_true, if_false]
  obtain ⟨c, hc⟩ := foldl_modChan_form (fun b g => (placeOf b.mem g).ch) _ (granulesOf (bar2Addr s off) data.length) s
  rw [hc]
  exact ⟨_, _, _, rfl⟩

/-- While the memory takes no writes, a BAR2 write changes nothing. -/
theorem exec_bar2Write_closed {s : State} {off : Nat} {data : Bytes} (hlen : off + data.length ≤ 2 ^ 28)
    (hclosed : (!s.cmd.ready || !s.powered || s.power.perst || s.mem.fatal) = true) : exec (.bar2Write off data) s = .next s := by
  have hin : ¬ apertureBytes < off + data.length := Nat.not_lt.mpr hlen
  change execBar2Write off data s = _
  simp only [execBar2Write, if_neg hin, actMem, hclosed, if_true]

/-- A BAR2 write leaves the queue and the strap, and DRAM but for its bytes (R303). -/
theorem exec_bar2Write_frame {off : Nat} {data : Bytes} {s t : State} (h : exec (.bar2Write off data) s = .next t) :
    t.pending = s.pending ∧ t.seatB = s.seatB ∧ (t.dram = s.dram ∨ ∃ a, t.dram = dramWrite a data s.dram) := by
  by_cases hlen : off + data.length ≤ 2 ^ 28
  · by_cases hclosed : (!s.cmd.ready || !s.powered || s.power.perst || s.mem.fatal) = true
    · cases (exec_bar2Write_closed hlen hclosed).symm.trans h
      exact ⟨rfl, rfl, .inl rfl⟩
    · simp only [Bool.not_eq_true, Bool.or_eq_false_iff, Bool.not_eq_false'] at hclosed
      obtain ⟨⟨⟨hready, hpow⟩, hperst⟩, hfatal⟩ := hclosed
      obtain ⟨c, p, r, he⟩ := exec_bar2Write hlen hready hpow hperst hfatal
      cases he.symm.trans h
      exact ⟨rfl, rfl, .inr ⟨_, rfl⟩⟩
  · have hfault : exec (.bar2Write off data) s = .fault .badAddress := if_pos (Nat.not_le.mp hlen)
    cases hfault.symm.trans h

/-- A release of RESET_N leaves the queue and DRAM (R226, R405). -/
theorem exec_resetNRelease_frame {r : ResetInputs} {s t : State} (h : exec (.resetNRelease r) s = .next t) :
    t.pending = s.pending ∧ t.dram = s.dram := by
  change execResetNRelease r s = _ at h
  unfold execResetNRelease at h
  split at h <;> cases h <;> exact ⟨rfl, rfl⟩

/-- Settles O1: the two branches of `step`. -/
theorem stepRunsFrontCommand : Obligations.StepRunsFrontCommand := by
  refine ⟨fun s i rest hp => ?_, fun s hp => ?_⟩ <;> rw [step, hp]

/-- Settles O56: the rest of the queue is what the command is executed with, and the frame of its meaning is the step's. -/
theorem stepFrame : Obligations.StepFrame := by
  intro s t i rest hp ht
  rw [stepRunsFrontCommand.1 s i rest hp] at ht
  by_cases hw : ∃ off data, i = .bar2Write off data
  · obtain ⟨off, data, rfl⟩ := hw
    obtain ⟨hpend, hseat, -⟩ := exec_bar2Write_frame ht
    exact ⟨hpend, fun h => absurd rfl (h off data), fun _ => hseat⟩
  · by_cases hr : ∃ r, i = .resetNRelease r
    · obtain ⟨r, rfl⟩ := hr
      obtain ⟨hpend, hdram⟩ := exec_resetNRelease_frame ht
      exact ⟨hpend, fun _ => hdram, fun h => absurd rfl (h r)⟩
    · obtain ⟨hpend, hdram, hseat⟩ :=
        (ht ▸ exec_ordinary i _ (fun off data h => hw ⟨off, data, h⟩) (fun r h => hr ⟨r, h⟩)).frame
      exact ⟨hpend, fun _ => hdram, fun _ => hseat⟩

/-- Settles O54: an idle step and every command but a BAR2 write leave DRAM as it is, and written bytes keep the canonical form. -/
theorem stepKeepsDramCanonical : Obligations.StepKeepsDramCanonical := by
  intro s t hwf ht
  cases hp : s.pending with
  | nil =>
    rw [stepRunsFrontCommand.2 s hp] at ht
    cases ht
    exact hwf
  | cons i rest =>
    by_cases hw : ∃ off data, i = .bar2Write off data
    · obtain ⟨off, data, rfl⟩ := hw
      rw [stepRunsFrontCommand.1 s _ rest hp] at ht
      obtain ⟨-, -, hdram | ⟨a, hdram⟩⟩ := exec_bar2Write_frame ht
      · exact hdram ▸ hwf
      · exact hdram ▸ dramWrite_wf data a s.dram hwf
    · obtain ⟨-, hdram, -⟩ := stepFrame s t i rest hp ht
      exact (hdram fun off data h => hw ⟨off, data, h⟩) ▸ hwf

/-- Settles O2: each of these accesses is behind its address check. -/
theorem absentAddressesFault : Obligations.AbsentAddressesFault :=
  ⟨fun _ _ _ _ h => ⟨if_pos h, if_pos h⟩, fun _ _ _ _ _ => ⟨fun h => if_pos h, fun h => if_pos h⟩,
    fun _ _ _ _ _ _ _ h => ⟨if_pos h, if_pos h⟩⟩

/-- Settles O55: `State.reset` is written out, field by field. -/
theorem resetValues : Obligations.ResetValues :=
  ⟨rfl, rfl, rfl, rfl, rfl, rfl, rfl, rfl, fun _ => rfl, rfl, rfl⟩

end Sys2Proof.Machine
end

section
/-! The relations of Safety.lean by which a statement says what is left unchanged: each is a preorder that raising an event, sending a frame, writing to
the log and reading the clock keep to, where the parts that they touch are among those that it lets change. -/
namespace Sys2Proof.Machine

/-! ## Preorders -/

theorem OnlyInterface.refl (s : State) : OnlyInterface s s := rfl
theorem OnlyEvents.refl (s : State) : OnlyEvents s s := rfl
theorem OnlyAcceptance.refl (s : State) : OnlyAcceptance s s := rfl
theorem OnlyMemory.refl (s : State) : OnlyMemory s s := rfl
theorem OnlyTwin.refl (s : State) : OnlyTwin s s := rfl

theorem OnlyInterface.trans {s t u : State} (h : OnlyInterface s t) (h' : OnlyInterface t u) : OnlyInterface s u := by
  unfold OnlyInterface at *; rw [h', h]
theorem OnlyEvents.trans {s t u : State} (h : OnlyEvents s t) (h' : OnlyEvents t u) : OnlyEvents s u := by
  unfold OnlyEvents at *; rw [h', h]
theorem OnlyAcceptance.trans {s t u : State} (h : OnlyAcceptance s t) (h' : OnlyAcceptance t u) : OnlyAcceptance s u := by
  unfold OnlyAcceptance at *; rw [h', h]
theorem OnlyMemory.trans {s t u : State} (h : OnlyMemory s t) (h' : OnlyMemory t u) : OnlyMemory s u := by
  unfold OnlyMemory at *; rw [h', h]
theorem OnlyTwin.trans {s t u : State} (h : OnlyTwin s t) (h' : OnlyTwin t u) : OnlyTwin s u := by
  unfold OnlyTwin at *; rw [h', h]

theorem OnlyInterface.onlyAcceptance {s t : State} (h : OnlyInterface s t) : OnlyAcceptance s t := by
  unfold OnlyInterface OnlyAcceptance at *; rw [h]
theorem OnlyTwin.onlyAcceptance {s t : State} (h : OnlyTwin s t) : OnlyAcceptance s t := by
  unfold OnlyTwin OnlyAcceptance at *; rw [h]
theorem OnlyTwin.onlyEvents {s t : State} (h : OnlyTwin s t) : OnlyEvents s t := by
  unfold OnlyTwin OnlyEvents at *; rw [h]
theorem OnlyEvents.onlyMemory {s t : State} (h : OnlyEvents s t) : OnlyMemory s t := by
  unfold OnlyEvents OnlyMemory at *; rw [h]

/-! ## Completion -/

/-- A state keeps another's queue, strap and DRAM, which an ordinary meaning cannot touch (R226, R303). -/
def KeepsFrame (s u : State) : Prop := u.pending = s.pending ∧ u.seatB = s.seatB ∧ u.dram = s.dram

theorem KeepsFrame.eq {s u : State} (h : KeepsFrame s u) : { u with pending := s.pending, seatB := s.seatB, dram := s.dram } = u := by
  obtain ⟨hpend, hseat, hdram⟩ := h
  rw [← hpend, ← hseat, ← hdram]

/-- An ordinary meaning whose function keeps the queue, the strap and DRAM completes with what the function makes of the state. -/
theorem completes_of_keeps {i : Instr} {s : State} {f : State → State} {P : State → Prop} (h : exec i s = act f s) (u : State) (hu : f s = u)
    (hk : KeepsFrame s u) (hp : P u) : Completes i s P :=
  completes_act h u hu (hk.eq.symm ▸ hp)

theorem OnlyAcceptance.get {β : Type} (p : State → β) {s t : State} (h : OnlyAcceptance s t) :
    p t = p { s with cmd := t.cmd, time := { s.time with now := t.time.now }, out := t.out, twin := t.twin } := congrArg p h
theorem OnlyMemory.get {β : Type} (p : State → β) {s t : State} (h : OnlyMemory s t) :
    p t = p { s with mem := t.mem, events := t.events, time := { s.time with now := t.time.now }, out := t.out, twin := t.twin } := congrArg p h
theorem OnlyEvents.get {β : Type} (p : State → β) {s t : State} (h : OnlyEvents s t) :
    p t = p { s with events := t.events, time := { s.time with now := t.time.now }, out := t.out, twin := t.twin } := congrArg p h
theorem OnlyInterface.get {β : Type} (p : State → β) {s t : State} (h : OnlyInterface s t) :
    p t = p { s with cmd := t.cmd, time := { s.time with now := t.time.now }, out := t.out } := congrArg p h
theorem OnlyTwin.get {β : Type} (p : State → β) {s t : State} (h : OnlyTwin s t) :
    p t = p { s with twin := t.twin, time := { s.time with now := t.time.now }, out := t.out } := congrArg p h

theorem OnlyAcceptance.keeps {s t : State} (h : OnlyAcceptance s t) : KeepsFrame s t :=
  ⟨h.get State.pending, h.get State.seatB, h.get State.dram⟩
theorem OnlyMemory.keeps {s t : State} (h : OnlyMemory s t) : KeepsFrame s t :=
  ⟨h.get State.pending, h.get State.seatB, h.get State.dram⟩
theorem OnlyInterface.keeps {s t : State} (h : OnlyInterface s t) : KeepsFrame s t := h.onlyAcceptance.keeps
theorem OnlyTwin.keeps {s t : State} (h : OnlyTwin s t) : KeepsFrame s t := h.onlyAcceptance.keeps
theorem OnlyEvents.keeps {s t : State} (h : OnlyEvents s t) : KeepsFrame s t := h.onlyMemory.keeps

/-! ## Events and frames -/

theorem raiseAt_form (t : Time64) (c : Ev) (g : Option Nat) (p : List (Nat × Nat)) (s : State) :
    ∃ e o w, raiseAt t c g p s = { s with events := e, out := o, twin := w } := ⟨_, _, _, raiseAt_frame t c g p s⟩

theorem onlyEvents_raiseAt (t : Time64) (c : Ev) (g : Option Nat) (p : List (Nat × Nat)) (s : State) : OnlyEvents s (raiseAt t c g p s) := by
  obtain ⟨e, o, w, h⟩ := raiseAt_form t c g p s
  rw [h]
  rfl

theorem onlyEvents_raise (c : Ev) (p : List (Nat × Nat)) (s : State) : OnlyEvents s (raise c p s) := onlyEvents_raiseAt ..

theorem onlyTwin_sendFrame (n : Nat) (r : Option Nat) (b : FlumeBody) (s : State) : OnlyTwin s (sendFrame n r b s) := by
  obtain ⟨o, w, h⟩ := sendFrame_form n r b s
  rw [h]
  rfl

/-- An event raised on a state in the mode of another is that state's newest, too. -/
theorem raised_raise (c : Ev) (p : List (Nat × Nat)) {s u : State} (h : u.hot = s.hot) : s.raised (raise c p u) c none p :=
  raised_raiseAt _ _ _ _ _ _ h

end Sys2Proof.Machine
end

section
/-! Memory: granule reads, the aperture's reads (R303, R304), and refreshes (R315). -/
namespace Sys2Proof.Machine

theorem onlyMemory_mem (m : Mem) (s : State) : OnlyMemory s { s with mem := m } := rfl
theorem onlyMemory_atTime (t : Time64) (s : State) : OnlyMemory s (atTime t s) := rfl
theorem onlyMemory_emit (o : Out) (s : State) : OnlyMemory s (emit o s) := rfl
theorem onlyMemory_modChan (ch : Nat) (f : Chan → Chan) (s : State) : OnlyMemory s (modChan ch f s) := rfl
theorem onlyMemory_modChanCnt (ch : Nat) (f : ChanCounters → ChanCounters) (s : State) : OnlyMemory s (modChanCnt ch f s) := rfl

theorem onlyMemory_noteCe (ch : Nat) (s : State) : OnlyMemory s (noteCe ch s) := by
  unfold noteCe
  extract_lets t c fresh hour said tell s1 s2
  have h1 : OnlyMemory s s1 := onlyMemory_modChan ..
  have h2 : OnlyMemory s s2 := by
    unfold s2
    split
    · exact h1.trans (onlyEvents_raise ..).onlyMemory
    · exact h1
  split
  · exact h2.trans (onlyEvents_raise ..).onlyMemory
  · exact h2

theorem onlyMemory_noteUe (ch seg gi port : Nat) (s : State) : OnlyMemory s (noteUe ch seg gi port s) := by
  unfold noteUe
  extract_lets
  exact ((onlyMemory_mem _ s).trans (onlyMemory_modChanCnt ..)).trans (onlyEvents_raise ..).onlyMemory

/-- A granule read changes the memory controller and raises events, and nothing else (R309). -/
theorem onlyMemory_readGranule (ch seg gi port : Nat) (r : ReadResult) (s : State) : OnlyMemory s (readGranule ch seg gi port r s).2 := by
  unfold readGranule
  split
  · exact .refl s
  · extract_lets s1
    have h1 : OnlyMemory s s1 := onlyMemory_modChan ..
    clear_value s1
    split
    · exact h1
    · cases r with
      | ok => exact h1
      | corrected => exact (h1.trans (onlyMemory_noteCe ch s1)).trans (onlyMemory_mem ..)
      | uncorrectable => exact h1.trans (onlyMemory_noteUe ch seg gi port s1)

theorem onlyMemory_readAll (l : List Nat) (rs : List ReadResult) (s : State) : OnlyMemory s (readAll l rs s).2 := by
  induction l generalizing rs s with
  | nil => exact .refl s
  | cons g l ih => exact (onlyMemory_readGranule ..).trans (ih ..)

/-- A BAR2 read that is carried out answers the bytes, or aborts where a granule is lost (R304), and changes the memory controller besides. -/
theorem doRead_eq (q : HeldRead) (s : State) :
    doRead q s = emit (if (readAll (granulesOf (bar2Addr s q.offset) q.len) q.granules s).1 then .completerAbort
      else .bar2Data (dramRead s.dram (bar2Addr s q.offset) q.len)) (readAll (granulesOf (bar2Addr s q.offset) q.len) q.granules s).2 := by
  have hdram := congrArg State.dram (onlyMemory_readAll (granulesOf (bar2Addr s q.offset) q.len) q.granules s)
  unfold doRead
  dsimp only
  split
  · rfl
  · rw [hdram]

/-- Settles O12. -/
theorem apertureAccess : Obligations.ApertureAccess := by
  refine ⟨fun s off data hlen hready hpow hperst hfatal hwf => ?_, fun s off n g hlen hready hpow hperst hfatal => ?_⟩
  · obtain ⟨c, p, r, he⟩ := exec_bar2Write hlen hready hpow hperst hfatal
    exact ⟨_, he, dramRead_dramWrite data _ _ hwf, fun a ha => dramGet_dramWrite_out data _ a _ ha, rfl⟩
  · have hin : ¬ apertureBytes < off + n := Nat.not_lt.mpr hlen
    have hopen : (!s.cmd.ready || !s.powered || s.power.perst || s.mem.fatal) = false := by simp [hready, hpow, hperst, hfatal]
    refine ⟨fun hout => completes_act (if_neg hin) _ ((if_neg (by simp [hopen])).trans (if_pos hout)) rfl, fun hout => ?_⟩
    have honly : OnlyMemory s (doRead ⟨off, n, g⟩ s) := (doRead_eq ⟨off, n, g⟩ s).symm ▸ (onlyMemory_readAll ..).trans (onlyMemory_emit ..)
    refine completes_of_keeps (if_neg hin) _ ((if_neg (by simp [hopen])).trans (if_neg (by simp [hout]))) honly.keeps ?_
    refine ⟨honly.get State.dram, honly.get State.cfg, honly.get State.cmd, ?_⟩
    rw [doRead_eq]
    exact List.getLast?_concat

end Sys2Proof.Machine
end

section
/-! Refreshes (R315): a channel in which a request without a requester stands among the reads. -/
namespace Sys2Proof.Machine

/-- A BAR2 write that has just arrived at channel 7. -/
def bar2WriteReq (addr : Nat) : MemReq := ⟨none, 5, addr, 999999990⟩

/-- Channel 7 with a write in its write queue, and another write that stands in its read queue. No arrival puts one there, but the statement speaks of
every state. -/
def strayWrite : State := modChan 7 (fun c => { c with reads := [bar2WriteReq 0], writes := [bar2WriteReq 16] }) Tests.run0

/-- The reads that a channel holds after an outcome. -/
def readsAfter (ch : Nat) : Host.Outcome State Fault Refusal → List MemReq
  | .next t => (t.chan ch).reads
  | _ => []

/-- The refresh lets the waiting write go first, and the write that is served is the stray one, which leaves the reads. -/
theorem strayWrite_served : readsAfter 7 (exec (.refreshDue 7 false 1000000000) strayWrite) = [] := by decide +kernel

/-- Refutes O15: the first clause says that a refresh leaves the read queue, but the writes before it are taken from both queues. -/
theorem not_refreshAndRanks : ¬ Obligations.RefreshAndRanks := by
  intro h
  obtain ⟨t, ht, -, -, hreads, -⟩ :=
    h.1 strayWrite 7 1000000000 rfl (by decide +kernel) (by decide +kernel) (by decide +kernel)
  have hgone := strayWrite_served
  rw [ht] at hgone
  exact absurd (hgone.symm.trans hreads) (by decide +kernel)

end Sys2Proof.Machine
end

section
/-! Acceptance of command packets (R357 to R363): a packet that gets in and passes its checks joins the accepted commands or is answered, one that
fails a check is answered; then the transports that carry packets (R366, R367, R371, R377). -/
namespace Sys2Proof.Machine

/-! ## Acceptance by the outcome of the checks -/

/-- Two states that differ in the interface only, with the same accepted commands and the same order: what a packet's arrival leaves. -/
def Arrived (s s1 : State) : Prop := s1 = { s with cmd := s1.cmd } ∧ s1.cmd.accepted = s.cmd.accepted ∧ s1.cmd.order = s.cmd.order

theorem Arrived.refl (s : State) : Arrived s s := ⟨rfl, rfl, rfl⟩

theorem arrived_of_intake {t : Transport} {s s1 : State} (h : intake t s = (true, s1)) : Arrived s s1 := intake_eq t s s1 h

theorem Arrived.trans {s t u : State} (h : Arrived s t) (h' : Arrived t u) : Arrived s u := by
  obtain ⟨hs, ha, ho⟩ := h
  obtain ⟨hs', ha', ho'⟩ := h'
  exact ⟨hs'.trans (by rw [hs]), ha'.trans ha, ho'.trans ho⟩

theorem Arrived.atTime {s s1 : State} (h : Arrived s s1) (t : Time64) : Arrived (Machine.atTime t s) (Machine.atTime t s1) := by
  obtain ⟨hs, ha, ho⟩ := h
  exact ⟨by rw [hs]; rfl, ha, ho⟩

theorem Arrived.onlyInterface {s s1 : State} (h : Arrived s s1) : OnlyInterface s s1 := by
  unfold OnlyInterface
  rw [h.1]

theorem onlyInterface_atTime (t : Time64) (s : State) : OnlyInterface s (atTime t s) := rfl

theorem arrived_noteReplay (h : CmdHdr) (s : State) : Arrived s (noteReplay h s) := noteReplay_frame h s

theorem arrived_noteTag (h : CmdHdr) (s : State) : Arrived s (noteTag h s) := noteTag_frame h s

theorem accept_command {h : CmdHdr} {k : Cmd} {u : State} (hq : isQuery k = false) (hc : checkCmd u h k = none) :
    accept h k u = enqueue h k (noteReplay h u) := by
  unfold accept
  simp only [hc, hq, Bool.false_eq_true, if_false]

theorem accept_query {h : CmdHdr} {k : Cmd} {u : State} (hq : isQuery k = true) (hc : checkCmd u h k = none) :
    accept h k u = answerQuery h k (noteReplay h u) := by
  unfold accept
  simp only [hc, hq, if_true]

theorem reject_of_replying {h : CmdHdr} (hr : h.transport ≠ .reg) (op : Nat) (k : Option Cmd) (f : Status × Nat) (s : State) :
    reject h op k f s = answer h op s.intervalTick f.1 f.2 [] s := by
  unfold reject
  split
  · contradiction
  · rfl

/-- A packet that fails a check is answered, with its SEQ entered in its client's window or not. -/
theorem accept_rejected {h : CmdHdr} {k : Cmd} {u : State} {f : Status × Nat} (hr : h.transport ≠ .reg) (hc : checkCmd u h k = some f) :
    ∃ u1, Arrived u u1 ∧ accept h k u = answer h (opcodeOf k) u1.intervalTick f.1 f.2 [] u1 := by
  unfold accept
  simp only [hc, reject_of_replying hr]
  split
  · exact ⟨u, .refl u, rfl⟩
  · exact ⟨_, arrived_noteReplay h u, rfl⟩

/-- A command that joins the accepted ones: what `CommandsJoinAccepted` says of it. -/
theorem enqueue_joins {h : CmdHdr} {k : Cmd} {s u : State} (hu : Arrived (atTime h.arrival s) u) :
    s.joined (enqueue h k u) h k ∧ (enqueue h k u).cmd.order = s.cmd.order + 1 ∧ OnlyAcceptance s (enqueue h k u) := by
  obtain ⟨hs, hacc, hord⟩ := hu
  obtain ⟨hform, horder, a, ha, hhdr, hcmd, hao, htick⟩ := enqueue_frame h k u
  refine ⟨⟨a, by rw [ha, hacc]; rfl, hhdr, hcmd, by rw [hao, hord]; rfl, ?_⟩, by rw [horder, hord]; rfl, ?_⟩
  · rw [htick, resolve_eq (atTime h.arrival s) u] <;> rw [hs]
  · unfold OnlyAcceptance
    rw [hform, hs]
    rfl

/-- A non-query command that passes its checks joins the accepted ones. -/
theorem accept_joins {h : CmdHdr} {k : Cmd} {s s1 : State} (hs1 : Arrived s s1) (hq : isQuery k = false)
    (hc : checkCmd (atTime h.arrival s1) h k = none) :
    s.joined (accept h k (atTime h.arrival s1)) h k ∧ (accept h k (atTime h.arrival s1)).cmd.order = s.cmd.order + 1
    ∧ OnlyAcceptance s (accept h k (atTime h.arrival s1)) := by
  rw [accept_command hq hc]
  exact enqueue_joins ((hs1.atTime _).trans (arrived_noteReplay h _))

/-- A packet that got in is accepted at its arrival. -/
theorem submit_taken {h : CmdHdr} {k : Cmd} {s s1 : State} (hin : intake h.transport s = (true, s1)) : submit h k s = accept h k (atTime h.arrival s1) := by
  unfold submit
  rw [hin]

/-! ## Answers -/

/-- An answer is the reply with the state's EVENT_SEQ, and changes the interface and the output log only. -/
theorem answer_frame (h : CmdHdr) (op tick : Nat) (st : Status) (d : Nat) (res : Bytes) (s : State) :
    answer h op tick st d res s = { s with cmd := (answer h op tick st d res s).cmd, out := (answer h op tick st d res s).out }
    ∧ (answer h op tick st d res s).cmd.accepted = s.cmd.accepted ∧ (answer h op tick st d res s).cmd.order = s.cmd.order
    ∧ s.sent (answer h op tick st d res s)
        (.reply ⟨h.transport, op, h.tag, h.seq, tick, st, d, s.events.next, res, h.resultAddr, h.resultMax⟩) :=
  sendReply_frame _ s

theorem queryClear_mode (k : Cmd) (s : State) : (queryClear k s).twin.mode = s.twin.mode := by
  unfold queryClear
  split <;> rfl

theorem noteSpiRead_twin (t : Transport) (k : Cmd) (s : State) : (noteSpiRead t k s).twin = s.twin := by
  obtain ⟨n, h⟩ := noteSpiRead_frame t k s
  rw [h]

theorem answerQuery_mode (h : CmdHdr) (k : Cmd) (s : State) : (answerQuery h k s).twin.mode = s.twin.mode := by
  unfold answerQuery
  rw [noteSpiRead_twin, queryClear_mode, (answer_frame ..).1, (noteTag_frame h s).1]

/-- A query that has its answer leaves the mode as it was; so does a packet that is refused on a transport with replies. -/
theorem accept_mode {h : CmdHdr} {k : Cmd} {u : State} (hr : h.transport ≠ .reg) (hq : isQuery k = true) :
    (accept h k u).twin.mode = u.twin.mode := by
  cases hc : checkCmd u h k with
  | none => rw [accept_query hq hc, answerQuery_mode, (noteReplay_frame h u).1]
  | some f =>
    obtain ⟨u1, hu1, he⟩ := accept_rejected hr hc
    rw [he, (answer_frame ..).1, hu1.1]

/-! ## The packets of the command family -/

/-- Settles O6. -/
theorem commandsJoinAccepted : Obligations.CommandsJoinAccepted := by
  intro i h k s s1 hp hq hin hc
  obtain ⟨hj, ho, honly⟩ := accept_joins (arrived_of_intake hin) hq hc
  exact completes_of_keeps (exec_packet i h k s hp) _ (submit_taken hin) honly.keeps ⟨hj, ho, honly.get State.cfg, honly⟩

/-- Settles O8. -/
theorem rejectionsChangeNothing : Obligations.RejectionsChangeNothing := by
  intro i h k s s1 st d hp hin hr hc
  obtain ⟨u, hu, he⟩ := accept_rejected hr hc
  obtain ⟨hus, hacc, hord⟩ := ((arrived_of_intake hin).atTime h.arrival).trans hu
  obtain ⟨hform, hacc', hord', l, hout⟩ := answer_frame h (opcodeOf k) u.intervalTick st d [] u
  have honly : OnlyInterface s (answer h (opcodeOf k) u.intervalTick st d [] u) := by
    unfold OnlyInterface
    rw [hform, hus]
    rfl
  refine completes_of_keeps (exec_packet i h k s hp) _ ((submit_taken hin).trans he) honly.keeps
    ⟨⟨l, ?_⟩, by rw [hacc', hacc]; rfl, by rw [hord', hord]; rfl, honly⟩
  rw [hout, hus]
  rfl

/-- What a query leaves: its answer stands in the log, and none of the parts that a query may not change has changed. -/
theorem answerQuery_keeps (h : CmdHdr) (k : Cmd) (s : State) :
    s.sent (answerQuery h k s) (.reply ⟨h.transport, opcodeOf k, h.tag, h.seq, s.intervalTick, .ok, 0, s.events.next, queryResult s k,
      h.resultAddr, h.resultMax⟩)
    ∧ (answerQuery h k s).cmd.accepted = s.cmd.accepted ∧ (answerQuery h k s).cmd.order = s.cmd.order
    ∧ (answerQuery h k s).cfg = s.cfg ∧ (answerQuery h k s).pins = s.pins ∧ (answerQuery h k s).ledger = s.ledger
    ∧ (answerQuery h k s).panes = s.panes ∧ (answerQuery h k s).events.history = s.events.history ∧ (answerQuery h k s).power = s.power
    ∧ (answerQuery h k s).life = s.life ∧ (answerQuery h k s).time = s.time := by
  unfold answerQuery
  obtain ⟨n, hspi⟩ := noteSpiRead_frame h.transport k
    (queryClear k (answer h (opcodeOf k) s.intervalTick .ok 0 (queryResult s k) (noteTag h s)))
  obtain ⟨htag, haccT, hordT⟩ := noteTag_frame h s
  obtain ⟨hans, haccA, hordA, l, hout⟩ := answer_frame h (opcodeOf k) s.intervalTick .ok 0 (queryResult s k) (noteTag h s)
  obtain ⟨hacc, hord, hcfg, hpins, hledger, hpanes, hevents, hpower, hlife, htime, hout'⟩ :=
    queryClear_frame k (answer h (opcodeOf k) s.intervalTick .ok 0 (queryResult s k) (noteTag h s))
  have houtT : (noteTag h s).out = s.out := by rw [htag]
  have heventsT : (noteTag h s).events = s.events := by rw [htag]
  rw [houtT, heventsT] at hout
  rw [hspi]
  refine ⟨⟨l, hout'.trans hout⟩, ?_⟩
  dsimp only
  rw [hacc, hord, hcfg, hpins, hledger, hpanes, hevents, hpower, hlife, htime, haccA, hordA, haccT, hordT, hans, htag]
  exact ⟨rfl, rfl, rfl, rfl, rfl, rfl, rfl, rfl, rfl, rfl⟩

/-- Settles O7. -/
theorem queriesAnsweredAtOnce : Obligations.QueriesAnsweredAtOnce := by
  intro i h k s s1 hp hq hin hc
  refine completes_act (exec_packet i h k s hp) _ ((submit_taken hin).trans (accept_query hq hc)) ?_
  obtain ⟨hsent, hacc, hord, hrest⟩ := answerQuery_keeps h k (noteReplay h (atTime h.arrival s1))
  obtain ⟨hs, haccN, hordN⟩ := ((arrived_of_intake hin).atTime h.arrival).trans (arrived_noteReplay h _)
  generalize queryResult (noteReplay h (atTime h.arrival s1)) k = res at hsent ⊢
  generalize answerQuery h k (noteReplay h (atTime h.arrival s1)) = t at hsent hacc hord hrest ⊢
  have hacc' := hacc.trans haccN
  have hord' := hord.trans hordN
  rw [hs] at hsent hrest
  exact ⟨hsent, hacc', hord', hrest⟩

end Sys2Proof.Machine
end

section
/-! The transports that carry command packets: PCIe queue pairs (R366), the console's SPI port (R367), UDP datagrams (R371) and BAR0 writes that are
HEAD commands (R377). -/
namespace Sys2Proof.Machine

/-! ## What a command that joins leaves of its transport -/

/-- Of the interface an accepted command changes the accepted commands, their order and the TAG noted over SPI only. -/
theorem enqueue_cmd (h : CmdHdr) (k : Cmd) (s : State) :
    (enqueue h k s).cmd.queues = s.cmd.queues ∧ (enqueue h k s).cmd.spi = (noteTag h s).cmd.spi := by
  unfold enqueue
  dsimp only
  obtain ⟨o, t, e⟩ := announceCmd_form h k (s.resolve 20000 h).tick (s.forwards h k)
    (noteTag h { s with cmd := { s.cmd with order := s.cmd.order + 1, accepted := s.cmd.accepted ++ [_] } })
  rw [e]
  unfold noteTag
  split <;> exact ⟨rfl, rfl⟩

theorem noteReplay_cmd (h : CmdHdr) (s : State) :
    (noteReplay h s).cmd.queues = s.cmd.queues ∧ (noteReplay h s).cmd.spi = s.cmd.spi := by
  unfold noteReplay
  split
  · split <;> exact ⟨rfl, rfl⟩
  · exact ⟨rfl, rfl⟩

theorem noteTag_spi {h : CmdHdr} (ht : h.transport = .spi) (s : State) :
    (noteTag h s).cmd.spi = { s.cmd.spi with lastTag := h.tag } := by
  unfold noteTag
  rw [ht]

theorem acceptParsed_command {tr : Transport} {t : Time64} {a m : Nat} {p : Parsed} {k : Cmd} (hp : p.cmd = .ok k) (s : State) :
    acceptParsed tr t a m p s = accept (hdrOf tr t a m p.hdr) k s := by
  unfold acceptParsed
  rw [hp]

theorem accept_queues {h : CmdHdr} {k : Cmd} {u : State} (hq : isQuery k = false) (hc : checkCmd u h k = none) (q : Nat) :
    (accept h k u).queue q = u.queue q := by
  rw [accept_command hq hc]
  unfold State.queue
  rw [(enqueue_cmd ..).1, (noteReplay_cmd ..).1]

theorem accept_spi {h : CmdHdr} {k : Cmd} {u : State} (hq : isQuery k = false) (hc : checkCmd u h k = none) (ht : h.transport = .spi) :
    (accept h k u).cmd.spi = { u.cmd.spi with lastTag := h.tag } := by
  rw [accept_command hq hc, (enqueue_cmd ..).2, noteTag_spi ht, (noteReplay_cmd ..).2]

/-! ## Arrival on each transport -/

/-- An entry that is fetched moves its pair on. -/
theorem intake_pcie_taken {q : Fin 8} {s s1 : State} (h : intake (.pcie q) s = (true, s1)) :
    s1 = s.setQueue q (s.queue q).fetched.restall := by
  unfold intake at h
  dsimp only at h
  split at h
  · cases h
  · split at h
    · cases h
    · split at h
      · cases h; rfl
      · cases h

theorem intake_spi_taken {s : State} (hp : s.powered = true) (hf : s.mem.fatal = false) (hh : s.cmd.spi.held < 4) :
    intake .spi s = (true, { s with cmd := { s.cmd with spi := { s.cmd.spi with held := s.cmd.spi.held + 1 } } }) := by
  have hopen : (!s.powered || s.mem.fatal) = false := by simp [hp, hf]
  unfold intake
  rw [hopen]
  exact if_pos hh

theorem intake_spi_overrun {s : State} (hp : s.powered = true) (hf : s.mem.fatal = false) (hh : 4 ≤ s.cmd.spi.held) :
    intake .spi s = (false, { s with cmd := { s.cmd with spi := { s.cmd.spi with overrun := true } } }) := by
  have hopen : (!s.powered || s.mem.fatal) = false := by simp [hp, hf]
  unfold intake
  rw [hopen]
  exact if_neg (Nat.not_lt.mpr hh)

theorem intake_udp_taken {s : State} {c : Nat} (a : AddrRec) (hp : s.powered = true) (hf : s.mem.fatal = false)
    (hi : s.life.installId.isSome = true) (hc : c < 16) : intake (.udp c a) s = (true, s) := by
  have hopen : (!s.powered || s.mem.fatal) = false := by simp [hp, hf]
  unfold intake
  rw [hopen]
  simp [hc, hi]

/-! ## The rows of the transports -/

/-- What an ordinary meaning answers depends on what its function makes of the state. -/
theorem act_congr {f g : State → State} {s : State} (h : f s = g s) : act f s = act g s := by
  unfold act
  rw [h]

theorem exec_sqEntryFetch {s s1 : State} {q : Fin 8} {f : SqFetch} {t : Time64} (hin : intake (.pcie q) s = (true, s1)) :
    exec (.sqEntryFetch q f t) s = act (fun s =>
      if f.pcieErr then fetchFault q (atTime t s)
      else
        let s2 := acceptParsed (.pcie q) t (fld f.entry 32 8) (fld f.entry 40 4) (parseSq f) (atTime t s1)
        if f.resultErr && queryEntry f && wroteResult f s1 s2 then fetchFault q s2 else s2) s := by
  change execSqEntryFetch q f t s = _
  unfold execSqEntryFetch
  refine act_congr ?_
  rw [hin]

theorem exec_cmdWrite_taken {s : State} {frame b : Bytes} {t : Time64} (hp : s.powered = true) (hf : s.mem.fatal = false)
    (hh : s.cmd.spi.held < 4) (hb : spiPacket frame = some b) :
    exec (.cmdWrite frame true t) s = act (fun s => acceptParsed .spi t 0 0 (parsePacket b)
      (atTime t { s with cmd := { s.cmd with spi := { s.cmd.spi with held := s.cmd.spi.held + 1 } } })) s := by
  change execCmdWrite frame true t s = _
  unfold execCmdWrite
  refine act_congr ?_
  rw [hb, intake_spi_taken hp hf hh, hp]
  rfl

theorem exec_cmdWrite_overrun {s : State} {frame : Bytes} {t : Time64} (hp : s.powered = true) (hf : s.mem.fatal = false)
    (hh : 4 ≤ s.cmd.spi.held) (hb : (spiPacket frame).isSome = true) :
    exec (.cmdWrite frame true t) s = act (fun s => { s with cmd := { s.cmd with spi := { s.cmd.spi with overrun := true } } }) s := by
  obtain ⟨b, hb⟩ := Option.isSome_iff_exists.mp hb
  change execCmdWrite frame true t s = _
  unfold execCmdWrite
  refine act_congr ?_
  rw [hb, intake_spi_overrun hp hf hh, hp]
  rfl

theorem exec_cmdWrite_bad {s : State} {frame : Bytes} {complete : Bool} {t : Time64} (hp : s.powered = true)
    (hb : (spiPacket frame).isNone = true ∨ complete = false) :
    exec (.cmdWrite frame complete t) s = act spiBad s := by
  change execCmdWrite frame complete t s = _
  unfold execCmdWrite
  refine act_congr ?_
  rw [hp]
  rcases hb with hb | rfl
  · rw [Option.isNone_iff_eq_none.mp hb]
    rfl
  · cases spiPacket frame <;> rfl

theorem exec_udpCommandDatagram_bad {s : State} {src : AddrRec} {g : Bytes} {t : Time64} (hp : s.powered = true)
    (hm : udpMacOk s.life.installKey g = false) :
    exec (.udpCommandDatagram src g false t) s = act (fun s => authFail t (atTime t s)) s := by
  change execUdpCommandDatagram src g false t s = _
  unfold execUdpCommandDatagram
  refine act_congr ?_
  rw [hp, hm, Bool.not_false, Bool.or_true]
  rfl

theorem exec_udpCommandDatagram_taken {s : State} {src : AddrRec} {g : Bytes} {t : Time64} (hp : s.powered = true) (hf : s.mem.fatal = false)
    (hi : s.life.installId.isSome = true) (hm : udpMacOk s.life.installKey g = true) (hc : udpClient g < 16) (h0 : fld g 2 2 = 0) :
    exec (.udpCommandDatagram src g false t) s =
      act (fun s => acceptParsed (.udp (udpClient g) src) t 0 0 (parsePacket (udpPacket g)) (atTime t s)) s := by
  change execUdpCommandDatagram src g false t s = _
  unfold execUdpCommandDatagram
  refine act_congr ?_
  have hin := intake_udp_taken (s := atTime t s) src hp hf hi hc
  have hid : s.life.installId.isNone = false := by simpa [Option.isNone_eq_false_iff] using hi
  dsimp only
  rw [hin, hm, hp, hid, if_pos h0]
  rfl

/-- A pair that meets a PCIe error stops with CMDQ_FAULT. -/
theorem fetchFault_faults (q : Fin 8) {s u : State} (hm : u.hot = s.hot) :
    ((fetchFault q u).queue q).fetchErr = true ∧ ((fetchFault q u).queue q).stalled = false
    ∧ ((fetchFault q u).queue q).sqHead = (u.queue q).sqHead ∧ (fetchFault q u).cmd.accepted = u.cmd.accepted
    ∧ s.raised (fetchFault q u) .cmdqFault none [(1, q.val)] := by
  have haccepted : (fetchFault q u).cmd.accepted = u.cmd.accepted := by
    unfold fetchFault raise
    rw [raiseAt_frame]
    rfl
  have hq : (fetchFault q u).queue q = { u.queue q with fetchErr := true, stalled := false } := by
    unfold fetchFault raise
    rw [raiseAt_frame]
    exact queue_setQueue ..
  rw [hq]
  exact ⟨rfl, rfl, rfl, haccepted, raised_raise _ _ hm⟩

/-! ## The statements about transports -/

theorem sqEntryFetch_joins {s s1 : State} {q : Fin 8} {f : SqFetch} {t : Time64} {k : Cmd} (hin : intake (.pcie q) s = (true, s1))
    (he : f.pcieErr = false) (hk : (parseSq f).cmd = .ok k) (hq : isQuery k = false)
    (hc : checkCmd (atTime t s1) (hdrOf (.pcie q) t (fld f.entry 32 8) (fld f.entry 40 4) (parseSq f).hdr) k = none) :
    Completes (.sqEntryFetch q f t) s (fun u =>
      s.joined u (hdrOf (.pcie q) t (fld f.entry 32 8) (fld f.entry 40 4) (parseSq f).hdr) k
      ∧ (u.queue q).sqHead = ((s.queue q).sqHead + 1) % (s.queue q).size ∧ (u.queue q).inFlight = (s.queue q).inFlight + 1
      ∧ OnlyAcceptance s u) := by
  have hnoquery : queryEntry f = false := by
    unfold queryEntry
    rw [hk]
    exact hq
  obtain ⟨hj, -, honly⟩ := accept_joins (arrived_of_intake hin) hq hc
  have hfetched : s1.queue q = (s.queue q).fetched.restall := by
    rw [intake_pcie_taken hin]
    exact queue_setQueue ..
  have hqueue := (accept_queues hq hc q).trans hfetched
  refine completes_of_keeps (exec_sqEntryFetch hin) _ ?_ honly.keeps
    ⟨hj, congrArg QueuePair.sqHead hqueue, congrArg QueuePair.inFlight hqueue, honly⟩
  rw [he, hnoquery, acceptParsed_command hk]
  simp only [Bool.and_false, Bool.false_and, Bool.false_eq_true, if_false]
  rfl

theorem cmdWrite_joins {s : State} {frame b : Bytes} {t : Time64} {k : Cmd} (hp : s.powered = true) (hf : s.mem.fatal = false)
    (hh : s.cmd.spi.held < 4) (hb : spiPacket frame = some b) (hk : (parsePacket b).cmd = .ok k) (hq : isQuery k = false)
    (hc : checkCmd (atTime t { s with cmd := { s.cmd with spi := { s.cmd.spi with held := s.cmd.spi.held + 1 } } })
      (hdrOf .spi t 0 0 (parsePacket b).hdr) k = none) :
    Completes (.cmdWrite frame true t) s (fun u =>
      s.joined u (hdrOf .spi t 0 0 (parsePacket b).hdr) k ∧ u.cmd.spi.held = s.cmd.spi.held + 1
      ∧ u.cmd.spi.lastTag = (parsePacket b).hdr.tag ∧ OnlyAcceptance s u) := by
  obtain ⟨hj, -, honly⟩ := accept_joins (s := s)
    (s1 := { s with cmd := { s.cmd with spi := { s.cmd.spi with held := s.cmd.spi.held + 1 } } }) ⟨rfl, rfl, rfl⟩ hq hc
  have hspi := accept_spi hq hc rfl
  exact completes_of_keeps (exec_cmdWrite_taken hp hf hh hb) _ (acceptParsed_command hk _) honly.keeps
    ⟨hj, congrArg SpiPort.held hspi, congrArg SpiPort.lastTag hspi, honly⟩

theorem udpCommandDatagram_joins {s : State} {src : AddrRec} {g : Bytes} {t : Time64} {k : Cmd} (hp : s.powered = true)
    (hf : s.mem.fatal = false) (hi : s.life.installId.isSome = true) (hm : udpMacOk s.life.installKey g = true) (hcl : udpClient g < 16)
    (h0 : fld g 2 2 = 0) (hk : (parsePacket (udpPacket g)).cmd = .ok k) (hq : isQuery k = false)
    (hc : checkCmd (atTime t s) (hdrOf (.udp (udpClient g) src) t 0 0 (parsePacket (udpPacket g)).hdr) k = none) :
    Completes (.udpCommandDatagram src g false t) s (fun u =>
      s.joined u (hdrOf (.udp (udpClient g) src) t 0 0 (parsePacket (udpPacket g)).hdr) k ∧ OnlyAcceptance s u) := by
  obtain ⟨hj, -, honly⟩ := accept_joins (.refl s) hq hc
  exact completes_of_keeps (exec_udpCommandDatagram_taken hp hf hi hm hcl h0) _ (acceptParsed_command hk _) honly.keeps ⟨hj, honly⟩

/-- A frame that is discarded while a buffer is free sets SPI_CRC_ERR only. -/
theorem spiBad_of_free {s : State} (hh : s.cmd.spi.held < 4) :
    spiBad s = { s with cmd := { s.cmd with spi := { s.cmd.spi with crcErr := true } } } := by
  have hover : (s.cmd.spi.overrun || decide (4 ≤ s.cmd.spi.held)) = s.cmd.spi.overrun := by
    rw [decide_eq_false (Nat.not_le.mpr hh), Bool.or_false]
  unfold spiBad
  rw [hover]

theorem sqEntryFetch_fetchErr {s s1 : State} {q : Fin 8} {f : SqFetch} {t : Time64} (hin : intake (.pcie q) s = (true, s1))
    (he : f.pcieErr = true) :
    Completes (.sqEntryFetch q f t) s (fun u =>
      (u.queue q).fetchErr = true ∧ (u.queue q).sqHead = (s.queue q).sqHead ∧ u.cmd.accepted = s.cmd.accepted
      ∧ s.raised u .cmdqFault none [(1, q.val)]) := by
  obtain ⟨herr, -, hhead, hacc, hev⟩ := fetchFault_faults q (s := s) (u := atTime t s) rfl
  exact completes_act (exec_sqEntryFetch hin) (fetchFault q (atTime t s)) (if_pos he) ⟨herr, hhead, hacc, raised_congr hev rfl rfl⟩

theorem sqEntryFetch_resultErr {s s1 : State} {q : Fin 8} {f : SqFetch} {t : Time64} (hin : intake (.pcie q) s = (true, s1))
    (he : f.pcieErr = false) (hr : f.resultErr = true) (hquery : queryEntry f = true)
    (hw : wroteResult f s1 (acceptParsed (.pcie q) t (fld f.entry 32 8) (fld f.entry 40 4) (parseSq f) (atTime t s1)) = true) :
    Completes (.sqEntryFetch q f t) s (fun u =>
      (u.queue q).fetchErr = true ∧ (u.queue q).stalled = false ∧ s.raised u .cmdqFault none [(1, q.val)]) := by
  obtain ⟨k, hk, hq⟩ : ∃ k, (parseSq f).cmd = .ok k ∧ isQuery k = true := by
    unfold queryEntry at hquery
    split at hquery
    · exact ⟨_, ‹_›, hquery⟩
    · cases hquery
  have hmode : (acceptParsed (.pcie q) t (fld f.entry 32 8) (fld f.entry 40 4) (parseSq f) (atTime t s1)).hot = s.hot := by
    unfold State.hot
    rw [acceptParsed_command hk, accept_mode (by exact Transport.noConfusion) hq, (arrived_of_intake hin).1]
    rfl
  obtain ⟨herr, hstall, -, -, hev⟩ := fetchFault_faults q hmode
  refine completes_act (exec_sqEntryFetch hin) (fetchFault q _) ?_ ⟨herr, hstall, raised_congr hev rfl rfl⟩
  dsimp only
  rw [he, hr, hquery, hw]
  rfl

theorem authFail_due {t : Time64} {s : State} (h : ∀ x, s.cmd.authFailT = some x → x + 1000000000 ≤ t) :
    authFail t s = raise .cmdAuthFail [] { s with cmd := { s.cmd with authFail := wrapInc 32 s.cmd.authFail, authFailT := some t } } := by
  unfold authFail
  cases hlast : s.cmd.authFailT with
  | none => rfl
  | some x => exact if_pos (decide_eq_true (h x hlast))

theorem authFail_early {t x : Time64} {s : State} (h : s.cmd.authFailT = some x) (hx : ¬ x + 1000000000 ≤ t) :
    authFail t s = { s with cmd := { s.cmd with authFail := wrapInc 32 s.cmd.authFail } } := by
  unfold authFail
  simp only [h, hx, decide_false, Bool.false_eq_true, if_false]

/-- A datagram with a bad MAC is counted, and reported where none has been within the last second. -/
theorem authFail_counts (t : Time64) (s : State) :
    (authFail t s).cmd.authFail = (s.cmd.authFail + 1) % 2 ^ 32 ∧ (authFail t s).cmd.accepted = s.cmd.accepted ∧ (authFail t s).cfg = s.cfg
    ∧ ((∀ x, s.cmd.authFailT = some x → x + 1000000000 ≤ t) → s.raised (authFail t s) .cmdAuthFail none []) := by
  by_cases hdue : ∀ x, s.cmd.authFailT = some x → x + 1000000000 ≤ t
  · rw [authFail_due hdue]
    have honly := onlyEvents_raise .cmdAuthFail []
      { s with cmd := { s.cmd with authFail := wrapInc 32 s.cmd.authFail, authFailT := some t } }
    exact ⟨honly.get (fun x => x.cmd.authFail), honly.get (fun x => x.cmd.accepted), honly.get State.cfg, fun _ => raised_raise _ _ rfl⟩
  · obtain ⟨x, hx, hearly⟩ : ∃ x, s.cmd.authFailT = some x ∧ ¬ x + 1000000000 ≤ t := by simpa using hdue
    rw [authFail_early hx hearly]
    exact ⟨rfl, rfl, rfl, fun hall => absurd hall hdue⟩

/-- Settles O10. -/
theorem packetTransports : Obligations.PacketTransports := by
  refine ⟨⟨?_, ?_, ?_⟩, ?_, ?_, ?_, ?_, ?_⟩
  · intro s s1 q f t k hin he hk hq hc
    exact sqEntryFetch_joins hin he hk hq hc
  · intro s frame b t k hp hf hh hb hk hq hc
    exact cmdWrite_joins hp hf hh hb hk hq hc
  · intro s src g t k hp hf hi hm hcl h0 hk hq hc
    exact udpCommandDatagram_joins hp hf hi hm hcl h0 hk hq hc
  · intro s frame complete t hp hb hh
    exact completes_of_keeps (exec_cmdWrite_bad hp hb) _ (spiBad_of_free hh) ⟨rfl, rfl, rfl⟩ rfl
  · intro s frame t hp hf hb hh
    exact completes_of_keeps (exec_cmdWrite_overrun hp hf hh hb) _ rfl ⟨rfl, rfl, rfl⟩ rfl
  · intro s s1 q f t hin he
    exact sqEntryFetch_fetchErr hin he
  · intro s s1 q f t hin he hr hquery hw
    exact sqEntryFetch_resultErr hin he hr hquery hw
  · intro s src g t hp _ hm
    obtain ⟨hcount, hacc, hcfg, hev⟩ := authFail_counts t (atTime t s)
    exact completes_act (exec_udpCommandDatagram_bad hp hm) _ rfl ⟨hcount, hacc, hcfg, fun hall => raised_congr (hev hall) rfl rfl⟩

theorem isQuery_headSet (l : List SetRec) : isQuery (.headSet l) = false := by
  simp [isQuery, opcodeOf, bit]

/-- A BAR0 write of a register that is a HEAD command's parameter is that command, with apply tick 0. -/
theorem writeMap_joins {i : Instr} {s : State} {pid x : Nat} {v : Reg32} {t : Time64}
    (hi : exec i s = act (regWrite (writeMap pid x v t)) s) (ho : s.bar0Open = true) (hf : s.mem.fatal = false)
    (hc : checkCmd (atTime t s) ⟨.reg, 0, 0, 0, false, 0, 0, 0, t⟩ (.headSet [⟨pid, x, 0, .num v.toNat⟩]) = none) :
    Completes i s (fun u =>
      s.joined u ⟨.reg, 0, 0, 0, false, 0, 0, 0, t⟩ (.headSet [⟨pid, x, 0, .num v.toNat⟩]) ∧ u.cfg = s.cfg ∧ OnlyAcceptance s u) := by
  obtain ⟨hj, -, honly⟩ := accept_joins (.refl s) (isQuery_headSet _) hc
  refine completes_of_keeps hi _ ?_ honly.keeps ⟨hj, honly.get State.cfg, honly⟩
  have hopen : regWrite (writeMap pid x v t) s = writeMap pid x v t s := if_pos ho
  rw [hopen]
  unfold writeMap
  rw [hf]
  rfl

/-- Settles O11. -/
theorem liveMapWrites : Obligations.LiveMapWrites := by
  refine ⟨?_, ?_, ?_⟩
  · intro s x v t ho hf hc
    exact writeMap_joins rfl ho hf hc
  · intro s x v t ho hf hc
    exact writeMap_joins rfl ho hf hc
  · intro s v t ho hf hc
    exact writeMap_joins rfl ho hf hc

end Sys2Proof.Machine
end

section
/-! The host interface: doorbells, the event ring (R364, R374), BAR0 and the console's reads (R367, R369, R376), and PERST_N (R456). -/
namespace Sys2Proof.Machine

/-! ## Rows that complete with a state of the same queue, strap and DRAM -/

/-- An ordinary meaning completes with what its function makes of the state, where that keeps the queue, the strap and DRAM. -/
theorem act_eq_next {f : State → State} {s u : State} (hu : f s = u) (hk : KeepsFrame s u) : act f s = .next u := by
  rw [act_next, hu, hk.eq]

theorem regWrite_open {f : State → State} {s : State} (ho : s.bar0Open = true) : regWrite f s = f s := if_pos ho

theorem completes_regWrite {i : Instr} {s : State} {f : State → State} {P : State → Prop} (h : exec i s = act (regWrite f) s)
    (ho : s.bar0Open = true) (hk : KeepsFrame s (f s)) (hp : P (f s)) : Completes i s P :=
  completes_of_keeps h (f s) (regWrite_open ho) hk hp

/-! ## Queue pairs (R364, R366) -/

theorem QueuePair.setTail_inside {p : QueuePair} {idx : Nat} (he : p.enabled = true) (hi : idx < p.size) :
    p.setTail idx = { p with tail := idx }.restall := by
  unfold QueuePair.setTail
  rw [he, if_neg (Nat.not_le.mpr hi)]
  rfl

theorem QueuePair.setTail_outside {p : QueuePair} {idx : Nat} (he : p.enabled = true) (hi : ¬ idx < p.size) :
    p.setTail idx = { p with doorbellErr := true } := by
  unfold QueuePair.setTail
  rw [he, if_pos (Nat.not_lt.mp hi)]
  rfl

theorem QueuePair.setHead_inside {p : QueuePair} {idx : Nat} (he : p.enabled = true) (hi : idx < p.size) :
    p.setHead idx = { p with cqHead := consumeTo p.size p.cqHead p.cqCount idx }.restall := by
  unfold QueuePair.setHead
  rw [he, if_neg (Nat.not_le.mpr hi)]
  rfl

theorem QueuePair.setHead_outside {p : QueuePair} {idx : Nat} (he : p.enabled = true) (hi : ¬ idx < p.size) :
    p.setHead idx = { p with doorbellErr := true } := by
  unfold QueuePair.setHead
  rw [he, if_pos (Nat.not_lt.mp hi)]
  rfl

theorem getLsbD_zero_mask {v m : Reg32} (hm : m.getLsbD 0 = true) (hv : v.getLsbD 0 = true) : (v &&& m).getLsbD 0 = true := by
  rw [BitVec.getLsbD_and, hv, hm]
  rfl

/-- Enabling a pair takes its configuration and restarts its indices (log 16). -/
theorem QueuePair.setCfg_enable {p : QueuePair} {v : Reg32} (he : p.enabled = false) (hv : v.getLsbD 0 = true) :
    p.setCfg v = { p with cfg := v &&& 0x3FF, tail := 0, sqHead := 0, cqHead := 0, cqCount := 0, inFlight := 0, fetchErr := false,
                          stalled := false, stopping := false } := by
  unfold QueuePair.setCfg
  rw [he]
  exact if_pos (getLsbD_zero_mask (by decide) hv)

/-- A write of one pair leaves the others, and changes the interface only. -/
theorem setQueue_others (s : State) (q : Nat) (v : QueuePair) :
    (∀ p : Nat, p ≠ q → (s.setQueue q v).queue p = s.queue p) ∧ OnlyInterface s (s.setQueue q v) :=
  ⟨fun _ hp => queue_setQueue_ne s q v hp, rfl⟩

theorem cmdqSqTail_completes (s : State) (q : Fin 8) (idx : Nat) (t : Time64) (ho : s.bar0Open = true) (he : (s.queue q).enabled = true) :
    Completes (.cmdqSqTail q idx t) s (fun t =>
      (if idx < (s.queue q).size then (t.queue q).tail = idx ∧ (t.queue q).doorbellErr = (s.queue q).doorbellErr
        else (t.queue q).tail = (s.queue q).tail ∧ (t.queue q).doorbellErr = true)
      ∧ (∀ p : Nat, p ≠ q.val → t.queue p = s.queue p) ∧ t.cmd.accepted = s.cmd.accepted ∧ OnlyInterface s t) := by
  have hq := queue_setQueue (atTime t s) q ((s.queue q).setTail idx)
  obtain ⟨hothers, honly⟩ := setQueue_others (atTime t s) q ((s.queue q).setTail idx)
  refine completes_of_keeps (f := fun s => regWrite (fun s => (atTime t s).setQueue q ((s.queue q).setTail idx)) s) rfl _ (regWrite_open ho)
    ⟨rfl, rfl, rfl⟩ ⟨?_, hothers, rfl, (onlyInterface_atTime t s).trans honly⟩
  rw [hq]
  split
  · rw [QueuePair.setTail_inside he ‹_›]; exact ⟨rfl, rfl⟩
  · rw [QueuePair.setTail_outside he ‹_›]; exact ⟨rfl, rfl⟩

theorem cmdqCqHead_completes (s : State) (q : Fin 8) (idx : Nat) (ho : s.bar0Open = true) (he : (s.queue q).enabled = true) :
    Completes (.cmdqCqHead q idx) s (fun t =>
      (if idx < (s.queue q).size then
        (t.queue q).cqHead = consumeTo (s.queue q).size (s.queue q).cqHead (s.queue q).cqCount idx
        else (t.queue q).cqHead = (s.queue q).cqHead ∧ (t.queue q).doorbellErr = true)
      ∧ (∀ p : Nat, p ≠ q.val → t.queue p = s.queue p) ∧ t.cmd.accepted = s.cmd.accepted ∧ OnlyInterface s t) := by
  have hq := queue_setQueue s q ((s.queue q).setHead idx)
  obtain ⟨hothers, honly⟩ := setQueue_others s q ((s.queue q).setHead idx)
  refine completes_regWrite (f := fun s => s.setQueue q ((s.queue q).setHead idx)) rfl ho ⟨rfl, rfl, rfl⟩ ⟨?_, hothers, rfl, honly⟩
  rw [hq]
  split
  · rw [QueuePair.setHead_inside he ‹_›]; rfl
  · rw [QueuePair.setHead_outside he ‹_›]; exact ⟨rfl, rfl⟩

theorem cmdqCfgWrite_completes (s : State) (q : Fin 8) (v : Reg32) (ho : s.bar0Open = true) (he : (s.queue q).enabled = false)
    (hv : v.getLsbD 0 = true) :
    Completes (.cmdqCfgWrite q v) s (fun t =>
      (t.queue q).cfg = v &&& 0x3FF ∧ (t.queue q).enabled = true ∧ (t.queue q).sqHead = 0 ∧ (t.queue q).tail = 0
      ∧ (t.queue q).cqCount = 0 ∧ (t.queue q).sqBase = (s.queue q).sqBase ∧ (t.queue q).cqBase = (s.queue q).cqBase
      ∧ (∀ p : Nat, p ≠ q.val → t.queue p = s.queue p) ∧ OnlyInterface s t) := by
  have hq := (queue_setQueue s q ((s.queue q).setCfg v)).trans (QueuePair.setCfg_enable he hv)
  obtain ⟨hothers, honly⟩ := setQueue_others s q ((s.queue q).setCfg v)
  refine completes_regWrite (f := fun s => s.setQueue q ((s.queue q).setCfg v)) rfl ho ⟨rfl, rfl, rfl⟩ ?_
  rw [hq]
  exact ⟨rfl, getLsbD_zero_mask (by decide) hv, rfl, rfl, rfl, rfl, rfl, hothers, honly⟩

/-! ## The event ring (R374) -/

/-- Without a lost record there is no EVQ_GAP to write. -/
theorem writeGap_of_none {s : State} (h : s.events.gap = none) : writeGap s = s := by
  unfold writeGap
  rw [h]

/-- A write of EVQ_CFG to a ring that is off takes the configuration, and restarts the indices where it enables the ring. -/
theorem setEvqCfg_of_off {s : State} (v : Reg32) (he : s.events.enabled = false) (hg : s.events.gap = none) :
    setEvqCfg v s = { s with events :=
      if (v &&& 0x7FF).getLsbD 0 then { s.events with cfg := v &&& 0x7FF, prod := 0, cons := 0 } else { s.events with cfg := v &&& 0x7FF } } := by
  unfold setEvqCfg
  dsimp only
  rw [he]
  simp only [Bool.not_false, Bool.true_and, Bool.false_and, Bool.false_eq_true, if_false]
  split
  · exact writeGap_of_none hg
  · rfl

theorem setEvqCons_inside {s : State} {idx : Nat} (he : s.events.enabled = true) (hi : idx < s.events.size) (hg : s.events.gap = none) :
    setEvqCons idx s = { s with events := { s.events with cons := consumeTo s.events.size s.events.cons s.events.prod idx } } := by
  unfold setEvqCons
  have hopen : (!s.events.enabled || decide (s.events.size ≤ idx)) = false := by simp [he, hi]
  exact (if_neg (Bool.eq_false_iff.mp hopen)).trans (writeGap_of_none hg)

/-- What writing a record to the ring does: the record and its index are written, and the ring's cause bit is set. -/
theorem writeRing_frame (r : EventRec) (s : State) :
    (writeRing r s).events = { s.events with prod := s.events.prod + 1 }
    ∧ s.sent (writeRing r s) (.hostWrite (s.events.base + 64 * (s.events.prod % s.events.size)) (eventBytes r))
    ∧ (writeRing r s).cmd.irqCause = s.cmd.irqCause ||| 0x100 := by
  unfold writeRing
  extract_lets e i s1 s2 ev s3 s4
  obtain ⟨m, l, h⟩ := sendMsix_form 8 (bits e.cfg.toNat 10 6) s4
  rw [h]
  refine ⟨rfl, ⟨.eventRing i r :: .hostWrite (e.base - 64) (le 8 ((e.prod + 1) % e.size)) :: l, ?_⟩, rfl⟩
  simp only [setIrq_out, s4, s3, s2, s1, emit_out, List.append_assoc, List.cons_append, List.nil_append]
  rfl

theorem writeNext_of_record {s : State} {r : EventRec} (hr : s.events.room = true) (hg : s.events.gap = none)
    (hf : s.events.history.find? (fun x => s.events.written ≤ x.seq) = some r) :
    writeNext s = { writeRing r s with events := { (writeRing r s).events with written := r.seq + 1 } } := by
  unfold writeNext
  rw [hr, hg, hf]
  rfl

theorem evqCfgWrite_completes (s : State) (v : Reg32) (ho : s.bar0Open = true) (he : s.events.enabled = false) (hg : s.events.gap = none) :
    Completes (.evqCfgWrite v) s (fun t =>
      t.events.cfg = v &&& 0x7FF ∧ (v.getLsbD 0 = true → t.events.prod = 0 ∧ t.events.cons = 0)
      ∧ t.events.history = s.events.history ∧ t.events.next = s.events.next ∧ OnlyEvents s t) := by
  have hset := setEvqCfg_of_off v he hg
  refine completes_of_keeps (f := regWrite (setEvqCfg v)) rfl _ ((regWrite_open ho).trans hset) ⟨rfl, rfl, rfl⟩ ?_
  by_cases hb : (v &&& 0x7FF).getLsbD 0 = true
  · rw [if_pos hb]
    exact ⟨rfl, fun _ => ⟨rfl, rfl⟩, rfl, rfl, rfl⟩
  · rw [if_neg hb]
    exact ⟨rfl, fun hv => absurd (getLsbD_zero_mask (by decide) hv) hb, rfl, rfl, rfl⟩

theorem evqRecordWrite_completes (s : State) (r : EventRec) (hp : s.powered = true) (hperst : s.power.perst = false)
    (hr : s.events.room = true) (hg : s.events.gap = none)
    (hf : s.events.history.find? (fun x => s.events.written ≤ x.seq) = some r) :
    Completes .evqRecordWrite s (fun t =>
      t.events = { s.events with prod := s.events.prod + 1, written := r.seq + 1 }
      ∧ s.sent t (.hostWrite (s.events.base + 64 * (s.events.prod % s.events.size)) (eventBytes r))
      ∧ t.cmd.irqCause = s.cmd.irqCause ||| 0x100) := by
  obtain ⟨hevents, hsent, hcause⟩ := writeRing_frame r s
  have hopen : (s.powered && !s.power.perst) = true := by simp [hp, hperst]
  refine completes_act (f := fun s => if s.powered && !s.power.perst then writeNext s else s) rfl _
    ((if_pos hopen).trans (writeNext_of_record hr hg hf)) ⟨?_, hsent, hcause⟩
  dsimp only
  rw [hevents]

/-- Settles O3. -/
theorem hostRings : Obligations.HostRings := by
  refine ⟨⟨cmdqSqTail_completes, cmdqCqHead_completes, cmdqCfgWrite_completes⟩, evqCfgWrite_completes, ?_, evqRecordWrite_completes⟩
  intro s idx ho he hi hg
  exact completes_of_keeps (f := regWrite (setEvqCons idx)) rfl _ ((regWrite_open ho).trans (setEvqCons_inside he hi hg)) ⟨rfl, rfl, rfl⟩
    ⟨rfl, rfl⟩

/-! ## PERST_N (R456) -/

theorem getLsbD_zero_clear (v : Reg32) : (v &&& 0xFFFFFFFE).getLsbD 0 = false := by
  rw [BitVec.getLsbD_and]
  exact Bool.and_false _

theorem queueInit_enabled : queueInit.enabled = false := by decide

/-- Settles O5. -/
theorem perstResetsEndpoint : Obligations.PerstResetsEndpoint := by
  refine ⟨fun s => ?low, fun s hp => ?high⟩
  case low =>
    exact completes_of_keeps (f := fun s => { s with
      power := { s.power with perst := true }, cmd := { s.cmd with queues := [] },
      events := { s.events with cfg := s.events.cfg &&& 0xFFFFFFFE } }) rfl _ rfl ⟨rfl, rfl, rfl⟩
      ⟨rfl, fun _ => queueInit_enabled, getLsbD_zero_clear _, rfl⟩
  case high =>
    refine ⟨{ s with
      power := { s.power with perst := false }
      cmd := { s.cmd with queues := [], irqCause := 0, irqMask := 0, bar2Base := 0, bar2Next := none, hiLatch := [], msixT := [] }
      events := { s.events with base := 0, cfg := 0, prod := 0, cons := 0 } }, ?_,
      rfl, rfl, rfl, rfl, fun _ => rfl, rfl, rfl, rfl, rfl, rfl, rfl, rfl⟩
    change execPciePerstNHigh s = _
    exact act_eq_next (if_neg (by simp [hp])) ⟨rfl, rfl, rfl⟩

/-! ## BAR0 and the BAR2 window (R376, R223, R303) -/

theorem clearIrq_of_read {s : State} (v : Reg32) (h : s.cmd.spi.replies = []) :
    (clearIrq v s).cmd.irqCause = s.cmd.irqCause &&& ~~~v := by
  unfold clearIrq
  rw [h]
  exact BitVec.or_zero

theorem onlyInterface_clearIrq (v : Reg32) (s : State) : OnlyInterface s (clearIrq v s) := rfl

/-- What clearing sticky bits leaves: a bit that is written 1, or that is not one of the three, is 0. -/
theorem testBit_clearSticky (n b : Nat) (v : Reg32) :
    (n &&& (headSticky &&& (2 ^ 32 - 1 - v.toNat))).testBit b = (n.testBit b && headSticky.testBit b && !v.getLsbD b) := by
  have hbelow : headSticky.testBit b = true → b < 32 := by
    intro hb
    have hge := Nat.ge_two_pow_of_testBit hb
    refine Nat.lt_of_not_le fun hle => ?_
    have hpow : 2 ^ 32 ≤ 2 ^ b := Nat.pow_le_pow_right (by decide) hle
    have hsmall : headSticky < 2 ^ 32 := by decide
    omega
  rw [Nat.testBit_and, Nat.testBit_and, show 2 ^ 32 - 1 - v.toNat = 2 ^ 32 - (v.toNat + 1) by omega,
    Nat.testBit_two_pow_sub_succ v.isLt, BitVec.getLsbD]
  cases hb : headSticky.testBit b with
  | false => simp
  | true => simp [hbelow hb]

theorem headStatusW1c_completes (s : State) (h : Fin 32) (v : Reg32) (ho : s.bar0Open = true) :
    Completes (.headStatusW1c h v) s (fun t =>
      (∀ b : Nat, (t.head h).sticky.testBit b = ((s.head h).sticky.testBit b && headSticky.testBit b && !v.getLsbD b))
      ∧ (∀ g : Nat, g ≠ h.val → t.head g = s.head g) ∧ t.cmd = s.cmd ∧ t.events = s.events) := by
  refine completes_regWrite (f := clearSticky h v) rfl ho ⟨rfl, rfl, rfl⟩ ⟨fun b => ?_, fun g hg => ?_, rfl, rfl⟩
  · unfold clearSticky State.modHead
    rw [head_setHead]
    exact testBit_clearSticky ..
  · exact head_setHead_ne _ _ _ hg

theorem setBar2_of_inside {s : State} {v : Reg32} (h : (v &&& 0x1FFF).toNat + 256 ≤ pv s.cfg pMemHostSize 0) :
    setBar2 v s = { s with cmd := { s.cmd with bar2Next := some (v &&& 0x1FFF) } } := if_pos h

theorem regWrites_complete (s : State) (v : Reg32) (ho : s.bar0Open = true) :
    Completes (.registerWrite 0x2C v) s (fun t => t = { s with cmd := { s.cmd with irqMask := v } })
    ∧ Completes (.registerWrite 0x7F0 v) s (fun t => t = s) :=
  ⟨completes_regWrite (f := writeReg 0x2C v) rfl ho ⟨rfl, rfl, rfl⟩ rfl, completes_regWrite (f := writeReg 0x7F0 v) rfl ho ⟨rfl, rfl, rfl⟩ rfl⟩

/-! ## Reads of BAR0 (R376) -/

theorem exec_bar0LowWordRead {s : State} {off : Nat} (t : Time64) (hoff : off % 4 = 0 ∧ off < 65536) (hp : s.powered = true)
    (hperst : s.power.perst = false) : exec (.bar0LowWordRead off t) s = act (fun s => readReg off (atTime t s)) s := by
  have hopen : (s.powered && !s.power.perst) = true := by simp [hp, hperst]
  change execBar0LowWordRead off t s = _
  unfold execBar0LowWordRead
  rw [if_neg (by omega)]
  exact act_congr (if_pos hopen)

theorem readReg_wall (s : State) : readReg 0x100 s =
    emit (.readData (BitVec.ofNat 32 (word32 s.time.now 0)))
      { s with cmd := { s.cmd with hiLatch := tset 0x104 s.time.tick (tset 0x100 (word32 s.time.now 1) s.cmd.hiLatch) } } := rfl

theorem readReg_wallHigh (s : State) :
    readReg 0x104 s = emit (.readData (BitVec.ofNat 32 (tget 0 s.cmd.hiLatch 0x100))) s := rfl

theorem ofNat_word32_zero (v : Nat) : BitVec.ofNat 32 (word32 v 0) = BitVec.ofNat 32 v := by
  apply BitVec.eq_of_toNat_eq
  simp [word32]

/-- The read of the wall's low word latches its high word, and the tick's word beside it. -/
theorem wallHigh_latched (s : State) (t : Time64) :
    tget 0 (tset 0x104 s.time.tick (tset 0x100 (word32 t 1) s.cmd.hiLatch)) 0x100 = t / 2 ^ 32 % 2 ^ 32 := by
  rw [tget_tset_ne _ _ _ _ _ (by decide), tget_tset_same]
  rfl

theorem wallRead_completes (s : State) (t1 : Time64) (hp : s.powered = true) (hperst : s.power.perst = false) :
    Completes (.bar0LowWordRead 0x100 t1) s (fun t =>
      s.sent t (.readData (BitVec.ofNat 32 t1)) ∧ OnlyInterface s t
      ∧ ∀ at2 : Time64, Completes (.bar0LowWordRead 0x104 at2) t (fun u =>
          t.sent u (.readData (BitVec.ofNat 32 (t1 / 2 ^ 32 % 2 ^ 32))) ∧ OnlyInterface t u)) := by
  refine completes_of_keeps (exec_bar0LowWordRead t1 (by decide) hp hperst) _ (readReg_wall _) ⟨rfl, rfl, rfl⟩ ⟨⟨[], ?_⟩, rfl, fun at2 => ?_⟩
  · rw [emit_out, ofNat_word32_zero, List.append_nil]
    rfl
  · refine completes_of_keeps (exec_bar0LowWordRead at2 (by decide) hp hperst) _ (readReg_wallHigh _) ⟨rfl, rfl, rfl⟩ ⟨⟨[], ?_⟩, rfl⟩
    rw [emit_out, List.append_nil]
    exact congrArg (fun n => _ ++ [Out.readData (BitVec.ofNat 32 n)]) (wallHigh_latched s t1)

/-! ## Reads over the console (R367, R369) -/

theorem replyRead_completes (s : State) (r : Bytes) (rest : List Bytes) (hp : s.powered = true) (hr : s.cmd.spi.replies = r :: rest) :
    Completes .replyRead s (fun t =>
      s.sent t (.miso r) ∧ t.cmd.spi = { s.cmd.spi with replies := rest, held := s.cmd.spi.held - 1 } ∧ OnlyInterface s t) := by
  refine ⟨emit (.miso r) { s with cmd := { s.cmd with spi := { s.cmd.spi with replies := rest, held := s.cmd.spi.held - 1 } } }, ?_,
    ⟨[], (List.append_nil _).symm⟩, rfl, rfl⟩
  change execReplyRead s = _
  unfold execReplyRead
  refine act_eq_next ?_ ⟨rfl, rfl, rfl⟩
  rw [hp, hr]
  rfl

theorem replyRead_empty (s : State) (hp : s.powered = true) (hr : s.cmd.spi.replies = []) :
    Completes .replyRead s (fun t => t.cmd = s.cmd ∧ OnlyInterface s t) := by
  refine ⟨emit (.miso (zeros 2 ++ le 4 (frameCrc (zeros 2)))) s, ?_, rfl, rfl⟩
  change execReplyRead s = _
  unfold execReplyRead
  refine act_eq_next ?_ ⟨rfl, rfl, rfl⟩
  rw [hp, hr]
  rfl

/-- Settles O4. -/
theorem hostRegisters : Obligations.HostRegisters := by
  refine ⟨⟨⟨fun s t hp hperst => ?wall, fun s v ho => ?mask, fun s v ho => ?absent⟩, fun s v ho hr => ?cause, fun s v ho hr => ?unread,
    headStatusW1c_completes, fun s v ho hb => ?base, fun s b hb => ?effect⟩, fun s t hp => ?status, replyRead_completes, replyRead_empty⟩
  case wall => exact wallRead_completes s t hp hperst
  case mask => exact (regWrites_complete s v ho).1
  case absent => exact (regWrites_complete s v ho).2
  case cause => exact ⟨_, exec_sysIrqCauseW1c ho v, clearIrq_of_read v hr, onlyInterface_clearIrq v s⟩
  case unread => exact ⟨_, exec_sysIrqCauseW1c ho v, clearIrq_irqCause_of_unread hr v, onlyInterface_clearIrq v s⟩
  case base => exact completes_of_keeps (f := regWrite (setBar2 v)) rfl _ ((regWrite_open ho).trans (setBar2_of_inside hb)) ⟨rfl, rfl, rfl⟩ rfl
  case effect =>
    refine ⟨_, ?_, rfl⟩
    change execBar2BaseTakeEffect s = _
    unfold execBar2BaseTakeEffect
    refine act_eq_next ?_ ⟨rfl, rfl, rfl⟩
    rw [hb]
  case status => exact ⟨_, exec_statusRead hp t, ⟨[], (List.append_nil _).symm⟩, rfl, rfl⟩

end Sys2Proof.Machine
end

section
/-! The DARK pins (R79): blanking a head and dropping its live state change that head, the LIVE pins and their cause only, and the heads follow
the pins one by one. -/
namespace Sys2Proof.Machine

/-- Two states differ at most in the heads, the LIVE pins, and the cause of a LIVE pin's change (R80, R376). -/
def OnlyHeads (s t : State) : Prop :=
  t = { s with heads := t.heads, pins := { s.pins with live := t.pins.live }, cmd := { s.cmd with irqCause := t.cmd.irqCause } }

theorem OnlyHeads.refl (s : State) : OnlyHeads s s := rfl

theorem OnlyHeads.trans {s t u : State} (h : OnlyHeads s t) (h' : OnlyHeads t u) : OnlyHeads s u := by
  unfold OnlyHeads at *; rw [h', h]

theorem OnlyHeads.get {β : Type} (p : State → β) {s t : State} (h : OnlyHeads s t) :
    p t = p { s with heads := t.heads, pins := { s.pins with live := t.pins.live }, cmd := { s.cmd with irqCause := t.cmd.irqCause } } :=
  congrArg p h

/-- Two states in which at most one head differs, and with it the LIVE pins and their cause. -/
def OnlyHead (h : Nat) (s t : State) : Prop := OnlyHeads s t ∧ ∀ g : Nat, g ≠ h → t.head g = s.head g

theorem OnlyHead.refl (h : Nat) (s : State) : OnlyHead h s s := ⟨.refl s, fun _ _ => rfl⟩

theorem OnlyHead.trans {h : Nat} {s t u : State} (h1 : OnlyHead h s t) (h2 : OnlyHead h t u) : OnlyHead h s u :=
  ⟨h1.1.trans h2.1, fun g hg => (h2.2 g hg).trans (h1.2 g hg)⟩

theorem onlyHead_modHead (h : Nat) (f : Head → Head) (s : State) : OnlyHead h s (s.modHead h f) :=
  ⟨rfl, fun _ hg => head_setHead_ne s h _ hg⟩

theorem head_modHead (h : Nat) (f : Head → Head) (s : State) : (s.modHead h f).head h = f (s.head h) := head_setHead ..

theorem onlyHeads_settlePins (s : State) : OnlyHeads s (settlePins s) := by
  unfold settlePins
  dsimp only
  split <;> rfl

theorem head_settlePins (s : State) (g : Nat) : (settlePins s).head g = s.head g := head_of_heads_eq (settlePins_heads s) g

theorem onlyHead_settlePins (h : Nat) (s : State) : OnlyHead h s (settlePins s) := ⟨onlyHeads_settlePins s, fun g _ => head_settlePins s g⟩

theorem onlyHead_dropLive (h : Nat) (s : State) : OnlyHead h s (dropLive h s) := (onlyHead_modHead ..).trans (onlyHead_settlePins ..)

theorem head_dropLive (h : Nat) (s : State) : (dropLive h s).head h = { s.head h with live := false } := by
  unfold dropLive
  rw [head_settlePins, head_modHead]

theorem onlyHead_blankHead (h : Nat) (s : State) : OnlyHead h s (blankHead h s) := (onlyHead_modHead ..).trans (onlyHead_dropLive ..)

/-- A blanked head shows nothing and is not live, and is the head it was otherwise but for its tiles and their history. -/
theorem head_blankHead (h : Nat) (s : State) :
    ∃ px tl hi, (blankHead h s).head h = { s.head h with blankNow := true, live := false, blankPx := px, tiles := tl, hist := hi } := by
  unfold blankHead
  rw [head_dropLive, head_modHead]
  split
  · exact ⟨_, _, _, rfl⟩
  · exact ⟨_, _, _, rfl⟩

/-- A fold over the heads whose step for a head changes that head only: each head is as its own step leaves it, from a state that differs from the
first in other heads only. -/
theorem foldl_heads {f : State → Nat → State} (hf : ∀ a h, OnlyHead h a (f a h)) (s : State) (n : Nat) :
    OnlyHeads s ((List.range n).foldl f s) ∧ (∀ h, n ≤ h → ((List.range n).foldl f s).head h = s.head h)
    ∧ ∀ h, h < n → ∃ a, OnlyHeads s a ∧ a.head h = s.head h ∧ ((List.range n).foldl f s).head h = (f a h).head h := by
  induction n with
  | zero => exact ⟨.refl s, fun _ _ => rfl, fun _ h => absurd h (Nat.not_lt_zero _)⟩
  | succ n ih =>
    obtain ⟨honly, hlater, hdone⟩ := ih
    rw [List.range_succ, List.foldl_append, List.foldl_cons, List.foldl_nil]
    generalize (List.range n).foldl f s = a at honly hlater hdone ⊢
    obtain ⟨hstep, hothers⟩ := hf a n
    refine ⟨honly.trans hstep, fun h hh => ?_, fun h hh => ?_⟩
    · rw [hothers h (by omega), hlater h (by omega)]
    · by_cases heq : h = n
      · exact ⟨a, honly, hlater h (by omega), by rw [heq]⟩
      · obtain ⟨b, hb, hbh, hres⟩ := hdone h (by omega)
        exact ⟨b, hb, hbh, (hothers h heq).trans hres⟩

/-! ## The heads follow the pins -/

/-- One head follows the DARK pins as they stand. -/
def followPin (a : State) (h : Nat) : State :=
  if a.pinDark h == (a.head h).darkPin then a
  else if a.pinDark h then blankHead h (a.modHead h (fun d => { d with darkPin := true }))
  else a.modHead h (fun d => { d with darkPin := false, darkFree := a.time.now + twoClocks a.grid d.timing })

theorem followPins_eq (s : State) : followPins s = (List.range 32).foldl followPin s := rfl

theorem onlyHead_followPin (a : State) (h : Nat) : OnlyHead h a (followPin a h) := by
  unfold followPin
  split
  · exact .refl h a
  · split
    · exact (onlyHead_modHead ..).trans (onlyHead_blankHead ..)
    · exact onlyHead_modHead ..

theorem pinDark_of_onlyHeads {s a : State} (h : OnlyHeads s a) (g : Nat) : a.pinDark g = s.pinDark g := h.get (fun x => x.pinDark g)

/-- What a head that follows its pins has become (R79), by whether they are asserted and whether they were. -/
theorem followPin_head (a : State) (h : Nat) :
    ((followPin a h).head h).darkPin = a.pinDark h
    ∧ (a.pinDark h = true → (a.head h).darkPin = false → ((followPin a h).head h).blankNow = true ∧ ((followPin a h).head h).live = false)
    ∧ (a.pinDark h = false → (a.head h).darkPin = true →
        ((followPin a h).head h).darkFree = a.time.now + twoClocks a.grid (a.head h).timing
        ∧ ((followPin a h).head h).blankNow = (a.head h).blankNow)
    ∧ (a.pinDark h = (a.head h).darkPin → (followPin a h).head h = a.head h) := by
  unfold followPin
  split
  case isTrue heq =>
    have heq := beq_iff_eq.mp heq
    exact ⟨heq.symm, fun h1 h0 => by simp [h1, h0] at heq, fun h0 h1 => by simp [h1, h0] at heq, fun _ => rfl⟩
  case isFalse hne =>
    have hne : a.pinDark h ≠ (a.head h).darkPin := fun heq => hne (beq_iff_eq.mpr heq)
    split
    case isTrue hon =>
      obtain ⟨px, tl, hi, hblank⟩ := head_blankHead h (a.modHead h (fun d => { d with darkPin := true }))
      rw [head_modHead] at hblank
      rw [hblank]
      exact ⟨hon.symm, fun _ _ => ⟨rfl, rfl⟩, fun h0 => absurd hon (by simp [h0]), fun heq => absurd heq hne⟩
    case isFalse hoff =>
      rw [head_modHead]
      exact ⟨(Bool.eq_false_iff.mpr hoff).symm, fun h1 => absurd h1 hoff, fun _ _ => ⟨rfl, rfl⟩, fun heq => absurd heq hne⟩

theorem followPins_only (s : State) : OnlyHeads s (followPins s) := (foldl_heads onlyHead_followPin s 32).1

/-- Every head follows its pins, by its own step of the fold. -/
theorem followPins_head (s : State) {h : Nat} (hh : h < 32) :
    ((followPins s).head h).darkPin = s.pinDark h
    ∧ (s.pinDark h = true → (s.head h).darkPin = false → ((followPins s).head h).blankNow = true ∧ ((followPins s).head h).live = false)
    ∧ (s.pinDark h = false → (s.head h).darkPin = true →
        ((followPins s).head h).darkFree = s.time.now + twoClocks s.grid (s.head h).timing
        ∧ ((followPins s).head h).blankNow = (s.head h).blankNow)
    ∧ (s.pinDark h = (s.head h).darkPin → (followPins s).head h = s.head h) := by
  obtain ⟨-, -, hheads⟩ := foldl_heads onlyHead_followPin s 32
  obtain ⟨a, ha, hah, hres⟩ := hheads h hh
  have hstep := followPin_head a h
  rw [pinDark_of_onlyHeads ha h, hah, ha.get (fun x => x.time.now), ha.get State.grid] at hstep
  rw [followPins_eq, hres]
  exact hstep

/-- Settles O18. -/
theorem darkPinEdges : Obligations.DarkPinEdges := by
  intro s p level t
  have honly := followPins_only { atTime t s with pins := { s.pins with dark := setNth level s.pins.dark p } }
  refine completes_of_keeps (f := fun s => followPins { atTime t s with pins := { s.pins with dark := setNth level s.pins.dark p } }) rfl _ rfl
    ⟨honly.get State.pending, honly.get State.seatB, honly.get State.dram⟩
    ⟨honly.get (fun x => x.pins.dark), honly.get State.cfg, honly.get State.events, honly.get (fun x => x.pins.darkMap), fun h hh => ?_⟩
  rw [pinDark_of_onlyHeads honly h]
  exact followPins_head _ hh

end Sys2Proof.Machine
end

section
/-! Event inputs (R349 to R351) and the time pins (R52). -/
namespace Sys2Proof.Machine

/-! ## Event inputs -/

theorem eviIn_modEviIn (s : State) (i : Nat) (f : EviInput → EviInput) : (s.modEviIn i f).eviIn i = f (s.eviIn i) := eviIn_setEviIn ..

theorem eviIn_modEviIn_ne (s : State) (i : Nat) (f : EviInput → EviInput) {k : Nat} (h : k ≠ i) : (s.modEviIn i f).eviIn k = s.eviIn k :=
  eviIn_setEviIn_ne _ _ _ h

theorem eviIn_of_onlyEvents {s t : State} (h : OnlyEvents s t) (i : Nat) : t.eviIn i = s.eviIn i := h.get (fun x => x.eviIn i)

theorem keepsFrame_modEviIn (s : State) (i : Nat) (f : EviInput → EviInput) : KeepsFrame s (s.modEviIn i f) := ⟨rfl, rfl, rfl⟩

theorem KeepsFrame.refl (s : State) : KeepsFrame s s := ⟨rfl, rfl, rfl⟩
theorem KeepsFrame.trans {s t u : State} (h : KeepsFrame s t) (h' : KeepsFrame t u) : KeepsFrame s u :=
  ⟨h'.1.trans h.1, h'.2.1.trans h.2.1, h'.2.2.trans h.2.2⟩
theorem keepsFrame_atTime (t : Time64) (s : State) : KeepsFrame s (atTime t s) := ⟨rfl, rfl, rfl⟩

/-- A sample that is the level of the run under way changes nothing. -/
theorem exec_eviSample_same {s : State} {x : Fin 32} {level : Bool} {t : Time64} (hp : s.powered = true)
    (hv : (level != bit (pv s.cfg pEviPol 0) x) = (s.eviIn x).runLevel) : exec (.eviSample x level t) s = .next (atTime t s) := by
  change execEviSample x level t s = _
  unfold execEviSample
  refine act_eq_next ?_ (keepsFrame_atTime t s)
  rw [hp]
  exact if_pos hv

/-- A raw transition starts a run and counts; where EVI_DEB is not 0 it is accepted by a later sample only. -/
theorem exec_eviSample_transition {s : State} {x : Fin 32} {level : Bool} {t : Time64} (hp : s.powered = true)
    (hv : (level != bit (pv s.cfg pEviPol 0) x) ≠ (s.eviIn x).runLevel) (hd : pv s.cfg pEviDeb x ≠ 0) :
    exec (.eviSample x level t) s = .next ((atTime t s).modEviIn x
      (fun y => { y with runLevel := level != bit (pv s.cfg pEviPol 0) x, runT := t, raw := y.raw + 1 })) := by
  have hdeb : (decide (pv s.cfg pEviDeb x = 0)) = false := decide_eq_false hd
  change execEviSample x level t s = _
  unfold execEviSample
  refine act_eq_next ?_ ((keepsFrame_atTime t s).trans (keepsFrame_modEviIn ..))
  rw [hp, hdeb]
  exact (if_neg hv).trans (if_neg (by rw [Bool.and_false]; exact Bool.false_ne_true))

/-- The fields of an input when its level is accepted (R349). -/
def EviInput.accepted (x : EviInput) (t : Time64) : EviInput := { x with level := x.runLevel, edgeT := x.runT, activeT := t, stuck := false }

theorem acceptEvi_eq (i : Nat) (s : State) : acceptEvi i s =
    if (s.eviIn i).reported then (s.modEviIn i (fun x => x.accepted s.time.now)).modEviIn i
      (fun y => { y with merged := some (match (s.eviIn i).merged with | some m => m.1 | none => (s.eviIn i).runT, s.time.now) })
    else reportEvi i (s.eviIn i).runT s.time.now (s.modEviIn i (fun x => x.accepted s.time.now)) := rfl

theorem exec_eviAccept_due {s : State} {x : Fin 32} {t : Time64} (hp : s.powered = true) (hl : (s.eviIn x).runLevel ≠ (s.eviIn x).level)
    (ht : (s.eviIn x).runT + 1000000 * pv s.cfg pEviDeb x ≤ t) : exec (.eviAccept x t) s = act (fun s => acceptEvi x (atTime t s)) s := by
  have hdue : (!s.powered || (s.eviIn x).runLevel == (s.eviIn x).level || decide (t < (s.eviIn x).runT + 1000000 * pv s.cfg pEviDeb x)) = false := by
    simp [hp, hl, ht]
  change execEviAccept x t s = _
  unfold execEviAccept
  exact act_congr (if_neg (Bool.eq_false_iff.mp hdue))

/-- A report of an input raises its event and changes nothing but that input beside it. -/
theorem reportEvi_spec (i : Nat) (edge acc : Time64) (s : State) :
    (reportEvi i edge acc s).eviIn i = { s.eviIn i with raw := 0, lastRep := (s.eviIn i).level, reported := true, merged := none }
    ∧ (∀ y : Nat, y ≠ i → (reportEvi i edge acc s).eviIn y = s.eviIn y) ∧ KeepsFrame s (reportEvi i edge acc s)
    ∧ s.raised (reportEvi i edge acc s) .eviChange none [(1, i), (1, 0), (1, b2n (s.eviIn i).level), (1, 0),
        (4, ((s.eviIn i).raw - b2n ((s.eviIn i).level != (s.eviIn i).lastRep)) % 2 ^ 32), (8, edge), (8, acc)] := by
  unfold reportEvi raiseEvi
  extract_lets x m
  have honly := onlyEvents_raise .eviChange [(1, i), (1, 0), (1, b2n x.level), (1, 0), (4, m % 2 ^ 32), (8, edge), (8, acc)] s
  have hraised := raised_raise .eviChange [(1, i), (1, 0), (1, b2n x.level), (1, 0), (4, m % 2 ^ 32), (8, edge), (8, acc)] (rfl : s.hot = s.hot)
  refine ⟨?_, fun y hy => ?_, honly.keeps.trans (keepsFrame_modEviIn ..), raised_congr hraised rfl rfl⟩
  · rw [eviIn_modEviIn]
    exact congrArg (fun z : EviInput => { z with raw := 0, lastRep := z.level, reported := true, merged := none }) (eviIn_of_onlyEvents honly i)
  · rw [eviIn_modEviIn_ne _ _ _ hy]
    exact eviIn_of_onlyEvents honly y

theorem exec_eviStuck_due {s : State} {x : Fin 32} {t : Time64} (hp : s.powered = true) (hl : (s.eviIn x).level = true)
    (hs : (s.eviIn x).stuck = false) (hlim : pv s.cfg pEviStuckS x ≠ 0) (ht : (s.eviIn x).activeT + 1000000000 * pv s.cfg pEviStuckS x ≤ t) :
    exec (.eviStuck x t) s = act (fun s =>
      raiseEvi x 1 0 (s.eviIn x).edgeT (s.eviIn x).activeT .eviStuck ((atTime t s).modEviIn x (fun y => { y with stuck := true }))) s := by
  have hdue : (!s.powered || !(s.eviIn x).level || (s.eviIn x).stuck || decide (pv s.cfg pEviStuckS x = 0)
      || decide (t < (s.eviIn x).activeT + 1000000000 * pv s.cfg pEviStuckS x)) = false := by
    simp [hp, hl, hs, hlim, ht]
  change execEviStuck x t s = _
  unfold execEviStuck
  exact act_congr (if_neg (Bool.eq_false_iff.mp hdue))

/-- A level is accepted and reported at once where the interval has had no report of the input yet. -/
theorem eviAccept_reports {s : State} {x : Fin 32} {t : Time64} (hp : s.powered = true) (hl : (s.eviIn x).runLevel ≠ (s.eviIn x).level)
    (ht : (s.eviIn x).runT + 1000000 * pv s.cfg pEviDeb x ≤ t) (hr : (s.eviIn x).reported = false) :
    Completes (.eviAccept x t) s (fun u =>
      (u.eviIn x).level = (s.eviIn x).runLevel ∧ (u.eviIn x).reported = true ∧ (u.eviIn x).raw = 0 ∧ (u.eviIn x).edgeT = (s.eviIn x).runT
      ∧ (u.eviIn x).activeT = t ∧ (∀ y : Nat, y ≠ x.val → u.eviIn y = s.eviIn y)
      ∧ s.raised u .eviChange none [(1, x.val), (1, 0), (1, b2n (s.eviIn x).runLevel), (1, 0),
          (4, ((s.eviIn x).raw - b2n ((s.eviIn x).runLevel != (s.eviIn x).lastRep)) % 2 ^ 32), (8, (s.eviIn x).runT), (8, t)]) := by
  have hacc : acceptEvi x (atTime t s) = reportEvi x (s.eviIn x).runT t ((atTime t s).modEviIn x (fun y => y.accepted t)) :=
    (acceptEvi_eq x (atTime t s)).trans (if_neg (by rw [show ((atTime t s).eviIn x).reported = _ from hr]; decide))
  obtain ⟨hx, hothers, hkeeps, hraised⟩ := reportEvi_spec x (s.eviIn x).runT t ((atTime t s).modEviIn x (fun y => y.accepted t))
  rw [eviIn_modEviIn] at hx hraised
  refine completes_of_keeps (exec_eviAccept_due hp hl ht) _ hacc
    (((keepsFrame_atTime t s).trans (keepsFrame_modEviIn ..)).trans hkeeps) ?_
  rw [hx]
  exact ⟨rfl, rfl, rfl, rfl, rfl, fun y hy => (hothers y hy).trans (eviIn_modEviIn_ne _ _ _ hy), hraised⟩

/-- A level that is accepted after the interval's report waits for the next tick. -/
theorem eviAccept_merges {s : State} {x : Fin 32} {t : Time64} (hp : s.powered = true) (hl : (s.eviIn x).runLevel ≠ (s.eviIn x).level)
    (ht : (s.eviIn x).runT + 1000000 * pv s.cfg pEviDeb x ≤ t) (hr : (s.eviIn x).reported = true) :
    Completes (.eviAccept x t) s (fun u =>
      (u.eviIn x).level = (s.eviIn x).runLevel ∧ (u.eviIn x).merged.isSome = true ∧ u.events = s.events) := by
  have hacc := (acceptEvi_eq x (atTime t s)).trans (if_pos hr)
  refine completes_of_keeps (exec_eviAccept_due hp hl ht) _ hacc
    (((keepsFrame_atTime t s).trans (keepsFrame_modEviIn ..)).trans (keepsFrame_modEviIn ..)) ?_
  rw [eviIn_modEviIn, eviIn_modEviIn]
  exact ⟨rfl, rfl, rfl⟩

theorem eviStuck_reports {s : State} {x : Fin 32} {t : Time64} (hp : s.powered = true) (hl : (s.eviIn x).level = true)
    (hs : (s.eviIn x).stuck = false) (hlim : pv s.cfg pEviStuckS x ≠ 0) (ht : (s.eviIn x).activeT + 1000000000 * pv s.cfg pEviStuckS x ≤ t) :
    Completes (.eviStuck x t) s (fun u =>
      (u.eviIn x).stuck = true ∧ (u.eviIn x).level = true ∧ (∀ y : Nat, y ≠ x.val → u.eviIn y = s.eviIn y)
      ∧ s.raised u .eviStuck none [(1, x.val), (1, 1), (1, 1), (1, 0), (4, 0), (8, (s.eviIn x).edgeT), (8, (s.eviIn x).activeT)]) := by
  have hstuck := eviIn_modEviIn (atTime t s) x (fun y => { y with stuck := true })
  have hlevel : b2n (((atTime t s).modEviIn x (fun y => { y with stuck := true })).eviIn x).level = 1 := by
    rw [hstuck, show ((atTime t s).eviIn x).level = true from hl]
    rfl
  have hothers : ∀ y : Nat, y ≠ x.val → ((atTime t s).modEviIn x (fun y => { y with stuck := true })).eviIn y = s.eviIn y :=
    fun y hy => eviIn_modEviIn_ne (atTime t s) x _ hy
  refine completes_of_keeps (exec_eviStuck_due hp hl hs hlim ht) _ rfl ?_ ?_ <;> unfold raiseEvi <;> dsimp only <;> rw [hlevel]
  · exact ((keepsFrame_atTime t s).trans (keepsFrame_modEviIn ..)).trans (onlyEvents_raise ..).keeps
  · have honly := onlyEvents_raise .eviStuck [(1, x.val), (1, 1), (1, 1), (1, 0), (4, 0 % 2 ^ 32), (8, (s.eviIn x).edgeT), (8, (s.eviIn x).activeT)]
      ((atTime t s).modEviIn x (fun y => { y with stuck := true }))
    refine ⟨?_, ?_, fun y hy => (eviIn_of_onlyEvents honly y).trans (hothers y hy), raised_raise _ _ rfl⟩
    · rw [eviIn_of_onlyEvents honly, hstuck]
    · rw [eviIn_of_onlyEvents honly, hstuck]
      exact hl

/-- Settles O19. -/
theorem eventInputs : Obligations.EventInputs := by
  refine ⟨⟨?same, ?transition, ?reports, ?merges⟩, ?stuck⟩
  case same =>
    intro s x level t hp hv
    exact ⟨_, exec_eviSample_same hp hv, rfl⟩
  case transition =>
    intro s x level t hp hv hd
    exact ⟨_, exec_eviSample_transition hp hv hd, eviIn_modEviIn .., fun y hy => eviIn_modEviIn_ne (atTime t s) x _ hy, rfl⟩
  case reports =>
    intro s x t hp hl ht hr
    exact eviAccept_reports hp hl ht hr
  case merges =>
    intro s x t hp hl ht hr
    exact eviAccept_merges hp hl ht hr
  case stuck =>
    intro s x t hp hl hs hlim ht
    exact eviStuck_reports hp hl hs hlim ht

/-! ## PPS_IN and PPS_OUT (R52) -/

theorem exec_ppsInEdge {s : State} {t : Time64} {quarter : Nat} (hp : s.powered = true) :
    exec (.ppsInEdge t quarter) s = act (fun s => raiseAt t .ppsInEdge none [(8, twos 64
        (if 2000000000 < 4 * (t % 1000000000) + quarter % 4 then ((4 * (t % 1000000000) + quarter % 4 : Nat) : Int) - 4000000000
          else (4 * (t % 1000000000) + quarter % 4 : Nat)))] (atTime t s)) s := by
  change execPpsInEdge t quarter s = _
  unfold execPpsInEdge
  refine act_congr ?_
  rw [hp]
  rfl

theorem ppsInEdge_reports {s : State} {t : Time64} {quarter : Nat} (hp : s.powered = true) :
    Completes (.ppsInEdge t quarter) s (fun u =>
      s.raised u .ppsInEdge none [(8, twos 64
        (if 2000000000 < 4 * (t % 1000000000) + quarter % 4 then ((4 * (t % 1000000000) + quarter % 4 : Nat) : Int) - 4000000000
          else (4 * (t % 1000000000) + quarter % 4 : Nat)))]
      ∧ u.time = { s.time with now := t } ∧ OnlyEvents s u) := by
  refine completes_of_keeps (exec_ppsInEdge hp) _ rfl ?_ ?_ <;> generalize twos 64 _ = off
  · exact (keepsFrame_atTime t s).trans (onlyEvents_raiseAt ..).keeps
  · refine ⟨raised_raiseAt _ _ _ _ _ _ rfl, ?_, (show OnlyEvents s (atTime t s) from rfl).trans (onlyEvents_raiseAt ..)⟩
    rw [raiseAt_frame]
    rfl

/-- Where PPS_OUT is driven it rises at a whole second; where it is not, the second passes. -/
theorem exec_ppsOutSecond_driven {s : State} {t : Time64} (hd : (atTime t s).ppsDriven = true) (ht : t % 1000000000 = 0) :
    exec (.ppsOutSecond t) s = .next (emit (.ppsOut t) { atTime t s with pins := { s.pins with ppsRise := some t } }) := by
  change execPpsOutSecond t s = _
  unfold execPpsOutSecond
  refine act_eq_next (if_pos ?_) ⟨rfl, rfl, rfl⟩
  rw [hd, ht]
  rfl

theorem exec_ppsOutSecond_quiet {s : State} {t : Time64} (hd : (atTime t s).ppsDriven = false) :
    exec (.ppsOutSecond t) s = .next (atTime t s) := by
  change execPpsOutSecond t s = _
  unfold execPpsOutSecond
  refine act_eq_next (if_neg ?_) (keepsFrame_atTime t s)
  rw [hd]
  exact Bool.false_ne_true

/-- A driven PPS_OUT is high for 100 ms from its rise. -/
theorem ppsOut_of_driven {s : State} {t : Time64} (hd : s.ppsDriven = true) (hr : s.pins.ppsRise = some t) (v : Time64) :
    (atTime v s).ppsOut = decide (t ≤ v ∧ v < t + 100000000) := by
  have hdv : (atTime v s).ppsDriven = true := hd
  have hrv : (atTime v s).pins.ppsRise = some t := hr
  unfold State.ppsOut
  rw [hrv, hdv, Bool.decide_and]
  rfl

theorem ppsOut_of_not_driven {s : State} (hd : s.ppsDriven = false) : s.ppsOut = false := by
  unfold State.ppsOut
  split
  · rw [hd]
    rfl
  · rfl

/-- Settles O20. -/
theorem timePins : Obligations.TimePins := by
  refine ⟨fun s t quarter hp => ppsInEdge_reports hp, fun s t ha ht hs => ?rise, fun s t hfree hno => ?quiet⟩
  case rise =>
    have hd : s.ppsDriven = true := by
      unfold State.ppsDriven
      rcases hs with hs | hs <;> simp [ha, hs]
    refine ⟨_, exec_ppsOutSecond_driven (s := s) hd ht, rfl, fun v => ppsOut_of_driven ?_ rfl v⟩
    exact hd
  case quiet =>
    have hd : s.ppsDriven = false := by
      unfold State.ppsDriven
      simp [hfree, hno]
    exact ⟨ppsOut_of_not_driven hd, _, exec_ppsOutSecond_quiet (s := s) hd, rfl⟩

end Sys2Proof.Machine
end

section
/-! The touch unit (R336 to R345): what a scan of one electrode can touch, the debounce of a key, and the unit's safe point. -/
namespace Sys2Proof.Machine

/-! ## Electrodes -/

theorem electrode_modElectrode (s : State) (e : Nat) (f : Electrode → Electrode) : (s.modElectrode e f).electrode e = f (s.electrode e) :=
  tget_tset_same ..

theorem electrode_modElectrode_ne (s : State) (e : Nat) (f : Electrode → Electrode) {k : Nat} (h : k ≠ e) :
    (s.modElectrode e f).electrode k = s.electrode k := tget_tset_ne _ _ _ _ _ h

/-- Two states differ at most in the electrodes, what is reported pressed, the events, what goes out on the Flume, the free values and the
output log: what the scans of a slot change. -/
def OnlyTouch (s t : State) : Prop :=
  t = { s with touch := { s.touch with els := t.touch.els, pressed := t.touch.pressed }, events := t.events, out := t.out, twin := t.twin,
               free := t.free }

theorem OnlyTouch.refl (s : State) : OnlyTouch s s := rfl

theorem OnlyTouch.trans {s t u : State} (h : OnlyTouch s t) (h' : OnlyTouch t u) : OnlyTouch s u := by
  unfold OnlyTouch at *; rw [h', h]

theorem OnlyTouch.get {β : Type} (p : State → β) {s t : State} (h : OnlyTouch s t) :
    p t = p { s with touch := { s.touch with els := t.touch.els, pressed := t.touch.pressed }, events := t.events, out := t.out, twin := t.twin,
                     free := t.free } := congrArg p h

theorem OnlyTouch.keeps {s t : State} (h : OnlyTouch s t) : KeepsFrame s t := ⟨h.get State.pending, h.get State.seatB, h.get State.dram⟩

theorem onlyTouch_raise (c : Ev) (p : List (Nat × Nat)) (s : State) : OnlyTouch s (raise c p s) := by
  unfold raise
  obtain ⟨e, o, w, h⟩ := raiseAt_form s.time.now c none p s
  rw [h]
  rfl

/-- A step that concerns one electrode, and leaves its reading. -/
def ScanStep (e : Nat) (s t : State) : Prop :=
  OnlyTouch s t ∧ (∀ f : Nat, f ≠ e → t.electrode f = s.electrode f)
  ∧ (t.electrode e).count = (s.electrode e).count ∧ (t.electrode e).touchT = (s.electrode e).touchT

theorem ScanStep.refl (e : Nat) (s : State) : ScanStep e s s := ⟨.refl s, fun _ _ => rfl, rfl, rfl⟩

theorem ScanStep.trans {e : Nat} {s t u : State} (h : ScanStep e s t) (h' : ScanStep e t u) : ScanStep e s u := by
  obtain ⟨honly, hothers, hcount, htime⟩ := h
  obtain ⟨honly', hothers', hcount', htime'⟩ := h'
  exact ⟨honly.trans honly', fun f hf => (hothers' f hf).trans (hothers f hf), hcount'.trans hcount, htime'.trans htime⟩

theorem scanStep_modElectrode {e : Nat} {f : Electrode → Electrode} (s : State) (hc : ∀ x, (f x).count = x.count := by exact fun _ => rfl)
    (ht : ∀ x, (f x).touchT = x.touchT := by exact fun _ => rfl) : ScanStep e s (s.modElectrode e f) := by
  refine ⟨rfl, fun k hk => electrode_modElectrode_ne s e f hk, ?_, ?_⟩ <;> rw [electrode_modElectrode]
  · exact hc _
  · exact ht _

theorem electrode_of_els {s t : State} (h : t.touch.els = s.touch.els) (e : Nat) : t.electrode e = s.electrode e :=
  congrArg (tget electrodeInit · e) h

/-- A step that leaves every electrode. -/
theorem scanStep_of_els {e : Nat} {s t : State} (ho : OnlyTouch s t) (h : t.touch.els = s.touch.els) : ScanStep e s t :=
  ⟨ho, fun f _ => electrode_of_els h f, congrArg Electrode.count (electrode_of_els h e), congrArg Electrode.touchT (electrode_of_els h e)⟩

theorem raise_els (c : Ev) (p : List (Nat × Nat)) (s : State) : (raise c p s).touch = s.touch := (onlyEvents_raise c p s).get State.touch

theorem scanStep_notePressed (e k : Nat) (b : Bool) (s : State) : ScanStep e s (notePressed k b s) := scanStep_of_els rfl rfl

theorem scanStep_raise (e : Nat) (c : Ev) (p : List (Nat × Nat)) (s : State) : ScanStep e s (raise c p s) :=
  scanStep_of_els (onlyTouch_raise c p s) (congrArg Touch.els (raise_els c p s))

theorem scanStep_raiseTouch (f : Nat) (c : Cfg) (ev : Ev) (kind cause e : Nat) (s : State) : ScanStep f s (raiseTouch c ev kind cause e s) :=
  scanStep_raise ..

theorem scanStep_raiseRelease (f : Nat) (c : Cfg) (cause e : Nat) (s : State) : ScanStep f s (raiseRelease c cause e s) :=
  (scanStep_raiseTouch ..).trans (scanStep_notePressed ..)

theorem freeBelow_if_state (b : Bool) (n : Nat) (s : State) : ∃ k, (if b = true then freeBelow n s else (0, s)).2 = { s with free := k } := by
  split <;> exact ⟨_, rfl⟩

/-- Reading the legend of a press takes at most a free value. -/
theorem legendAt_state (l : Legend) (t : Time64) (s : State) : ∃ n, (legendAt l t s).2 = { s with free := n } := by
  unfold legendAt
  dsimp only
  split
  · exact ⟨_, rfl⟩
  · exact freeBelow_if_state ..

theorem scanStep_raisePress (f : Nat) (c : Cfg) (e : Nat) (s : State) : ScanStep f s (raisePress c e s) := by
  unfold raisePress
  dsimp only
  split
  · rename_i l _
    obtain ⟨n, hn⟩ := legendAt_state l.2 (s.electrode e).onT s
    rw [hn]
    exact ((scanStep_of_els (s := s) (t := { s with free := n }) rfl rfl).trans (scanStep_raise ..)).trans (scanStep_notePressed ..)
  · exact (scanStep_raise ..).trans (scanStep_notePressed ..)

/-! ## One scan of an electrode -/

theorem scanStep_acquire (c : Cfg) (e : Nat) (s : State) : ScanStep e s (acquire c e s) := by
  unfold acquire
  extract_lets x base s1 y
  have h1 : ScanStep e s s1 := scanStep_modElectrode s
  split
  · exact (h1.trans (scanStep_raiseTouch ..)).trans (scanStep_modElectrode _)
  · exact h1

theorem scanStep_scanReleased (c : Cfg) (e : Nat) (t done : Time64) (s : State) : ScanStep e s (scanReleased c e t done s) := by
  unfold scanReleased
  extract_lets x d run s1 ns s2 s3
  have h1 : ScanStep e s s1 := scanStep_modElectrode s
  have h2 : ScanStep e s s2 := scanStep_modElectrode s
  have h3 : ScanStep e s s3 := h2.trans (scanStep_modElectrode _)
  split
  · split
    · exact (h1.trans (scanStep_raisePress ..)).trans (scanStep_modElectrode _)
    · exact h1
  · split
    · split
      · exact (h3.trans (scanStep_modElectrode _)).trans (scanStep_raiseTouch ..)
      · exact h3
    · split
      · exact h2.trans (scanStep_modElectrode _)
      · exact h2

theorem scanStep_scanPressed (c : Cfg) (e : Nat) (s : State) : ScanStep e s (scanPressed c e s) := by
  unfold scanPressed
  extract_lets x s1
  have h1 : ScanStep e s s1 := scanStep_modElectrode s
  split
  · split
    · exact (h1.trans (scanStep_raiseRelease ..)).trans (scanStep_modElectrode _)
    · exact h1
  · exact scanStep_modElectrode s

theorem scanStep_scanStuck (c : Cfg) (e : Nat) (s : State) : ScanStep e s (scanStuck c e s) := by
  unfold scanStuck
  extract_lets x s1
  have h1 : ScanStep e s s1 := scanStep_modElectrode s
  split
  · split
    · exact (h1.trans (scanStep_modElectrode _)).trans (scanStep_raiseTouch ..)
    · exact h1
  · exact .refl e s

theorem scanStep_failElectrode (c : Cfg) (cause e : Nat) (s : State) : ScanStep e s (failElectrode c cause e s) := by
  unfold failElectrode
  extract_lets s1
  have h1 : ScanStep e s s1 := by
    unfold s1
    split
    · exact scanStep_raiseRelease ..
    · exact .refl e s
  exact (h1.trans (scanStep_modElectrode _)).trans (scanStep_raiseTouch ..)

theorem scanStep_followHold (e : Nat) (s : State) : ScanStep e s (followHold e s) := by
  unfold followHold
  dsimp only
  split <;> exact scanStep_modElectrode s

/-- A scan takes the electrode's count and its instant; the rest of it is a step of the electrode (R336, R339). -/
theorem scanElectrode_step (c : Cfg) (t done : Time64) (e count : Nat) (s : State) :
    ScanStep e (s.modElectrode e (fun x => x.measured (pv c pTouchCountLimit 0) (pv c pTouchMinCount 0) count t)) (scanElectrode c t done e count s) := by
  unfold scanElectrode
  extract_lets s1 x s2
  have h2 : ScanStep e s1 s2 := by
    unfold s2
    split
    · exact scanStep_scanReleased ..
    · exact scanStep_scanPressed ..
    · exact scanStep_scanStuck ..
    · exact .refl e s1
  split
  · split
    · exact (scanStep_modElectrode s1).trans (scanStep_raiseTouch ..)
    · exact .refl e s1
  · split
    · exact scanStep_failElectrode ..
    · split
      · exact scanStep_failElectrode ..
      · split
        · exact scanStep_acquire ..
        · split
          · exact h2.trans (scanStep_modElectrode _)
          · exact h2

/-- What a scan leaves of the electrodes: the one that was scanned has the count and the instant, the others are as they were. -/
theorem scanElectrode_spec (c : Cfg) (t done : Time64) (e count : Nat) (s : State) :
    OnlyTouch s (scanElectrode c t done e count s) ∧ (∀ f : Nat, f ≠ e → (scanElectrode c t done e count s).electrode f = s.electrode f)
    ∧ ((scanElectrode c t done e count s).electrode e).count = count ∧ ((scanElectrode c t done e count s).electrode e).touchT = t := by
  obtain ⟨honly, hothers, hcount, htime⟩ := scanElectrode_step c t done e count s
  rw [electrode_modElectrode] at hcount htime
  exact ⟨(show OnlyTouch s (s.modElectrode e _) from rfl).trans honly, fun f hf => (hothers f hf).trans (electrode_modElectrode_ne s e _ hf),
    hcount, htime⟩

/-! ## The folds over a group's electrodes -/

theorem nodup_countFrom (k n : Nat) : (countFrom k n).Nodup ∧ ∀ x ∈ countFrom k n, k ≤ x := by
  induction n generalizing k with
  | zero => exact ⟨List.nodup_nil, fun _ h => absurd h List.not_mem_nil⟩
  | succ n ih =>
    obtain ⟨hnodup, hge⟩ := ih (k + 1)
    refine ⟨List.nodup_cons.mpr ⟨fun hmem => absurd (hge k hmem) (by omega), hnodup⟩, fun x hx => ?_⟩
    rcases List.mem_cons.mp hx with rfl | hx
    · exact Nat.le_refl _
    · exact Nat.le_of_succ_le (hge x hx)

theorem nodup_groupEls (c : Cfg) (g : Nat) : (groupEls c g).Nodup := (nodup_countFrom _ _).1.filter _

/-- The scan of a group's electrodes one by one: each has its count and the slot's instant, and the others are as they were. -/
theorem scanAll_spec (c : Cfg) (t done : Time64) (counts : Nat → Nat) (l : List Nat) (hl : l.Nodup) (s : State) :
    OnlyTouch s (l.foldl (fun a e => scanElectrode c t done e (counts e) a) s)
    ∧ (∀ f : Nat, f ∉ l → (l.foldl (fun a e => scanElectrode c t done e (counts e) a) s).electrode f = s.electrode f)
    ∧ ∀ e ∈ l, ((l.foldl (fun a e => scanElectrode c t done e (counts e) a) s).electrode e).count = counts e
      ∧ ((l.foldl (fun a e => scanElectrode c t done e (counts e) a) s).electrode e).touchT = t := by
  induction l generalizing s with
  | nil => exact ⟨.refl s, fun _ _ => rfl, fun _ h => absurd h List.not_mem_nil⟩
  | cons e l ih =>
    obtain ⟨hnot, hnodup⟩ := List.nodup_cons.mp hl
    obtain ⟨honly1, hothers1, hcount, htime⟩ := scanElectrode_spec c t done e (counts e) s
    obtain ⟨honly, hothers, hread⟩ := ih hnodup (scanElectrode c t done e (counts e) s)
    rw [List.foldl_cons]
    refine ⟨honly1.trans honly, fun f hf => ?_, fun f hf => ?_⟩
    · obtain ⟨hne, hrest⟩ := not_or.mp (mt List.mem_cons.mpr hf)
      exact (hothers f hrest).trans (hothers1 f hne)
    · rcases List.mem_cons.mp hf with rfl | hf
      · rw [hothers f hnot]
        exact ⟨hcount, htime⟩
      · exact hread f hf

/-- Steps of electrodes of a list change no reading, and no electrode outside the list. -/
theorem scanSteps_foldl {f : State → Nat → State} (hf : ∀ a e, ScanStep e a (f a e)) (l : List Nat) (s : State) :
    OnlyTouch s (l.foldl f s) ∧ (∀ k : Nat, k ∉ l → (l.foldl f s).electrode k = s.electrode k)
    ∧ ∀ k : Nat, ((l.foldl f s).electrode k).count = (s.electrode k).count ∧ ((l.foldl f s).electrode k).touchT = (s.electrode k).touchT := by
  induction l generalizing s with
  | nil => exact ⟨.refl s, fun _ _ => rfl, fun _ => ⟨rfl, rfl⟩⟩
  | cons e l ih =>
    obtain ⟨honly1, hothers1, hcount1, htime1⟩ := hf s e
    obtain ⟨honly, hothers, hread⟩ := ih (f s e)
    rw [List.foldl_cons]
    refine ⟨honly1.trans honly, fun k hk => ?_, fun k => ?_⟩
    · obtain ⟨hne, hrest⟩ := not_or.mp (mt List.mem_cons.mpr hk)
      exact (hothers k hrest).trans (hothers1 k hne)
    · obtain ⟨hcount, htime⟩ := hread k
      rw [hcount, htime]
      by_cases hk : k = e
      · rw [hk]
        exact ⟨hcount1, htime1⟩
      · rw [hothers1 k hk]
        exact ⟨rfl, rfl⟩

end Sys2Proof.Machine
end

section
/-! The statements about touch: slots, saving and the safe point (R336, R337, R345), keys (R340 to R343). -/
namespace Sys2Proof.Machine

/-! ## Slots -/

/-- The state in which a due slot of a group has begun: its end is the present, and its group's record has the scan's tick. -/
def slotBegun (g n : Nat) (done : Time64) (s : State) : State :=
  { (atTime done s) with touch := { s.touch with groups := tset g ⟨some n, 0⟩ s.touch.groups } }

/-- The count that a slot takes for an electrode (R336). -/
def touchCount (c : Cfg) (counts : List Nat) (e : Nat) : Nat := min (nth 0 counts (e % 16)) (pv c pTouchCountLimit 0)

/-- What a due slot makes of the touch unit before its HOLD keys follow their neighbours. -/
def slotScanned (c : Cfg) (g n : Nat) (counts : List Nat) (t done : Time64) (s : State) : State :=
  (groupEls c g).foldl (fun a e => scanElectrode c t done e (touchCount c counts e) a) (slotBegun g n done s)

/-- A HOLD key that is held follows its neighbours. -/
def followHeld (a : State) (e : Nat) : State := if (a.electrode e).state = .pressed then followHold e a else a

theorem scanStep_followHeld (a : State) (e : Nat) : ScanStep e a (followHeld a e) := by
  unfold followHeld
  split
  · exact scanStep_followHold ..
  · exact .refl e a

theorem exec_touchSlotMeasure_due {s : State} {g : Fin 8} {counts : List Nat} {t : Time64} (hr : s.touch.running = true)
    (hs : s.touch.suspended = false) (hd : slotDue s (touchCfg s g t) g t = true) :
    exec (.touchSlotMeasure g counts t) s = act (fun s =>
      ((groupEls (touchCfg s g t) g).filter (fun e => classOf (touchCfg s g t) e == 2)).foldl followHeld
        (slotScanned (touchCfg s g t) g (scanTick (touchCfg s g t) g t) counts t (t + touchSlotNs (touchCfg s g t)) s)) s := by
  have hdue : (!s.touch.running || s.touch.suspended || !slotDue s (touchCfg s g t) g t) = false := by simp [hr, hs, hd]
  change execTouchSlotMeasure g counts t s = _
  unfold execTouchSlotMeasure
  refine act_congr ?_
  dsimp only
  rw [if_neg (Bool.eq_false_iff.mp hdue)]
  rfl

theorem keepsFrame_slotBegun (g n : Nat) (done : Time64) (s : State) : KeepsFrame s (slotBegun g n done s) := ⟨rfl, rfl, rfl⟩

theorem slotBegun_frame (g n : Nat) (done : Time64) (s : State) :
    (slotBegun g n done s).cfg = s.cfg ∧ (slotBegun g n done s).heads = s.heads ∧ (slotBegun g n done s).ledger = s.ledger
    ∧ (slotBegun g n done s).legends = s.legends ∧ (slotBegun g n done s).touch.groups = tset g ⟨some n, 0⟩ s.touch.groups
    ∧ ∀ e, (slotBegun g n done s).electrode e = s.electrode e := ⟨rfl, rfl, rfl, rfl, rfl, fun _ => rfl⟩

theorem slotScanned_spec (c : Cfg) (g n : Nat) (counts : List Nat) (t done : Time64) (s : State) :
    OnlyTouch (slotBegun g n done s) (slotScanned c g n counts t done s)
    ∧ (∀ f : Nat, f ∉ groupEls c g → (slotScanned c g n counts t done s).electrode f = (slotBegun g n done s).electrode f)
    ∧ ∀ e ∈ groupEls c g, ((slotScanned c g n counts t done s).electrode e).count = touchCount c counts e
      ∧ ((slotScanned c g n counts t done s).electrode e).touchT = t := by
  unfold slotScanned
  exact scanAll_spec c t done (touchCount c counts) _ (nodup_groupEls c g) (slotBegun g n done s)

/-- A due slot (R336, R337), with its scan's tick and its end: the group's record, the counts of its electrodes, and what stays. -/
theorem slotHeld_spec (c : Cfg) (g n : Nat) (counts : List Nat) (t done : Time64) (l : List Nat) (hl : ∀ e ∈ l, e ∈ groupEls c g) (s u : State)
    (hu : l.foldl followHeld (slotScanned c g n counts t done s) = u) :
    KeepsFrame s u ∧ tget touchGroupInit u.touch.groups g = ⟨some n, 0⟩
    ∧ (∀ e : Nat, e ∈ groupEls c g → (u.electrode e).count = touchCount c counts e ∧ (u.electrode e).touchT = t)
    ∧ (∀ e : Nat, e ∉ groupEls c g → u.electrode e = s.electrode e)
    ∧ u.cfg = s.cfg ∧ u.heads = s.heads ∧ u.ledger = s.ledger ∧ u.legends = s.legends := by
  obtain ⟨honly1, hothers1, hread1⟩ := slotScanned_spec c g n counts t done s
  obtain ⟨honly2, hothers2, hread2⟩ := scanSteps_foldl scanStep_followHeld l (slotScanned c g n counts t done s)
  rw [hu] at honly2 hothers2 hread2
  have honly := honly1.trans honly2
  obtain ⟨hcfg, hheads, hledger, hlegends, hgroups, hels⟩ := slotBegun_frame g n done s
  refine ⟨(keepsFrame_slotBegun ..).trans honly.keeps, ?_, fun e he => ?_, fun e he => ?_, (honly.get State.cfg).trans hcfg,
    (honly.get State.heads).trans hheads, (honly.get State.ledger).trans hledger, (honly.get State.legends).trans hlegends⟩
  · rw [honly.get (fun x => x.touch.groups)]
    exact (congrArg (tget touchGroupInit · g) hgroups).trans (tget_tset_same ..)
  · obtain ⟨hcount, htime⟩ := hread2 e
    obtain ⟨hcount1, htime1⟩ := hread1 e he
    exact ⟨hcount.trans hcount1, htime.trans htime1⟩
  · exact ((hothers2 e (mt (hl e) he)).trans (hothers1 e he)).trans (hels e)

theorem touchSlotMeasure_completes {s : State} {g : Fin 8} {counts : List Nat} {t : Time64} (hr : s.touch.running = true)
    (hs : s.touch.suspended = false) (hd : slotDue s (touchCfg s g t) g t = true) :
    Completes (.touchSlotMeasure g counts t) s (fun u =>
      (tget touchGroupInit u.touch.groups g).lastTick = some (scanTick (touchCfg s g t) g t)
      ∧ (tget touchGroupInit u.touch.groups g).missed = 0
      ∧ (∀ e : Nat, e ∈ groupEls (touchCfg s g t) g →
        (u.electrode e).count = min (nth 0 counts (e % 16)) (pv (touchCfg s g t) pTouchCountLimit 0) ∧ (u.electrode e).touchT = t)
      ∧ (∀ e : Nat, e ∉ groupEls (touchCfg s g t) g → u.electrode e = s.electrode e)
      ∧ u.cfg = s.cfg ∧ u.heads = s.heads ∧ u.ledger = s.ledger ∧ u.legends = s.legends) := by
  obtain ⟨hkeeps, hgroup, hread, hothers, hframe⟩ := slotHeld_spec (touchCfg s g t) g (scanTick (touchCfg s g t) g t) counts t
    (t + touchSlotNs (touchCfg s g t)) ((groupEls (touchCfg s g t) g).filter (fun e => classOf (touchCfg s g t) e == 2))
    (fun _ he => (List.mem_filter.mp he).1) s _ rfl
  exact completes_of_keeps (exec_touchSlotMeasure_due hr hs hd) _ rfl hkeeps
    ⟨congrArg TouchGroup.lastTick hgroup, congrArg TouchGroup.missed hgroup, hread, hothers, hframe⟩

/-! ## Saving and stopping (R345) -/

theorem flashStore_now {r : FlashRec} {s : State} (ha : s.flashAllowed = true) (hw : s.flashWindow = true) (hq : s.power.flashQ = []) :
    flashStore r s = flashPut r s := by
  unfold flashStore
  rw [ha, hw, hq]
  rfl

theorem touchSave_completes {s : State} {t : Time64} (hr : s.touch.running = true)
    (ht : s.touch.saveT + 60000000000 * pv s.cfg pTouchSavePeriod 0 ≤ t) (ha : s.flashAllowed = true) (hw : s.flashWindow = true)
    (hq : s.power.flashQ = []) :
    Completes (.touchSave t) s (fun u =>
      u.touch = { s.touch with saveT := t, saved := some (savedBase (atTime t s)) } ∧ u.power = s.power ∧ u.events = s.events) := by
  have hdue : (!s.touch.running || decide (t < s.touch.saveT + 60000000000 * pv s.cfg pTouchSavePeriod 0)) = false := by simp [hr, ht]
  refine ⟨flashPut (.touch (savedBase (atTime t s))) { atTime t s with touch := { s.touch with saveT := t } }, ?_, rfl, rfl, rfl⟩
  change execTouchSave t s = _
  unfold execTouchSave
  exact act_eq_next ((if_neg (Bool.eq_false_iff.mp hdue)).trans (flashStore_now ha hw hq)) ⟨rfl, rfl, rfl⟩

theorem nth_setNth_false (l : List Bool) (i k : Nat) (h : k = i ∨ nth false l k = false) : nth false (setNth false l i) k = false := by
  induction l generalizing i k with
  | nil => rfl
  | cons x r ih =>
    match i, k with
    | 0, 0 => rfl
    | 0, k + 1 => exact h.resolve_left (Nat.succ_ne_zero k)
    | i + 1, 0 => exact h.resolve_left (Nat.succ_ne_zero i).symm
    | i + 1, k + 1 => exact ih i k (h.imp_left Nat.succ.inj)

/-- A key's release: its electrode is RELEASED and reported so, with cause. -/
def releaseKey (cause : Nat) (a : State) (e : Nat) : State :=
  (raiseRelease a.cfg cause e a).modElectrode e (fun x => { x with state := .released })

theorem releaseAll_eq (cause : Nat) (s : State) :
    releaseAll cause s = ((s.touch.els.filter (fun e => e.2.state == .pressed)).map Prod.fst).foldl (releaseKey cause) s := by
  rw [List.foldl_map]
  rfl

theorem onlyTouch_releaseKey (cause : Nat) (a : State) (e : Nat) : OnlyTouch a (releaseKey cause a e) :=
  (scanStep_raiseRelease e a.cfg cause e a).1.trans rfl

theorem pressed_releaseKey (cause : Nat) (a : State) (e : Nat) : (releaseKey cause a e).touch.pressed = setNth false a.touch.pressed e := by
  change setNth false (raiseTouch a.cfg .touchRelease 1 cause e a).touch.pressed e = _
  rw [show (raiseTouch a.cfg .touchRelease 1 cause e a).touch = a.touch from raise_els ..]

/-- Every key of a list is no longer reported pressed once all of them have been released. -/
theorem pressed_releaseKeys (cause : Nat) (l : List Nat) (s : State) :
    OnlyTouch s (l.foldl (releaseKey cause) s)
    ∧ ∀ e : Nat, e ∈ l ∨ nth false s.touch.pressed e = false → nth false (l.foldl (releaseKey cause) s).touch.pressed e = false := by
  induction l generalizing s with
  | nil => exact ⟨.refl s, fun e he => he.resolve_left List.not_mem_nil⟩
  | cons k l ih =>
    obtain ⟨honly, hpressed⟩ := ih (releaseKey cause s k)
    refine ⟨(onlyTouch_releaseKey cause s k).trans honly, fun e he => hpressed e ?_⟩
    rw [pressed_releaseKey]
    rcases he with he | he
    · rcases List.mem_cons.mp he with rfl | he
      · exact .inr (nth_setNth_false _ _ _ (.inl rfl))
      · exact .inl he
    · exact .inr (nth_setNth_false _ _ _ (.inr he))

theorem stopTouch_final {s : State} (hr : s.touch.restart = false) :
    stopTouch s = { releaseAll 2 s with touch := { (releaseAll 2 s).touch with
      running := false, stopping := false, restart := false, els := [], groups := [], prev := none } } := by
  unfold stopTouch
  rw [hr]
  rfl

theorem touchSafePoint_completes {s : State} {t : Time64} (hs : s.touch.stopping = true) (hr : s.touch.restart = false)
    (hw : windowOver s t = true) :
    Completes (.touchSafePoint t) s (fun u =>
      u.touch.running = false ∧ u.touch.stopping = false ∧ u.touch.els = [] ∧ u.touch.groups = [] ∧ u.touch.saved = s.touch.saved
      ∧ u.cfg = s.cfg ∧ ∀ e : Nat, (∃ x, (e, x) ∈ s.touch.els ∧ x.state = .pressed) → nth false u.touch.pressed e = false) := by
  have hdue : (!s.touch.stopping || !windowOver s t) = false := by simp [hs, hw]
  obtain ⟨honly, hpressed⟩ := pressed_releaseKeys 2 ((s.touch.els.filter (fun e => e.2.state == .pressed)).map Prod.fst) (atTime t s)
  have hall : releaseAll 2 (atTime t s) =
      ((s.touch.els.filter (fun e => e.2.state == .pressed)).map Prod.fst).foldl (releaseKey 2) (atTime t s) := releaseAll_eq 2 (atTime t s)
  rw [← hall] at honly hpressed
  refine ⟨{ releaseAll 2 (atTime t s) with touch := { (releaseAll 2 (atTime t s)).touch with
      running := false, stopping := false, restart := false, els := [], groups := [], prev := none } }, ?_,
    rfl, rfl, rfl, rfl, honly.get (fun x => x.touch.saved), honly.get State.cfg, fun e he => ?_⟩
  · change execTouchSafePoint t s = _
    unfold execTouchSafePoint
    exact act_eq_next ((if_neg (Bool.eq_false_iff.mp hdue)).trans (stopTouch_final hr)) honly.keeps
  · obtain ⟨x, hx, hstate⟩ := he
    exact hpressed e (.inl (List.mem_map.mpr ⟨(e, x), List.mem_filter.mpr ⟨hx, beq_iff_eq.mpr hstate⟩, rfl⟩))

/-- Settles O21. -/
theorem touchScans : Obligations.TouchScans :=
  ⟨fun _ _ _ _ hr hs hd => touchSlotMeasure_completes hr hs hd,
    fun _ _ hr ht ha hw hq => touchSave_completes hr ht ha hw hq, fun _ _ hs hr hw => touchSafePoint_completes hs hr hw⟩

end Sys2Proof.Machine
end

section
/-! Keys: the debounce of a press (R340, R341), the hold limit (R342) and uncompensated drift (R343). -/
namespace Sys2Proof.Machine

/-! ## The debounce -/

/-- An electrode's state and its run of scans at or above TOUCH_ON stay. -/
def SameRun (e : Nat) (s t : State) : Prop :=
  (t.electrode e).state = (s.electrode e).state ∧ (t.electrode e).onRun = (s.electrode e).onRun

theorem SameRun.trans {e : Nat} {s t u : State} (h : SameRun e s t) (h' : SameRun e t u) : SameRun e s u :=
  ⟨h'.1.trans h.1, h'.2.trans h.2⟩

theorem sameRun_modElectrode {e : Nat} {f : Electrode → Electrode} (s : State) (hs : ∀ x, (f x).state = x.state := by exact fun _ => rfl)
    (hr : ∀ x, (f x).onRun = x.onRun := by exact fun _ => rfl) : SameRun e s (s.modElectrode e f) := by
  constructor <;> rw [electrode_modElectrode]
  · exact hs _
  · exact hr _

theorem raiseTouch_touch (c : Cfg) (ev : Ev) (kind cause k : Nat) (s : State) : (raiseTouch c ev kind cause k s).touch = s.touch := raise_els ..

theorem electrode_raiseTouch (c : Cfg) (ev : Ev) (kind cause k e : Nat) (s : State) : (raiseTouch c ev kind cause k s).electrode e = s.electrode e :=
  electrode_of_els (congrArg Touch.els (raiseTouch_touch ..)) e

theorem sameRun_raiseTouch (c : Cfg) (ev : Ev) (kind cause k e : Nat) (s : State) : SameRun e s (raiseTouch c ev kind cause k s) := by
  constructor <;> rw [electrode_raiseTouch]

/-- A scan below TOUCH_ON starts the count again (R340). -/
theorem scanReleased_off {c : Cfg} {e : Nat} (t done : Time64) {s : State} (hd : (s.electrode e).delta < (pv c pTouchOn e : Int)) :
    ((scanReleased c e t done s).electrode e).state = (s.electrode e).state ∧ ((scanReleased c e t done s).electrode e).onRun = 0 := by
  have hrun : SameRun e (s.modElectrode e (fun x => { x with onRun := 0 })) (scanReleased c e t done s) := by
    unfold scanReleased
    extract_lets x d run s1 ns s2 s3
    rw [if_neg (Int.not_le.mpr hd)]
    split
    · split
      · exact ((sameRun_modElectrode s2).trans (sameRun_modElectrode s3)).trans (sameRun_raiseTouch ..)
      · exact sameRun_modElectrode s2
    · split
      · exact sameRun_modElectrode s2
      · exact ⟨rfl, rfl⟩
  obtain ⟨hstate, honRun⟩ := hrun
  rw [electrode_modElectrode] at hstate honRun
  exact ⟨hstate, honRun⟩

/-- A scan at or above TOUCH_ON that does not complete the debounce only counts. -/
theorem scanReleased_counts {c : Cfg} {e : Nat} (t done : Time64) {s : State} (hd : (pv c pTouchOn e : Int) ≤ (s.electrode e).delta)
    (hr : (s.electrode e).onRun + 1 < pv c pTouchDebOn e) :
    scanReleased c e t done s = s.modElectrode e (fun x => { x with
      onRun := (s.electrode e).onRun + 1, onT := if (s.electrode e).onRun + 1 = 1 then t else x.onT }) :=
  (if_pos hd).trans (if_neg (Nat.not_le.mpr hr))

/-- One that completes it presses the key. -/
theorem scanReleased_presses {c : Cfg} {e : Nat} (t done : Time64) {s : State} (hd : (pv c pTouchOn e : Int) ≤ (s.electrode e).delta)
    (hr : pv c pTouchDebOn e ≤ (s.electrode e).onRun + 1) :
    scanReleased c e t done s = (raisePress c e (s.modElectrode e (fun x => { x with
        onRun := (s.electrode e).onRun + 1, onT := if (s.electrode e).onRun + 1 = 1 then t else x.onT }))).modElectrode e (fun x => { x with
      state := .pressed, onRun := 0, onT := done, offRun := 0, holdBase := x.base,
      nbrBase := (nbrs c e).map (fun n => (n, (s.electrode n).base)), noNbrT := none, driftSaid := false }) :=
  (if_pos hd).trans (if_pos hr)

/-- A press is reported of the electrode as it stands, and it is one that is reported pressed. -/
theorem raisePress_touch (c : Cfg) (e : Nat) (s : State) : (raisePress c e s).touch = { s.touch with pressed := setNth true s.touch.pressed e } := by
  unfold raisePress
  dsimp only
  split
  · rename_i l _
    obtain ⟨n, hn⟩ := legendAt_state l.2 (s.electrode e).onT s
    unfold notePressed
    dsimp only
    rw [raise_els, hn]
  · unfold notePressed
    dsimp only
    rw [raise_els]

theorem electrode_raisePress (c : Cfg) (e k : Nat) (s : State) : (raisePress c e s).electrode k = s.electrode k :=
  electrode_of_els (by rw [raisePress_touch]) k

theorem scanReleased_press {c : Cfg} {e : Nat} (t done : Time64) {s : State} (hd : (pv c pTouchOn e : Int) ≤ (s.electrode e).delta)
    (hr : pv c pTouchDebOn e ≤ (s.electrode e).onRun + 1) :
    ((scanReleased c e t done s).electrode e).state = .pressed ∧ ((scanReleased c e t done s).electrode e).onT = done
    ∧ ((scanReleased c e t done s).electrode e).base = (s.electrode e).base
    ∧ (e < s.touch.pressed.length → nth false (scanReleased c e t done s).touch.pressed e = true) := by
  rw [scanReleased_presses t done hd hr, electrode_modElectrode, electrode_raisePress, electrode_modElectrode]
  refine ⟨rfl, rfl, rfl, fun he => ?_⟩
  change nth false (raisePress c e _).touch.pressed e = true
  rw [raisePress_touch]
  exact nth_setNth false true s.touch.pressed e he

/-! ## The hold limit and drift -/

/-- An electrode's event is the newest, with the electrode as the event finds it. -/
theorem raised_raiseTouch {s u : State} (c : Cfg) (ev : Ev) (kind cause e : Nat) (hh : u.hot = s.hot) :
    s.raised (raiseTouch c ev kind cause e u) ev none (touchPayload c e kind cause 0 (legendId u e) 0 0 (u.electrode e) (u.electrode e).touchT) :=
  raised_raise _ _ hh

/-- A MOMENTARY key held too long becomes STUCK, and its baseline the present count (R342). -/
def keyStuck (e : Nat) (t : Time64) (s : State) : State :=
  (atTime t s).modElectrode e (fun x => { x with state := .stuck, base := 16 * x.count, negRun := 0 })

theorem electrode_keyStuck (e : Nat) (t : Time64) (s : State) :
    (keyStuck e t s).electrode e = { s.electrode e with state := .stuck, base := 16 * (s.electrode e).count, negRun := 0 } :=
  electrode_modElectrode (atTime t s) e _

theorem electrode_keyStuck_ne (e : Nat) (t : Time64) (s : State) {f : Nat} (hf : f ≠ e) : (keyStuck e t s).electrode f = s.electrode f :=
  electrode_modElectrode_ne (atTime t s) e _ hf

theorem exec_touchMaxHold_due {s : State} {e : Fin 128} {t : Time64} (hp : (s.electrode e).state = .pressed) (hc : classOf s.cfg e = 1)
    (ht : (s.electrode e).onT + 1000000 * pv s.cfg pTouchMaxHold 0 ≤ t) :
    exec (.touchMaxHold e t) s = act (fun s => notePressed e false (raiseTouch s.cfg .touchStuck 2 0 e (keyStuck e t s))) s := by
  have hdue : ((s.electrode e).state != .pressed || classOf s.cfg e != 1
      || decide (t < (s.electrode e).onT + 1000000 * pv s.cfg pTouchMaxHold 0)) = false := by simp [hp, hc, ht]
  change execTouchMaxHold e t s = _
  unfold execTouchMaxHold
  exact act_congr (if_neg (Bool.eq_false_iff.mp hdue))

theorem touchMaxHold_completes {s : State} {e : Fin 128} {t : Time64} (hp : (s.electrode e).state = .pressed) (hc : classOf s.cfg e = 1)
    (ht : (s.electrode e).onT + 1000000 * pv s.cfg pTouchMaxHold 0 ≤ t) :
    Completes (.touchMaxHold e t) s (fun u =>
      (u.electrode e).state = .stuck ∧ (u.electrode e).base = 16 * (s.electrode e).count
      ∧ u.touch.pressed = setNth false s.touch.pressed e ∧ (∀ f : Nat, f ≠ e.val → u.electrode f = s.electrode f)
      ∧ s.raised u .touchStuck none (touchPayload s.cfg e 2 0 0 (legendId s e) 0 0 (u.electrode e) (s.electrode e).touchT)) := by
  have hels : ∀ k, (notePressed e false (raiseTouch s.cfg .touchStuck 2 0 e (keyStuck e t s))).electrode k = (keyStuck e t s).electrode k :=
    fun k => electrode_raiseTouch s.cfg .touchStuck 2 0 e k _
  have hself := (hels e).trans (electrode_keyStuck e t s)
  have hraised := raised_raiseTouch (s := s) s.cfg .touchStuck 2 0 e (u := keyStuck e t s) rfl
  rw [electrode_keyStuck] at hraised
  refine completes_of_keeps (exec_touchMaxHold_due hp hc ht) _ rfl ?_ ⟨?_, ?_, ?_, fun f hf => ?_, ?_⟩
  · exact (show KeepsFrame s (keyStuck e t s) from ⟨rfl, rfl, rfl⟩).trans (onlyEvents_raise ..).keeps
  · rw [hself]
  · rw [hself]
  · exact congrArg (fun x : Touch => setNth false x.pressed e) (raiseTouch_touch s.cfg .touchStuck 2 0 e (keyStuck e t s)) |>.trans rfl
  · exact (hels f).trans (electrode_keyStuck_ne e t s hf)
  · rw [hself]
    exact raised_congr hraised rfl rfl

/-- A HOLD key whose drift is not compensated is noted as reported (R343). -/
def keySaid (e : Nat) (t : Time64) (s : State) : State := (atTime t s).modElectrode e (fun x => { x with driftSaid := true })

theorem electrode_keySaid (e : Nat) (t : Time64) (s : State) : (keySaid e t s).electrode e = { s.electrode e with driftSaid := true } :=
  electrode_modElectrode (atTime t s) e _

theorem electrode_keySaid_ne (e : Nat) (t : Time64) (s : State) {f : Nat} (hf : f ≠ e) : (keySaid e t s).electrode f = s.electrode f :=
  electrode_modElectrode_ne (atTime t s) e _ hf

theorem exec_touchDriftUncomp_due {s : State} {e : Fin 128} {t since : Time64} (hn : (s.electrode e).noNbrT = some since)
    (hp : (s.electrode e).state = .pressed) (hc : classOf s.cfg e = 2) (hd : (s.electrode e).driftSaid = false) (ht : since + 60000000000 ≤ t) :
    exec (.touchDriftUncomp e t) s = act (fun s => raiseTouch s.cfg .touchDriftUncomp 7 0 e
      (keySaid e t s)) s := by
  have hdue : ((s.electrode e).state != .pressed || classOf s.cfg e != 2 || (s.electrode e).driftSaid
      || decide (t < since + 60000000000)) = false := by simp [hp, hc, hd, ht]
  change execTouchDriftUncomp e t s = _
  unfold execTouchDriftUncomp
  refine act_congr ?_
  dsimp only
  rw [hn]
  exact if_neg (Bool.eq_false_iff.mp hdue)

theorem touchDriftUncomp_completes {s : State} {e : Fin 128} {t since : Time64} (hn : (s.electrode e).noNbrT = some since)
    (hp : (s.electrode e).state = .pressed) (hc : classOf s.cfg e = 2) (hd : (s.electrode e).driftSaid = false) (ht : since + 60000000000 ≤ t) :
    Completes (.touchDriftUncomp e t) s (fun u =>
      u.electrode e = { s.electrode e with driftSaid := true } ∧ (∀ f : Nat, f ≠ e.val → u.electrode f = s.electrode f)
      ∧ s.raised u .touchDriftUncomp none (touchPayload s.cfg e 7 0 0 (legendId s e) 0 0 (u.electrode e) (s.electrode e).touchT)) := by
  have hels : ∀ k, (raiseTouch s.cfg .touchDriftUncomp 7 0 e (keySaid e t s)).electrode k
      = (keySaid e t s).electrode k :=
    fun k => electrode_raiseTouch s.cfg .touchDriftUncomp 7 0 e k _
  have hself := (hels e).trans (electrode_keySaid e t s)
  have hraised := raised_raiseTouch (s := s) s.cfg .touchDriftUncomp 7 0 e
    (u := keySaid e t s) rfl
  rw [electrode_keySaid] at hraised
  refine completes_of_keeps (exec_touchDriftUncomp_due hn hp hc hd ht) _ rfl ?_ ⟨hself, fun f hf => ?_, ?_⟩
  · exact (show KeepsFrame s (keySaid e t s) from ⟨rfl, rfl, rfl⟩).trans (onlyEvents_raise ..).keeps
  · exact (hels f).trans (electrode_keySaid_ne e t s hf)
  · rw [hself]
    exact hraised

/-- Settles O22. -/
theorem touchKeys : Obligations.TouchKeys := by
  refine ⟨fun s c e t done hs => ⟨?press, ?count, ?off⟩, fun s e t hp hc ht => touchMaxHold_completes hp hc ht,
    fun s e t since hn hp hc hd ht => touchDriftUncomp_completes hn hp hc hd ht⟩
  case press => exact fun hd hr => scanReleased_press t done hd hr
  case count =>
    intro hd hr
    rw [scanReleased_counts t done hd hr, electrode_modElectrode]
    exact ⟨hs, rfl, rfl⟩
  case off =>
    intro hd
    obtain ⟨hstate, honRun⟩ := scanReleased_off t done hd
    exact ⟨hstate.trans hs, honRun⟩

end Sys2Proof.Machine
end

section
/-! Ticks (R42, R45), the time states (R33 to R35), and the order of the commands that are due (R24, R361). -/
namespace Sys2Proof.Machine

/-! ## The tick grid -/

theorem Grid.tickT_eq (g : Grid) (n : Nat) : g.tickT n = g.epoch + n * (rateRow g.rate).ns + n * (rateRow g.rate).thirds / 3 := by
  have hmul : n * g.p3 = 3 * (n * (rateRow g.rate).ns) + n * (rateRow g.rate).thirds := by
    unfold Grid.p3
    rw [Nat.mul_add, Nat.mul_left_comm]
  have hdiv : (3 * g.epoch + n * g.p3) / 3 = g.epoch + n * (rateRow g.rate).ns + n * (rateRow g.rate).thirds / 3 := by omega
  exact hdiv

theorem Grid.t3_succ (g : Grid) (n : Nat) : g.t3 (n + 1) = g.t3 n + g.p3 := by
  unfold Grid.t3
  rw [Nat.add_mul, Nat.one_mul]
  exact (Nat.add_assoc ..).symm

/-- A tick is at least a nanosecond long. -/
theorem three_le_p3 (g : Grid) : 3 ≤ g.p3 := by
  have hns : 0 < (rateRow g.rate).ns := by unfold rateRow; split <;> decide
  unfold Grid.p3
  omega

/-- Settles O23. -/
theorem tickGrid : Obligations.TickGrid := by
  intro g n
  have hnext := g.t3_succ n
  have hlong := three_le_p3 g
  have hlt : g.t3 n / 3 < g.t3 (n + 1) / 3 := by omega
  have hle : (g.t3 n - 3000 * g.leadUs) / 3 ≤ (g.t3 (n + 1) - 3000 * g.leadUs) / 3 := by omega
  have hlead : 1000 * g.leadUs ≤ g.t3 n / 3 → (g.t3 n - 3000 * g.leadUs) / 3 = g.t3 n / 3 - 1000 * g.leadUs := by omega
  exact ⟨g.tickT_eq n, hlt, hlead, hle, fun t ht => firstDecision_le g t n ht⟩

/-! ## The time states -/

theorem nextOwn_of_none {s : State} (h0 : s.estValid 0 = false) (h1 : s.estValid 1 = false) :
    s.nextOwn = match s.time.own with
      | .freeRun => .freeRun
      | .holdover => if s.time.holdEnded = true ∨ s.holdOver = true then .freeRun else .holdover
      | .single => .holdover
      | .dual => .holdover := by
  unfold State.nextOwn
  rw [h0, h1]
  cases s.time.own <;> simp

theorem nextOwn_of_apart {s : State} (hany : s.estValid 0 = true ∨ s.estValid 1 = true) (hd : s.domsAgree = false) : s.nextOwn = .single := by
  have hany : (s.estValid 0 || s.estValid 1) = true := by simpa using hany
  unfold State.nextOwn
  rw [hany, hd]
  cases s.time.own <;> rfl

theorem nextOwn_of_agree {s : State} (hd : s.domsAgree = true) :
    s.nextOwn = match s.time.own with
      | .freeRun => .single
      | .holdover => .single
      | .single => .dual
      | .dual => .dual := by
  have hany : (s.estValid 0 || s.estValid 1) = true := by
    unfold State.domsAgree at hd
    simp only [Bool.and_eq_true] at hd
    obtain ⟨⟨h0, -⟩, -⟩ := hd
    rw [h0, Bool.true_or]
  unfold State.nextOwn
  rw [hany, hd]
  cases s.time.own <;> rfl

theorem satUWall_le (v : Nat) : satUWall v ≤ 0xFFFFFFFF := by
  unfold satUWall
  split <;> omega

theorem ownUWall_le (s : State) (st : TState) : s.ownUWall st ≤ 0xFFFFFFFF := by
  cases st with
  | freeRun => exact Nat.le_refl _
  | holdover => exact satUWall_le _
  | single => exact satUWall_le _
  | dual => exact satUWall_le _

theorem ceilDiv_mono {a b : Nat} (d : Nat) (h : a ≤ b) : ceilDiv a d ≤ ceilDiv b d :=
  Nat.div_le_div_right (by omega)

theorem ceilDiv_mul_self (d n : Nat) (hd : 0 < d) : ceilDiv (d * n) d = n := by
  unfold ceilDiv
  rw [Nat.add_sub_assoc hd, Nat.mul_add_div hd, Nat.div_eq_of_lt (by omega), Nat.add_zero]

theorem uWallHold_zero (u rate acc : Nat) : uWallHold u rate acc 0 = u := by
  unfold uWallHold
  rw [Nat.mul_zero, Nat.mul_zero, Nat.zero_mul]
  exact congrArg (u + ·) (ceilDiv_mul_self _ 0 (by decide))

theorem uWallHold_mono (u rate acc t : Nat) : uWallHold u rate acc t ≤ uWallHold u rate acc (t + 1) := by
  unfold uWallHold
  refine Nat.add_le_add_left (ceilDiv_mono _ (Nat.add_le_add ?_ ?_)) u
  · exact Nat.mul_le_mul_right _ (Nat.mul_le_mul_left _ (Nat.le_succ t))
  · exact Nat.mul_le_mul (Nat.mul_le_mul_left _ (Nat.le_succ t)) (Nat.le_succ t)

/-- Without acceleration U_WALL grows by the rate each second of HOLDOVER. -/
theorem uWallHold_seconds (u rate t : Nat) : uWallHold u rate 0 (1000000000 * t) = u + rate * t := by
  unfold uWallHold
  rw [Nat.zero_mul, Nat.zero_mul, Nat.add_zero,
    show 2 * rate * (1000000000 * t) * 1000000000 = 2 * 1000000000 * 1000000000 * (rate * t) by ac_rfl, ceilDiv_mul_self _ _ (by decide)]

/-- Settles O24. -/
theorem timeStates : Obligations.TimeStates :=
  ⟨fun _ => ⟨nextOwn_of_none, nextOwn_of_apart, nextOwn_of_agree⟩,
    fun _ => rfl, ownUWall_le, fun u rate acc t => ⟨uWallHold_zero u rate acc, uWallHold_mono u rate acc t⟩, uWallHold_seconds⟩

/-! ## The commands that are due -/

theorem perm_insertBy {α : Type} (le : α → α → Bool) (x : α) (l : List α) : (insertBy le x l).Perm (x :: l) := by
  induction l with
  | nil => exact .refl _
  | cons y r ih =>
    unfold insertBy
    split
    · exact (ih.cons y).trans (.swap x y r)
    · exact .refl _

theorem perm_sortBy {α : Type} (le : α → α → Bool) (l : List α) : (sortBy le l).Perm l := by
  suffices h : ∀ acc, (l.foldl (fun acc x => insertBy le x acc) acc).Perm (acc ++ l) from h []
  induction l with
  | nil => exact fun acc => by rw [List.append_nil]; exact .refl _
  | cons x l ih =>
    intro acc
    exact (ih _).trans (((perm_insertBy le x acc).append_right l).trans List.perm_middle.symm)

/-- Insertion by a total order keeps a list in that order. -/
theorem pairwise_insertBy {α : Type} {le : α → α → Bool} {R : α → α → Prop} (hR : ∀ a b c, R a b → R b c → R a c)
    (hle : ∀ a b, le a b = true → R a b) (hnot : ∀ a b, le a b = false → R b a) (x : α) {l : List α} (hl : l.Pairwise R) :
    (insertBy le x l).Pairwise R := by
  induction l with
  | nil => exact List.pairwise_singleton R x
  | cons y r ih =>
    obtain ⟨hy, hr⟩ := List.pairwise_cons.mp hl
    unfold insertBy
    split
    next hyx =>
      refine List.pairwise_cons.mpr ⟨fun z hz => ?_, ih hr⟩
      rcases List.mem_cons.mp ((perm_insertBy le x r).mem_iff.mp hz) with rfl | hz
      · exact hle y z hyx
      · exact hy z hz
    next hyx =>
      have hxy : R x y := hnot y x (Bool.eq_false_iff.mpr hyx)
      refine List.pairwise_cons.mpr ⟨fun z hz => ?_, hl⟩
      rcases List.mem_cons.mp hz with rfl | hz
      · exact hxy
      · exact hR x y z hxy (hy z hz)

theorem pairwise_sortBy {α : Type} {le : α → α → Bool} {R : α → α → Prop} (hR : ∀ a b c, R a b → R b c → R a c)
    (hle : ∀ a b, le a b = true → R a b) (hnot : ∀ a b, le a b = false → R b a) (l : List α) : (sortBy le l).Pairwise R := by
  suffices h : ∀ acc : List α, acc.Pairwise R → (l.foldl (fun acc x => insertBy le x acc) acc).Pairwise R from h [] List.Pairwise.nil
  induction l with
  | nil => exact fun _ h => h
  | cons x l ih => exact fun acc h => ih _ (pairwise_insertBy hR hle hnot x h)

/-- The order of commands without TWIN_ROUTE BOTH: by tick, and those of one tick in the order of acceptance (R24). -/
def AppliedBefore (a b : Accepted) : Prop := a.tick < b.tick ∨ (a.tick = b.tick ∧ a.order ≤ b.order)

theorem AppliedBefore.trans (a b c : Accepted) (h : AppliedBefore a b) (h' : AppliedBefore b c) : AppliedBefore a c := by
  unfold AppliedBefore at *
  omega

theorem acceptedLe_iff (a b : Accepted) : acceptedLe false a b = true ↔ AppliedBefore a b := by
  unfold acceptedLe AppliedBefore
  split <;> simp <;> omega

/-- Settles O28. -/
theorem dueInOrder : Obligations.DueInOrder := by
  intro s n hroute
  unfold dueCommands
  rw [hroute]
  refine ⟨fun a => ?_, pairwise_sortBy AppliedBefore.trans (fun a b h => (acceptedLe_iff a b).mp h) (fun a b h => ?_) _⟩
  · rw [(perm_sortBy _ _).mem_iff, List.mem_filter, Bool.or_false, Bool.and_eq_true, decide_eq_true_eq]
  · have hnot : ¬ AppliedBefore a b := fun hab => by rw [(acceptedLe_iff a b).mpr hab] at h; exact Bool.noConfusion h
    unfold AppliedBefore at *
    omega

end Sys2Proof.Machine
end

section
/-! Ticks and decision points (R45, R52): what the work of a tick can touch, and the steps of a decision point in their order. -/
namespace Sys2Proof.Machine

/-! ## The output log grows -/

/-- The output log of a state goes on from that of another. -/
def Extends (s t : State) : Prop := ∃ l, t.out = s.out ++ l

theorem Extends.refl (s : State) : Extends s s := ⟨[], (List.append_nil _).symm⟩

theorem Extends.trans {s t u : State} (h : Extends s t) (h' : Extends t u) : Extends s u := by
  obtain ⟨l, hl⟩ := h
  obtain ⟨m, hm⟩ := h'
  exact ⟨l ++ m, by rw [hm, hl, List.append_assoc]⟩

theorem Extends.of_eq {s t : State} (h : t.out = s.out) : Extends s t := ⟨[], by rw [h, List.append_nil]⟩

theorem extends_emit (o : Out) (s : State) : Extends s (emit o s) := ⟨[o], rfl⟩

theorem extends_sendFrame (n : Nat) (r : Option Nat) (b : FlumeBody) (s : State) : Extends s (sendFrame n r b s) := by
  cases r <;> (simp only [sendFrame, Option.isSome, Bool.false_eq_true, if_false, if_true]; split)
  · exact ⟨_, rfl⟩
  · exact .of_eq rfl
  · exact ⟨_, rfl⟩
  · exact .of_eq rfl

theorem extends_raiseAt (t : Time64) (c : Ev) (g : Option Nat) (p : List (Nat × Nat)) (s : State) : Extends s (raiseAt t c g p s) := by
  unfold raiseAt
  split
  · exact (Extends.of_eq rfl).trans (extends_sendFrame ..)
  · exact .of_eq rfl

theorem extends_raise (c : Ev) (p : List (Nat × Nat)) (s : State) : Extends s (raise c p s) := extends_raiseAt ..

/-- What stands in a log that goes on, stands in the longer one. -/
theorem sent_of_extends {s t u : State} {o : Out} (h : s.sent t o) (h' : Extends t u) : s.sent u o := by
  obtain ⟨l, hl⟩ := h
  obtain ⟨m, hm⟩ := h'
  exact ⟨l ++ m, by rw [hm, hl, List.append_assoc]⟩

theorem foldl_rel {α : Type} {R : State → State → Prop} (hrefl : ∀ s, R s s) (htrans : ∀ {s t u}, R s t → R t u → R s u) {f : State → α → State}
    (hf : ∀ s x, R s (f s x)) (l : List α) (s : State) : R s (l.foldl f s) := by
  induction l generalizing s with
  | nil => exact hrefl s
  | cons x l ih => exact htrans (hf s x) (ih (f s x))

/-! ## The work of a tick -/

/-- Two states differ at most in what the work of a tick touches: the touch unit, the event inputs, the twin link, the level sent to the peer,
the events and the output log, which goes on. -/
def TickWork (s t : State) : Prop :=
  t = { s with touch := t.touch, evi := t.evi, twin := t.twin, power := { s.power with sentLevel := t.power.sentLevel },
               events := t.events, out := t.out } ∧ Extends s t

theorem TickWork.refl (s : State) : TickWork s s := ⟨rfl, .refl s⟩

theorem TickWork.trans {s t u : State} (h : TickWork s t) (h' : TickWork t u) : TickWork s u := by
  obtain ⟨hst, hext⟩ := h
  obtain ⟨htu, hext'⟩ := h'
  exact ⟨by rw [htu, hst], hext.trans hext'⟩

theorem TickWork.get {β : Type} (p : State → β) {s t : State} (h : TickWork s t) :
    p t = p { s with touch := t.touch, evi := t.evi, twin := t.twin, power := { s.power with sentLevel := t.power.sentLevel },
                     events := t.events, out := t.out } := congrArg p h.1

theorem tickWork_raise (c : Ev) (p : List (Nat × Nat)) (s : State) : TickWork s (raise c p s) := by
  refine ⟨?_, extends_raise c p s⟩
  unfold raise
  obtain ⟨e, o, w, h⟩ := raiseAt_form s.time.now c none p s
  rw [h]

theorem tickWork_sendFrame (n : Nat) (r : Option Nat) (b : FlumeBody) (s : State) : TickWork s (sendFrame n r b s) := by
  refine ⟨?_, extends_sendFrame n r b s⟩
  obtain ⟨o, w, h⟩ := sendFrame_form n r b s
  rw [h]

theorem tickWork_emit (o : Out) (s : State) : TickWork s (emit o s) := ⟨rfl, extends_emit o s⟩

theorem tickWork_twin (w : Twin) (s : State) : TickWork s { s with twin := w } := ⟨rfl, .refl s⟩

theorem tickWork_touch (x : Touch) (s : State) : TickWork s { s with touch := x } := ⟨rfl, .refl s⟩

theorem tickWork_modElectrode (e : Nat) (f : Electrode → Electrode) (s : State) : TickWork s (s.modElectrode e f) := ⟨rfl, .refl s⟩

theorem tickWork_modEviIn (i : Nat) (f : EviInput → EviInput) (s : State) : TickWork s (s.modEviIn i f) := ⟨rfl, .refl s⟩

theorem tickWork_settleLanes (s : State) : TickWork s (settleLanes s) := by
  unfold settleLanes
  dsimp only
  split
  · exact .refl s
  · exact (tickWork_twin _ s).trans (tickWork_raise ..)

theorem tickWork_countMisses (n : Nat) (s : State) : TickWork s (countMisses n s) := by
  unfold countMisses
  split
  · exact .refl s
  · exact tickWork_twin _ s

theorem tickWork_sendBeats (n : Nat) (s : State) : TickWork s (sendBeats n s) := by
  unfold sendBeats
  extract_lets s1 pw s2 dst b
  have h1 : TickWork s s1 := tickWork_sendFrame ..
  have h2 : TickWork s s2 := h1.trans ((show TickWork s1 { s1 with power := { s1.power with sentLevel := s.power.decided } } from ⟨rfl, .refl s1⟩).trans (tickWork_emit ..))
  split
  · exact .refl s
  · split
    · exact h2
    · exact h2.trans (tickWork_emit ..)

theorem tickWork_beginXfer (n : Nat) (s : State) : TickWork s (beginXfer n s) := by
  unfold beginXfer
  split
  · exact tickWork_sendFrame ..
  · exact .refl s

theorem tickWork_reportEvi (i : Nat) (edge acc : Time64) (s : State) : TickWork s (reportEvi i edge acc s) := by
  unfold reportEvi raiseEvi
  exact (tickWork_raise ..).trans (tickWork_modEviIn ..)

theorem tickWork_eviTick (s : State) : TickWork s (eviTick s) := by
  refine foldl_rel TickWork.refl TickWork.trans (fun a i => ?_) _ s
  dsimp only
  split
  · exact (tickWork_modEviIn ..).trans (tickWork_reportEvi ..)
  · exact tickWork_modEviIn ..

theorem tickWork_raiseRelease (c : Cfg) (cause e : Nat) (s : State) : TickWork s (raiseRelease c cause e s) :=
  (tickWork_raise ..).trans (tickWork_touch _ _)

theorem tickWork_noteScanTick (n : Nat) (s : State) : TickWork s (noteScanTick n s) := by
  unfold noteScanTick
  split
  · exact .refl s
  · refine foldl_rel TickWork.refl TickWork.trans (fun a g => ?_) _ s
    extract_lets x a1
    have h1 : TickWork a a1 := by
      unfold a1
      split
      · exact foldl_rel TickWork.refl TickWork.trans (fun b e => (tickWork_raiseRelease ..).trans (tickWork_modElectrode ..)) _ a
      · exact .refl a
    exact h1.trans (tickWork_touch _ _)

/-! ## The start of a tick -/

/-- The state in which a tick has begun: its number, its instant, and the rise of TICK_OUT. -/
def tickBegun (n : Nat) (t : Time64) (s : State) : State :=
  emit (.tickOut n) (atTime t { s with
    time := { s.time with tick := n, beforeZero := false }, pins := { s.pins with tickRise := some t } })

/-- All that follows the start of a tick while the device lives. -/
def tickWork (n : Nat) (s : State) : State :=
  if !s.alive then s else noteScanTick n (eviTick (beginXfer n (sendBeats n (countMisses n (settleLanes s)))))

theorem tickWork_spec (n : Nat) (s : State) : TickWork s (tickWork n s) := by
  unfold tickWork
  split
  · exact .refl s
  · exact (((((tickWork_settleLanes s).trans (tickWork_countMisses n _)).trans (tickWork_sendBeats n _)).trans
      (tickWork_beginXfer n _)).trans (tickWork_eviTick _)).trans (tickWork_noteScanTick n _)

theorem exec_tickStart {s : State} (ht : s.ticking = true) {n : Nat} (hn : n = (if s.time.beforeZero then 0 else s.time.tick + 1)) :
    exec .tickStart s = act (fun s => tickWork n (tickBegun n (s.grid.tickT n) s)) s := by
  change execTickStart s = _
  unfold execTickStart
  refine act_congr ?_
  rw [ht, hn]
  rfl

/-- What a tick's beginning shows, and what it leaves. -/
theorem tickStart_of_work {n : Nat} {t : Time64} {s u : State} (h : TickWork (tickBegun n t s) u) :
    KeepsFrame s u ∧ u.time = { s.time with tick := n, now := t, beforeZero := false } ∧ s.sent u (.tickOut n)
    ∧ (∀ v : Time64, (atTime v u).tickOut = decide (t ≤ v ∧ v < t + 1000))
    ∧ u.cfg = s.cfg ∧ u.heads = s.heads ∧ u.ledger = s.ledger ∧ u.panes = s.panes
    ∧ u.mem = s.mem ∧ u.cmd = s.cmd ∧ u.streams = s.streams := by
  refine ⟨⟨h.get State.pending, h.get State.seatB, h.get State.dram⟩, h.get State.time, sent_of_extends ⟨[], (List.append_nil _).symm⟩ h.2,
    fun v => ?_, h.get State.cfg, h.get State.heads, h.get State.ledger, h.get State.panes, h.get State.mem, h.get State.cmd, h.get State.streams⟩
  have hrise : (atTime v u).pins.tickRise = some t := h.get (fun x => x.pins.tickRise)
  unfold State.tickOut
  rw [hrise, Bool.decide_and]
  rfl

theorem tickStart_completes (s : State) (n : Nat) (ht : s.ticking = true) (hn : n = (if s.time.beforeZero then 0 else s.time.tick + 1)) :
    Completes .tickStart s (fun u =>
      u.time = { s.time with tick := n, now := s.grid.tickT n, beforeZero := false }
      ∧ s.sent u (.tickOut n) ∧ (∀ v : Time64, (atTime v u).tickOut = decide (s.grid.tickT n ≤ v ∧ v < s.grid.tickT n + 1000))
      ∧ u.cfg = s.cfg ∧ u.heads = s.heads ∧ u.ledger = s.ledger ∧ u.panes = s.panes
      ∧ u.mem = s.mem ∧ u.cmd = s.cmd ∧ u.streams = s.streams) := by
  have hexec := exec_tickStart ht hn
  generalize htick : s.grid.tickT n = t
  obtain ⟨hkeeps, hrest⟩ := tickStart_of_work (tickWork_spec n (tickBegun n t s))
  exact completes_of_keeps hexec _ (by rw [htick]) hkeeps hrest

/-! ## A decision point -/

theorem exec_decisionPoint {s s1 : State} {fences : List (Nat × Nat)} (ht : s.ticking = true)
    (hl : latchStep (s.time.decided + 1) (atTime (s.grid.decideT (s.time.decided + 1)) { s with time := { s.time with decided := s.time.decided + 1 } })
      = (s1, false)) (hc : s1.commanded = true) (hg : gridMoved s1.cfg (commandStep (s.time.decided + 1) s1).cfg = false) :
    exec (.decisionPoint fences) s = act (fun s => pictureStep (s.time.decided + 1) fences (commandStep (s.time.decided + 1) s1)) s := by
  change execDecisionPoint fences s = _
  unfold execDecisionPoint
  refine act_congr ?_
  dsimp only
  rw [ht, hl]
  dsimp only
  rw [hc, if_pos rfl, hg]
  rfl

/-- Settles O27. -/
theorem ticksAndDecisions : Obligations.TicksAndDecisions := by
  refine ⟨tickStart_completes, fun s s1 fences ht hl hc hg => ?_⟩
  exact completes_act (exec_decisionPoint ht hl hc hg) _ rfl rfl

end Sys2Proof.Machine
end

section
/-! PTP measurements (R26 to R30, R51): what a message does to the estimator of the domain that hears it, and the servo. -/
namespace Sys2Proof.Machine

/-! ## Estimators -/

theorem est_modEst (s : State) (d : Nat) (f : Estimator → Estimator) : (s.modEst d f).est d = f (s.est d) := tget_tset_same ..

theorem est_modEst_ne (s : State) (d : Nat) (f : Estimator → Estimator) {k : Nat} (h : k ≠ d) : (s.modEst d f).est k = s.est k :=
  tget_tset_ne _ _ _ _ _ h

/-- Of two values set at one place the second stands. -/
theorem tset_tset {α : Type} (i : Nat) (v w : α) (t : Table α) : tset i v (tset i w t) = tset i v t := by
  induction t with
  | nil => simp [tset]
  | cons x r ih =>
    obtain ⟨j, y⟩ := x
    unfold tset
    by_cases hlt : i < j
    · simp [hlt, tset]
    · by_cases heq : i = j
      · simp [heq, tset]
      · simp [hlt, heq, tset, ih]

theorem modEst_modEst (s : State) (d : Nat) (f g : Estimator → Estimator) : (s.modEst d f).modEst d g = s.modEst d (fun e => g (f e)) := by
  have hest : ((s.modEst d f).modEst d g).time.est = (s.modEst d (fun e => g (f e))).time.est := by
    change tset d (g (tget estInit (tset d (f (s.est d)) s.time.est) d)) (tset d (f (s.est d)) s.time.est) = tset d (g (f (s.est d))) s.time.est
    rw [tget_tset_same, tset_tset]
  exact congrArg (fun e => { s with time := { s.time with est := e } }) hest

/-- The other of the two domains. -/
theorem other_dom_ne (d : Fin 2) : 1 - d.val ≠ d.val := by omega

/-! ## The servo -/

theorem natAbs_clampInt_freqMax (x : Int) : (clampInt (-freqMax) freqMax x).natAbs ≤ 20000000 := by
  unfold clampInt freqMax
  split
  · decide
  · split
    · decide
    · omega

/-- Two states differ at most in what the servo sets, and its frequency is as it was, or within ±200 ppm; a slew holds it (R30, R31). -/
def ServoSet (s t : State) : Prop :=
  t = { s with time := { s.time with integ := t.time.integ, freq := t.time.freq } }
  ∧ (t.time.freq = s.time.freq ∨ t.time.freq.natAbs ≤ 20000000) ∧ (s.time.slewing = true → t.time.freq = s.time.freq)

theorem ServoSet.refl (s : State) : ServoSet s s := ⟨rfl, .inl rfl, fun _ => rfl⟩

theorem ServoSet.get {β : Type} (p : State → β) {s t : State} (h : ServoSet s t) :
    p t = p { s with time := { s.time with integ := t.time.integ, freq := t.time.freq } } := congrArg p h.1

theorem servoSet_servoSteer (bw : Nat) (err : Int) (dt : Nat) (s : State) : ServoSet s (servoSteer bw err dt s) := by
  unfold servoSteer
  split
  · exact .refl s
  · next hslew => exact ⟨rfl, .inr (natAbs_clampInt_freqMax _), fun h => absurd h hslew⟩

theorem servoSet_steer (d n : Nat) (s : State) : ServoSet s (steer d n s) := by
  unfold steer
  split
  · exact servoSet_servoSteer ..
  · exact .refl s

/-! ## Sync -/

/-- Once READY is set, the coarse set of R401 is over. -/
theorem coarseSet_of_ready {s : State} (h : s.cmd.ready = true) (d : Nat) (ps : Int) : coarseSet d ps s = s := by
  unfold coarseSet
  rw [h]
  rfl

/-- A domain that does not hear a Sync leaves it. -/
theorem syncFor_deaf {d : Nat} {m : PtpSync} {s : State} (h : domHears s.cfg d m.port m.domain m.transport = false) : syncFor d m s = s := by
  unfold syncFor
  rw [h]
  rfl

/-- The estimator that has received a Sync (R29). -/
def Estimator.synced (e : Estimator) (m : PtpSync) (at' : Time64) : Estimator :=
  { e with lastSync := some at', logSync := m.logInterval, timedOut := false }

/-- An estimator takes a sample of its master's time less the counter, after a note of the message that gave it. -/
def State.sampled (s : State) (d : Nat) (note : Estimator → Estimator) (x : Int) : State :=
  (s.modEst d note).modEst d (fun e => e.syncSample x s.time.phase)

theorem est_sampled (s : State) (d : Nat) (note : Estimator → Estimator) (x : Int) :
    (s.sampled d note x).est d = (note (s.est d)).syncSample x s.time.phase := by
  unfold State.sampled
  rw [est_modEst, est_modEst]

theorem est_sampled_ne (s : State) (d : Nat) (note : Estimator → Estimator) (x : Int) {k : Nat} (h : k ≠ d) :
    (s.sampled d note x).est k = s.est k := by
  unfold State.sampled
  rw [est_modEst_ne _ _ _ h, est_modEst_ne _ _ _ h]

/-- What a one-step Sync of the selected master does: it is noted and sampled, and the servo steers. -/
theorem syncFor_oneStep {d : Nat} {m : PtpSync} {s : State} (hready : s.cmd.ready = true)
    (hhears : domHears s.cfg d m.port m.domain m.transport = true) (hversion : ptpVersionOk m.version = true)
    (hsel : (s.est d).selected = some m.master) (hmin : -7 ≤ m.logInterval) (hmax : m.logInterval ≤ 1) (hone : m.twoStep = false) :
    ∃ n, syncFor d m s = steer d n (s.sampled d (fun e => e.synced m (natOf (rxPs s.cfg m.port m.rx m.rxQ / 1000)))
      (rxPs s.cfg m.port m.rx m.rxQ - 1000 * (time80 m.origin : Int) - m.correction)) := by
  have haccepted : (!domHears s.cfg d m.port m.domain m.transport || !ptpVersionOk m.version || (s.est d).selected != some m.master
      || decide (m.logInterval < -7) || decide (1 < m.logInterval)) = false := by
    simp [hhears, hversion, hsel, hmin, hmax]
  have hraw : ∀ x y : Int, x + 1000 * (y - y) = x := fun x y => by omega
  unfold syncFor
  dsimp only
  simp only [haccepted, hone, coarseSet_of_ready hready, hraw, Bool.false_eq_true, if_false]
  exact ⟨_, rfl⟩

/-- The state of the time unit when a message is received: its receive time, with the servo's frequency applied up to it. -/
def received (t : Time64) (s : State) : State := servoRun (atTime t s)

theorem received_frame (t : Time64) (s : State) :
    (received t s).cfg = s.cfg ∧ (received t s).cmd = s.cmd ∧ (received t s).time.est = s.time.est ∧ (received t s).time.freq = s.time.freq
    ∧ (received t s).time.slewing = s.time.slewing ∧ (received t s).time.now = t ∧ (received t s).time.state = s.time.state
    ∧ (received t s).events = s.events ∧ KeepsFrame s (received t s) := ⟨rfl, rfl, rfl, rfl, rfl, rfl, rfl, rfl, rfl, rfl, rfl⟩

theorem received_est (t : Time64) (s : State) (d : Nat) : (received t s).est d = s.est d := rfl

/-- A message that one domain hears passes the other by: the two domains' steps are that domain's. -/
theorem both_of_one {f : Nat → State → State} {d : Fin 2} {s u : State} (hu : f d s = u) (hother : f (1 - d.val) s = s)
    (hother' : f (1 - d.val) u = u) : f 1 (f 0 s) = u := by
  match d with
  | 0 =>
    change f 0 s = u at hu
    change f 1 u = u at hother'
    rw [hu, hother']
  | 1 =>
    change f 1 s = u at hu
    change f 0 s = s at hother
    rw [hother, hu]

theorem exec_ptpSync {s : State} {m : PtpSync} (hon : s.portOn m.port = true) :
    exec (.ptpSyncReceived m) s = act (fun s => syncFor 1 m (syncFor 0 m (received (rxTime s.cfg m.port m.rx) s))) s := by
  change execPtpSyncReceived m s = _
  unfold execPtpSyncReceived
  refine act_congr ?_
  rw [hon]
  rfl

/-- What a sample leaves, once its servo has steered: the other estimator, and all but the estimator and the servo's frequency. -/
theorem steer_sampled (t : Time64) (s : State) (d : Fin 2) (n : Nat) (note : Estimator → Estimator) (x : Int) :
    KeepsFrame s (steer d n ((received t s).sampled d note x))
    ∧ (steer d n ((received t s).sampled d note x)).est d
      = (note (s.est d)).syncSample x (steer d n ((received t s).sampled d note x)).time.phase
    ∧ (steer d n ((received t s).sampled d note x)).est (1 - d.val) = s.est (1 - d.val)
    ∧ (steer d n ((received t s).sampled d note x)).time.now = t
    ∧ (steer d n ((received t s).sampled d note x)).time.phase = (received t s).time.phase
    ∧ ((steer d n ((received t s).sampled d note x)).time.freq = s.time.freq
      ∨ (steer d n ((received t s).sampled d note x)).time.freq.natAbs ≤ 20000000)
    ∧ (s.time.slewing = true → (steer d n ((received t s).sampled d note x)).time.freq = s.time.freq)
    ∧ (steer d n ((received t s).sampled d note x)).cfg = s.cfg ∧ (steer d n ((received t s).sampled d note x)).events = s.events
    ∧ (steer d n ((received t s).sampled d note x)).time.state = s.time.state := by
  have hservo := servoSet_steer d n ((received t s).sampled d note x)
  have hphase : (steer d n ((received t s).sampled d note x)).time.phase = (received t s).time.phase := hservo.get (fun x => x.time.phase)
  obtain ⟨-, hbound, hheld⟩ := id hservo
  refine ⟨⟨hservo.get State.pending, hservo.get State.seatB, hservo.get State.dram⟩, ?_, ?_, hservo.get (fun x => x.time.now), hphase, hbound, hheld,
    hservo.get State.cfg, hservo.get State.events, hservo.get (fun x => x.time.state)⟩
  · rw [hphase]
    exact (hservo.get (fun x => x.est d)).trans (est_sampled ..)
  · exact (hservo.get (fun x => x.est (1 - d.val))).trans (est_sampled_ne _ _ _ _ (other_dom_ne d))

theorem ptpSync_completes {s : State} {d : Fin 2} {m : PtpSync} (hon : s.portOn m.port = true) (hready : s.cmd.ready = true)
    (hhears : domHears s.cfg d m.port m.domain m.transport = true) (hdeaf : domHears s.cfg (1 - d.val) m.port m.domain m.transport = false)
    (hversion : ptpVersionOk m.version = true) (hsel : (s.est d).selected = some m.master) (hmin : -7 ≤ m.logInterval) (hmax : m.logInterval ≤ 1)
    (hone : m.twoStep = false) :
    Completes (.ptpSyncReceived m) s (fun u =>
      u.est d = Estimator.syncSample
        { s.est d with lastSync := some (natOf (rxPs s.cfg m.port m.rx m.rxQ / 1000)), logSync := m.logInterval, timedOut := false }
        (rxPs s.cfg m.port m.rx m.rxQ - 1000 * (time80 m.origin : Int) - m.correction) u.time.phase
      ∧ u.est (1 - d.val) = s.est (1 - d.val) ∧ u.time.now = rxTime s.cfg m.port m.rx
      ∧ u.time.phase = (servoRun (atTime (rxTime s.cfg m.port m.rx) s)).time.phase
      ∧ (u.time.freq = s.time.freq ∨ u.time.freq.natAbs ≤ 20000000) ∧ (s.time.slewing = true → u.time.freq = s.time.freq)
      ∧ u.cfg = s.cfg ∧ u.events = s.events ∧ u.time.state = s.time.state) := by
  obtain ⟨n, hsync⟩ := syncFor_oneStep (s := received (rxTime s.cfg m.port m.rx) s) hready hhears hversion hsel hmin hmax hone
  rw [(received_frame (rxTime s.cfg m.port m.rx) s).1] at hsync
  obtain ⟨hkeeps, hest, hother, hnow, hphase, hbound, hheld, hcfg, hevents, hstate⟩ :=
    steer_sampled (rxTime s.cfg m.port m.rx) s d n (fun e => e.synced m (natOf (rxPs s.cfg m.port m.rx m.rxQ / 1000)))
    (rxPs s.cfg m.port m.rx m.rxQ - 1000 * (time80 m.origin : Int) - m.correction)
  refine completes_of_keeps (exec_ptpSync hon) _ (both_of_one (f := fun d s => syncFor d m s) hsync (syncFor_deaf hdeaf) (syncFor_deaf ?_)) hkeeps
    ⟨hest, hother, hnow, hphase, hbound, hheld, hcfg, hevents, hstate⟩
  rw [hcfg]
  exact hdeaf

/-! ## Follow_Up, Delay_Resp and Delay_Req -/

theorem replyFor_of {d : Nat} {m : PtpReply} {s : State} (hhears : domHears s.cfg d m.port m.domain m.transport = true)
    (hversion : ptpVersionOk m.version = true) (hsel : (s.est d).selected = some m.master) : replyFor d m s = true := by
  unfold replyFor
  rw [hhears, hversion, hsel, beq_self_eq_true]
  rfl

theorem followUpFor_none {d : Nat} {m : PtpReply} {s : State} (h : (s.est d).twoStep = none) : followUpFor d m s = s := by
  unfold followUpFor
  dsimp only
  rw [h]

/-- What the Follow_Up of a two-step Sync does: the Sync is sampled, and the servo steers. -/
theorem followUpFor_match {d : Nat} {m : PtpReply} {t2 : Int} {s : State} (hready : s.cmd.ready = true)
    (htwo : (s.est d).twoStep = some (m.seq, t2)) (hr : replyFor d m s = true) :
    ∃ n, followUpFor d m s = steer d n (s.sampled d (fun e => { e with twoStep := none }) (t2 - 1000 * (time80 m.time : Int) - m.correction)) := by
  have hraw : ∀ x y : Int, x + 1000 * (y - y) = x := fun x y => by omega
  unfold followUpFor
  simp only [htwo, hr, coarseSet_of_ready hready, hraw, beq_self_eq_true, Bool.and_self, if_true]
  refine ⟨_, congrArg (steer d _) ?_⟩
  unfold State.sampled
  rw [modEst_modEst]

theorem exec_ptpFollowUp {s : State} {m : PtpReply} (hon : s.portOn m.port = true) :
    exec (.ptpFollowUpReceived m) s = act (fun s => followUpFor 1 m (followUpFor 0 m (received (rxTime s.cfg m.port m.rx) s))) s := by
  change execPtpFollowUpReceived m s = _
  unfold execPtpFollowUpReceived
  refine act_congr ?_
  rw [hon]
  rfl

theorem ptpFollowUp_completes {s : State} {d : Fin 2} {m : PtpReply} {t2 : Int} (hon : s.portOn m.port = true) (hready : s.cmd.ready = true)
    (htwo : (s.est d).twoStep = some (m.seq, t2)) (hhears : domHears s.cfg d m.port m.domain m.transport = true)
    (hversion : ptpVersionOk m.version = true) (hsel : (s.est d).selected = some m.master) (hother : (s.est (1 - d.val)).twoStep = none) :
    Completes (.ptpFollowUpReceived m) s (fun u =>
      u.est d = Estimator.syncSample { s.est d with twoStep := none } (t2 - 1000 * (time80 m.time : Int) - m.correction) u.time.phase
      ∧ u.time.phase = (servoRun (atTime (rxTime s.cfg m.port m.rx) s)).time.phase
      ∧ u.est (1 - d.val) = s.est (1 - d.val) ∧ u.events = s.events ∧ u.cfg = s.cfg) := by
  obtain ⟨n, hfollow⟩ := followUpFor_match (s := received (rxTime s.cfg m.port m.rx) s) hready htwo (replyFor_of hhears hversion hsel)
  obtain ⟨hkeeps, hest, hest', -, hphase, -, -, hcfg, hevents, -⟩ := steer_sampled (rxTime s.cfg m.port m.rx) s d n
    (fun e => { e with twoStep := none }) (t2 - 1000 * (time80 m.time : Int) - m.correction)
  refine completes_of_keeps (exec_ptpFollowUp hon) _
    (both_of_one (f := fun d s => followUpFor d m s) hfollow (followUpFor_none hother) (followUpFor_none ?_)) hkeeps
    ⟨hest, hphase, hest', hevents, hcfg⟩
  rw [hest']
  exact hother

theorem delayRespFor_none {d : Nat} {m : PtpReply} {s : State} (h : (s.est d).delayReq = none) : delayRespFor d m s = s := by
  unfold delayRespFor
  dsimp only
  rw [h]

/-- What the Delay_Resp of a Delay_Req does: the mean path delay. -/
theorem delayRespFor_match {d : Nat} {m : PtpReply} {t3 x : Int} {s : State} (hreq : (s.est d).delayReq = some (m.seq, t3))
    (hx : (s.est d).t2mt1 = some x) (hr : replyFor d m s = true) :
    delayRespFor d m s = s.modEst d (fun e => { e with
      delayReq := none, pathDelay := some ((x + (1000 * (time80 m.time : Int) - m.correction - t3)) / 2) }) := by
  unfold delayRespFor
  simp only [hreq, hx, hr, beq_self_eq_true, Bool.and_self, if_true]

theorem exec_ptpDelayResp {s : State} {m : PtpReply} (hon : s.portOn m.port = true) :
    exec (.ptpDelayRespReceived m) s = act (fun s => delayRespFor 1 m (delayRespFor 0 m (atTime (rxTime s.cfg m.port m.rx) s))) s := by
  change execPtpDelayRespReceived m s = _
  unfold execPtpDelayRespReceived
  refine act_congr ?_
  rw [hon]
  rfl

/-- A change of one estimator at a receive time: that estimator, and nothing else but the clock reading. -/
theorem modEst_received (t : Time64) (s : State) (d : Fin 2) (f : Estimator → Estimator) :
    KeepsFrame s ((atTime t s).modEst d f) ∧ ((atTime t s).modEst d f).est d = f (s.est d)
    ∧ ((atTime t s).modEst d f).est (1 - d.val) = s.est (1 - d.val) ∧ ((atTime t s).modEst d f).time.phase = s.time.phase
    ∧ ((atTime t s).modEst d f).events = s.events ∧ ((atTime t s).modEst d f).cfg = s.cfg ∧ ((atTime t s).modEst d f).out = s.out :=
  ⟨⟨rfl, rfl, rfl⟩, est_modEst .., est_modEst_ne (atTime t s) d f (other_dom_ne d), rfl, rfl, rfl, rfl⟩

theorem ptpDelayResp_completes {s : State} {d : Fin 2} {m : PtpReply} {t3 x : Int} (hon : s.portOn m.port = true)
    (hreq : (s.est d).delayReq = some (m.seq, t3)) (hx : (s.est d).t2mt1 = some x)
    (hhears : domHears s.cfg d m.port m.domain m.transport = true) (hversion : ptpVersionOk m.version = true)
    (hsel : (s.est d).selected = some m.master) (hother : (s.est (1 - d.val)).delayReq = none) :
    Completes (.ptpDelayRespReceived m) s (fun u =>
      u.est d = { s.est d with
        delayReq := none, pathDelay := some ((x + (1000 * (time80 m.time : Int) - m.correction - t3)) / 2) }
      ∧ u.est (1 - d.val) = s.est (1 - d.val) ∧ u.time.phase = s.time.phase ∧ u.events = s.events ∧ u.cfg = s.cfg) := by
  have hresp := delayRespFor_match (s := atTime (rxTime s.cfg m.port m.rx) s) hreq hx (replyFor_of hhears hversion hsel)
  obtain ⟨hkeeps, hest, hest', hphase, hevents, hcfg, -⟩ := modEst_received (rxTime s.cfg m.port m.rx) s d (fun e => { e with
      delayReq := none, pathDelay := some ((x + (1000 * (time80 m.time : Int) - m.correction - t3)) / 2) })
  refine completes_of_keeps (exec_ptpDelayResp hon) _
    (both_of_one (f := fun d s => delayRespFor d m s) hresp (delayRespFor_none hother) (delayRespFor_none ?_)) hkeeps
    ⟨hest, hest', hphase, hevents, hcfg⟩
  rw [hest']
  exact hother

theorem exec_delayReqSend {s : State} {d : Fin 2} {seq : Nat} {tx : Time64} {quarter m : Nat} {a : PtpAnnounce}
    (hsel : (s.est d).selected = some m) (hm : tfind (s.est d).masters m = some a) :
    exec (.delayReqSend d seq ⟨tx, quarter⟩) s = act (fun s => emit (.delayReq d a.port (Config.delayReqUnicast d) seq
        (natOf ((1000 * (tx : Int) + 250 * ((quarter % 4 : Nat) : Int) + portCorr s.cfg a.port) / 1000)))
      ((atTime tx s).modEst d (fun e => { e with
        delayReq := some (seq, 1000 * (tx : Int) + 250 * ((quarter % 4 : Nat) : Int) + portCorr s.cfg a.port) }))) s := by
  change execDelayReqSend d seq ⟨tx, quarter⟩ s = _
  unfold execDelayReqSend
  refine act_congr ?_
  dsimp only
  rw [hsel]
  dsimp only
  rw [hm]

theorem delayReqSend_completes {s : State} {d : Fin 2} {seq : Nat} {tx : Time64} {quarter m : Nat} {a : PtpAnnounce}
    (hsel : (s.est d).selected = some m) (hm : tfind (s.est d).masters m = some a) :
    Completes (.delayReqSend d seq ⟨tx, quarter⟩) s (fun u =>
      u.est d = { s.est d with delayReq := some (seq, 1000 * (tx : Int) + 250 * ((quarter % 4 : Nat) : Int) + portCorr s.cfg a.port) }
      ∧ u.est (1 - d.val) = s.est (1 - d.val)
      ∧ u.out = s.out ++ [.delayReq d a.port (Config.delayReqUnicast d) seq
          (natOf ((1000 * (tx : Int) + 250 * ((quarter % 4 : Nat) : Int) + portCorr s.cfg a.port) / 1000))] ∧ u.events = s.events) := by
  have hexec := exec_delayReqSend (seq := seq) (tx := tx) (quarter := quarter) hsel hm
  obtain ⟨hkeeps, hest, hest', -, hevents, -, -⟩ := modEst_received tx s d (fun e => { e with
    delayReq := some (seq, 1000 * (tx : Int) + 250 * ((quarter % 4 : Nat) : Int) + portCorr s.cfg a.port) })
  exact completes_of_keeps hexec _ rfl (hkeeps.trans ⟨rfl, rfl, rfl⟩) ⟨hest, hest', rfl, hevents⟩

/-- Settles O25. -/
theorem ptpMeasurements : Obligations.PtpMeasurements :=
  ⟨fun _ _ _ hon hready hhears hdeaf hversion hsel hmin hmax hone =>
      ptpSync_completes hon hready hhears hdeaf hversion hsel hmin hmax hone,
    fun _ _ _ _ hon hready htwo hhears hversion hsel hother => ptpFollowUp_completes hon hready htwo hhears hversion hsel hother,
    fun _ _ _ _ _ hon hreq hx hhears hversion hsel hother => ptpDelayResp_completes hon hreq hx hhears hversion hsel hother,
    fun _ _ _ _ _ _ _ hsel hm => delayReqSend_completes hsel hm⟩

end Sys2Proof.Machine
end

section
/-! Announces, timeouts, slews and the holdover limit (R26, R29, R31, R35). -/
namespace Sys2Proof.Machine

/-! ## Announces -/

theorem mem_of_tfind {α : Type} {t : Table α} {i : Nat} {v : α} (h : tfind t i = some v) : (i, v) ∈ t := by
  induction t with
  | nil => simp [tfind] at h
  | cons x r ih =>
    obtain ⟨j, w⟩ := x
    unfold tfind at h
    split at h
    next heq =>
      cases h
      rw [heq]
      exact List.mem_cons_self
    next => exact List.mem_cons_of_mem _ (ih h)

theorem announceFor_deaf {d : Nat} {m : PtpAnnounce} {s : State} (h : domHears s.cfg d m.port m.domain m.transport = false) :
    announceFor d m s = s := by
  unfold announceFor
  rw [h]
  rfl

theorem announceFor_heard {d : Nat} {m : PtpAnnounce} {s : State} (h : domHears s.cfg d m.port m.domain m.transport = true)
    (hversion : ptpVersionOk m.version = true) (hmin : -3 ≤ m.logInterval) (hmax : m.logInterval ≤ 3) :
    announceFor d m s = s.modEst d (fun e => e.announce { m with rx := rxTime s.cfg m.port m.rx }) := by
  have hok : (domHears s.cfg d m.port m.domain m.transport && ptpVersionOk m.version && decide (-3 ≤ m.logInterval)
      && decide (m.logInterval ≤ 3)) = true := by simp [h, hversion, hmin, hmax]
  exact if_pos hok

/-- An Announce is live when it is heard. -/
theorem announceLive_at_rx (a : PtpAnnounce) : announceLive a a.rx = true := decide_eq_true (Nat.le_add_right ..)

/-- With a live master an estimator has a best one. -/
theorem best_of_live {e : Estimator} {i : Nat} {a : PtpAnnounce} {t : Time64} (hm : (i, a) ∈ e.masters) (hl : announceLive a t = true) :
    ∃ b, e.best t = some b := by
  have hmem : a ∈ (e.masters.map Prod.snd).filter (fun a => announceLive a t) :=
    List.mem_filter.mpr ⟨List.mem_map.mpr ⟨(i, a), hm, rfl⟩, hl⟩
  unfold Estimator.best
  cases hl : (e.masters.map Prod.snd).filter (fun a => announceLive a t) with
  | nil => rw [hl] at hmem; exact absurd hmem List.not_mem_nil
  | cons x r => exact ⟨_, rfl⟩

theorem pick_masters (e : Estimator) (b : Nat) : (e.pick b).masters = e.masters ∧ (e.pick b).selected = some b := by
  unfold Estimator.pick
  split
  · exact ⟨rfl, ‹_›⟩
  · exact ⟨rfl, rfl⟩

/-- An Announce heard is among the masters, and one of those is selected. -/
theorem announce_spec (e : Estimator) (m : PtpAnnounce) :
    tfind (e.announce m).masters m.master = some m ∧ (e.announce m).selected.isSome = true := by
  obtain ⟨b, hb⟩ := best_of_live (e := { e with masters := tset m.master m e.masters }) (mem_of_tfind (tfind_tset_same ..)) (announceLive_at_rx m)
  obtain ⟨hmasters, hsel⟩ := pick_masters { e with masters := tset m.master m e.masters } b
  unfold Estimator.announce
  dsimp only
  rw [hb]
  dsimp only
  split
  · exact ⟨by rw [hmasters]; exact tfind_tset_same .., by rw [hsel]; rfl⟩
  · exact ⟨by rw [hmasters]; exact tfind_tset_same .., by rw [hsel]; rfl⟩

theorem exec_ptpAnnounce {s : State} {m : PtpAnnounce} (hon : s.portOn m.port = true) :
    exec (.ptpAnnounceReceived m) s = act (fun s => announceFor 1 m (announceFor 0 m (atTime (rxTime s.cfg m.port m.rx) s))) s := by
  change execPtpAnnounceReceived m s = _
  unfold execPtpAnnounceReceived
  refine act_congr ?_
  rw [hon]
  rfl

theorem ptpAnnounce_completes {s : State} {d : Fin 2} {m : PtpAnnounce} (hon : s.portOn m.port = true)
    (hhears : domHears s.cfg d m.port m.domain m.transport = true) (hdeaf : domHears s.cfg (1 - d.val) m.port m.domain m.transport = false)
    (hversion : ptpVersionOk m.version = true) (hmin : -3 ≤ m.logInterval) (hmax : m.logInterval ≤ 3) :
    Completes (.ptpAnnounceReceived m) s (fun u =>
      tfind (u.est d).masters m.master = some { m with rx := rxTime s.cfg m.port m.rx }
      ∧ (u.est d).selected.isSome = true ∧ u.est (1 - d.val) = s.est (1 - d.val) ∧ u.events = s.events ∧ u.cfg = s.cfg) := by
  have hheard : announceFor d m (atTime (rxTime s.cfg m.port m.rx) s) = (atTime (rxTime s.cfg m.port m.rx) s).modEst d
      (fun e => e.announce { m with rx := rxTime s.cfg m.port m.rx }) := announceFor_heard hhears hversion hmin hmax
  obtain ⟨hkeeps, hest, hest', -, hevents, hcfg, -⟩ := modEst_received (rxTime s.cfg m.port m.rx) s d
    (fun e => e.announce { m with rx := rxTime s.cfg m.port m.rx })
  obtain ⟨hmaster, hsel⟩ := announce_spec (s.est d) { m with rx := rxTime s.cfg m.port m.rx }
  rw [← hest] at hmaster hsel
  exact completes_of_keeps (exec_ptpAnnounce hon) _
    (both_of_one (f := fun d s => announceFor d m s) hheard (announceFor_deaf hdeaf) (announceFor_deaf hdeaf)) hkeeps
    ⟨hmaster, hsel, hest', hevents, hcfg⟩

/-! ## Timeouts -/

/-- The estimator after its last master has timed out (R29). -/
def Estimator.lost (e : Estimator) : Estimator := { e with masters := [], timedOut := true }

theorem exec_announceReceiptTimeout {s : State} {d : Fin 2} {t : Time64} {m : Nat} (hsel : (s.est d).selected = some m)
    (hm : (tfind (s.est d).masters m).isSome = true) (hdead : ∀ x ∈ (s.est d).masters, announceLive x.2 t = false) :
    exec (.announceReceiptTimeout d t) s = act (fun s => (atTime t s).modEst d (fun _ => (s.est d).lost)) s := by
  obtain ⟨a, ha⟩ := Option.isSome_iff_exists.mp hm
  have hlate : announceLive a t = false := hdead (m, a) (mem_of_tfind ha)
  have hnone : (s.est d).masters.filter (fun x => announceLive x.2 t) = [] := List.filter_eq_nil_iff.mpr fun x hx => by simp [hdead x hx]
  change execAnnounceReceiptTimeout d t s = _
  unfold execAnnounceReceiptTimeout
  refine act_congr ?_
  have hest : (atTime t s).est d = s.est d := rfl
  have hbest : ({ s.est d with masters := [], timedOut := true } : Estimator).best t = none := rfl
  simp only [hest, hsel, ha, hlate, Bool.not_false, Bool.true_or, Bool.not_true, Bool.false_eq_true, if_false]
  refine congrArg (fun e => { atTime t s with time := { (atTime t s).time with est := tset d e (atTime t s).time.est } }) ?_
  simp only [show tget estInit (atTime t s).time.est d = s.est d from rfl, hnone, hbest]
  rfl

theorem valid_of_timedOut {e : Estimator} (h : e.timedOut = true) (t : Time64) (p : Int) : e.valid t p = false := by
  unfold Estimator.valid
  rw [h, Bool.not_true, Bool.and_false]

theorem announceReceiptTimeout_completes {s : State} {d : Fin 2} {t : Time64} {m : Nat} (hsel : (s.est d).selected = some m)
    (hm : (tfind (s.est d).masters m).isSome = true) (hdead : ∀ x ∈ (s.est d).masters, announceLive x.2 t = false) :
    Completes (.announceReceiptTimeout d t) s (fun u =>
      (u.est d).timedOut = true ∧ (u.est d).masters = [] ∧ u.estValid d = false ∧ u.est (1 - d.val) = s.est (1 - d.val)
      ∧ u.events = s.events) := by
  obtain ⟨hkeeps, hest, hest', -, hevents, -, -⟩ := modEst_received t s d (fun _ => (s.est d).lost)
  refine completes_of_keeps (exec_announceReceiptTimeout hsel hm hdead) _ rfl hkeeps
    ⟨by rw [hest]; rfl, by rw [hest]; rfl, valid_of_timedOut (by rw [hest]; rfl) _ _, hest', hevents⟩

/-! ## The end of a slew, and the holdover limit -/

theorem exec_timeSlewEnd_early {s : State} {t : Time64} (hearly : (t - s.time.slewT) / 1000 < s.time.dRem.natAbs) :
    exec (.timeSlewEnd t) s = .next (atTime t s) := by
  change execTimeSlewEnd t s = _
  unfold execTimeSlewEnd
  refine act_eq_next (if_pos ?_) (keepsFrame_atTime t s)
  rw [Bool.or_eq_true]
  exact .inr (decide_eq_true hearly)

theorem exec_timeSlewEnd_due {s : State} {t : Time64} (hslew : s.time.slewing = true) (hdue : ¬ (t - s.time.slewT) / 1000 < s.time.dRem.natAbs) :
    exec (.timeSlewEnd t) s = act (fun s => raise .timeSlewEnd [] { s with time := { s.time with
      now := t, slewing := false, dRem := 0, phase := s.time.phase + s.time.dRem } }) s := by
  change execTimeSlewEnd t s = _
  unfold execTimeSlewEnd
  refine act_congr (if_neg ?_)
  rw [Bool.or_eq_true, not_or]
  refine ⟨?_, fun h => hdue (of_decide_eq_true h)⟩
  rw [show (atTime t s).time.slewing = true from hslew]
  exact Bool.false_ne_true

theorem timeSlewEnd_completes (s : State) (t : Time64) (hslew : s.time.slewing = true) :
    Completes (.timeSlewEnd t) s (fun u =>
      if (t - s.time.slewT) / 1000 < s.time.dRem.natAbs then u = { s with time := { s.time with now := t } }
      else u.time = { s.time with now := t, slewing := false, dRem := 0, phase := s.time.phase + s.time.dRem }
        ∧ s.raised u .timeSlewEnd none [] ∧ OnlyEvents { s with time := u.time } u) := by
  by_cases hearly : (t - s.time.slewT) / 1000 < s.time.dRem.natAbs
  · exact ⟨_, exec_timeSlewEnd_early hearly, by dsimp only; rw [if_pos hearly]; rfl⟩
  · have honly := onlyEvents_raise .timeSlewEnd [] { s with time := { s.time with
      now := t, slewing := false, dRem := 0, phase := s.time.phase + s.time.dRem } }
    refine completes_of_keeps (exec_timeSlewEnd_due hslew hearly) _ rfl
      (show KeepsFrame s _ from ⟨honly.get State.pending, honly.get State.seatB, honly.get State.dram⟩) ?_
    rw [if_neg hearly]
    have htime := raise_time .timeSlewEnd [] { s with time := { s.time with
      now := t, slewing := false, dRem := 0, phase := s.time.phase + s.time.dRem } }
    refine ⟨htime, raised_raise _ _ rfl, ?_⟩
    rw [htime]
    exact honly

theorem holdoverLimit_completes (s : State) (t : Time64) (hown : s.time.own = .holdover) (hover : (atTime t s).holdOver = true) :
    Completes (.holdoverLimit t) s (fun u => u = { s with time := { s.time with now := t, holdEnded := true } }) := by
  refine ⟨_, ?_, rfl⟩
  change execHoldoverLimit t s = _
  unfold execHoldoverLimit
  refine act_eq_next (if_pos ?_) ⟨rfl, rfl, rfl⟩
  rw [hover, show (atTime t s).time.own = .holdover from hown]
  rfl

end Sys2Proof.Machine
end

section
/-! Frames received on the Flume (R228, R229), and the time transfer of a pair (R49). -/
namespace Sys2Proof.Machine

/-! ## Received frames -/

/-- Whether a frame is taken depends on the frame and on the lanes only, and taking it changes the twin counters only. -/
theorem takeFrame_received {s u : State} {type : Nat} {ok : Bool} {w : FlumeFrame} {f : FlumeHdr × Bytes} (h : s.receives type ok w f)
    (hu : u.linkUsed = s.linkUsed) : ∃ c, takeFrame type ok w u = (some f, { u with twin := { u.twin with cnt := c } }) := by
  unfold State.receives takeFrame at h
  unfold takeFrame
  rw [hu]
  split at h
  · cases h
  · rename_i hlink
    rw [if_neg hlink]
    dsimp only at h ⊢
    split at h
    · cases h
      exact ⟨_, rfl⟩
    · cases h

/-- A frame that has been received came over lanes that are in use. -/
theorem linkUsed_of_receives {s : State} {type : Nat} {ok : Bool} {w : FlumeFrame} {f : FlumeHdr × Bytes} (h : s.receives type ok w f) :
    s.linkUsed = true := by
  cases hused : s.linkUsed with
  | true => rfl
  | false =>
    unfold State.receives takeFrame at h
    rw [hused] at h
    cases h

/-- The lanes carry what is sent. -/
def State.linkCarries (s : State) : Prop := s.twin.linkOn = true ∧ s.twin.lanes ≠ []

theorem linkCarries_of_receives {s : State} {type : Nat} {ok : Bool} {w : FlumeFrame} {f : FlumeHdr × Bytes} (h : s.receives type ok w f) :
    s.linkCarries := by
  have hlink := linkUsed_of_receives h
  unfold State.linkUsed at hlink
  simp only [Bool.and_eq_true, bne_iff_ne] at hlink
  obtain ⟨⟨-, hon⟩, hlanes⟩ := hlink
  exact ⟨hon, hlanes⟩

/-- A frame that the lanes carry goes out as its header and body say (R229). -/
theorem sendFrame_out_carried {u : State} (hu : u.linkCarries) (n : Nat) (r : Option Nat) (b : FlumeBody) :
    (sendFrame n r b u).out = u.out ++ [.flume ⟨flumeType b, u.seatB, r.isSome, frameLen (bodyBytes b), r.getD (u.nextFseq (flumeType b)), n⟩ b
      (frameOut ⟨flumeType b, u.seatB, r.isSome, frameLen (bodyBytes b), r.getD (u.nextFseq (flumeType b)), n⟩ (bodyBytes b))] := by
  obtain ⟨hon, hlanes⟩ := hu
  have hcarry : (u.twin.linkOn && u.twin.lanes != []) = true := by rw [hon, bne_iff_ne.mpr hlanes]; rfl
  unfold sendFrame
  cases r with
  | none => exact congrArg State.out (if_pos hcarry)
  | some q => exact congrArg State.out (if_pos hcarry)

theorem sentBody_sendFrame {s u : State} (hu : u.linkCarries) (hout : u.out = s.out) (n : Nat) (r : Option Nat) (b : FlumeBody) :
    s.sentBody (sendFrame n r b u) b :=
  ⟨_, _, [], by rw [List.append_nil, ← hout]; exact sendFrame_out_carried hu n r b⟩

theorem sentBody_of_extends {s t u : State} {b : FlumeBody} (h : s.sentBody t b) (h' : Extends t u) : s.sentBody u b := by
  obtain ⟨hd, fr, hsent⟩ := h
  exact ⟨hd, fr, sent_of_extends hsent h'⟩

/-- Of the twin unit a raised event changes at most what waits for the union and what is sent (R244). -/
theorem raiseAt_twin (t : Time64) (c : Ev) (g : Option Nat) (p : List (Nat × Nat)) (s : State) :
    ∃ o e f k, (raiseAt t c g p s).twin = { s.twin with ownEvents := o, evOrder := e, fseqs := f, cnt := k } := by
  unfold raiseAt
  split
  · unfold sendFlume
    obtain ⟨f, k, h⟩ := sendFrame_twin s.time.tick none (.event ⟨t, c.code, p⟩)
      { s with twin := { s.twin with ownEvents := s.twin.ownEvents ++ [⟨t, s.seatB, s.twin.evOrder, c, g, p⟩], evOrder := s.twin.evOrder + 1 } }
    exact ⟨_, _, f, k, h⟩
  · exact ⟨_, _, _, _, rfl⟩

theorem raise_hot (c : Ev) (p : List (Nat × Nat)) (s : State) : (raise c p s).hot = s.hot := by
  obtain ⟨o, e, f, k, h⟩ := raiseAt_twin s.time.now c none p s
  unfold State.hot raise
  rw [h]

theorem raise_xferTick (c : Ev) (p : List (Nat × Nat)) (s : State) : (raise c p s).twin.xferTick = s.twin.xferTick := by
  obtain ⟨o, e, f, k, h⟩ := raiseAt_twin s.time.now c none p s
  unfold raise
  rw [h]

/-! ## Time transfer (R49) -/

/-- The state with a received time-transfer frame taken, at its time. -/
def xferTaken (t : Time64) (c : TwinCounters) (s : State) : State := { received t s with twin := { s.twin with cnt := c } }

theorem xferTaken_frame (t : Time64) (c : TwinCounters) (s : State) :
    KeepsFrame s (xferTaken t c s) ∧ (xferTaken t c s).follows = s.follows ∧ (xferTaken t c s).timeLead = s.timeLead
    ∧ (xferTaken t c s).twin.lanesUsed = s.twin.lanesUsed ∧ (xferTaken t c s).twin.xferTick = s.twin.xferTick
    ∧ (xferTaken t c s).hot = s.hot ∧ (xferTaken t c s).time = (servoRun (atTime t s)).time ∧ (xferTaken t c s).time.leadMissed = s.time.leadMissed
    ∧ (xferTaken t c s).time.xferOn = s.time.xferOn ∧ (xferTaken t c s).time.slewing = s.time.slewing
    ∧ (xferTaken t c s).time.freq = s.time.freq ∧ (xferTaken t c s).events = s.events ∧ (xferTaken t c s).out = s.out :=
  ⟨⟨rfl, rfl, rfl⟩, rfl, rfl, rfl, rfl, rfl, rfl, rfl, rfl, rfl, rfl, rfl, rfl⟩

theorem linkCarries_xferTaken {t : Time64} {c : TwinCounters} {s : State} (h : s.linkCarries) : (xferTaken t c s).linkCarries := h

/-- What a time-transfer exchange does, once its frame is taken (R49). -/
def xferStep (n : Nat) (x : TimeXfer) (s : State) : State :=
  if s.follows then
    if s.twin.xferTick = some n then s
    else
      let s2 := sendFrame n none (.timeXfer 2 [x.t2, x.t3]) s
      if s2.hot && s2.time.leadMissed != 0 then s2 else followLead n x s2
  else if s.timeLead && 2 ≤ s.twin.lanesUsed then sendFrame n none (.timeXfer 3 [x.t1, x.t4]) s
  else s

theorem exec_timeXfer {s : State} {x : TimeXfer} {w : FlumeFrame} {f : FlumeHdr × Bytes} (h : s.receives 3 s.paired w f) :
    ∃ c, exec (.timeXferReceived ⟨x, w⟩) s = act (fun s => xferStep f.1.tick x (xferTaken x.at' c s)) s := by
  obtain ⟨c, hc⟩ := takeFrame_received (u := received x.at' s) h rfl
  refine ⟨c, ?_⟩
  change execTimeXferReceived ⟨x, w⟩ s = _
  unfold execTimeXferReceived
  refine act_congr ?_
  change (match takeFrame 3 s.paired w (received x.at' s) with
    | (none, s1) => s1
    | (some f, s1) => xferStep f.1.tick x s1) = _
  rw [hc]
  rfl

theorem xferStep_follows {n : Nat} {x : TimeXfer} {s : State} (hf : s.follows = true) (ht : s.twin.xferTick ≠ some n)
    (hm : s.hot = false ∨ s.time.leadMissed = 0) :
    xferStep n x s = followLead n x (sendFrame n none (.timeXfer 2 [x.t2, x.t3]) s) := by
  have hlead : ((sendFrame n none (.timeXfer 2 [x.t2, x.t3]) s).hot && (sendFrame n none (.timeXfer 2 [x.t2, x.t3]) s).time.leadMissed != 0)
      = false := by
    unfold State.hot at hm ⊢
    rw [sendFrame_mode, sendFrame_time]
    rcases hm with hm | hm <;> simp [hm]
  unfold xferStep
  rw [if_pos hf, if_neg ht]
  exact if_neg (Bool.eq_false_iff.mp hlead)

theorem xferStep_leads {n : Nat} {x : TimeXfer} {s : State} (hl : s.timeLead = true) (h2 : 2 ≤ s.twin.lanesUsed) :
    xferStep n x s = sendFrame n none (.timeXfer 3 [x.t1, x.t4]) s := by
  have hf : s.follows = false := by
    unfold State.follows
    rw [hl, Bool.not_true, Bool.and_false, Bool.false_and]
  have hok : (s.timeLead && decide (2 ≤ s.twin.lanesUsed)) = true := by rw [hl, decide_eq_true h2]; rfl
  unfold xferStep
  rw [hf, hok]
  rfl

theorem xferStep_alone {n : Nat} {x : TimeXfer} {s : State} (h2 : s.twin.lanesUsed < 2) : xferStep n x s = s := by
  have hno : decide (2 ≤ s.twin.lanesUsed) = false := decide_eq_false (Nat.not_le.mpr h2)
  have hf : s.follows = false := by
    unfold State.follows
    rw [hno, Bool.and_false]
  unfold xferStep
  rw [hf, hno, Bool.and_false]
  rfl

/-! ## The follower -/

/-- The state in which the follower has sent its reply of an exchange, which it notes. -/
def xferReplied (n : Nat) (x : TimeXfer) (s : State) : State :=
  let s2 := sendFrame n none (.timeXfer 2 [x.t2, x.t3]) s
  { s2 with twin := { s2.twin with xferTick := some n } }

theorem xferReplied_spec {n : Nat} {x : TimeXfer} {s : State} (hl : s.linkCarries) :
    KeepsFrame s (xferReplied n x s) ∧ (xferReplied n x s).twin.xferTick = some n ∧ (xferReplied n x s).time = s.time
    ∧ (xferReplied n x s).events = s.events ∧ (xferReplied n x s).hot = s.hot ∧ s.sentBody (xferReplied n x s) (.timeXfer 2 [x.t2, x.t3]) := by
  have honly := onlyTwin_sendFrame n none (.timeXfer 2 [x.t2, x.t3]) s
  refine ⟨honly.keeps.trans ⟨rfl, rfl, rfl⟩, rfl, sendFrame_time .., honly.get State.events, ?_, sentBody_sendFrame hl rfl n none _⟩
  exact congrArg (· == TwinMode.hot) (sendFrame_mode n none (.timeXfer 2 [x.t2, x.t3]) s)

/-- The follower steers while time transfer goes on. -/
theorem followLead_on {n : Nat} {x : TimeXfer} {s : State} (ho : s.time.xferOn = true) :
    followLead n x (sendFrame n none (.timeXfer 2 [x.t2, x.t3]) s)
      = servoSteer 10000 (-(xferOffset x)) ((sendFrame n none (.timeXfer 2 [x.t2, x.t3]) s).grid.p3 / 3) (xferReplied n x s) := by
  have hon : (sendFrame n none (.timeXfer 2 [x.t2, x.t3]) s).time.xferOn = true := by rw [sendFrame_time, ho]
  exact if_pos hon

/-- The first exchange after time transfer has begun is a change of source (log 108). -/
theorem followLead_first {n : Nat} {x : TimeXfer} {s : State} (ho : s.time.xferOn = false) :
    followLead n x (sendFrame n none (.timeXfer 2 [x.t2, x.t3]) s)
      = beginSlew (-(xferOffset x)) (raise .timeSourceChange []
          { xferReplied n x s with time := { (xferReplied n x s).time with xferOn := true } }) := by
  have hoff : ¬ (sendFrame n none (.timeXfer 2 [x.t2, x.t3]) s).time.xferOn = true := by rw [sendFrame_time, ho]; exact Bool.false_ne_true
  exact if_neg hoff

/-- A change of source without a slew under way (R31): it is taken up at once within 20 ns, and by a slew beyond. -/
theorem beginSlew_near {d : Int} {s : State} (hs : s.time.slewing = false) (hd : d.natAbs ≤ 20000) :
    beginSlew d s = { s with time := { s.time with slewing := false, dRem := 0 } } := by
  unfold beginSlew
  rw [hs]
  exact if_pos hd

theorem beginSlew_far {d : Int} {s : State} (hs : s.time.slewing = false) (hd : ¬ d.natAbs ≤ 20000) :
    beginSlew d s = raise .timeSlewStart [] { s with time := { s.time with slewing := true, dRem := d, slewT := s.time.now } } := by
  unfold beginSlew
  rw [hs]
  exact if_neg hd

/-- What the first exchange of a time transfer shows. -/
theorem firstTransfer_spec {n : Nat} {d : Int} {s u : State} (ht : u.twin.xferTick = some n) (hh : u.hot = s.hot) (hs : u.time.slewing = false)
    (hk : KeepsFrame s u) {b : FlumeBody} (hb : s.sentBody u b) :
    KeepsFrame s (beginSlew d (raise .timeSourceChange [] { u with time := { u.time with xferOn := true } }))
    ∧ (beginSlew d (raise .timeSourceChange [] { u with time := { u.time with xferOn := true } })).twin.xferTick = some n
    ∧ (beginSlew d (raise .timeSourceChange [] { u with time := { u.time with xferOn := true } })).time.xferOn = true
    ∧ s.sentBody (beginSlew d (raise .timeSourceChange [] { u with time := { u.time with xferOn := true } })) b
    ∧ (if d.natAbs ≤ 20000 then
        (beginSlew d (raise .timeSourceChange [] { u with time := { u.time with xferOn := true } })).time.slewing = false
        ∧ s.raised (beginSlew d (raise .timeSourceChange [] { u with time := { u.time with xferOn := true } })) .timeSourceChange none []
      else (beginSlew d (raise .timeSourceChange [] { u with time := { u.time with xferOn := true } })).time.slewing = true
        ∧ (beginSlew d (raise .timeSourceChange [] { u with time := { u.time with xferOn := true } })).time.dRem = d
        ∧ s.raised (beginSlew d (raise .timeSourceChange [] { u with time := { u.time with xferOn := true } })) .timeSlewStart none []) := by
  have hkeeps : KeepsFrame s (raise .timeSourceChange [] { u with time := { u.time with xferOn := true } }) :=
    (hk.trans (show KeepsFrame u { u with time := { u.time with xferOn := true } } from ⟨rfl, rfl, rfl⟩)).trans (onlyEvents_raise ..).keeps
  have htick := (raise_xferTick .timeSourceChange [] { u with time := { u.time with xferOn := true } }).trans ht
  have hhot := (raise_hot .timeSourceChange [] { u with time := { u.time with xferOn := true } }).trans hh
  have htime := raise_time .timeSourceChange [] { u with time := { u.time with xferOn := true } }
  have hraised : s.raised (raise .timeSourceChange [] { u with time := { u.time with xferOn := true } }) .timeSourceChange none [] :=
    raised_raise _ _ hh
  have hbody := sentBody_of_extends hb
    ((Extends.of_eq rfl).trans (extends_raise .timeSourceChange [] { u with time := { u.time with xferOn := true } }))
  generalize raise .timeSourceChange [] { u with time := { u.time with xferOn := true } } = v at *
  have hslew : v.time.slewing = false := by rw [htime]; exact hs
  by_cases hd : d.natAbs ≤ 20000
  · rw [beginSlew_near hslew hd, if_pos hd]
    exact ⟨hkeeps.trans ⟨rfl, rfl, rfl⟩, htick, congrArg TimeUnit.xferOn htime, hbody, rfl, raised_congr hraised rfl rfl⟩
  · rw [beginSlew_far hslew hd, if_neg hd]
    have hstart := raise_time .timeSlewStart [] { v with time := { v.time with slewing := true, dRem := d, slewT := v.time.now } }
    refine ⟨(hkeeps.trans (show KeepsFrame v { v with time := { v.time with slewing := true, dRem := d, slewT := v.time.now } } from
      ⟨rfl, rfl, rfl⟩)).trans (onlyEvents_raise ..).keeps, (raise_xferTick ..).trans htick, ?_, ?_, ?_, ?_, raised_raise _ _ hhot⟩
    · rw [hstart]
      exact congrArg TimeUnit.xferOn htime
    · exact sentBody_of_extends hbody ((Extends.of_eq rfl).trans (extends_raise ..))
    · rw [hstart]
    · rw [hstart]

/-- The follower of an exchange that it has not heard yet (R49). -/
theorem exec_timeXfer_follows {s : State} {x : TimeXfer} {w : FlumeFrame} {f : FlumeHdr × Bytes} (h : s.receives 3 s.paired w f)
    (hf : s.follows = true) (ht : s.twin.xferTick ≠ some f.1.tick) (hm : s.hot = false ∨ s.time.leadMissed = 0) :
    ∃ c, exec (.timeXferReceived ⟨x, w⟩) s
      = act (fun s => followLead f.1.tick x (sendFrame f.1.tick none (.timeXfer 2 [x.t2, x.t3]) (xferTaken x.at' c s))) s := by
  obtain ⟨c, hc⟩ := exec_timeXfer (x := x) h
  exact ⟨c, hc.trans (act_congr (xferStep_follows hf ht hm))⟩

theorem timeXfer_steers {s : State} {x : TimeXfer} {w : FlumeFrame} {f : FlumeHdr × Bytes} (h : s.receives 3 s.paired w f)
    (hf : s.follows = true) (ht : s.twin.xferTick ≠ some f.1.tick) (ho : s.time.xferOn = true) (hm : s.hot = false ∨ s.time.leadMissed = 0) :
    Completes (.timeXferReceived ⟨x, w⟩) s (fun u =>
      u.twin.xferTick = some f.1.tick ∧ s.sentBody u (.timeXfer 2 [x.t2, x.t3])
      ∧ u.time = { (servoRun (atTime x.at' s)).time with integ := u.time.integ, freq := u.time.freq }
      ∧ (u.time.freq = s.time.freq ∨ u.time.freq.natAbs ≤ 20000000) ∧ u.events = s.events) := by
  obtain ⟨c, hc⟩ := exec_timeXfer_follows (x := x) h hf ht hm
  obtain ⟨hkeep, -, -, -, -, -, htime, -, hon, -, hfreq, hev, hout⟩ := xferTaken_frame x.at' c s
  obtain ⟨hkeep', htick, htime', hev', -, hbody⟩ :=
    xferReplied_spec (n := f.1.tick) (x := x) (linkCarries_xferTaken (t := x.at') (c := c) (linkCarries_of_receives h))
  refine completes_of_keeps hc _ (followLead_on (hon.trans ho)) ?_ ?_ <;>
    generalize (sendFrame f.1.tick none (.timeXfer 2 [x.t2, x.t3]) (xferTaken x.at' c s)).grid.p3 / 3 = dt <;>
    have hservo := servoSet_servoSteer 10000 (-(xferOffset x)) dt (xferReplied f.1.tick x (xferTaken x.at' c s)) <;>
    generalize servoSteer 10000 (-(xferOffset x)) dt (xferReplied f.1.tick x (xferTaken x.at' c s)) = u at hservo ⊢
  · exact (hkeep.trans hkeep').trans ⟨hservo.get State.pending, hservo.get State.seatB, hservo.get State.dram⟩
  · refine ⟨(hservo.get (·.twin.xferTick)).trans htick, ?_, ?_, ?_, (hservo.get State.events).trans (hev'.trans hev)⟩
    · exact sentBody_of_extends hbody (.of_eq (hservo.get State.out))
    · rw [← htime, ← htime']
      exact hservo.get State.time
    · rw [← hfreq, ← htime']
      exact hservo.2.1

theorem timeXfer_first {s : State} {x : TimeXfer} {w : FlumeFrame} {f : FlumeHdr × Bytes} (h : s.receives 3 s.paired w f)
    (hf : s.follows = true) (ht : s.twin.xferTick ≠ some f.1.tick) (ho : s.time.xferOn = false) (hs : s.time.slewing = false)
    (hm : s.hot = false ∨ s.time.leadMissed = 0) :
    Completes (.timeXferReceived ⟨x, w⟩) s (fun u =>
      u.twin.xferTick = some f.1.tick ∧ u.time.xferOn = true ∧ s.sentBody u (.timeXfer 2 [x.t2, x.t3])
      ∧ (if (xferOffset x).natAbs ≤ 20000 then u.time.slewing = false ∧ s.raised u .timeSourceChange none []
        else u.time.slewing = true ∧ u.time.dRem = -(xferOffset x) ∧ s.raised u .timeSlewStart none [])) := by
  obtain ⟨c, hc⟩ := exec_timeXfer_follows (x := x) h hf ht hm
  obtain ⟨hkeep, -, -, -, -, hhot, -, -, hon, hslew, -, -, -⟩ := xferTaken_frame x.at' c s
  obtain ⟨hkeep', htick, htime', -, hhot', hbody⟩ :=
    xferReplied_spec (n := f.1.tick) (x := x) (linkCarries_xferTaken (t := x.at') (c := c) (linkCarries_of_receives h))
  obtain ⟨hk, htick', hon', hbody', hres⟩ := firstTransfer_spec (s := s) (d := -(xferOffset x)) htick (hhot'.trans hhot)
    ((congrArg TimeUnit.slewing htime').trans (hslew.trans hs)) (hkeep.trans hkeep') hbody
  rw [Int.natAbs_neg] at hres
  exact completes_of_keeps hc _ (followLead_first (hon.trans ho)) hk ⟨htick', hon', hbody', hres⟩

/-! ## The lead, and a seat alone -/

theorem timeXfer_leads {s : State} {x : TimeXfer} {w : FlumeFrame} {f : FlumeHdr × Bytes} (h : s.receives 3 s.paired w f)
    (hl : s.timeLead = true) (h2 : 2 ≤ s.twin.lanesUsed) :
    Completes (.timeXferReceived ⟨x, w⟩) s (fun u =>
      s.sentBody u (.timeXfer 3 [x.t1, x.t4]) ∧ u.time = (servoRun (atTime x.at' s)).time ∧ u.events = s.events) := by
  obtain ⟨c, hc⟩ := exec_timeXfer (x := x) h
  have honly := onlyTwin_sendFrame f.1.tick none (.timeXfer 3 [x.t1, x.t4]) (xferTaken x.at' c s)
  exact completes_of_keeps hc _ (xferStep_leads hl h2) (.trans ⟨rfl, rfl, rfl⟩ honly.keeps)
    ⟨sentBody_sendFrame (linkCarries_xferTaken (linkCarries_of_receives h)) rfl .., sendFrame_time .., honly.get State.events⟩

theorem timeXfer_alone {s : State} {x : TimeXfer} {w : FlumeFrame} {f : FlumeHdr × Bytes} (h : s.receives 3 s.paired w f)
    (h2 : s.twin.lanesUsed < 2) :
    Completes (.timeXferReceived ⟨x, w⟩) s (fun u => u.out = s.out ∧ u.time = (servoRun (atTime x.at' s)).time ∧ u.events = s.events) := by
  obtain ⟨c, hc⟩ := exec_timeXfer (x := x) h
  exact completes_of_keeps hc _ (xferStep_alone h2) ⟨rfl, rfl, rfl⟩ ⟨rfl, rfl, rfl⟩

/-- Settles O26. -/
theorem timeLimitsAndTransfers : Obligations.TimeLimitsAndTransfers :=
  ⟨⟨fun _ _ _ hon hears hdeaf hver hlo hhi => ptpAnnounce_completes hon hears hdeaf hver hlo hhi,
    fun _ _ _ _ hsel hmem hdead => announceReceiptTimeout_completes hsel hmem hdead,
    timeSlewEnd_completes, holdoverLimit_completes⟩,
   fun _ _ _ _ h hf ht ho hm => timeXfer_steers h hf ht ho hm,
   fun _ _ _ _ h hf ht ho hs hm => timeXfer_first h hf ht ho hs hm,
   fun _ _ _ _ h hl h2 => timeXfer_leads h hl h2,
   fun _ _ _ _ h h2 => timeXfer_alone h h2⟩

end Sys2Proof.Machine
end

section
/-! Thermal samples, the trip and the core voltage (R396, R407 to R413). -/
namespace Sys2Proof.Machine

/-! ## A sample in which the sensors agree -/

/-- A table of the values of a function below a bound. -/
theorem tget_map_range {α : Type} (d : α) (f : Nat → α) {n i : Nat} (h : i < n) : tget d ((List.range n).map (fun i => (i, f i))) i = f i := by
  have happend : ∀ (l : List Nat) (r : List (Nat × α)), i ∉ l → tget d (l.map (fun i => (i, f i)) ++ r) i = tget d r i := by
    intro l r hl
    induction l with
    | nil => rfl
    | cons j l ih =>
      obtain ⟨hj, hl⟩ := not_or.mp (fun hij => hl (List.mem_cons.mpr hij))
      exact (if_neg hj).trans (ih hl)
  obtain ⟨k, rfl⟩ := Nat.exists_eq_add_of_lt h
  rw [Nat.add_assoc, List.range_add, List.map_append, happend _ _ (fun hi => Nat.lt_irrefl i (List.mem_range.mp hi)), Nat.add_comm k 1, List.range_add]
  exact if_pos rfl

/-- Sixteen sensors that read one value, none of them faulty. -/
def agreed (v : Int) : Table Sensor := (List.range 16).map (fun i => (i, ⟨v, 0, false⟩))

theorem nth_replicate {α : Type} {d : α} (v : α) {n k : Nat} (h : k < n) : nth d (List.replicate n v) k = v := by
  induction n generalizing k with
  | zero => exact absurd h (Nat.not_lt_zero k)
  | succ n ih =>
    cases k with
    | zero => rfl
    | succ k => exact ih (Nat.lt_of_succ_lt_succ h)

theorem median2Int_replicate (v : Int) {n : Nat} (hn : 0 < n) : median2Int (List.replicate n v) = 2 * v := by
  have hsort : sortBy (fun a b => decide (a ≤ b)) (List.replicate n v) = List.replicate n v :=
    List.perm_replicate.mp (perm_sortBy ..)
  unfold median2Int
  dsimp only
  rw [hsort, List.length_replicate, nth_replicate v (by omega), nth_replicate v (by omega)]
  omega

theorem goodReadings_agree {t : Table Sensor} {v : Int} {l : List Nat}
    (h : ∀ j ∈ l, (tget sensorInit t j).faulty = false ∧ (tget sensorInit t j).reading = v) :
    goodReadings t l = List.replicate l.length v := by
  unfold goodReadings
  rw [List.filter_eq_self.mpr (fun j hj => by rw [(h j hj).1]; rfl)]
  exact List.map_eq_replicate_iff.mpr fun j hj => (h j hj).2

theorem sensorNbrs_lt {i : Nat} (hi : i < 16) : (∀ j ∈ sensorNbrs i, j < 16) ∧ 0 < (sensorNbrs i).length := by
  have hall : ∀ i : Fin 16, (∀ j ∈ sensorNbrs i, j < 16) ∧ 0 < (sensorNbrs i).length := by decide
  exact hall ⟨i, hi⟩

/-- A sensor whose neighbours read what it reads is in order (R408). -/
theorem judgeSensor_agree {t : Table Sensor} {v : Int} (h : ∀ j, j < 16 → (tget sensorInit t j).faulty = false ∧ (tget sensorInit t j).reading = v)
    {i : Nat} (hi : i < 16) : judgeSensor t i = ⟨v, 0, false⟩ := by
  obtain ⟨hnbr, hlen⟩ := sensorNbrs_lt hi
  obtain ⟨n, hn⟩ := Nat.exists_eq_succ_of_ne_zero (Nat.ne_of_gt hlen)
  obtain ⟨hfaulty, hread⟩ := h i hi
  have hgood : goodReadings t (sensorNbrs i) = v :: List.replicate n v := by
    rw [goodReadings_agree fun j hj => h j (hnbr j hj), hn]
    rfl
  have hmed : median2Int (v :: List.replicate n v) = 2 * v := median2Int_replicate v (Nat.succ_pos n)
  unfold judgeSensor
  rw [hgood]
  dsimp only
  rw [hmed, hread, Int.sub_self]
  generalize tget sensorInit t i = x at hfaulty hread
  subst hread
  obtain ⟨reading, badRun, faulty⟩ := x
  cases hfaulty
  rfl

theorem regionReading_agreed (v : Int) {i : Nat} (hi : i < 16) : regionReading (agreed v) i = v := by
  unfold regionReading agreed
  rw [tget_map_range _ _ hi]
  rfl

theorem regions_agreed (v : Int) : maxInt ((List.range 16).map (regionReading (agreed v))) = some v := by
  rw [List.map_congr_left (g := fun _ => v) fun i hi => regionReading_agreed v (List.mem_range.mp hi)]
  simp [maxInt, List.range, List.range.loop]

theorem agreed_sound (v : Int) : (agreed v).filter (fun e => e.2.faulty) = []
    ∧ ∀ (s : State), (List.range 16).filter (fun i => (tget sensorInit (agreed v) i).faulty && !(s.sensor i).faulty) = [] := by
  refine ⟨rfl, fun s => List.filter_eq_nil_iff.mpr fun i hi => ?_⟩
  unfold agreed
  rw [tget_map_range _ _ (List.mem_range.mp hi)]
  exact Bool.false_ne_true

/-! ## The sample (R407 to R410, R413) -/

/-- A sample that finds the sensors in agreement. -/
def sampled (v : Int) (lvl : ThermalLevel) (s : State) : State :=
  { s with power := { s.power with
      sensors := agreed v, tj := v, hottest := 0, decided := lvl
      throttleT := if lvl = .throttle && s.power.decided != .throttle then s.time.now else s.power.throttleT
      tripRun := if 2000 ≤ v then s.power.tripRun + 1 else 0 } }

theorem phase_of_powered {s : State} (h : s.powered = true) : s.power.phase ≠ .supplyLost := by
  intro hp
  unfold State.powered at h
  rw [hp] at h
  cases h

/-- The level of a sample (R409, R410). -/
def sampleLevel (v : Int) (s : State) : ThermalLevel :=
  if s.mem.chans.any (fun e => e.2.rate == 2) then .throttle else levelBy s.power.variantE s.power.decided v

theorem exec_thermalSample {s : State} {v : Int} {at' : Time64} (hp : s.powered = true)
    (hok : ∀ i : Nat, i < 16 → (s.sensor i).faulty = false) :
    exec (.thermalSample (List.replicate 16 v) at') s = act (fun s =>
      if 2 ≤ (if 2000 ≤ v then s.power.tripRun + 1 else 0) then tripDevice (sampled v (sampleLevel v s) (atTime at' s))
      else sampled v (sampleLevel v s) (atTime at' s)) s := by
  have hraw : ∀ j, j < 16 → (tget sensorInit ((List.range 16).map
      (fun i => (i, { s.sensor i with reading := nth 0 (List.replicate 16 v) i }))) j).faulty = false
      ∧ (tget sensorInit ((List.range 16).map
        (fun i => (i, { s.sensor i with reading := nth 0 (List.replicate 16 v) i }))) j).reading = v := by
    intro j hj
    rw [tget_map_range _ _ hj]
    exact ⟨hok j hj, nth_replicate v hj⟩
  have hjudged : ((List.range 16).map (fun i => (i, { s.sensor i with reading := nth 0 (List.replicate 16 v) i }))).map
      (fun e => (e.1, judgeSensor ((List.range 16).map
        (fun i => (i, { s.sensor i with reading := nth 0 (List.replicate 16 v) i }))) e.1)) = agreed v := by
    rw [List.map_map]
    exact List.map_congr_left fun i hi => congrArg (Prod.mk i) (judgeSensor_agree hraw (List.mem_range.mp hi))
  obtain ⟨hfaulty, hnew⟩ := agreed_sound v
  have hheld : heldThrottle s (agreed v) = s.mem.chans.any (fun e => e.2.rate == 2) := by
    unfold heldThrottle
    rw [hfaulty]
    rfl
  have hhot : ((findPos (fun w => w == v) 0 ((List.range 16).map (regionReading (agreed v)))).map Prod.fst).getD 0 = 0 := by
    rw [List.map_congr_left (g := fun _ => v) fun i hi => regionReading_agreed v (List.mem_range.mp hi)]
    simp [List.range, List.range.loop, findPos]
  change execThermalSample (List.replicate 16 v) at' s = _
  unfold execThermalSample
  refine act_congr ?_
  dsimp only
  split
  · next h => exact absurd h (phase_of_powered hp)
  · rw [hjudged, regions_agreed, Option.getD_some, hhot, hheld, hnew, hp]
    rfl

/-- The trip takes every head out of operation (R413). -/
theorem tripDevice_spec (s : State) :
    (tripDevice s).power = { s.power with thermtrip := true, phase := .tripped } ∧ KeepsFrame s (tripDevice s)
    ∧ ∀ h : Nat, h < 32 → ((tripDevice s).head h).running = false ∧ ((tripDevice s).head h).live = false := by
  have hstep : ∀ (a : State) (h : Nat), OnlyHead h a (blankHead h (a.modHead h (fun d => { d with running := false }))) :=
    fun a h => (onlyHead_modHead ..).trans (onlyHead_blankHead ..)
  unfold tripDevice
  dsimp only
  obtain ⟨honly, -, hdone⟩ := foldl_heads hstep
    (emit (.thermtrip true) { s with power := { s.power with thermtrip := true, phase := .tripped } }) 32
  refine ⟨honly.get State.power, ⟨honly.get State.pending, honly.get State.seatB, honly.get State.dram⟩, fun h hh => ?_⟩
  obtain ⟨a, -, -, hhead⟩ := hdone h hh
  obtain ⟨px, tl, hi, hblank⟩ := head_blankHead h (a.modHead h (fun d => { d with running := false }))
  rw [hhead, hblank, head_modHead]
  exact ⟨rfl, rfl⟩

theorem thermalSample_completes {s : State} {v : Int} {at' : Time64} (hp : s.powered = true)
    (hok : ∀ i : Nat, i < 16 → (s.sensor i).faulty = false) :
    Completes (.thermalSample (List.replicate 16 v) at') s (fun t =>
      t.power.tj = v
      ∧ t.power.decided = (if s.mem.chans.any (fun e => e.2.rate == 2) then .throttle else levelBy s.power.variantE s.power.decided v)
      ∧ (v < 2000 → t.power.tripRun = 0 ∧ t = { s with power := t.power, time := { s.time with now := at' } })
      ∧ (2000 ≤ v → t.power.tripRun = s.power.tripRun + 1 ∧ (1 ≤ s.power.tripRun →
          t.power.phase = .tripped ∧ t.power.thermtrip = true ∧ ∀ h : Nat, h < 32 → (t.head h).running = false ∧ (t.head h).live = false))) := by
  obtain ⟨hpower, hkeep, hheads⟩ := tripDevice_spec (sampled v (sampleLevel v s) (atTime at' s))
  by_cases h2 : 2 ≤ (if 2000 ≤ v then s.power.tripRun + 1 else 0)
  · have hv : 2000 ≤ v := Decidable.byContradiction fun hv => by rw [if_neg hv] at h2; omega
    refine completes_of_keeps (exec_thermalSample hp hok) _ (if_pos h2) (.trans ⟨rfl, rfl, rfl⟩ hkeep) ?_
    rw [hpower]
    exact ⟨rfl, rfl, fun hlt => absurd hv (by omega), fun _ => ⟨if_pos hv, fun _ => ⟨rfl, rfl, hheads⟩⟩⟩
  · refine completes_of_keeps (exec_thermalSample hp hok) _ (if_neg h2) ⟨rfl, rfl, rfl⟩ ⟨rfl, rfl, fun hlt => ⟨if_neg (by omega), rfl⟩,
      fun hv => ⟨if_pos hv, fun h1 => absurd ?_ h2⟩⟩
    rw [if_pos hv]
    omega

/-! ## The repeat of the level (R412), and the core voltage (R396) -/

theorem raiseLevelEvent_spec {s u : State} (hu : u.hot = s.hot) (hk : KeepsFrame s u) (level : ThermalLevel) (region : Nat) :
    KeepsFrame s (raiseLevelEvent level region u)
    ∧ s.raised (raiseLevelEvent level region u) .thermalLevel none [(1, level.code), (2, twos 16 u.power.tj), (1, region)]
    ∧ (raiseLevelEvent level region u).power = { u.power with levelT := u.time.now } := by
  have honly := onlyEvents_raise .thermalLevel [(1, level.code), (2, twos 16 u.power.tj), (1, region)]
    { u with power := { u.power with levelT := u.time.now } }
  exact ⟨(hk.trans (show KeepsFrame u { u with power := { u.power with levelT := u.time.now } } from ⟨rfl, rfl, rfl⟩)).trans honly.keeps,
    raised_raise _ _ hu, honly.get State.power⟩

theorem thermalLevelRepeat_completes {s : State} {at' : Time64} (hp : s.powered = true)
    (htop : (if s.power.variantE then 1840 else 1680) < s.power.tj) (hlvl : s.power.level = .throttle)
    (hdue : s.power.levelT + 10000000000 ≤ at') :
    Completes (.thermalLevelRepeat at') s (fun t =>
      s.raised t .thermalLevel none [(1, 2), (2, twos 16 s.power.tj), (1, s.power.hottest)] ∧ t.power.levelT = at' ∧ t.power.level = .throttle) := by
  obtain ⟨hk, hraised, hpower⟩ := raiseLevelEvent_spec (s := s) (u := atTime at' s) rfl ⟨rfl, rfl, rfl⟩ .throttle s.power.hottest
  have hgo : (!s.powered || decide (s.power.tj ≤ if s.power.variantE then 1840 else 1680) || s.power.level != .throttle
      || decide (at' < s.power.levelT + 10000000000)) = false := by
    rw [hp, hlvl, decide_eq_false (Int.not_le.mpr htop), decide_eq_false (Nat.not_lt.mpr hdue)]
    rfl
  refine completes_of_keeps (s := s) (f := fun s =>
    if !s.powered || decide (s.power.tj ≤ if s.power.variantE then 1840 else 1680) || s.power.level != .throttle
      || decide (at' < s.power.levelT + 10000000000) then s
    else raiseLevelEvent s.power.level s.power.hottest (atTime at' s)) rfl _ (if_neg (Bool.eq_false_iff.mp hgo)) ?_ ?_
  · rw [hlvl]
    exact hk
  · rw [hlvl, hpower]
    exact ⟨hraised, rfl, hlvl⟩

/-- A read-back of the core voltage that leaves a run of bad ones. -/
def avsRead (n : Nat) (s : State) : State :=
  { s with power := { s.power with avsBad := n, avsFail := s.power.avsFail || decide (4 ≤ n) } }

theorem exec_avsReadback {s : State} {mv : Nat} {at' : Time64} (hp : s.powered = true) {n : Nat}
    (hn : (if 40 * mv < 39 * s.power.vAvs || 41 * s.power.vAvs < 40 * mv then s.power.avsBad + 1 else 0) = n) :
    exec (.avsReadback mv at') s = act (fun s =>
      if n = 4 then raiseLevelEvent s.power.level 0xFF (avsRead n (atTime at' s)) else avsRead n (atTime at' s)) s := by
  change execAvsReadback mv at' s = _
  unfold execAvsReadback
  refine act_congr ?_
  dsimp only
  rw [hp, hn]
  rfl

/-- Settles O50. -/
theorem thermalLimits : Obligations.ThermalLimits := by
  refine ⟨fun s v at' hp hok => thermalSample_completes hp hok,
    fun s at' hp htop hlvl hdue => thermalLevelRepeat_completes hp htop hlvl hdue, fun s mv at' hp hlo hhi => ?_,
    fun s mv at' hp hbad => ?_⟩
  · have hgood : (if 40 * mv < 39 * s.power.vAvs || 41 * s.power.vAvs < 40 * mv then s.power.avsBad + 1 else 0) = 0 := by
      rw [decide_eq_false (Nat.not_lt.mpr hlo), decide_eq_false (Nat.not_lt.mpr hhi)]
      rfl
    refine completes_of_keeps (exec_avsReadback hp hgood) (avsRead 0 (atTime at' s)) rfl ⟨rfl, rfl, rfl⟩ ?_
    unfold avsRead
    rw [show decide (4 ≤ 0) = false from rfl, Bool.or_false]
    rfl
  · have hrun : (if 40 * mv < 39 * s.power.vAvs || 41 * s.power.vAvs < 40 * mv then s.power.avsBad + 1 else 0) = s.power.avsBad + 1 := by
      refine if_pos ?_
      rcases hbad with h | h <;> simp [h]
    obtain ⟨hk, hraised, hpower⟩ :=
      raiseLevelEvent_spec (s := s) (u := avsRead (s.power.avsBad + 1) (atTime at' s)) rfl ⟨rfl, rfl, rfl⟩ s.power.level 0xFF
    refine completes_of_keeps (exec_avsReadback hp hrun) _ rfl ?_ ?_
    all_goals split
    · exact hk
    · exact ⟨rfl, rfl, rfl⟩
    · next h4 =>
      rw [hpower]
      refine ⟨rfl, fun _ => ⟨?_, hraised⟩⟩
      change (s.power.avsFail || decide (4 ≤ s.power.avsBad + 1)) = true
      rw [decide_eq_true (by omega), Bool.or_true]
    · next h4 => exact ⟨rfl, fun h3 => absurd (congrArg (· + 1) h3) h4⟩

end Sys2Proof.Machine
end

section
/-! Flash writes (R404, R414) and the snapshots of the running configuration (R262, R404). -/
namespace Sys2Proof.Machine

/-! ## The queue of flash writes (R414) -/

/-- A record stands in flash where its unit reads it. -/
theorem flashPut_spec (r : FlashRec) (s : State) :
    KeepsFrame s (flashPut r s) ∧ (flashPut r s).power = s.power ∧ (flashPut r s).hot = s.hot
    ∧ (∀ b, r = .touch b → (flashPut r s).touch.saved = some b) ∧ (∀ x, r = .test x → (flashPut r s).test.written = some x)
    ∧ (∀ u, r = .partner u → (flashPut r s).twin.partnerFlash = some u) := by
  cases r <;> refine ⟨⟨rfl, rfl, rfl⟩, rfl, rfl, ?_, ?_, ?_⟩ <;> intro _ h <;> cases h <;> rfl

theorem exec_flashQueueDrain {s : State} {r : FlashRec} {q : List FlashRec} {at' : Time64} (hq : s.power.flashQ = r :: q)
    (ha : s.flashAllowed = true) (hw : s.flashWindow = true) :
    exec (.flashQueueDrain true at') s = act (fun s =>
      raise .flashWritten [] (flashPut r { (atTime at' s) with power := { s.power with flashQ := q } })) s := by
  change execFlashQueueDrain true at' s = _
  unfold execFlashQueueDrain
  refine act_congr ?_
  dsimp only
  rw [hq]
  dsimp only
  rw [ha, hw]
  rfl

theorem flashQueueDrain_completes {s : State} {r : FlashRec} {q : List FlashRec} {at' : Time64} (hq : s.power.flashQ = r :: q)
    (ha : s.flashAllowed = true) (hw : s.flashWindow = true) :
    Completes (.flashQueueDrain true at') s (fun t =>
      t.power.flashQ = q ∧ s.raised t .flashWritten none [] ∧ (∀ b, r = .touch b → t.touch.saved = some b)
      ∧ (∀ x, r = .test x → t.test.written = some x) ∧ (∀ u, r = .partner u → t.twin.partnerFlash = some u)) := by
  obtain ⟨hk, hpower, hhot, htouch, htest, hpartner⟩ := flashPut_spec r { (atTime at' s) with power := { s.power with flashQ := q } }
  have hraised := raised_raise (s := s) (c := .flashWritten) (p := [])
    (u := flashPut r { (atTime at' s) with power := { s.power with flashQ := q } }) hhot
  refine completes_of_keeps (exec_flashQueueDrain hq ha hw) _ rfl ?_ ?_ <;>
    generalize flashPut r { (atTime at' s) with power := { s.power with flashQ := q } } = u at * <;>
    have honly := onlyEvents_raise .flashWritten [] u
  · exact KeepsFrame.trans (.trans ⟨rfl, rfl, rfl⟩ hk) honly.keeps
  · refine ⟨?_, hraised, fun b hb => ?_, fun x hx => ?_, fun v hv => ?_⟩
    · rw [honly.get State.power, hpower]
    · rw [honly.get State.touch]
      exact htouch b hb
    · rw [honly.get State.test]
      exact htest x hx
    · obtain ⟨o, e, f, k, h⟩ := raiseAt_twin u.time.now .flashWritten none [] u
      exact (congrArg Twin.partnerFlash h).trans (hpartner v hv)

/-- A write that fails leaves the queue as it is (log 24). -/
theorem flashQueueDrain_fails (s : State) (at' : Time64) : Completes (.flashQueueDrain false at') s (fun t => t = s) := by
  have hnone : exec (.flashQueueDrain false at') s = act (fun s => s) s := by
    change execFlashQueueDrain false at' s = _
    unfold execFlashQueueDrain
    refine act_congr ?_
    dsimp only
    split
    · rfl
    · exact if_pos (by rw [Bool.not_false, Bool.or_true])
  exact completes_of_keeps hnone s rfl (.refl s) rfl

/-! ## The snapshot of the running configuration -/

/-- Two states differ at most in the records of a test and of the touch unit, the queue of flash writes, the free values, and the events. -/
def OnlyRecords (s t : State) : Prop :=
  t = { s with free := t.free, events := t.events, time := { s.time with now := t.time.now }, out := t.out, twin := t.twin,
               touch := t.touch, test := t.test, power := { s.power with flashQ := t.power.flashQ } }

theorem OnlyRecords.refl (s : State) : OnlyRecords s s := rfl

theorem OnlyRecords.trans {s t u : State} (h : OnlyRecords s t) (h' : OnlyRecords t u) : OnlyRecords s u := by
  unfold OnlyRecords at *; rw [h', h]

theorem OnlyRecords.get {β : Type} (p : State → β) {s t : State} (h : OnlyRecords s t) :
    p t = p { s with free := t.free, events := t.events, time := { s.time with now := t.time.now }, out := t.out, twin := t.twin,
                     touch := t.touch, test := t.test, power := { s.power with flashQ := t.power.flashQ } } := congrArg p h

theorem OnlyRecords.keeps {s t : State} (h : OnlyRecords s t) : KeepsFrame s t := ⟨h.get State.pending, h.get State.seatB, h.get State.dram⟩

theorem OnlyEvents.onlyRecords {s t : State} (h : OnlyEvents s t) : OnlyRecords s t := by
  unfold OnlyEvents OnlyRecords at *; rw [h]

/-- A record that goes to flash, or into its queue. -/
theorem onlyRecords_flashStore (r : FlashRec) (s : State) : OnlyRecords s (flashStore r s) := by
  have hsaid : ∀ (p : List (Nat × Nat)) (q : List FlashRec),
      OnlyRecords s (raise .flashQueued p { s with power := { s.power with flashQ := q } }) :=
    fun p q => .trans (t := { s with power := { s.power with flashQ := q } }) rfl (onlyEvents_raise ..).onlyRecords
  unfold flashStore
  split
  · exact .refl s
  · split
    · cases r <;> rfl
    · unfold flashQueue
      dsimp only
      split
      · exact hsaid ..
      · split
        · exact hsaid ..
        · exact hsaid _ s.power.flashQ

theorem putConfig_spec (p : Snapshot) (s : State) :
    KeepsFrame s (putConfig p s) ∧ (putConfig p s).cfg = s.cfg ∧ (putConfig p s).power.cfgSaved = some p
    ∧ (putConfig p s).power.cfgSavedT = some s.time.now ∧ (putConfig p s).power.cfgDirty = false := by
  unfold putConfig
  have honly := onlyRecords_flashStore (.counters s.onNow) (emit (.flashWrite 5 (Config.snapshotBytes p).length)
    { s with power := { s.power with cfgSaved := some p, cfgSavedT := some s.time.now, cfgDirty := false } })
  exact ⟨.trans ⟨rfl, rfl, rfl⟩ honly.keeps, honly.get State.cfg, honly.get (·.power.cfgSaved), honly.get (·.power.cfgSavedT),
    honly.get (·.power.cfgDirty)⟩

/-- A snapshot that is due is written (R262, R404). -/
theorem exec_configSnapshotWrite {s : State} {at' : Time64} (halive : s.alive = true) (ha : s.flashAllowed = true) (hw : s.flashWindow = true)
    (hdue : (atTime at' s).snapWriteDue = true) :
    exec (.configSnapshotWrite true at') s = act (fun s =>
      if s.twin.mode = .coldStandby then
        match s.twin.snapHeld with
        | some r =>
          if s.twin.snapFlash = some r then s
          else emit (.flashWrite 6 r.total) { (atTime at' s) with
            twin := { s.twin with snapFlash := some r }, power := { s.power with cfgSavedT := some at' } }
        | none => s
      else if !s.power.cfgDirty then s
      else putConfig (takeSnapshot s.time.decided (atTime at' s)) (atTime at' s)) s := by
  have hgo : (!(atTime at' s).alive || !(atTime at' s).flashAllowed || !(atTime at' s).flashWindow || !(atTime at' s).snapWriteDue) = false := by
    rw [show (atTime at' s).alive = true from halive, show (atTime at' s).flashAllowed = true from ha,
      show (atTime at' s).flashWindow = true from hw, hdue]
    rfl
  change execConfigSnapshotWrite true at' s = _
  unfold execConfigSnapshotWrite
  refine act_congr ?_
  dsimp only
  rw [if_neg (Bool.eq_false_iff.mp hgo)]
  simp only [Bool.not_true, Bool.false_or, decide_eq_true_eq]
  rfl

/-- Settles O51. -/
theorem flashWrites : Obligations.FlashWrites := by
  refine ⟨fun s r q at' hq ha hw => flashQueueDrain_completes hq ha hw, flashQueueDrain_fails,
    fun s at' halive ha hw hdue hmode hdirty => ?_, fun s r at' halive ha hw hdue hmode hheld hnew => ?_⟩
  · have hput : (!s.power.cfgDirty) = false := by rw [hdirty]; rfl
    obtain ⟨hk, hcfg, hsaved, hsavedT, hclean⟩ := putConfig_spec (takeSnapshot s.time.decided (atTime at' s)) (atTime at' s)
    exact completes_of_keeps (exec_configSnapshotWrite halive ha hw hdue) _
      ((if_neg hmode).trans (if_neg (Bool.eq_false_iff.mp hput))) (.trans ⟨rfl, rfl, rfl⟩ hk) ⟨⟨_, hsaved, rfl⟩, hsavedT, hclean, hcfg⟩
  · refine completes_of_keeps (exec_configSnapshotWrite halive ha hw hdue)
      (emit (.flashWrite 6 r.total) { (atTime at' s) with
        twin := { s.twin with snapFlash := some r }, power := { s.power with cfgSavedT := some at' } }) ?_ ⟨rfl, rfl, rfl⟩ ⟨rfl, rfl, rfl, rfl⟩
    dsimp only
    rw [if_pos hmode, hheld]
    exact if_neg hnew

end Sys2Proof.Machine
end

section
/-! The self-test in service: preconditions, slices and the record's age (R415, R419 to R423), and the end of a SERVICE token (R426). -/
namespace Sys2Proof.Machine

/-! ## Tests and their records -/

/-- Two states differ at most in the test and in the free values. -/
def OnlyTest (s t : State) : Prop := t = { s with free := t.free, test := t.test }

theorem OnlyTest.refl (s : State) : OnlyTest s s := rfl

theorem OnlyTest.trans {s t u : State} (h : OnlyTest s t) (h' : OnlyTest t u) : OnlyTest s u := by
  unfold OnlyTest at *; rw [h', h]

theorem OnlyTest.onlyRecords {s t : State} (h : OnlyTest s t) : OnlyRecords s t := by
  unfold OnlyTest OnlyRecords at *; rw [h]

theorem onlyTest_coverage (whole : Bool) (least : Nat) (s : State) : OnlyTest s (coverage whole least s).2 := by
  unfold coverage
  split <;> rfl

theorem onlyTest_coverages (r : TestRun) (result : Nat) (s : State) : OnlyTest s (coverages r result s).2.2.2 := by
  have hpart : ∀ (b whole : Bool) (least : Nat) (a : State), OnlyTest a (if b then coverage whole least a else (0, a)).2 := by
    intro b whole least a
    split
    · exact onlyTest_coverage ..
    · exact .refl a
  unfold coverages
  exact ((hpart _ _ 10000 s).trans (hpart _ _ 9500 _)).trans (hpart _ _ 8000 _)

theorem onlyTest_holdUnits (r : TestRun) (hold : Bool) (result : Nat) (o : SelftestOutcome) (s : State) :
    OnlyTest s (holdUnits r hold result o s) := by
  unfold holdUnits
  split <;> rfl

/-- The end of a run changes the records only (R416, R418). -/
theorem onlyRecords_endRun (r : TestRun) (f : TestFound) (s : State) : OnlyRecords s (endRun r f s) := by
  have hstored : ∀ (x : TestRecord) (a b : State), OnlyTest s a → b = { a with test := b.test } →
      OnlyRecords s (flashStore (.test x) (if x.quickOk then { b with test := { b.test with sliceMode := false } } else startSweep b)) := by
    intro x a b ha hb
    refine OnlyRecords.trans (ha.trans ?_).onlyRecords (onlyRecords_flashStore ..)
    unfold OnlyTest
    rw [hb]
    split <;> rfl
  have hheld := fun hold result => (onlyTest_coverages r result s).trans (onlyTest_holdUnits r hold result f.out _)
  unfold endRun
  dsimp only
  split
  · exact .trans (hstored _ _ _ (hheld _ _) rfl) (onlyEvents_raiseAt ..).onlyRecords
  · exact hstored _ _ _ (hheld _ _) rfl

theorem onlyRecords_settleSweep (s : State) : OnlyRecords s (settleSweep s) := by
  unfold settleSweep
  split
  · split
    · exact onlyRecords_endRun ..
    · exact .refl s
  · split
    · exact .refl s
    · dsimp only
      split
      · exact onlyRecords_endRun ..
      · exact .refl s

/-! ## Preconditions (R415) -/

theorem selftestPrecondCheck_completes {s : State} {clk vdd : Bool} {at' : Time64} (hp : s.powered = true) :
    Completes (.selftestPrecondCheck clk vdd at') s (fun t =>
      t.test.lastPre = b2n (!clk) + 2 * b2n (!vdd)
      ∧ (∀ r, s.test.run = some r → t.test.run = some (if r.source = 3 then r else { r with precond := r.precond ||| t.precondNow }))
      ∧ t = { s with time := { s.time with now := at' }, test := t.test }) := by
  have hon : ¬ (!s.powered) = true := by rw [hp]; exact Bool.false_ne_true
  refine completes_of_keeps (f := fun s => if !s.powered then s else _) rfl _ (if_neg hon) ⟨rfl, rfl, rfl⟩ ⟨rfl, fun r hr => ?_, rfl⟩
  exact congrArg (Option.map _) hr

/-! ## Slices (R421 to R423) -/

/-- The parts of a sweep are the same in every state (R421). -/
theorem sweepParts_eq (s t : State) : sweepParts s = sweepParts t := by
  have hnone : ¬ bit (2 ^ 24 - 1) 24 = true := by decide
  unfold sweepParts runParts
  rw [if_neg hnone, if_neg hnone]

/-- A sweep does not end while a part that is no compose lane has slices left. -/
theorem settleSweep_open {s : State} (hr : s.test.run = none)
    {q : Nat × Nat} (hq : q ∈ sweepParts s) (hlane : ¬(100 ≤ q.1 ∧ q.1 < 200)) (hleft : tget 0 s.test.swept q.1 < q.2) : settleSweep s = s := by
  have hrest : partsDone s ((sweepParts s).filter (fun p => !(decide (100 ≤ p.1) && decide (p.1 < 200)))) = false := by
    refine List.all_eq_false.mpr ⟨q, List.mem_filter.mpr ⟨hq, ?_⟩, ?_⟩
    · rw [Bool.not_eq_true', Bool.eq_false_iff]
      intro h
      exact hlane (by simpa using h)
    · exact fun h => absurd (of_decide_eq_true h) (Nat.not_le.mpr hleft)
  unfold settleSweep
  rw [hr]
  dsimp only
  split
  · rfl
  · rw [hrest]
    rfl

/-- The state in which a slice of a part has been counted. -/
def sliced (part : Nat) (s : State) : State :=
  { s with test := { s.test with
      sliceTick := some s.time.tick, swept := tset part (tget 0 s.test.swept part + 1) s.test.swept
      sweepTj := (min s.test.sweepTj.1 s.power.tj, max s.test.sweepTj.2 s.power.tj) } }

theorem exec_selftestSlice {s : State} {u : SliceUnit} {pass : Bool} {at' : Time64} (ha : sliceAllowed (atTime at' s) u = true) :
    exec (.selftestSlice u pass at') s = act (fun s =>
      settleSweep (if pass then sliced (slicePart u).1 (atTime at' s) else sliceFailed u (sliced (slicePart u).1 (atTime at' s)))) s := by
  have hgo : ¬ (!sliceAllowed (atTime at' s) u) = true := by rw [ha]; exact Bool.false_ne_true
  change execSelftestSlice u pass at' s = _
  unfold execSelftestSlice
  refine act_congr ?_
  dsimp only
  rw [if_neg hgo]
  rfl

/-- A slice that fails is reported, and holds its decode lane, or makes the next start test everything (R423). -/
theorem sliceFailed_spec (u : SliceUnit) (s : State) :
    OnlyRecords s (sliceFailed u s) ∧ (sliceFailed u s).test.run = s.test.run ∧ (sliceFailed u s).test.swept = s.test.swept
    ∧ (sliceFailed u s).test.sliceTick = s.test.sliceTick
    ∧ s.raised (sliceFailed u s) .selftestSlice none [(1, (sliceCode u).1), (2, (sliceCode u).2), (1, 1)]
    ∧ (∀ l, u = .decodeLane l → (sliceFailed u s).test.heldLanes = s.test.heldLanes ||| 2 ^ l.val)
    ∧ (sliceFailed u s).test.fullNext = true := by
  unfold sliceFailed freeBelow
  dsimp only
  generalize Config.freeValue s.free % 4096 = w
  have honly := onlyEvents_raise .selftestSlice [(1, (sliceCode u).1), (2, (sliceCode u).2), (1, 1)]
    { s with free := s.free + 1, test := { s.test with sweepFail := s.test.sweepFail.note u (w + 1), fullNext := true } }
  have hraised : s.raised (raise .selftestSlice [(1, (sliceCode u).1), (2, (sliceCode u).2), (1, 1)]
      { s with free := s.free + 1, test := { s.test with sweepFail := s.test.sweepFail.note u (w + 1), fullNext := true } })
      .selftestSlice none [(1, (sliceCode u).1), (2, (sliceCode u).2), (1, 1)] := raised_raise _ _ rfl
  have hrec : OnlyRecords s (raise .selftestSlice [(1, (sliceCode u).1), (2, (sliceCode u).2), (1, 1)]
      { s with free := s.free + 1, test := { s.test with sweepFail := s.test.sweepFail.note u (w + 1), fullNext := true } }) :=
    .trans (t := { s with free := s.free + 1, test := { s.test with sweepFail := s.test.sweepFail.note u (w + 1), fullNext := true } }) rfl
      honly.onlyRecords
  have htest := honly.get State.test
  generalize raise .selftestSlice [(1, (sliceCode u).1), (2, (sliceCode u).2), (1, 1)]
    { s with free := s.free + 1, test := { s.test with sweepFail := s.test.sweepFail.note u (w + 1), fullNext := true } } = v at *
  cases u with
  | decodeLane l =>
    dsimp only
    rw [htest]
    refine ⟨hrec.trans rfl, rfl, rfl, rfl, raised_congr hraised rfl rfl, fun _ h => ?_, rfl⟩
    cases h
    rfl
  | _ =>
    dsimp only
    rw [htest]
    exact ⟨hrec, rfl, rfl, rfl, hraised, fun _ h => (by cases h), rfl⟩

theorem selftestSlice_completes {s : State} {u : SliceUnit} {pass : Bool} {at' : Time64} (ha : sliceAllowed (atTime at' s) u = true)
    (hr : s.test.run = none)
    (hleft : ∃ q ∈ sweepParts s, q.1 ≠ (slicePart u).1 ∧ ¬(100 ≤ q.1 ∧ q.1 < 200) ∧ tget 0 s.test.swept q.1 < q.2) :
    Completes (.selftestSlice u pass at') s (fun t =>
      tget 0 t.test.swept (slicePart u).1 = tget 0 s.test.swept (slicePart u).1 + 1 ∧ t.test.sliceTick = some s.time.tick
      ∧ (if pass then t.events = s.events ∧ t.test.heldLanes = s.test.heldLanes
        else s.raised t .selftestSlice none [(1, (sliceCode u).1), (2, (sliceCode u).2), (1, 1)]
          ∧ (∀ l, u = .decodeLane l → t.test.heldLanes = s.test.heldLanes ||| 2 ^ l.val)
          ∧ ((∀ l, u ≠ .decodeLane l) → t.test.fullNext = true))) := by
  obtain ⟨q, hq, hpart, hlane, hslices⟩ := hleft
  have hcount : tget 0 (sliced (slicePart u).1 (atTime at' s)).test.swept q.1 < q.2 := by
    unfold sliced
    dsimp only
    rw [tget_tset_ne _ _ _ _ _ hpart]
    exact hslices
  have hopen : ∀ v : State, v.test.run = s.test.run → v.test.swept = (sliced (slicePart u).1 (atTime at' s)).test.swept → settleSweep v = v := by
    intro v hrun hswept
    refine settleSweep_open (hrun.trans hr) (by rw [sweepParts_eq v s]; exact hq) hlane ?_
    rw [hswept]
    exact hcount
  have hsame := tget_tset_same 0 s.test.swept (slicePart u).1 (tget 0 s.test.swept (slicePart u).1 + 1)
  cases pass with
  | true =>
    exact completes_of_keeps (exec_selftestSlice ha) (sliced (slicePart u).1 (atTime at' s))
      (hopen (sliced (slicePart u).1 (atTime at' s)) rfl rfl) ⟨rfl, rfl, rfl⟩ ⟨hsame, rfl, rfl, rfl⟩
  | false =>
    obtain ⟨hrec, hrun, hswept, htick, hraised, hheld, hfull⟩ := sliceFailed_spec u (sliced (slicePart u).1 (atTime at' s))
    refine completes_of_keeps (exec_selftestSlice ha) _ (hopen (sliceFailed u (sliced (slicePart u).1 (atTime at' s))) hrun hswept)
      (.trans ⟨rfl, rfl, rfl⟩ hrec.keeps) ⟨?_, htick, hraised, hheld, fun _ => hfull⟩
    rw [hswept]
    exact hsame

/-! ## The record's age (R419) -/

theorem judgeAge_eq {s : State} {r : TestRecord} (hrec : s.test.record = some r) (hquick : r.quickOk = true) (hexp : s.test.expired = false)
    {old : Bool} (hold : s.recordOld r = old) :
    judgeAge s = if old then startSweep { s with test := { s.test with expired := true } } else s := by
  unfold judgeAge
  rw [hrec]
  dsimp only
  rw [hquick, hexp, hold]
  rfl

theorem selftestRecordAge_completes {s : State} {r : TestRecord} {at' : Time64} (hp : s.powered = true) (hrec : s.test.record = some r)
    (hquick : r.quickOk = true) (hexp : s.test.expired = false) :
    Completes (.selftestRecordAge at') s (fun t =>
      if (atTime at' s).recordOld r then t.test.expired = true ∧ t.test.sliceMode = true ∧ t.test.swept = [] ∧ t.test.record = some r
      else t = { s with time := { s.time with now := at' } }) := by
  generalize hold : (atTime at' s).recordOld r = old
  refine completes_of_keeps (f := fun s => if s.powered then judgeAge (atTime at' s) else s) rfl _
    ((if_pos hp).trans (judgeAge_eq (s := atTime at' s) hrec hquick hexp hold)) ?_ ?_ <;> cases old
  · exact ⟨rfl, rfl, rfl⟩
  · exact ⟨rfl, rfl, rfl⟩
  · rfl
  · exact ⟨rfl, rfl, rfl, hrec⟩

/-! ## Test patterns end (R84, R208) -/

/-- A fold over a range keeps what each of its steps carries on. -/
theorem foldl_range {α : Type} {f : α → Nat → α} {P : Nat → α → Prop} {a : α} {n : Nat} (h0 : P 0 a)
    (hstep : ∀ k b, k < n → P k b → P (k + 1) (f b k)) : P n ((List.range n).foldl f a) := by
  induction n with
  | zero => exact h0
  | succ n ih =>
    rw [List.range_succ, List.foldl_append]
    exact hstep n _ (Nat.lt_succ_self n) (ih fun k b hk => hstep k b (Nat.lt_succ_of_lt hk))

/-- Two states differ at most in the ports and the events. -/
def OnlyPorts (s t : State) : Prop :=
  t = { s with dp := t.dp, eth := t.eth, events := t.events, time := { s.time with now := t.time.now }, out := t.out, twin := t.twin }

theorem OnlyPorts.refl (s : State) : OnlyPorts s s := rfl

theorem OnlyPorts.trans {s t u : State} (h : OnlyPorts s t) (h' : OnlyPorts t u) : OnlyPorts s u := by
  unfold OnlyPorts at *; rw [h', h]

theorem OnlyPorts.get {β : Type} (p : State → β) {s t : State} (h : OnlyPorts s t) :
    p t = p { s with dp := t.dp, eth := t.eth, events := t.events, time := { s.time with now := t.time.now }, out := t.out, twin := t.twin } :=
  congrArg p h

theorem OnlyEvents.onlyPorts {s t : State} (h : OnlyEvents s t) : OnlyPorts s t := by
  unfold OnlyEvents OnlyPorts at *; rw [h]

/-- A pattern that ends leaves every other port as it is, and no head changes (R208). -/
theorem setDpPattern_ends (p : Nat) (s : State) :
    OnlyPorts s (setDpPattern p 0 [] s) ∧ (setDpPattern p 0 [] s).dp = (s.modDpPort p (fun d => { d with pattern := 0, custom := [] })).dp
    ∧ (setDpPattern p 0 [] s).eth = s.eth := by
  have hheads : ∀ (l : List Nat) (a : State), l.foldl (fun a h => if 0 = 0 then a else blankHead h a) a = a := by
    intro l a
    induction l with
    | nil => rfl
    | cons h l ih => exact ih
  unfold setDpPattern
  dsimp only
  rw [hheads]
  split
  · have honly := onlyEvents_raise .diagPatternDone [(1, 0), (1, p)] (s.modDpPort p (fun d => { d with pattern := 0, custom := [] }))
    exact ⟨OnlyPorts.trans (t := s.modDpPort p (fun d => { d with pattern := 0, custom := [] })) rfl honly.onlyPorts, honly.get State.dp, honly.get State.eth⟩
  · exact ⟨rfl, rfl, rfl⟩

theorem setEthPrbs_ends (p : Nat) (s : State) :
    OnlyPorts s (setEthPrbs p none s) ∧ (setEthPrbs p none s).eth = (s.modEthPort p (fun e => { e with prbs := none })).eth
    ∧ (setEthPrbs p none s).dp = s.dp := by
  unfold setEthPrbs
  dsimp only
  split
  · have honly := onlyEvents_raise .diagPatternDone [(1, 1), (1, p)] (s.modEthPort p (fun e => { e with prbs := none }))
    exact ⟨OnlyPorts.trans (t := s.modEthPort p (fun e => { e with prbs := none })) rfl honly.onlyPorts, honly.get State.eth, honly.get State.dp⟩
  · exact ⟨rfl, rfl, rfl⟩

theorem endPatterns_spec (s : State) :
    OnlyPorts s (endPatterns s) ∧ (∀ p : Nat, p < 8 → ((endPatterns s).dpPort p).pattern = 0)
    ∧ ∀ p : Nat, p < 4 → ((endPatterns s).ethPort p).prbs = none := by
  unfold endPatterns
  dsimp only
  have hdp := foldl_range (f := fun a p => if (a.dpPort p).pattern = 0 then a else setDpPattern p 0 [] a) (a := s) (n := 8)
    (P := fun k a => OnlyPorts s a ∧ ∀ p : Nat, p < k → (a.dpPort p).pattern = 0)
    ⟨.refl s, fun _ h => absurd h (Nat.not_lt_zero _)⟩ (by
      intro k b _ ⟨honly, hdone⟩
      obtain ⟨honly', hset, -⟩ := setDpPattern_ends k b
      by_cases hk : (b.dpPort k).pattern = 0
      · rw [if_pos hk]
        refine ⟨honly, fun p hp => ?_⟩
        rcases Nat.lt_succ_iff_lt_or_eq.mp hp with hlt | rfl
        · exact hdone p hlt
        · exact hk
      · rw [if_neg hk]
        refine ⟨honly.trans honly', fun p hp => ?_⟩
        rw [show (setDpPattern k 0 [] b).dpPort p = (b.modDpPort k (fun d => { d with pattern := 0, custom := [] })).dpPort p from
          congrArg (fun l => tget dpInit l p) hset]
        rcases Nat.lt_succ_iff_lt_or_eq.mp hp with hlt | rfl
        · rw [modDpPort_eq, dpPort_setDpPort_ne _ _ _ (Nat.ne_of_lt hlt)]
          exact hdone p hlt
        · rw [modDpPort_eq, dpPort_setDpPort])
  obtain ⟨honly, hpattern⟩ := hdp
  generalize (List.range 8).foldl (fun a p => if (a.dpPort p).pattern = 0 then a else setDpPattern p 0 [] a) s = t at *
  have heth := foldl_range (f := fun a p => if (a.ethPort p).prbs.isSome then setEthPrbs p none a else a) (a := t) (n := 4)
    (P := fun k a => OnlyPorts s a ∧ a.dp = t.dp ∧ ∀ p : Nat, p < k → (a.ethPort p).prbs = none)
    ⟨honly, rfl, fun _ h => absurd h (Nat.not_lt_zero _)⟩ (by
      intro k b _ ⟨honly, hsame, hdone⟩
      obtain ⟨honly', hset, hdp⟩ := setEthPrbs_ends k b
      by_cases hk : (b.ethPort k).prbs.isSome = true
      · rw [if_pos hk]
        refine ⟨honly.trans honly', hdp.trans hsame, fun p hp => ?_⟩
        rw [show (setEthPrbs k none b).ethPort p = (b.modEthPort k (fun e => { e with prbs := none })).ethPort p from
          congrArg (fun l => tget ethInit l p) hset]
        rcases Nat.lt_succ_iff_lt_or_eq.mp hp with hlt | rfl
        · rw [modEthPort_eq, ethPort_setEthPort_ne _ _ _ (Nat.ne_of_lt hlt)]
          exact hdone p hlt
        · rw [modEthPort_eq, ethPort_setEthPort]
      · rw [if_neg hk]
        refine ⟨honly, hsame, fun p hp => ?_⟩
        rcases Nat.lt_succ_iff_lt_or_eq.mp hp with hlt | rfl
        · exact hdone p hlt
        · exact Option.not_isSome_iff_eq_none.mp hk)
  obtain ⟨honly', hsame, hprbs⟩ := heth
  exact ⟨honly', fun p hp => (congrArg (fun l => (tget dpInit l p).pattern) hsame).trans (hpattern p hp), hprbs⟩

/-! ## The end of a SERVICE token (R426) -/

/-- Two states differ at most in the command interface, but not in the accepted commands, and in the events. -/
def OnlyAnswers (s t : State) : Prop :=
  t = { s with cmd := t.cmd, events := t.events, time := { s.time with now := t.time.now }, out := t.out, twin := t.twin }
  ∧ t.cmd.accepted = s.cmd.accepted

theorem OnlyAnswers.refl (s : State) : OnlyAnswers s s := ⟨rfl, rfl⟩

theorem OnlyAnswers.trans {s t u : State} (h : OnlyAnswers s t) (h' : OnlyAnswers t u) : OnlyAnswers s u := by
  obtain ⟨heq, hacc⟩ := h
  obtain ⟨heq', hacc'⟩ := h'
  exact ⟨by rw [heq', heq], hacc'.trans hacc⟩

theorem OnlyAnswers.get {β : Type} (p : State → β) {s t : State} (h : OnlyAnswers s t) :
    p t = p { s with cmd := t.cmd, events := t.events, time := { s.time with now := t.time.now }, out := t.out, twin := t.twin } :=
  congrArg p h.1

theorem OnlyEvents.onlyAnswers {s t : State} (h : OnlyEvents s t) : OnlyAnswers s t := by
  refine ⟨?_, h.get (·.cmd.accepted)⟩
  unfold OnlyEvents at h
  rw [h]

theorem onlyAnswers_answer (h : CmdHdr) (op tick : Nat) (st : Status) (d : Nat) (res : Bytes) (s : State) :
    OnlyAnswers s (answer h op tick st d res s) := by
  obtain ⟨hform, hacc, -⟩ := answer_frame h op tick st d res s
  refine ⟨?_, hacc⟩
  rw [hform]

/-- A command that ends without its effect has its answer or its event (R363). -/
theorem onlyAnswers_failReply (a : Accepted) (tick : Nat) (st : Status) (d : Nat) (s : State) : OnlyAnswers s (failReply a tick st d s) := by
  unfold failReply
  split
  · exact (onlyEvents_raise ..).onlyAnswers
  · exact onlyAnswers_answer ..

theorem failService_spec (s : State) :
    OnlyAnswers { s with cmd := { s.cmd with accepted := s.cmd.accepted.filter (fun a => !serviceOnly a.cmd) } } (failService s) := by
  unfold failService
  rw [List.partition_eq_filter_filter]
  exact foldl_rel OnlyAnswers.refl OnlyAnswers.trans (fun b a => onlyAnswers_failReply ..) _ _

/-- SERVICE is volatile: what comes after it writes no record (R414, log 38). -/
theorem toLife_of_service (new : LifeState) {s : State} (h : s.life.state = .service) :
    toLife new s = raise .lifecycleChange [(1, s.life.state.code), (1, new.code)] { s with life := { s.life with state := new } } := by
  unfold toLife
  dsimp only
  rw [decide_eq_true h, Bool.or_true, if_pos rfl]

/-- The part is in FIELD, without a command that only SERVICE permits, and with no pattern running (R426, log 31). -/
theorem leaveService_spec {s : State} (hs : s.life.state = .service) :
    KeepsFrame s (leaveService s) ∧ (leaveService s).life = { s.life with serviceEnd := none, state := .field }
    ∧ (∀ a ∈ (leaveService s).cmd.accepted, serviceOnly a.cmd = false) ∧ (∀ p : Nat, p < 8 → ((leaveService s).dpPort p).pattern = 0)
    ∧ (∀ p : Nat, p < 4 → ((leaveService s).ethPort p).prbs = none) ∧ (leaveService s).cfg = s.cfg := by
  have hlife : toLife .field { s with life := { s.life with serviceEnd := none } }
      = raise .lifecycleChange [(1, s.life.state.code), (1, LifeState.field.code)]
          { s with life := { s.life with serviceEnd := none, state := .field } } :=
    toLife_of_service .field (s := { s with life := { s.life with serviceEnd := none } }) hs
  have hraise := onlyEvents_raise .lifecycleChange [(1, s.life.state.code), (1, LifeState.field.code)]
    { s with life := { s.life with serviceEnd := none, state := .field } }
  unfold leaveService
  rw [hlife]
  generalize raise .lifecycleChange [(1, s.life.state.code), (1, LifeState.field.code)]
    { s with life := { s.life with serviceEnd := none, state := .field } } = u1 at hraise ⊢
  have hfail := failService_spec u1
  generalize failService u1 = u2 at hfail ⊢
  have hstop : OnlyRecords u2 (abandonRun u2) :=
    .trans (t := { u2 with test := { u2.test with run := u2.test.run.map (fun r => if r.source = 3 then { r with abandoned := true } else r) } })
      rfl (onlyRecords_settleSweep _)
  generalize abandonRun u2 = u3 at hstop ⊢
  obtain ⟨hend, hdp, heth⟩ := endPatterns_spec u3
  generalize endPatterns u3 = u4 at hend hdp heth ⊢
  refine ⟨⟨?_, ?_, ?_⟩, ?_, fun a ha => ?_, hdp, heth, ?_⟩
  · rw [hend.get State.pending, hstop.get State.pending, hfail.get State.pending, hraise.get State.pending]
  · rw [hend.get State.seatB, hstop.get State.seatB, hfail.get State.seatB, hraise.get State.seatB]
  · rw [hend.get State.dram, hstop.get State.dram, hfail.get State.dram, hraise.get State.dram]
  · rw [hend.get State.life, hstop.get State.life, hfail.get State.life, hraise.get State.life]
  · rw [hend.get State.cmd, hstop.get State.cmd, hfail.2] at ha
    simpa using (List.mem_filter.mp ha).2
  · rw [hend.get State.cfg, hstop.get State.cfg, hfail.get State.cfg, hraise.get State.cfg]

theorem serviceTokenExpiry_completes {s : State} {e at' : Time64} (hs : s.life.state = .service) (he : s.life.serviceEnd = some e)
    (hp : s.powered = true) (hf : s.mem.fatal = false) (hdue : e ≤ at') :
    Completes (.serviceTokenExpiry at') s (fun t =>
      t.life.state = .field ∧ t.life.serviceEnd = none ∧ (∀ a ∈ t.cmd.accepted, serviceOnly a.cmd = false)
      ∧ (∀ p : Nat, p < 8 → (t.dpPort p).pattern = 0) ∧ (∀ p : Nat, p < 4 → (t.ethPort p).prbs = none) ∧ t.cfg = s.cfg) := by
  have hgo : (s.powered && !s.mem.fatal && decide (e ≤ at')) = true := by rw [hp, hf, decide_eq_true hdue]; rfl
  have hexec : exec (.serviceTokenExpiry at') s = act (fun s => leaveService (atTime at' s)) s := by
    change execServiceTokenExpiry at' s = _
    unfold execServiceTokenExpiry
    refine act_congr ?_
    rw [hs, he]
    exact if_pos hgo
  obtain ⟨hk, hlife, hacc, hdp, heth, hcfg⟩ := leaveService_spec (s := atTime at' s) hs
  exact completes_of_keeps hexec _ rfl (.trans ⟨rfl, rfl, rfl⟩ hk)
    ⟨congrArg Life.state hlife, congrArg Life.serviceEnd hlife, hacc, hdp, heth, hcfg⟩

/-- Settles O52. -/
theorem selfTestAndService : Obligations.SelfTestAndService :=
  ⟨fun _ _ _ _ hp => selftestPrecondCheck_completes hp, fun _ _ _ _ ha hr hleft => selftestSlice_completes ha hr hleft,
    fun _ _ _ hp hrec hquick hexp => selftestRecordAge_completes hp hrec hquick hexp,
    fun _ _ _ hs he hp hf hdue => serviceTokenExpiry_completes hs he hp hf hdue⟩

end Sys2Proof.Machine
end

section
/-! RESET_N and PWR_GOOD (R398, R405). -/
namespace Sys2Proof.Machine

/-! ## Outputs that are idle -/

/-- A head is taken out of operation (R398, R405, R413). -/
def idleHead (a : State) (h : Nat) : State := blankHead h (a.modHead h (fun d => { d with running := false }))

theorem onlyHead_idleHead (a : State) (h : Nat) : OnlyHead h a (idleHead a h) := (onlyHead_modHead ..).trans (onlyHead_blankHead ..)

theorem head_idleHead (a : State) (h : Nat) : ((idleHead a h).head h).running = false ∧ ((idleHead a h).head h).live = false := by
  obtain ⟨px, tl, hi, hblank⟩ := head_blankHead h (a.modHead h (fun d => { d with running := false }))
  unfold idleHead
  rw [hblank, head_modHead]
  exact ⟨rfl, rfl⟩

theorem outputsIdle_spec (s : State) :
    OnlyHeads s (outputsIdle s) ∧ ∀ h : Nat, h < 32 → ((outputsIdle s).head h).running = false ∧ ((outputsIdle s).head h).live = false := by
  obtain ⟨honly, -, hdone⟩ := foldl_heads onlyHead_idleHead s 32
  refine ⟨honly.trans (onlyHeads_settlePins _), fun h hh => ?_⟩
  obtain ⟨a, -, -, hhead⟩ := hdone h hh
  change ((settlePins ((List.range 32).foldl idleHead s)).head h).running = false
    ∧ ((settlePins ((List.range 32).foldl idleHead s)).head h).live = false
  rw [head_settlePins, hhead]
  exact head_idleHead a h

/-- What the fall of RESET_N notes (R405, R413). -/
def heldLow (t : Time64) (s : State) : State :=
  { s with power := { s.power with phase := .held, resetLow := true, resetFallT := t, thermtrip := false, flashQ := [] } }

theorem resetNFall_completes {s : State} {at' : Time64} (hhigh : s.power.resetLow = false) (htrip : s.power.thermtrip = true → s.power.tj < 1520) :
    Completes (.resetNFall at') s (fun t =>
      t.power.phase = .held ∧ t.power.resetLow = true ∧ t.power.resetFallT = at' ∧ t.power.thermtrip = false ∧ t.power.flashQ = []
      ∧ (∀ h : Nat, h < 32 → (t.head h).running = false ∧ (t.head h).live = false) ∧ t.cfg = s.cfg ∧ t.life = s.life) := by
  have hgo : (s.power.resetLow || (s.power.thermtrip && decide (1520 ≤ s.power.tj))) = false := by
    rw [hhigh, Bool.false_or, Bool.and_eq_false_iff, decide_eq_false_iff_not]
    cases ht : s.power.thermtrip with
    | false => exact .inl rfl
    | true => exact .inr (Int.not_le.mpr (htrip ht))
  have hexec : exec (.resetNFall at') s = act (fun s =>
      outputsIdle (heldLow at' (if s.power.thermtrip then emit (.thermtrip false) s else s))) s := by
    change execResetNFall at' s = _
    unfold execResetNFall
    exact act_congr (if_neg (Bool.eq_false_iff.mp hgo))
  obtain ⟨honly, hheads⟩ := outputsIdle_spec (heldLow at' (if s.power.thermtrip then emit (.thermtrip false) s else s))
  have hsame : ∀ {β : Type} (p : State → β), p (emit (.thermtrip false) s) = p s →
      p (if s.power.thermtrip then emit (.thermtrip false) s else s) = p s := by
    intro β p hp
    split
    · exact hp
    · rfl
  refine completes_of_keeps hexec _ rfl
    ⟨(honly.get State.pending).trans (hsame State.pending rfl), (honly.get State.seatB).trans (hsame State.seatB rfl),
      (honly.get State.dram).trans (hsame State.dram rfl)⟩
    ⟨?_, ?_, ?_, ?_, ?_, hheads, (honly.get State.cfg).trans (hsame State.cfg rfl), (honly.get State.life).trans (hsame State.life rfl)⟩ <;>
    rw [honly.get State.power] <;> rfl

theorem pwrGoodFall_completes {s : State} {at' : Time64} (hhigh : s.power.resetLow = false) :
    Completes (.pwrGoodFall at') s (fun t =>
      t.power.phase = .supplyLost ∧ t.power.pwrGood = false
      ∧ (∀ h : Nat, h < 32 → (t.head h).running = false ∧ (t.head h).live = false) ∧ t.cfg = s.cfg) := by
  have hgo : ¬ s.power.resetLow = true := Bool.eq_false_iff.mp hhigh
  obtain ⟨honly, hheads⟩ := outputsIdle_spec { (atTime at' s) with power := { s.power with pwrGood := false, phase := .supplyLost } }
  refine completes_of_keeps (f := fun s =>
    if s.power.resetLow then { (atTime at' s) with power := { s.power with pwrGood := false } }
    else outputsIdle { (atTime at' s) with power := { s.power with pwrGood := false, phase := .supplyLost } }) rfl _ (if_neg hgo)
    ⟨honly.get State.pending, honly.get State.seatB, honly.get State.dram⟩ ⟨?_, ?_, hheads, honly.get State.cfg⟩ <;>
    rw [honly.get State.power]

/-- Settles O48. -/
theorem resetAndSupply : Obligations.ResetAndSupply := by
  refine ⟨fun s at' hhigh htrip => resetNFall_completes hhigh htrip, fun s r hlow hlong => ?_, fun s r hshort => ?_,
    fun s at' hhigh => pwrGoodFall_completes hhigh, fun s at' hlow => ?_⟩
  · have hgo : (s.power.resetLow && decide (s.power.resetFallT + 10000 ≤ r.at')) = true := by rw [hlow, decide_eq_true hlong]; rfl
    exact ⟨_, if_pos hgo, rfl, rfl, rfl, rfl, rfl, rfl, rfl, rfl, rfl, rfl, rfl, rfl, rfl, rfl, rfl⟩
  · have hno : (s.power.resetLow && decide (s.power.resetFallT + 10000 ≤ r.at')) = false := by
      rw [decide_eq_false (Nat.not_le.mpr hshort), Bool.and_false]
    exact ⟨s, if_neg (Bool.eq_false_iff.mp hno), rfl⟩
  · exact completes_of_keeps (f := fun s =>
      if s.power.resetLow then { (atTime at' s) with power := { s.power with pwrGood := false } }
      else outputsIdle { (atTime at' s) with power := { s.power with pwrGood := false, phase := .supplyLost } }) rfl _ (if_pos hlow)
      ⟨rfl, rfl, rfl⟩ rfl

end Sys2Proof.Machine
end

section
/-! The steps of the start and the stages of the shutdown (R399, R400, R403). -/
namespace Sys2Proof.Machine

/-! ## The start -/

/-- The state in which a step of the start is taken: the counter runs from step 4 on, or in a warm restart from the first (R399). -/
def startState (k : Nat) (t : Time64) (s : State) : State := if s.power.warm || 3 < k then atTime t s else s

theorem startState_same {β : Type} (p : State → β) {k : Nat} {t : Time64} {s : State} (h : p (atTime t s) = p s) : p (startState k t s) = p s := by
  unfold startState
  split
  · exact h
  · rfl

/-- Step `k` of the start (R399, R400). -/
def startStep (k : Nat) (ok : Bool) (o : Option SelftestOutcome) (s : State) : State :=
  match k with
  | 0 => startChecks ok o s
  | 1 => toStep 2 s
  | 2 => toStep 3 (startDram s)
  | 3 => toStep 4 (bootFirmware s)
  | 9 => toStep 10 (startSaved s)
  | 10 => startReady s
  | j => toStep (j + 1) s

theorem exec_startStep {s : State} {k : Nat} {ok : Bool} {o : Option SelftestOutcome} {t : Time64} (hk : s.power.phase = .starting k) :
    exec (.startSequenceStep ok o t) s = act (fun s => startStep k ok o (startState k t s)) s := by
  change execStartSequenceStep ok o t s = _
  unfold execStartSequenceStep
  refine act_congr ?_
  dsimp only
  rw [hk]
  rfl

theorem freeBytes_spec (n : Nat) (s : State) : (freeBytes n s).1.length = n ∧ ∃ k, (freeBytes n s).2 = { s with free := k } := by
  induction n generalizing s with
  | zero => exact ⟨rfl, s.free, rfl⟩
  | succ n ih =>
    obtain ⟨hlen, k, hstate⟩ := ih (freeBelow 256 s).2
    exact ⟨congrArg (· + 1) hlen, k, hstate⟩

theorem drawChallenge_spec (s : State) :
    (drawChallenge s).life.challenge.length = 16
    ∧ ∃ k c, drawChallenge s = { s with free := k, life := { s.life with challenge := c } } := by
  obtain ⟨hlen, k, hstate⟩ := freeBytes_spec 16 s
  unfold drawChallenge
  dsimp only
  rw [hstate]
  exact ⟨hlen, k, _, rfl⟩

/-- The checks before step 1 of a part that is not too hot (R400, R413, R427). -/
theorem startChecks_cool {s : State} (hrun : s.test.run = none) :
    ∃ u : State, startChecks true none s = (if s.fullTest then beginRun 1 allRegions 0 none u else toStep 1 u)
      ∧ u.life.challenge.length = 16 ∧ u.power.phase = s.power.phase ∧ u.test.run = none := by
  have hdraw : ∀ v : State, v.test = s.test → v.power.phase = s.power.phase → v.power.startT = s.power.startT → v.time = s.time → v.life = s.life →
      (drawChallenge v).fullTest = s.fullTest ∧ (drawChallenge v).life.challenge.length = 16
      ∧ (drawChallenge v).power.phase = s.power.phase ∧ (drawChallenge v).test.run = none := by
    intro v htest hphase hstart htime hlife
    obtain ⟨hlen, k, c, hv⟩ := drawChallenge_spec v
    refine ⟨?_, hlen, by rw [hv]; exact hphase, by rw [hv]; exact (congrArg SelfTest.run htest).trans hrun⟩
    rw [hv]
    unfold State.fullTest State.recordValid State.recordOld State.onNow
    dsimp only
    rw [htest, htime, hlife, hstart]
  unfold startChecks
  rw [hrun]
  dsimp only
  rw [if_neg (show ¬ (!true) = true from Bool.false_ne_true)]
  by_cases hlatch : s.power.thermtrip = true
  · rw [if_pos hlatch]
    obtain ⟨hfull, hlen, hphase, hnone⟩ :=
      hdraw (emit (.avsSet s.power.vAvs) (emit (.thermtrip false) { s with power := { s.power with thermtrip := false } })) rfl rfl rfl rfl rfl
    exact ⟨_, ite_congr (congrArg (· = true) hfull) (fun _ => rfl) (fun _ => rfl), hlen, hphase, hnone⟩
  · rw [if_neg hlatch]
    obtain ⟨hfull, hlen, hphase, hnone⟩ := hdraw (emit (.avsSet s.power.vAvs) s) rfl rfl rfl rfl rfl
    exact ⟨_, ite_congr (congrArg (· = true) hfull) (fun _ => rfl) (fun _ => rfl), hlen, hphase, hnone⟩

/-- A part that is too hot asserts THERMTRIP_N and stays before step 1 (R413). -/
theorem startChecks_hot {s : State} (hrun : s.test.run = none) :
    (startChecks false none s).power = { s.power with thermtrip := true } := by
  unfold startChecks
  rw [hrun]
  dsimp only
  rw [if_pos (show (!false) = true from rfl)]
  split
  · next h => rw [← h]
  · rfl

theorem startStep_phase {k : Nat} (h1 : 1 ≤ k) (h9 : k ≤ 9) (ok : Bool) (o : Option SelftestOutcome) (s : State) :
    (startStep k ok o s).power.phase = .starting (k + 1)
    ∧ (k = 2 → (startStep k ok o s).mem.fsp = 0 ∧ (startStep k ok o s).mem.outage = false) := by
  unfold startStep
  split
  · omega
  · exact ⟨rfl, fun h => by omega⟩
  · exact ⟨rfl, fun _ => ⟨rfl, rfl⟩⟩
  · exact ⟨rfl, fun h => by omega⟩
  · exact ⟨rfl, fun h => by omega⟩
  · omega
  · next j _ h2 _ _ _ => exact ⟨rfl, fun h => absurd h h2⟩

theorem lanesUp_twin (s : State) : ∃ w, lanesUp s = { s with twin := w } ∧ w.mode = s.twin.mode := by
  unfold lanesUp
  split
  · exact ⟨_, rfl, rfl⟩
  · split
    · exact ⟨s.twin, rfl, rfl⟩
    · exact ⟨_, rfl, rfl⟩

/-- The state at READY, before the lanes come up (R400). -/
def readied (s : State) : State :=
  { s with
    cmd := { s.cmd with ready := true }
    power := { s.power with phase := .running, restartHdr := none
                            startSnap := s.startConfig.map (fun p => (s.grid.firstDecision (s.time.now + 20000), p)) } }

/-- TWIN_LANE_ENABLE of the configuration that a start takes up (R400). -/
def startLanes (s : State) : Nat :=
  match s.startConfig with
  | some p => pv p.cfg pTwinLaneEnable 0
  | none => pv cfgInit pTwinLaneEnable 0

/-- The state at READY, with its lanes. -/
def linked (s : State) : State := if startLanes s = 0 then readied s else lanesUp (readied s)

theorem startDone_spec {s u : State} (hphase : u.power.phase = .running) (hcmd : u.cmd.ready = true) (hlife : u.life = s.life)
    (hmode : u.twin.mode = s.twin.mode) (t : Time64) (tag : Option Nat) :
    (raiseAt t .startDone tag [] (raiseMinimum u)).power.phase = .running
    ∧ (raiseAt t .startDone tag [] (raiseMinimum u)).cmd.ready = true
    ∧ (raiseAt t .startDone tag [] (raiseMinimum u)).life.minVersion = max s.life.minVersion s.secVersion
    ∧ s.raised (raiseAt t .startDone tag [] (raiseMinimum u)) .startDone tag [] := by
  have honly := onlyEvents_raiseAt t .startDone tag [] (raiseMinimum u)
  refine ⟨(honly.get (·.power.phase)).trans hphase, (honly.get (·.cmd.ready)).trans hcmd, (honly.get (·.life.minVersion)).trans ?_,
    raised_raiseAt t .startDone tag [] s (raiseMinimum u) (congrArg (· == TwinMode.hot) hmode)⟩
  change max u.life.minVersion u.secVersion = _
  unfold State.secVersion
  rw [hlife]

/-- READY (R400, R430). -/
theorem startReady_spec (s : State) :
    (startReady s).power.phase = .running ∧ (startReady s).cmd.ready = true
    ∧ (startReady s).life.minVersion = max s.life.minVersion s.secVersion
    ∧ s.raised (startReady s) .startDone (s.power.restartHdr.map (fun h => h.1.tag)) [] := by
  rw [show startReady s = raiseAt (linked s).time.now .startDone (s.power.restartHdr.map (fun h => h.1.tag)) [] (raiseMinimum (linked s)) from rfl]
  unfold linked
  split
  · exact startDone_spec (s := s) (u := readied s) rfl rfl rfl rfl ..
  · obtain ⟨w, hup, hmode⟩ := lanesUp_twin (readied s)
    rw [hup]
    exact startDone_spec (s := s) (u := { readied s with twin := w }) rfl rfl rfl hmode ..

/-! ## The shutdown -/

/-- A shutdown's stage `k` (R403). -/
def shutdownStage (k : Nat) (o : Option SelftestOutcome) (s s1 : State) : State :=
  match k with
  | 0 => toStage 1 (stopPictures s1)
  | 1 => toStage 2 (stopPorts s1)
  | 2 => toStage 3 (beginShutdownTest (shutdownWrites s1))
  | 3 => match s1.test.run, o with
    | none, _ => toStage 4 s1
    | some _, some o => toStage 4 (finishRun o s1)
    | some _, none => s
  | _ => finishShutdown s1

theorem exec_shutdownStep {s : State} {k : Nat} {o : Option SelftestOutcome} {t : Time64} (hk : s.power.phase = .stopping k) :
    exec (.shutdownStep o t) s = act (fun s => shutdownStage k o s (atTime t s)) s := by
  change execShutdownStep o t s = _
  unfold execShutdownStep
  refine act_congr ?_
  rw [hk]
  rfl

theorem tget_map {α β : Type} (f : α → β) (d : α) (t : Table α) (i : Nat) : tget (f d) (t.map (fun e => (e.1, f e.2))) i = f (tget d t i) := by
  induction t with
  | nil => rfl
  | cons e t ih =>
    obtain ⟨j, v⟩ := e
    by_cases h : i = j
    · exact (if_pos h).trans (congrArg f (if_pos h).symm)
    · exact (if_neg h).trans (ih.trans (congrArg f (if_neg h).symm))

/-- Heads that are off show nothing (R403). -/
theorem heads_off (t : Table Head) (h : Nat) :
    (tget headInit (t.map (fun (e : Nat × Head) => (e.1, headOff e.2))) h).running = false
    ∧ (tget headInit (t.map (fun (e : Nat × Head) => (e.1, headOff e.2))) h).live = false := by
  rw [show headInit = headOff headInit from rfl, tget_map]
  exact ⟨rfl, rfl⟩

/-- The picture path off, before the LIVE pins settle (R403). -/
def picturesOff (s : State) : State :=
  { s with
    streams := s.streams.map (fun (e : Nat × Stream) => (e.1, { streamInit with cnt := e.2.cnt }))
    lanes := []
    heads := s.heads.map (fun (e : Nat × Head) => (e.1, headOff e.2))
    enc := s.enc.map (fun (e : Nat × Session) => (e.1, { sessionInit with cnt := e.2.cnt })) }

theorem stopPictures_eq (s : State) : ∃ u, stopPictures s = settlePins (picturesOff u) := by
  unfold stopPictures picturesOff
  dsimp only
  generalize (List.range 4).foldl _ s = s1
  exact ⟨s1, rfl⟩

theorem stopPictures_spec (s : State) :
    (stopPictures s).lanes = [] ∧ ∀ h : Nat, ((stopPictures s).head h).running = false ∧ ((stopPictures s).head h).live = false := by
  obtain ⟨u, hu⟩ := stopPictures_eq s
  rw [hu]
  refine ⟨(onlyHeads_settlePins (picturesOff u)).get State.lanes, fun h => ?_⟩
  rw [head_settlePins]
  exact heads_off u.heads h

theorem stopPorts_spec (s : State) (p : Nat) : ((stopPorts s).dpPort p).trained = false := by
  unfold stopPorts State.dpPort
  dsimp only
  generalize endPatterns s = s1
  rw [show dpInit = dpOff dpInit from rfl, tget_map]
  rfl

/-- What the writes of the shutdown leave alone (R403, R414): the run of a test, and the shutdown's mode. -/
def KeepsShutdown (s t : State) : Prop := t.test.run = s.test.run ∧ t.power.shutMode = s.power.shutMode

theorem KeepsShutdown.trans {s t u : State} (h : KeepsShutdown s t) (h' : KeepsShutdown t u) : KeepsShutdown s u :=
  ⟨h'.1.trans h.1, h'.2.trans h.2⟩

theorem keepsShutdown_flashStore (r : FlashRec) (s : State) : KeepsShutdown s (flashStore r s) := by
  have hsaid : ∀ (p : List (Nat × Nat)) (q : List FlashRec),
      KeepsShutdown s (raise .flashQueued p { s with power := { s.power with flashQ := q } }) :=
    fun p q => ⟨(onlyEvents_raise ..).get (·.test.run), (onlyEvents_raise ..).get (·.power.shutMode)⟩
  unfold flashStore
  split
  · exact ⟨rfl, rfl⟩
  · split
    · cases r <;> exact ⟨rfl, rfl⟩
    · unfold flashQueue
      dsimp only
      split
      · exact hsaid ..
      · split
        · exact hsaid ..
        · exact hsaid _ s.power.flashQ

/-- The snapshot of a shutdown is written, or stays in its COLD region (R414). -/
def shutdownSnapshot (s : State) : State :=
  match (lastSnapshot s).power.cfgCold with
  | some p => if (lastSnapshot s).flashAllowed && (lastSnapshot s).flashWindow then putConfig p (lastSnapshot s)
    else flashStore (.counters (lastSnapshot s).onNow) (lastSnapshot s)
  | none => lastSnapshot s

theorem keepsShutdown_writes (s : State) : KeepsShutdown s (shutdownWrites s) := by
  have hlast : KeepsShutdown s (lastSnapshot s) := ⟨rfl, rfl⟩
  have hput : ∀ (p : Snapshot) (a : State), KeepsShutdown a (putConfig p a) := fun p a =>
    .trans (t := emit (.flashWrite 5 (Config.snapshotBytes p).length)
      { a with power := { a.power with cfgSaved := some p, cfgSavedT := some a.time.now, cfgDirty := false } }) ⟨rfl, rfl⟩
      (keepsShutdown_flashStore ..)
  have hone : KeepsShutdown s (shutdownSnapshot s) := by
    unfold shutdownSnapshot
    split
    · split
      · exact hlast.trans (hput ..)
      · exact hlast.trans (keepsShutdown_flashStore ..)
    · exact hlast
  change KeepsShutdown s (if (shutdownSnapshot s).touch.running then flashStore (.touch (savedBase (shutdownSnapshot s))) (shutdownSnapshot s)
    else shutdownSnapshot s)
  split
  · exact hone.trans (keepsShutdown_flashStore ..)
  · exact hone

theorem beginShutdownTest_spec (s : State) :
    (s.power.shutMode = 0 → (beginShutdownTest s).test.run.isSome = true) ∧ (s.power.shutMode ≠ 0 → (beginShutdownTest s).test.run = s.test.run) := by
  unfold beginShutdownTest
  by_cases hm : s.power.shutMode = 0
  · rw [hm]
    exact ⟨fun _ => rfl, fun h => absurd rfl h⟩
  · rw [if_pos (bne_iff_ne.mpr hm)]
    exact ⟨fun h => absurd h hm, fun _ => rfl⟩

theorem onlyAnswers_answerSwitch (w : Switch) (st : Status) (s : State) : OnlyAnswers s (answerSwitch w st s) := by
  unfold answerSwitch
  split
  · exact onlyAnswers_answer ..
  · exact .refl s

/-- The units that go off answer what they still hold (R403). -/
theorem failUnits_spec (s : State) :
    (failUnits s).power = s.power ∧ (failUnits s).twin.mode = s.twin.mode := by
  have hmode : ∀ {a b : State}, OnlyAnswers a b ∧ b.twin.mode = a.twin.mode → ∀ {c : State}, OnlyAnswers b c ∧ c.twin.mode = b.twin.mode →
      OnlyAnswers a c ∧ c.twin.mode = a.twin.mode := fun h _ h' => ⟨h.1.trans h'.1, h'.2.trans h.2⟩
  have hanswer : ∀ (h : CmdHdr) (op tick : Nat) (st : Status) (d : Nat) (res : Bytes) (a : State),
      OnlyAnswers a (answer h op tick st d res a) ∧ (answer h op tick st d res a).twin.mode = a.twin.mode :=
    fun h op tick st d res a => ⟨onlyAnswers_answer .., by rw [(answer_frame ..).1]⟩
  have hswitch : ∀ (a : State) (w : Switch), OnlyAnswers a (answerSwitch w (.fail 0) a) ∧ (answerSwitch w (.fail 0) a).twin.mode = a.twin.mode := by
    intro a w
    unfold answerSwitch
    split
    · exact hanswer ..
    · exact ⟨.refl a, rfl⟩
  have hchecks := fun l => foldl_rel (R := fun a b => OnlyAnswers a b ∧ b.twin.mode = a.twin.mode) (fun a => ⟨.refl a, rfl⟩)
    (fun h h' => hmode h h') (f := fun a q => cuReply q (.fail 0) [] a) (fun a q => hanswer ..) l s
  have hswitches := fun a l => foldl_rel (R := fun a b => OnlyAnswers a b ∧ b.twin.mode = a.twin.mode) (fun a => ⟨.refl a, rfl⟩)
    (fun h h' => hmode h h') (f := fun a w => answerSwitch w (.fail 0) a) hswitch l a
  obtain ⟨honly, htwin⟩ := hmode (hchecks _) (hswitches _ _)
  exact ⟨honly.get State.power, htwin⟩

/-- The stopped device before SHUTDOWN_DONE (R403, R404). -/
def stopped (s : State) : State :=
  { unitsOff s with
    cfg := stoppedCfg (unitsOff s).cfg
    bufs := [], legends := [], coef := [], freeze := loadFreeze [] (unitsOff s).freeze, sources := [], evi := [], decRing := none
    mirror := none, recheckN := 0
    streams := (unitsOff s).streams.map (fun (e : Nat × Stream) => (e.1, { e.2 with ring := none }))
    touch := { touchInit with saved := (unitsOff s).touch.saved }
    eth := (unitsOff s).eth.map (fun (e : Nat × EthPort) => (e.1, { e.2 with link := false, prbs := none }))
    twin := { (unitsOff s).twin with linkOn := false, linkDown := false, linkAgain := false, lanes := [], verified := false, nonce := []
                                     peerNonce := [] }
    cmd := { (unitsOff s).cmd with ready := false }
    power := { (unitsOff s).power with phase := .stopped, shutHdr := none, startSnap := none } }

theorem stopped_spec (s : State) :
    (stopped s).power.phase = .stopped ∧ (stopped s).power.restartHdr = s.power.restartHdr ∧ (stopped s).cmd.ready = false
    ∧ (stopped s).panes = [] ∧ (stopped s).ledger = [] ∧ (stopped s).twin.mode = s.twin.mode := by
  have honly : OnlyHeads _ (unitsOff s) := onlyHeads_settlePins _
  exact ⟨rfl, honly.get (·.power.restartHdr), rfl, honly.get State.panes, honly.get State.ledger, honly.get (·.twin.mode)⟩

/-- Every unit is off (R403). -/
theorem finishShutdown_spec {s : State} (hr : s.power.restartHdr = none) :
    (finishShutdown s).power.phase = .stopped ∧ (finishShutdown s).cmd.ready = false ∧ (finishShutdown s).panes = []
    ∧ (finishShutdown s).ledger = [] ∧ s.raised (finishShutdown s) .shutdownDone (s.power.shutHdr.map (fun h => h.1.tag)) [] := by
  obtain ⟨hpower, hmode⟩ := failUnits_spec s
  obtain ⟨hphase, hrestart, hready, hpanes, hledger, hmode'⟩ := stopped_spec (failUnits s)
  have honly := onlyEvents_raiseAt (stopped (failUnits s)).time.now .shutdownDone (s.power.shutHdr.map (fun h => h.1.tag)) [] (stopped (failUnits s))
  have hraised := raised_raiseAt (stopped (failUnits s)).time.now .shutdownDone (s.power.shutHdr.map (fun h => h.1.tag)) [] s
    (stopped (failUnits s)) (congrArg (· == TwinMode.hot) (hmode'.trans hmode))
  have hnone : ¬ (raiseAt (stopped (failUnits s)).time.now .shutdownDone (s.power.shutHdr.map (fun h => h.1.tag)) []
      (stopped (failUnits s))).power.restartHdr.isSome = true := by
    rw [honly.get State.power, hrestart, hpower, hr]
    exact Bool.false_ne_true
  have hfinish : finishShutdown s = raiseAt (stopped (failUnits s)).time.now .shutdownDone (s.power.shutHdr.map (fun h => h.1.tag)) []
      (stopped (failUnits s)) := if_neg hnone
  rw [hfinish]
  exact ⟨(honly.get (·.power.phase)).trans hphase, (honly.get (·.cmd.ready)).trans hready, (honly.get State.panes).trans hpanes,
    (honly.get State.ledger).trans hledger, hraised⟩

/-- Settles O49. -/
theorem startAndShutdown : Obligations.StartAndShutdown := by
  refine ⟨fun s at' hk hrun hwarm => ?_, fun s at' hk hrun => ?_, fun s k ok o at' hk h1 h9 => ?_, fun s ok o at' hk => ?_,
    fun s o at' hk => ?_, fun s o at' hk => ?_, fun s o at' hk => ?_, fun s o at' hk hrun => ?_, fun s o at' hk hr => ?_⟩
  · have hstate : startState 0 at' s = s := by unfold startState; rw [hwarm]; rfl
    obtain ⟨u, hcool, hlen, hphase, hnone⟩ := startChecks_cool (s := startState 0 at' s) ((startState_same (·.test.run) rfl).trans hrun)
    rw [hstate] at hphase hcool
    refine completes_act (exec_startStep hk) _ ((congrArg (startChecks true none) hstate).trans hcool) ?_
    split
    · exact ⟨hlen, hphase.trans hk, rfl⟩
    · exact ⟨hlen, rfl, hnone⟩
  · have hhot := startChecks_hot ((startState_same (k := 0) (t := at') (·.test.run) rfl).trans hrun)
    refine completes_act (exec_startStep hk) _ rfl ?_
    change (startChecks false none (startState 0 at' s)).power.phase = _ ∧ (startChecks false none (startState 0 at' s)).power.thermtrip = true
    rw [hhot]
    exact ⟨(startState_same (·.power.phase) rfl).trans hk, rfl⟩
  · exact completes_act (exec_startStep hk) _ rfl (startStep_phase h1 h9 ..)
  · obtain ⟨hphase, hready, hmin, hraised⟩ := startReady_spec (atTime at' s)
    have hstate : startState 10 at' s = atTime at' s := by
      unfold startState
      rw [show decide (3 < 10) = true from rfl, Bool.or_true]
      rfl
    refine completes_act (exec_startStep hk) (startReady (atTime at' s)) (congrArg startReady hstate) ?_
    generalize startReady (atTime at' s) = u at *
    exact ⟨hphase, hready, hmin, raised_congr hraised rfl rfl⟩
  · have hoff := stopPictures_spec (atTime at' s)
    refine completes_act (exec_shutdownStep hk) (toStage 1 (stopPictures (atTime at' s))) rfl ?_
    generalize stopPictures (atTime at' s) = u at hoff ⊢
    exact ⟨rfl, hoff⟩
  · have hoff := stopPorts_spec (atTime at' s)
    refine completes_act (exec_shutdownStep hk) (toStage 2 (stopPorts (atTime at' s))) rfl ?_
    generalize stopPorts (atTime at' s) = u at hoff ⊢
    exact ⟨rfl, hoff⟩
  · obtain ⟨hrun, hmode⟩ := keepsShutdown_writes (atTime at' s)
    obtain ⟨hzero, hother⟩ := beginShutdownTest_spec (shutdownWrites (atTime at' s))
    refine completes_act (exec_shutdownStep hk) (toStage 3 (beginShutdownTest (shutdownWrites (atTime at' s)))) rfl ?_
    generalize beginShutdownTest (shutdownWrites (atTime at' s)) = u at hzero hother ⊢
    exact ⟨rfl, fun h => hzero (hmode.trans h), fun h => (hother (fun h' => h (hmode.symm.trans h'))).trans hrun⟩
  · refine completes_act (exec_shutdownStep hk) (toStage 4 (atTime at' s)) ?_ ⟨rfl, rfl⟩
    unfold shutdownStage
    rw [show (atTime at' s).test.run = none from hrun]
    rfl
  · obtain ⟨hphase, hready, hpanes, hledger, hraised⟩ := finishShutdown_spec (s := atTime at' s) hr
    refine completes_act (exec_shutdownStep hk) (finishShutdown (atTime at' s)) rfl ?_
    generalize finishShutdown (atTime at' s) = u at *
    exact ⟨hphase, hready, hpanes, hledger, raised_congr hraised rfl rfl⟩

end Sys2Proof.Machine
end

section
/-! The Flume's lanes (R232, R233, R236) and its handshake (R234, R235). -/
namespace Sys2Proof.Machine

/-! ## Lanes -/

/-- The lanes are down at the safe point (R236). -/
def lanesOff (s : State) : State :=
  { s with twin := { s.twin with
      linkOn := false, linkDown := false, lanes := [], verified := false, answered := false, nonce := [], peerNonce := [], sending := none,
      receiving := none, outstanding := [] } }

theorem exec_flumeSafePoint (s : State) (at' : Time64) :
    exec (.flumeSafePoint at') s = act (fun s =>
      if !s.twin.linkDown || !atSafePoint s then s
      else if (lanesOff (atTime at' s)).twin.linkAgain then
        { lanesUp (lanesOff (atTime at' s)) with twin := { (lanesUp (lanesOff (atTime at' s))).twin with linkAgain := true } }
      else lanesOff (atTime at' s)) s := rfl

theorem lanesUp_off {s : State} (hd : s.twin.linkDown = false) (ho : s.twin.linkOn = false) :
    lanesUp s = { s with twin := { s.twin with linkOn := true, nonce := [], answered := false, helloT := none, verified := false, helloFail := 0 } } := by
  unfold lanesUp
  rw [hd, ho]
  rfl

theorem flumeSafePoint_completes {s : State} {at' : Time64} (hdown : s.twin.linkDown = true) (hsafe : atSafePoint s = true) :
    Completes (.flumeSafePoint at') s (fun t =>
      t.twin.linkOn = s.twin.linkAgain ∧ t.twin.linkDown = false ∧ t.twin.lanesUsed = 0 ∧ t.twin.verified = false ∧ t.twin.nonce = []
      ∧ t.twin.mode = s.twin.mode ∧ t.twin.linkAgain = s.twin.linkAgain ∧ OnlyTwin s t) := by
  have hgo : ¬ (!s.twin.linkDown || !atSafePoint s) = true := by rw [hdown, hsafe]; exact Bool.false_ne_true
  cases hagain : s.twin.linkAgain with
  | false =>
    exact completes_of_keeps (exec_flumeSafePoint s at') (lanesOff (atTime at' s))
      ((if_neg hgo).trans (if_neg (Bool.eq_false_iff.mp hagain))) ⟨rfl, rfl, rfl⟩ ⟨rfl, rfl, rfl, rfl, rfl, rfl, hagain, rfl⟩
  | true =>
    refine completes_of_keeps (exec_flumeSafePoint s at') _ ((if_neg hgo).trans (if_pos hagain)) ?_ ?_ <;>
      rw [lanesUp_off (s := lanesOff (atTime at' s)) rfl rfl]
    · exact ⟨rfl, rfl, rfl⟩
    · exact ⟨rfl, rfl, rfl, rfl, rfl, rfl, rfl, rfl⟩

theorem flumeSafePoint_waits {s : State} {at' : Time64} (h : s.twin.linkDown = false ∨ atSafePoint s = false) :
    Completes (.flumeSafePoint at') s (fun t => t = s) := by
  have hstay : (!s.twin.linkDown || !atSafePoint s) = true := by
    rcases h with h | h <;> rw [h]
    · rfl
    · exact Bool.or_true _
  exact completes_of_keeps (exec_flumeSafePoint s at') s (if_pos hstay) (.refl s) rfl

/-! ## HELLO out -/

theorem linkCarries_of_linkUsed {s : State} (h : s.linkUsed = true) : s.linkCarries := by
  unfold State.linkUsed at h
  simp only [Bool.and_eq_true, bne_iff_ne] at h
  obtain ⟨⟨-, hon⟩, hlanes⟩ := h
  exact ⟨hon, hlanes⟩

/-- The state in which the HELLO that is due goes out (R234). -/
def helloState (t : Time64) (n : Bytes) (s : State) : State := { s with twin := { s.twin with nonce := n, helloT := some t } }

theorem exec_helloSend {s : State} {at' : Time64} (hlink : s.linkUsed = true) (hperm : twinPermitted s = true)
    (hdue : ∀ u : Time64, s.twin.helloT = some u → u + (if s.twin.answered then 1000000000 else 100000000) ≤ at') :
    exec (.helloSend at') s = act (fun s =>
      sendFlume (.hello (ownHello (s.twin.nonce == []) (helloState at'
          (if s.twin.nonce == [] then freeBytes 16 (atTime at' s) else (s.twin.nonce, atTime at' s)).1
          (if s.twin.nonce == [] then freeBytes 16 (atTime at' s) else (s.twin.nonce, atTime at' s)).2)))
        (helloState at' (if s.twin.nonce == [] then freeBytes 16 (atTime at' s) else (s.twin.nonce, atTime at' s)).1
          (if s.twin.nonce == [] then freeBytes 16 (atTime at' s) else (s.twin.nonce, atTime at' s)).2)) s := by
  have hgo : (!s.linkUsed || !twinPermitted s || !(match s.twin.helloT with
      | some u => decide (u + (if s.twin.answered then 1000000000 else 100000000) ≤ at')
      | none => true)) = false := by
    rw [hlink, hperm]
    cases hT : s.twin.helloT with
    | none => rfl
    | some u => exact congrArg (fun b => !b) (decide_eq_true (hdue u hT))
  change execHelloSend at' s = _
  unfold execHelloSend
  refine act_congr ?_
  exact if_neg (Bool.eq_false_iff.mp hgo)

theorem helloSend_completes {s : State} {at' : Time64} (hlink : s.linkUsed = true) (hperm : twinPermitted s = true)
    (hdue : ∀ u : Time64, s.twin.helloT = some u → u + (if s.twin.answered then 1000000000 else 100000000) ≤ at') :
    Completes (.helloSend at') s (fun t =>
      (∃ m : Hello, s.sentBody t (.hello m) ∧ m.nonce = t.twin.nonce ∧ m.peerNonce = padTo 16 s.twin.peerNonce
        ∧ m.seat = b2n s.seatB ∧ m.uniqueId = s.life.uid ∧ m.signature = Config.ecdsaSign (helloBody m)
        ∧ m.cert = (if s.twin.nonce = [] then s.life.cert else []))
      ∧ (s.twin.nonce ≠ [] → t.twin.nonce = s.twin.nonce) ∧ (s.twin.nonce = [] → t.twin.nonce.length = 16)
      ∧ t.twin.helloT = some at' ∧ t.twin.mode = s.twin.mode ∧ t.cfg = s.cfg) := by
  have hexec := exec_helloSend hlink hperm hdue
  have hnonce : ∃ n k, (if s.twin.nonce == [] then freeBytes 16 (atTime at' s) else (s.twin.nonce, atTime at' s)) = (n, { atTime at' s with free := k })
      ∧ (s.twin.nonce ≠ [] → n = s.twin.nonce) ∧ (s.twin.nonce = [] → n.length = 16) := by
    by_cases hfirst : s.twin.nonce = []
    · obtain ⟨hlen, k, hstate⟩ := freeBytes_spec 16 (atTime at' s)
      refine ⟨(freeBytes 16 (atTime at' s)).1, k, ?_, fun h => absurd hfirst h, fun _ => hlen⟩
      rw [if_pos (beq_iff_eq.mpr hfirst), ← hstate]
    · exact ⟨s.twin.nonce, s.free, if_neg (mt beq_iff_eq.mp hfirst), fun _ => rfl, fun h => absurd h hfirst⟩
  obtain ⟨n, k, hdraw, hold, hnew⟩ := hnonce
  have hcarry : (helloState at' n { atTime at' s with free := k }).linkCarries := linkCarries_of_linkUsed hlink
  have honly := onlyTwin_sendFrame (helloState at' n { atTime at' s with free := k }).time.tick none
    (.hello (ownHello (s.twin.nonce == []) (helloState at' n { atTime at' s with free := k }))) (helloState at' n { atTime at' s with free := k })
  obtain ⟨f, c, htwin⟩ := sendFrame_twin (helloState at' n { atTime at' s with free := k }).time.tick none
    (.hello (ownHello (s.twin.nonce == []) (helloState at' n { atTime at' s with free := k }))) (helloState at' n { atTime at' s with free := k })
  refine completes_of_keeps hexec (sendFlume (.hello (ownHello (s.twin.nonce == []) (helloState at' n { atTime at' s with free := k })))
    (helloState at' n { atTime at' s with free := k })) ?_ (.trans ⟨rfl, rfl, rfl⟩ honly.keeps) ?_
  · dsimp only
    rw [hdraw]
  · unfold sendFlume
    refine ⟨⟨ownHello (s.twin.nonce == []) (helloState at' n { atTime at' s with free := k }), sentBody_sendFrame hcarry rfl .., ?_, rfl, rfl, rfl, rfl, ?_⟩,
      ?_, ?_, ?_, ?_, honly.get State.cfg⟩
    · rw [htwin]
      rfl
    · exact ite_congr (propext beq_iff_eq) (fun _ => rfl) (fun _ => rfl)
    · rw [htwin]
      exact hold
    · rw [htwin]
      exact hnew
    · rw [htwin]
      rfl
    · rw [htwin]
      rfl

/-! ## HELLO in -/

/-- An event stands where it was raised while the events are as they were. -/
theorem raised_of_events {s t u : State} {c : Ev} {g : Option Nat} {p : List (Nat × Nat)} (h : s.raised t c g p) (he : u.events = t.events)
    (ho : u.twin.ownEvents = t.twin.ownEvents) : s.raised u c g p := by
  unfold State.raised at *
  rw [he, ho]
  exact h

/-- What a HELLO says of the peer (R234). -/
def helloNoted (m : Hello) (s : State) : State :=
  { s with twin := { s.twin with
      answered := true, peerNonce := m.nonce, peerCert := if m.cert == [] then s.twin.peerCert else m.cert, peerUid := m.uniqueId
      peerJoinable := m.joinable } }

/-- The state with a received HELLO taken. -/
def helloTaken (t : Time64) (c : TwinCounters) (s : State) : State := { atTime t s with twin := { s.twin with cnt := c } }

theorem exec_helloReceived {s : State} {w : FlumeFrame} {f : FlumeHdr × Bytes} {joinable : Bool} {at' : Time64}
    (h : s.receives 1 (twinPermitted s) w f) :
    ∃ c, exec (.helloReceived ⟨w, joinable, at'⟩) s = act (fun s => judgeHello (readHello joinable at' f.2) (helloTaken at' c s)) s := by
  obtain ⟨c, hc⟩ := takeFrame_received h rfl
  refine ⟨c, ?_⟩
  change execHelloReceived ⟨w, joinable, at'⟩ s = _
  unfold execHelloReceived
  refine act_congr ?_
  dsimp only
  rw [hc]
  rfl

/-- A join that waits ends, and nothing else of the twin unit but its transfer changes (R234). -/
theorem endJoin_spec (s : State) :
    (∃ x c o, endJoin s = { s with cmd := c, out := o, twin := { s.twin with join := none, sending := x } })
    ∧ (s.twin.join = none → endJoin s = s) := by
  cases hjoin : s.twin.join with
  | none =>
    have hsame : endJoin s = s := by unfold endJoin; rw [hjoin]
    refine ⟨⟨s.twin.sending, s.cmd, s.out, ?_⟩, fun _ => hsame⟩
    rw [hsame, ← hjoin]
  | some j =>
    refine ⟨?_, fun h => by cases h⟩
    unfold endJoin
    rw [hjoin]
    dsimp only
    split
    · rw [(answer_frame ..).1]
      exact ⟨_, _, _, rfl⟩
    · exact ⟨_, _, _, rfl⟩

/-- A handshake that fails leaves the peer unverified (R234). -/
theorem failHello_spec (code : Nat) (ev : Ev) (s : State) :
    KeepsFrame s (failHello code ev s) ∧ (failHello code ev s).twin.verified = false ∧ (failHello code ev s).twin.mode = s.twin.mode
    ∧ (failHello code ev s).twin.partner = s.twin.partner ∧ (failHello code ev s).cfg = s.cfg ∧ (failHello code ev s).twin.join = none
    ∧ (s.twin.helloFail ≠ code → s.twin.join = none → s.raised (failHello code ev s) ev none []) := by
  have hsaid : KeepsFrame s (if s.twin.helloFail = code then s else raise ev [] s)
      ∧ (if s.twin.helloFail = code then s else raise ev [] s).cfg = s.cfg
      ∧ (∃ o e f k, (if s.twin.helloFail = code then s else raise ev [] s).twin
          = { s.twin with ownEvents := o, evOrder := e, fseqs := f, cnt := k })
      ∧ (s.twin.helloFail ≠ code → s.raised (if s.twin.helloFail = code then s else raise ev [] s) ev none []) := by
    split
    · next h => exact ⟨.refl s, rfl, ⟨_, _, _, _, rfl⟩, fun h' => absurd h h'⟩
    · exact ⟨(onlyEvents_raise ..).keeps, (onlyEvents_raise ..).get State.cfg, raiseAt_twin .., fun _ => raised_raise _ _ rfl⟩
  unfold failHello
  dsimp only
  generalize (if s.twin.helloFail = code then s else raise ev [] s) = u at hsaid ⊢
  obtain ⟨hk, hcfg, ⟨o, e, f, k, htwin⟩, hraised⟩ := hsaid
  obtain ⟨⟨x, c, out, hend⟩, hsame⟩ := endJoin_spec { u with twin := { u.twin with helloFail := code, verified := false } }
  refine ⟨?_, ?_, ?_, ?_, ?_, ?_, fun hfail hjoin => ?_⟩
  · rw [hend]
    exact hk.trans ⟨rfl, rfl, rfl⟩
  · rw [hend]
  · rw [hend, htwin]
  · rw [hend, htwin]
  · rw [hend]
    exact hcfg
  · rw [hend]
  · rw [hsame (by rw [htwin]; exact hjoin)]
    exact raised_of_events (hraised hfail) rfl rfl

/-- A handshake with another part than the partner fails (R235). -/
theorem refuseHello_spec (s : State) :
    KeepsFrame s (refuseHello s) ∧ (refuseHello s).twin.peerUid = s.twin.peerUid ∧ (refuseHello s).twin.mode = s.twin.mode
    ∧ (refuseHello s).twin.verified = false ∧ (refuseHello s).twin.helloFail = 5 ∧ (refuseHello s).twin.replaced = true
    ∧ (refuseHello s).twin.join = none := by
  have hsaid : KeepsFrame s (if s.twin.replaced then s else partnerReplaced s)
      ∧ (if s.twin.replaced then s else partnerReplaced s).twin.peerUid = s.twin.peerUid
      ∧ (if s.twin.replaced then s else partnerReplaced s).twin.mode = s.twin.mode
      ∧ (if s.twin.replaced then s else partnerReplaced s).twin.replaced = true := by
    split
    · next h => exact ⟨.refl s, rfl, rfl, h⟩
    · unfold partnerReplaced
      obtain ⟨o, e, f, k, htwin⟩ := raiseAt_twin s.time.now .twinPartnerReplaced none [(16, ofLe s.twin.peerUid)]
        { s with twin := { s.twin with replaced := true, replacedT := some s.time.now } }
      refine ⟨.trans (t := { s with twin := { s.twin with replaced := true, replacedT := some s.time.now } }) ⟨rfl, rfl, rfl⟩
        (onlyEvents_raise ..).keeps, (congrArg Twin.peerUid htwin :), (congrArg Twin.mode htwin :), (congrArg Twin.replaced htwin :)⟩
  unfold refuseHello
  generalize (if s.twin.replaced then s else partnerReplaced s) = u at hsaid ⊢
  obtain ⟨hk, huid, hmode, hreplaced⟩ := hsaid
  obtain ⟨⟨x, c, out, hend⟩, -⟩ := endJoin_spec { u with twin := { u.twin with helloFail := 5, verified := false } }
  rw [hend]
  exact ⟨hk.trans ⟨rfl, rfl, rfl⟩, huid, hmode, rfl, rfl, hreplaced, rfl⟩

/-- The twin unit of a handshake with the partner that is complete (R234, R236). -/
def handshaken (w : Twin) : Twin := { w with verified := true, helloFail := 0, replaced := false, linkAgain := false }

theorem flumeReady_spec (tag : Option Nat) (s : State) :
    KeepsFrame s (raiseAt s.time.now .twinFlumeReady tag [] (dropDeferred .flume { s with twin := handshaken s.twin }))
    ∧ ∃ o e f k, (raiseAt s.time.now .twinFlumeReady tag [] (dropDeferred .flume { s with twin := handshaken s.twin })).twin
      = { handshaken s.twin with ownEvents := o, evOrder := e, fseqs := f, cnt := k } :=
  ⟨KeepsFrame.trans (t := dropDeferred .flume { s with twin := handshaken s.twin }) ⟨rfl, rfl, rfl⟩ (onlyEvents_raiseAt ..).keeps, raiseAt_twin ..⟩

theorem passHello_spec (s : State) :
    KeepsFrame s (passHello s) ∧ (passHello s).twin.peerUid = s.twin.peerUid ∧ (passHello s).twin.mode = s.twin.mode
    ∧ (passHello s).twin.verified = true ∧ (passHello s).twin.helloFail = 0 ∧ (passHello s).twin.replaced = false := by
  have hready : ∀ tag, ∀ u, u = raiseAt s.time.now .twinFlumeReady tag [] (dropDeferred .flume { s with twin := handshaken s.twin }) →
      KeepsFrame s u ∧ u.twin.peerUid = s.twin.peerUid ∧ u.twin.mode = s.twin.mode ∧ u.twin.verified = true ∧ u.twin.helloFail = 0
      ∧ u.twin.replaced = false := by
    intro tag u hu
    obtain ⟨hk, o, e, f, k, htwin⟩ := flumeReady_spec tag s
    rw [← hu] at hk htwin
    rw [htwin]
    exact ⟨hk, rfl, rfl, rfl, rfl, rfl⟩
  unfold passHello
  dsimp only
  split
  · exact hready _ _ rfl
  · exact ⟨⟨rfl, rfl, rfl⟩, rfl, rfl, rfl, rfl, rfl⟩

/-- A HELLO that passes the checks before the nonce (R234). -/
theorem judgeHello_passes {m : Hello} {s : State} (hseat : m.seat ≠ b2n s.seatB)
    (hsig : Config.ecdsaVerify (if m.cert = [] then s.twin.peerCert else m.cert) (helloBody m) m.signature = true)
    (hinst : m.installId = s.life.installId.getD (zeros 16)) (hfw : m.fwDigest = s.fwDigest)
    (hnonce : s.twin.nonce ≠ []) (hover : m.peerNonce = s.twin.nonce) :
    judgeHello m s = if s.twin.partner = some m.uniqueId then passHello (helloNoted m s) else refuseHello (helloNoted m s) := by
  have hcert : (if m.cert == [] then s.twin.peerCert else m.cert) = (if m.cert = [] then s.twin.peerCert else m.cert) :=
    ite_congr (propext beq_iff_eq) (fun _ => rfl) (fun _ => rfl)
  have h2 : ¬ (!Config.ecdsaVerify (if m.cert == [] then s.twin.peerCert else m.cert) (helloBody m) m.signature) = true := by
    rw [hcert, hsig]
    exact Bool.false_ne_true
  have h3 : ¬ (m.installId != s.life.installId.getD (zeros 16)) = true := fun h => absurd hinst (bne_iff_ne.mp h)
  have h4 : ¬ (m.fwDigest != s.fwDigest) = true := fun h => absurd hfw (bne_iff_ne.mp h)
  have h5 : (s.twin.nonce != [] && m.peerNonce == s.twin.nonce) = true := by
    rw [bne_iff_ne.mpr hnonce, beq_iff_eq.mpr hover]
    rfl
  unfold judgeHello
  exact (if_neg hseat).trans ((if_neg h2).trans ((if_neg h3).trans ((if_neg h4).trans (if_pos h5))))

/-- A HELLO that fails a check (R234). -/
theorem judgeHello_fails {m : Hello} {s : State} (h : m.seat = b2n s.seatB
      ∨ Config.ecdsaVerify (if m.cert = [] then s.twin.peerCert else m.cert) (helloBody m) m.signature = false
      ∨ m.installId ≠ s.life.installId.getD (zeros 16) ∨ m.fwDigest ≠ s.fwDigest) :
    ∃ code ev, judgeHello m s = failHello code ev (helloNoted m s) ∧ (m.seat = b2n s.seatB → code = 1 ∧ ev = .twinSeatConflict) := by
  have hcert : (if m.cert == [] then s.twin.peerCert else m.cert) = (if m.cert = [] then s.twin.peerCert else m.cert) :=
    ite_congr (propext beq_iff_eq) (fun _ => rfl) (fun _ => rfl)
  rw [← hcert] at h
  unfold judgeHello
  by_cases h1 : m.seat = b2n s.seatB
  · exact ⟨1, .twinSeatConflict, if_pos h1, fun _ => ⟨rfl, rfl⟩⟩
  · by_cases h2 : (!Config.ecdsaVerify (if m.cert == [] then s.twin.peerCert else m.cert) (helloBody m) m.signature) = true
    · exact ⟨2, .twinAuthFail, (if_neg h1).trans (if_pos h2), fun h => absurd h h1⟩
    · by_cases h3 : (m.installId != s.life.installId.getD (zeros 16)) = true
      · exact ⟨3, .twinInstallMismatch, (if_neg h1).trans ((if_neg h2).trans (if_pos h3)), fun h => absurd h h1⟩
      · have h4 : (m.fwDigest != s.fwDigest) = true := by
          rcases h with h | h | h | h
          · exact absurd h h1
          · exact absurd (by rw [h]; rfl) h2
          · exact absurd (bne_iff_ne.mpr h) h3
          · exact bne_iff_ne.mpr h
        exact ⟨4, .twinFwMismatch, (if_neg h1).trans ((if_neg h2).trans ((if_neg h3).trans (if_pos h4))), fun h => absurd h h1⟩

/-- TWIN_PARTNER_REPLACED is said again 10 s after the last time (R235). -/
theorem exec_twinPartnerReplaced {s : State} {at' : Time64} (hlink : s.linkUsed = true) (hrep : s.twin.replaced = true)
    (hdue : ∀ u : Time64, s.twin.replacedT = some u → u + 10000000000 ≤ at') :
    exec (.twinPartnerReplaced at') s = act (fun s => partnerReplaced (atTime at' s)) s := by
  change execTwinPartnerReplaced at' s = _
  unfold execTwinPartnerReplaced
  refine act_congr ?_
  cases hT : s.twin.replacedT with
  | none => simp only [hlink, hrep, Bool.and_true, if_true]
  | some u => simp only [hlink, hrep, decide_eq_true (hdue u hT), Bool.and_true, if_true]

theorem partnerReplaced_spec (s : State) :
    OnlyEvents s (partnerReplaced s) ∧ s.raised (partnerReplaced s) .twinPartnerReplaced none [(16, ofLe s.twin.peerUid)]
    ∧ (partnerReplaced s).twin.replacedT = some s.time.now ∧ (partnerReplaced s).twin.partner = s.twin.partner := by
  obtain ⟨o, e, f, k, htwin⟩ := raiseAt_twin s.time.now .twinPartnerReplaced none [(16, ofLe s.twin.peerUid)]
    { s with twin := { s.twin with replaced := true, replacedT := some s.time.now } }
  exact ⟨OnlyEvents.trans (t := { s with twin := { s.twin with replaced := true, replacedT := some s.time.now } }) rfl (onlyEvents_raise ..),
    raised_raise (u := { s with twin := { s.twin with replaced := true, replacedT := some s.time.now } }) _ _ rfl,
    (congrArg Twin.replacedT htwin :), (congrArg Twin.partner htwin :)⟩

theorem twinPartnerReplaced_completes {s : State} {at' : Time64} (hlink : s.linkUsed = true) (hrep : s.twin.replaced = true)
    (hdue : ∀ u : Time64, s.twin.replacedT = some u → u + 10000000000 ≤ at') :
    Completes (.twinPartnerReplaced at') s (fun t =>
      s.raised t .twinPartnerReplaced none [(16, ofLe s.twin.peerUid)] ∧ t.twin.replacedT = some at' ∧ t.twin.partner = s.twin.partner
      ∧ OnlyEvents s t) := by
  obtain ⟨honly, hraised, hT, hpartner⟩ := partnerReplaced_spec (atTime at' s)
  have hevents : OnlyEvents s (partnerReplaced (atTime at' s)) := OnlyEvents.trans (t := atTime at' s) rfl honly
  exact completes_of_keeps (exec_twinPartnerReplaced hlink hrep hdue) _ rfl hevents.keeps ⟨hraised, hT, hpartner, hevents⟩

/-- Settles O41. -/
theorem twinLink : Obligations.TwinLink := by
  refine ⟨⟨fun s l at' hon => ?_, fun s l at' hon => ?_, fun s at' hdown hsafe => flumeSafePoint_completes hdown hsafe,
      fun s at' h => flumeSafePoint_waits h⟩,
    fun s at' hlink hperm hdue => helloSend_completes hlink hperm hdue,
    fun s w f joinable at' m hrec hm hseat hsig hinst hfw hnonce hover => ?_, fun s w f joinable at' m hrec hm hfail => ?_,
    fun s at' hlink hrep hdue => ?_⟩
  · have hgo : ¬ (!s.twin.linkOn) = true := by rw [hon]; exact Bool.false_ne_true
    refine completes_of_keeps (f := fun s => if !s.twin.linkOn then s else _) rfl _ (if_neg hgo) ⟨rfl, rfl, rfl⟩ ⟨rfl, rfl, fun hl => ?_⟩
    exact if_pos (List.contains_iff_mem.mpr hl)
  · have hgo : ¬ (!s.twin.linkOn) = true := by rw [hon]; exact Bool.false_ne_true
    exact completes_of_keeps (f := fun s => if !s.twin.linkOn then s else _) rfl _ (if_neg hgo) ⟨rfl, rfl, rfl⟩ ⟨rfl, rfl⟩
  · obtain ⟨c, hexec⟩ := exec_helloReceived (joinable := joinable) (at' := at') hrec
    rw [← hm] at hexec
    by_cases hpartner : s.twin.partner = some m.uniqueId
    · obtain ⟨hk, huid, hmode, hver, hf0, hrep⟩ := passHello_spec (helloNoted m (helloTaken at' c s))
      exact completes_of_keeps hexec (passHello (helloNoted m (helloTaken at' c s)))
        ((judgeHello_passes (s := helloTaken at' c s) hseat hsig hinst hfw hnonce hover).trans (if_pos hpartner))
        (.trans ⟨rfl, rfl, rfl⟩ hk) ⟨huid, hmode, fun _ => ⟨hver, hf0, hrep⟩, fun h => absurd hpartner h⟩
    · obtain ⟨hk, huid, hmode, hver, hf5, hrep, hjoin⟩ := refuseHello_spec (helloNoted m (helloTaken at' c s))
      exact completes_of_keeps hexec (refuseHello (helloNoted m (helloTaken at' c s)))
        ((judgeHello_passes (s := helloTaken at' c s) hseat hsig hinst hfw hnonce hover).trans (if_neg hpartner))
        (.trans ⟨rfl, rfl, rfl⟩ hk) ⟨huid, hmode, fun h => absurd h hpartner, fun _ => ⟨hver, hf5, hrep, hjoin⟩⟩
  · obtain ⟨c, hexec⟩ := exec_helloReceived (joinable := joinable) (at' := at') hrec
    rw [← hm] at hexec
    obtain ⟨code, ev, hjudge, hconflict⟩ := judgeHello_fails (s := helloTaken at' c s) hfail
    obtain ⟨hk, hver, hmode, hpartner, hcfg, hjoin, hraised⟩ := failHello_spec code ev (helloNoted m (helloTaken at' c s))
    refine completes_of_keeps hexec _ hjudge (.trans ⟨rfl, rfl, rfl⟩ hk) ⟨hver, hmode, hpartner, hcfg, hjoin, fun hown hnot hnone => ?_⟩
    obtain ⟨rfl, rfl⟩ := hconflict hown
    exact hraised hnot hnone
  · exact twinPartnerReplaced_completes hlink hrep hdue

end Sys2Proof.Machine
end

section
/-! Heartbeats, silent paths and the failure of the partner (R237 to R239, R263). -/
namespace Sys2Proof.Machine

/-- An event of a seat that is not in lockstep is published at once (R373). -/
theorem raise_alone {s : State} (h : s.hot = false) (c : Ev) (p : List (Nat × Nat)) : ∃ e, raise c p s = { s with events := e } := by
  unfold raise raiseAt
  rw [h]
  exact ⟨_, rfl⟩

/-! ## A heartbeat counted (R237) -/

/-- The twin unit with a heartbeat counted. -/
def beaten (path n : Nat) (w : Twin) : Twin :=
  { w with hbLast := setNth (some (max n ((nth none w.hbLast path).getD n))) w.hbLast path, hbSaid := setNth false w.hbSaid path
           partnerLost := false }

theorem countBeat_spec (path n : Nat) (s : State) :
    (∃ e, countBeat path n s = { s with events := e, twin := beaten path n s.twin })
    ∧ (s.twin.mode = .orphaned → s.twin.partnerLost = true → s.raised (countBeat path n s) .twinPartnerSeen none []) := by
  unfold countBeat
  dsimp only
  split
  · next h =>
    have hmode : s.twin.mode = .orphaned := beq_iff_eq.mp (Bool.and_eq_true_iff.mp h).1
    have hhot : State.hot { s with twin := beaten path n s.twin } = false := by
      unfold State.hot beaten
      rw [hmode]
      rfl
    refine ⟨?_, fun _ _ => raised_raise (u := { s with twin := beaten path n s.twin }) _ _ rfl⟩
    obtain ⟨e, he⟩ := raise_alone hhot .twinPartnerSeen []
    exact ⟨e, he⟩
  · next h => exact ⟨⟨s.events, rfl⟩, fun hm hl => absurd (by rw [hm, hl]; rfl) h⟩

theorem onlyEvents_countBeat (path n : Nat) (s : State) : OnlyEvents s (countBeat path n s) := by
  obtain ⟨⟨e, he⟩, -⟩ := countBeat_spec path n s
  rw [he]
  rfl

/-- A path's heartbeat that is counted where the seat counts heartbeats (R237). -/
theorem beat_completes {i : Instr} {s : State} {path n : Nat} {t : Time64} (h : exec i s = act (fun s => countBeat path n (atTime t s)) s) :
    Completes i s (fun t =>
      t.twin.hbLast = setNth (some (max n ((nth none s.twin.hbLast path).getD n))) s.twin.hbLast path ∧ t.twin.mode = s.twin.mode
      ∧ OnlyEvents s t) := by
  obtain ⟨⟨e, he⟩, -⟩ := countBeat_spec path n (atTime t s)
  refine completes_of_keeps h _ he ⟨rfl, rfl, rfl⟩ ⟨rfl, rfl, rfl⟩

/-! ## On the Flume -/

/-- What a heartbeat on the Flume does, once its frame is taken (R237). -/
def beatStep (n : Nat) (m : Heartbeat) (s : State) : State :=
  let s2 := countBeat 0 n (atTime m.at' s)
  let s3 := { s2 with power := { s2.power with peerLevel := if m.thermal = 0 then .normal else if m.thermal = 1 then .warning else .throttle } }
  let s4 := match m.leaving with
    | some k => noteLeave k s3
    | none => s3
  if s4.paired && n = s4.time.tick then countRun s4.time.own.code m.tstate (!(nth none s.twin.hbLast 0).any (fun k => k + 1 == n)) s4 else s4

/-- A received frame counts, and its corrected granules do (R228, R265). -/
theorem takeFrame_counts {s : State} {type : Nat} {ok : Bool} {w : FlumeFrame} {f : FlumeHdr × Bytes} (h : s.receives type ok w f) :
    takeFrame type ok w s = (some f, { s with twin := { s.twin with cnt := { s.twin.cnt with
      corrected := (s.twin.cnt.corrected + (frameData w).2) % 2 ^ 32, framesRx := (s.twin.cnt.framesRx + 1) % 2 ^ 64 } } }) := by
  unfold State.receives takeFrame at h
  unfold takeFrame
  split at h
  · cases h
  · rename_i hlink
    rw [if_neg hlink]
    dsimp only at h ⊢
    split at h
    · cases h
      rfl
    · cases h

/-- A frame in a mode that does not take its type is discarded, and counts as an error (R230, R265). -/
theorem takeFrame_refused {s : State} (hlink : s.linkUsed = true) (type : Nat) (w : FlumeFrame) :
    takeFrame type false w s = (none, { s with twin := { s.twin with cnt := { s.twin.cnt with
      corrected := (s.twin.cnt.corrected + (frameData w).2) % 2 ^ 32, frameErr := (s.twin.cnt.frameErr + 1) % 2 ^ 32 } } }) := by
  have hnone : ((frameData w).1.bind readFrame).filter (fun f => false && f.1.ty == type) = none := by
    cases (frameData w).1.bind readFrame <;> rfl
  unfold takeFrame
  rw [hlink]
  dsimp only
  rw [hnone]
  rfl

theorem exec_heartbeatReceived {s : State} {m : Heartbeat} {w : FlumeFrame} {f : FlumeHdr × Bytes} (h : s.receives 2 s.beats w f) :
    exec (.heartbeatReceived ⟨m, w⟩) s = act (fun s => beatStep f.1.tick m { s with twin := { s.twin with cnt := { s.twin.cnt with
      corrected := (s.twin.cnt.corrected + (frameData w).2) % 2 ^ 32, framesRx := (s.twin.cnt.framesRx + 1) % 2 ^ 64 } } }) s := by
  change execHeartbeatReceived ⟨m, w⟩ s = _
  unfold execHeartbeatReceived
  refine act_congr ?_
  dsimp only
  rw [takeFrame_counts h]
  rfl

theorem beatStep_spec (n : Nat) (m : Heartbeat) (s : State) :
    KeepsFrame s (beatStep n m s)
    ∧ (beatStep n m s).twin.hbLast = setNth (some (max n ((nth none s.twin.hbLast 0).getD n))) s.twin.hbLast 0
    ∧ (beatStep n m s).twin.peerLeft = (match m.leaving with
        | some n => some (min n (s.twin.peerLeft.getD n))
        | none => s.twin.peerLeft)
    ∧ (beatStep n m s).twin.cnt = s.twin.cnt
    ∧ (beatStep n m s).power.peerLevel = (if m.thermal = 0 then .normal else if m.thermal = 1 then .warning else .throttle)
    ∧ (beatStep n m s).twin.mode = s.twin.mode
    ∧ (s.twin.mode = .orphaned → s.twin.partnerLost = true →
        (beatStep n m s).twin.partnerLost = false ∧ s.raised (beatStep n m s) .twinPartnerSeen none []) := by
  obtain ⟨⟨e, he⟩, hseen⟩ := countBeat_spec 0 n (atTime m.at' s)
  have hrun : ∀ (b : Bool) (own peer : Nat) (fresh : Bool) (a : State),
      ∃ x, (if b then countRun own peer fresh a else a) = { a with time := x } := by
    intro b own peer fresh a
    cases b with
    | false => exact ⟨a.time, rfl⟩
    | true => exact ⟨_, rfl⟩
  unfold beatStep
  dsimp only
  rw [he] at hseen ⊢
  cases m.leaving with
  | none =>
    obtain ⟨x, hx⟩ := hrun _ _ m.tstate _ _
    rw [hx]
    exact ⟨⟨rfl, rfl, rfl⟩, rfl, rfl, rfl, rfl, rfl, fun hm hl => ⟨rfl, raised_of_events (hseen hm hl) rfl rfl⟩⟩
  | some k =>
    obtain ⟨x, hx⟩ := hrun _ _ m.tstate _ _
    rw [hx]
    exact ⟨⟨rfl, rfl, rfl⟩, rfl, rfl, rfl, rfl, rfl, fun hm hl => ⟨rfl, raised_of_events (hseen hm hl) rfl rfl⟩⟩

/-! ## On the pin and over UDP -/

theorem exec_twinHbInEdge {s : State} (at' : Time64) (hb : s.beats = true) :
    exec (.twinHbInEdge at') s = act (fun s => countBeat 1 (s.grid.tickAt (at' + 10000)) (atTime at' s)) s := by
  change execTwinHbInEdge at' s = _
  unfold execTwinHbInEdge
  exact act_congr (if_pos hb)

theorem exec_udpHeartbeat {s : State} {m : UdpHeartbeat} (hb : s.beats = true) (hinst : s.life.installId.isSome = true)
    (hmac : m.mac = (Config.hmacSha256 s.life.installKey m.body).take 16) (hseat : fld m.body 0 1 ≠ b2n s.seatB)
    (hpartner : s.twin.partner = some (slice m.body 16 16)) :
    exec (.udpHeartbeatReceived m) s = act (fun s => countBeat 2 (fld m.body 8 8) (atTime m.at' s)) s := by
  have hgo : (s.beats && s.life.installId.isSome && m.mac == (Config.hmacSha256 s.life.installKey m.body).take 16
      && fld m.body 0 1 != b2n s.seatB && some (slice m.body 16 16) == s.twin.partner) = true := by
    rw [hb, hinst, beq_iff_eq.mpr hmac, bne_iff_ne.mpr hseat, beq_iff_eq.mpr hpartner.symm]
    rfl
  change execUdpHeartbeatReceived m s = _
  unfold execUdpHeartbeatReceived
  exact act_congr (if_pos hgo)

theorem udpHeartbeat_forged {s : State} {m : UdpHeartbeat} (hmac : m.mac ≠ (Config.hmacSha256 s.life.installKey m.body).take 16) :
    Completes (.udpHeartbeatReceived m) s (fun t => t = s) := by
  have hno : (s.beats && s.life.installId.isSome && m.mac == (Config.hmacSha256 s.life.installKey m.body).take 16
      && fld m.body 0 1 != b2n s.seatB && some (slice m.body 16 16) == s.twin.partner) = false := by
    rw [beq_eq_false_iff_ne.mpr hmac, Bool.and_false, Bool.false_and, Bool.false_and]
  have hexec : exec (.udpHeartbeatReceived m) s = act (fun s => s) s := by
    change execUdpHeartbeatReceived m s = _
    unfold execUdpHeartbeatReceived
    exact act_congr (if_neg (Bool.eq_false_iff.mp hno))
  exact completes_of_keeps hexec s rfl (.refl s) rfl

/-! ## Silent paths (R237 to R239, R263) -/

theorem twinHbPath_completes {s : State} {path : Fin 3} {at' : Time64} (hb : s.beats = true) (hsilent : pathSilent s s.time.tick path = true)
    (hsaid : nth false s.twin.hbSaid path = false) :
    Completes (.twinHbPath path at') s (fun t =>
      s.raised t .twinHbPath none [(1, path.val)] ∧ t.twin.hbSaid = setNth true s.twin.hbSaid path ∧ t.twin.mode = s.twin.mode
      ∧ OnlyEvents s t) := by
  have hgo : (s.beats && pathSilent s s.time.tick path && !nth false s.twin.hbSaid path) = true := by rw [hb, hsilent, hsaid]; rfl
  have hexec : exec (.twinHbPath path at') s = act (fun s =>
      raise .twinHbPath [(1, path.val)] { atTime at' s with twin := { s.twin with hbSaid := setNth true s.twin.hbSaid path } }) s := by
    change execTwinHbPath path at' s = _
    unfold execTwinHbPath
    exact act_congr (if_pos hgo)
  have honly : OnlyEvents s (raise .twinHbPath [(1, path.val)] { atTime at' s with twin := { s.twin with hbSaid := setNth true s.twin.hbSaid path } }) :=
    OnlyEvents.trans (t := { atTime at' s with twin := { s.twin with hbSaid := setNth true s.twin.hbSaid path } }) rfl (onlyEvents_raise ..)
  obtain ⟨o, e, f, k, htwin⟩ := raiseAt_twin at' .twinHbPath none [(1, path.val)]
    { atTime at' s with twin := { s.twin with hbSaid := setNth true s.twin.hbSaid path } }
  exact completes_of_keeps hexec _ rfl honly.keeps
    ⟨raised_raise (s := s) (u := { atTime at' s with twin := { s.twin with hbSaid := setNth true s.twin.hbSaid path } }) _ _ rfl,
      (congrArg Twin.hbSaid htwin :), (congrArg Twin.mode htwin :), honly⟩

/-- The mode of a seat that changes it (R227). -/
theorem toMode_mode (m : TwinMode) (c : ModeCause) (s : State) : (toMode m c s).twin.mode = m := by
  unfold toMode
  dsimp only
  exact (onlyHeads_settlePins _).get (·.twin.mode)

theorem orphan_spec (s : State) : (orphan s).twin.mode = .orphaned ∧ (orphan s).twin.partnerLost = true := by
  have hmode := toMode_mode .orphaned .failure s
  unfold orphan
  dsimp only
  generalize toMode .orphaned .failure s = u at hmode ⊢
  split <;> exact ⟨hmode, rfl⟩

/-- What the failure of the partner does (R238, R239, R263). -/
def failPartner (s : State) : State :=
  match s.twin.mode with
  | .coldStandby =>
    if pv s.cfg pTwinTakeover 0 = 0 then beginTakeover { s with twin := { s.twin with partnerLost := true } }
    else { s with twin := { s.twin with partnerLost := true } }
  | _ => orphan s

theorem failPartner_spec (s : State) :
    (failPartner s).twin.partnerLost = true
    ∧ (if s.twin.mode = .coldStandby then (failPartner s).twin.mode = .coldStandby
        ∧ (pv s.cfg pTwinTakeover 0 = 0 → (failPartner s).twin.takeover = some (s.grid.firstDecision (s.time.now + 1000000)))
      else (failPartner s).twin.mode = .orphaned) := by
  obtain ⟨hmode, hlost⟩ := orphan_spec s
  unfold failPartner
  split
  · next hm =>
    rw [if_pos hm]
    split
    · exact ⟨rfl, hm, fun _ => rfl⟩
    · next h => exact ⟨rfl, hm, fun h' => absurd h' h⟩
  · next hm =>
    rw [if_neg (fun h => hm h)]
    exact ⟨hlost, hmode⟩

theorem exec_partnerFailed (s : State) (at' : Time64) :
    exec (.partnerFailed at') s = act (fun s =>
      if !s.alive || !s.paired || s.twin.peerLeft.isSome || s.twin.partnerLost || !(List.range 3).all (pathSilent s (s.grid.decidedAt at')) then s
      else failPartner (raise .twinPartnerFailed (s.twin.hbLast.map (fun k => (8, k.getD 0))) (atTime at' s))) s := by
  change execPartnerFailed at' s = _
  unfold execPartnerFailed failPartner
  rfl

theorem partnerFailed_completes {s : State} {at' : Time64} (halive : s.alive = true) (hpaired : s.paired = true)
    (hleft : s.twin.peerLeft = none) (hlost : s.twin.partnerLost = false)
    (hsilent : ∀ p : Nat, p < 3 → pathSilent s (s.grid.decidedAt at') p = true) :
    Completes (.partnerFailed at') s (fun t =>
      t.twin.partnerLost = true
      ∧ (if s.twin.mode = .coldStandby then t.twin.mode = .coldStandby
          ∧ (pv s.cfg pTwinTakeover 0 = 0 → t.twin.takeover = some (s.grid.firstDecision (at' + 1000000)))
        else t.twin.mode = .orphaned)) := by
  have hall : (List.range 3).all (pathSilent s (s.grid.decidedAt at')) = true :=
    List.all_eq_true.mpr fun p hp => hsilent p (List.mem_range.mp hp)
  have hgo : ¬ (!s.alive || !s.paired || s.twin.peerLeft.isSome || s.twin.partnerLost
      || !(List.range 3).all (pathSilent s (s.grid.decidedAt at'))) = true := by
    rw [halive, hpaired, hleft, hlost, hall]
    exact Bool.false_ne_true
  have hspec := failPartner_spec (raise .twinPartnerFailed (s.twin.hbLast.map (fun k => (8, k.getD 0))) (atTime at' s))
  have honly := onlyEvents_raise .twinPartnerFailed (s.twin.hbLast.map (fun k => (8, k.getD 0))) (atTime at' s)
  obtain ⟨o, e, f, k, htwin⟩ := raiseAt_twin at' .twinPartnerFailed none (s.twin.hbLast.map (fun k => (8, k.getD 0))) (atTime at' s)
  have hmode : (raise .twinPartnerFailed (s.twin.hbLast.map (fun k => (8, k.getD 0))) (atTime at' s)).twin.mode = s.twin.mode :=
    (congrArg Twin.mode htwin :)
  have htime := raise_time .twinPartnerFailed (s.twin.hbLast.map (fun k => (8, k.getD 0))) (atTime at' s)
  refine completes_act (exec_partnerFailed s at') _ (if_neg hgo) ?_
  generalize raise .twinPartnerFailed (s.twin.hbLast.map (fun k => (8, k.getD 0))) (atTime at' s) = v at hspec honly hmode htime ⊢
  have hgrid : v.grid = s.grid := honly.get (·.grid)
  rw [hmode, honly.get State.cfg, hgrid, htime] at hspec
  exact hspec

/-- Settles O42. -/
theorem twinHeartbeats : Obligations.TwinHeartbeats := by
  refine ⟨fun s m w f hrec => ?_, fun s m w hlink hbeats => ?_, fun s at' hb => beat_completes (exec_twinHbInEdge at' hb),
    fun s m hb hinst hmac hseat hpartner => beat_completes (exec_udpHeartbeat hb hinst hmac hseat hpartner),
    fun s m hmac => udpHeartbeat_forged hmac, fun s path at' hb hsilent hsaid => twinHbPath_completes hb hsilent hsaid,
    fun s at' halive hpaired hleft hlost hsilent => partnerFailed_completes halive hpaired hleft hlost hsilent,
    fun s p at' hp hheard => ?_⟩
  · obtain ⟨hk, hlast, hleft, hcnt, hlevel, hmode, hseen⟩ := beatStep_spec f.1.tick m { s with twin := { s.twin with cnt := { s.twin.cnt with
      corrected := (s.twin.cnt.corrected + (frameData w).2) % 2 ^ 32, framesRx := (s.twin.cnt.framesRx + 1) % 2 ^ 64 } } }
    exact completes_of_keeps (exec_heartbeatReceived hrec) _ rfl (.trans ⟨rfl, rfl, rfl⟩ hk)
      ⟨hlast, hleft, congrArg TwinCounters.framesRx hcnt, hlevel, hmode, hseen⟩
  · have hexec : exec (.heartbeatReceived ⟨m, w⟩) s = act (fun s => (takeFrame 2 false w s).2) s := by
      change execHeartbeatReceived ⟨m, w⟩ s = _
      unfold execHeartbeatReceived
      refine act_congr ?_
      dsimp only
      rw [hbeats, takeFrame_refused hlink]
    exact completes_of_keeps hexec _ (congrArg Prod.snd (takeFrame_refused hlink 2 w)) ⟨rfl, rfl, rfl⟩ rfl
  · have hno : (!s.alive || !s.paired || s.twin.peerLeft.isSome || s.twin.partnerLost
        || !(List.range 3).all (pathSilent s (s.grid.decidedAt at'))) = true := by
      rw [List.all_eq_false.mpr ⟨p, List.mem_range.mpr hp, Bool.eq_false_iff.mp hheard⟩]
      exact Bool.or_true _
    exact completes_of_keeps (exec_partnerFailed s at') s (if_pos hno) (.refl s) rfl

end Sys2Proof.Machine
end

section
/-! What the comparison of a pair's rows and a late exchange leave as they are: the peer's signatures, the runs and counters of the exchange, and
what the panes show (R249, R250, R255, R256). -/
namespace Sys2Proof.Machine

/-- Two states agree on a pair's exchange, on the signatures that the peer has sent, and on what the panes show. -/
structure KeepsPair (s t : State) : Prop where
  xchgTick : t.twin.xchgTick = s.twin.xchgTick
  lateRun : t.twin.lateRun = s.twin.lateRun
  xchgLate : t.twin.cnt.xchgLate = s.twin.cnt.xchgLate
  sigLate : t.twin.cnt.sigLate = s.twin.cnt.sigLate
  sigRun : t.twin.sigRun = s.twin.sigRun
  peerFaulted : t.twin.peerFaulted = s.twin.peerFaulted
  mode : t.twin.mode = s.twin.mode
  panes : t.panes = s.panes
  peerSigs : ∀ h, (t.head h).peerSigs = (s.head h).peerSigs

theorem KeepsPair.refl (s : State) : KeepsPair s s := ⟨rfl, rfl, rfl, rfl, rfl, rfl, rfl, rfl, fun _ => rfl⟩

theorem KeepsPair.trans {s t u : State} (h : KeepsPair s t) (h' : KeepsPair t u) : KeepsPair s u :=
  ⟨h'.xchgTick.trans h.xchgTick, h'.lateRun.trans h.lateRun, h'.xchgLate.trans h.xchgLate, h'.sigLate.trans h.sigLate,
    h'.sigRun.trans h.sigRun, h'.peerFaulted.trans h.peerFaulted, h'.mode.trans h.mode, h'.panes.trans h.panes,
    fun g => (h'.peerSigs g).trans (h.peerSigs g)⟩

/-! ## Events and frames -/

/-- A frame that is sent counts as sent, and nothing else of the counters changes (R265). -/
theorem sendFrame_counts (n : Nat) (r : Option Nat) (b : FlumeBody) (s : State) :
    ∃ o f k, sendFrame n r b s = { s with out := o, twin := { s.twin with fseqs := f, cnt := { s.twin.cnt with framesTx := k } } } := by
  cases r <;> (simp only [sendFrame, Option.isSome, Bool.false_eq_true, if_false, if_true]; split) <;> exact ⟨_, _, _, rfl⟩

theorem keepsPair_sendFrame (n : Nat) (r : Option Nat) (b : FlumeBody) (s : State) : KeepsPair s (sendFrame n r b s) := by
  obtain ⟨o, f, k, h⟩ := sendFrame_counts n r b s
  rw [h]
  exact ⟨rfl, rfl, rfl, rfl, rfl, rfl, rfl, rfl, fun _ => rfl⟩

theorem keepsPair_sendFlume (b : FlumeBody) (s : State) : KeepsPair s (sendFlume b s) := keepsPair_sendFrame ..

theorem keepsPair_raise (c : Ev) (p : List (Nat × Nat)) (s : State) : KeepsPair s (raise c p s) := by
  unfold raise raiseAt
  split
  · exact .trans (t := { s with twin := { s.twin with
        ownEvents := s.twin.ownEvents ++ [⟨s.time.now, s.seatB, s.twin.evOrder, c, none, p⟩], evOrder := s.twin.evOrder + 1 } })
      ⟨rfl, rfl, rfl, rfl, rfl, rfl, rfl, rfl, fun _ => rfl⟩ (keepsPair_sendFlume ..)
  · exact ⟨rfl, rfl, rfl, rfl, rfl, rfl, rfl, rfl, fun _ => rfl⟩

/-- Publishing events leaves everything but the event store. -/
theorem foldl_publish (l : List HeldEvent) (s : State) : ∃ e, l.foldl (fun a e => publish e a) s = { s with events := e } := by
  induction l generalizing s with
  | nil => exact ⟨s.events, rfl⟩
  | cons x l ih =>
    obtain ⟨e, he⟩ := ih (publish x s)
    exact ⟨e, he⟩

theorem keepsPair_publishHeld (t : Time64) (s : State) : KeepsPair s (publishHeld t s) := by
  unfold publishHeld
  dsimp only
  obtain ⟨e, he⟩ := foldl_publish ((sortBy heldBefore (s.twin.ownEvents ++ s.twin.peerEvents)).filter (fun e => e.time < t))
    { s with twin := { s.twin with ownEvents := s.twin.ownEvents.filter (fun e => t ≤ e.time)
                                   peerEvents := s.twin.peerEvents.filter (fun e => t ≤ e.time) } }
  rw [he]
  exact ⟨rfl, rfl, rfl, rfl, rfl, rfl, rfl, rfl, fun _ => rfl⟩

/-! ## Withdrawal -/

theorem keepsPair_setPrimary (b : Bool) (s : State) : KeepsPair s (setPrimary b s) := by
  unfold setPrimary
  split
  · exact .refl s
  · dsimp only
    split <;> exact ⟨rfl, rfl, rfl, rfl, rfl, rfl, rfl, rfl, fun _ => rfl⟩

theorem keepsPair_withdraw (s : State) : KeepsPair s (withdraw s) := by
  have hsent : KeepsPair s (sendFlume (.state (.withdraw s.time.tick)) { s with twin := { s.twin with withdrawn := true, withdrawTick := s.time.tick } }) :=
    .trans (t := { s with twin := { s.twin with withdrawn := true, withdrawTick := s.time.tick } })
      ⟨rfl, rfl, rfl, rfl, rfl, rfl, rfl, rfl, fun _ => rfl⟩ (keepsPair_sendFlume ..)
  unfold withdraw
  split
  · exact .refl s
  · split
    · exact keepsPair_raise ..
    · dsimp only
      split
      · exact hsent
      · exact hsent.trans (keepsPair_setPrimary ..)

/-! ## Heads -/

theorem keepsPair_modHead (h : Nat) (f : Head → Head) (s : State) (hf : ∀ d, (f d).peerSigs = d.peerSigs := by exact fun _ => rfl) :
    KeepsPair s (s.modHead h f) := by
  refine ⟨rfl, rfl, rfl, rfl, rfl, rfl, rfl, rfl, fun g => ?_⟩
  by_cases hg : g = h
  · rw [hg, head_modHead]
    exact hf _
  · rw [(onlyHead_modHead h f s).2 g hg]

theorem keepsPair_settlePins (s : State) : KeepsPair s (settlePins s) := by
  have honly := onlyHeads_settlePins s
  exact ⟨honly.get (·.twin.xchgTick), honly.get (·.twin.lateRun), honly.get (·.twin.cnt.xchgLate), honly.get (·.twin.cnt.sigLate),
    honly.get (·.twin.sigRun), honly.get (·.twin.peerFaulted), honly.get (·.twin.mode), honly.get State.panes,
    fun g => by rw [head_settlePins]⟩

theorem keepsPair_dropLive (h : Nat) (s : State) : KeepsPair s (dropLive h s) := (keepsPair_modHead h _ s).trans (keepsPair_settlePins _)

theorem keepsPair_holdTile (h row col : Nat) (held : Option (Nat × Nat × Nat)) (twin : Bool) (s : State) :
    KeepsPair s (holdTile h row col held twin s) := by
  unfold holdTile
  dsimp only
  split
  · exact .refl s
  · exact .trans (t := { s with recheckN := s.recheckN + 1 }) ⟨rfl, rfl, rfl, rfl, rfl, rfl, rfl, rfl, fun _ => rfl⟩
      ((keepsPair_modHead h _ _).trans (keepsPair_dropLive ..))

theorem keepsPair_closeRow (h row cnt : Nat) (s : State) : KeepsPair s (closeRow h row cnt s) := keepsPair_modHead ..

theorem keepsPair_judgeRow (h row cnt : Nat) (s : State) : KeepsPair s (judgeRow h row cnt s) := by
  unfold judgeRow
  dsimp only
  split
  · exact .refl s
  · split
    · exact (keepsPair_closeRow ..).trans ((keepsPair_raise ..).trans ⟨rfl, rfl, rfl, rfl, rfl, rfl, rfl, rfl, fun _ => rfl⟩)
    · split
      · exact keepsPair_closeRow ..
      · exact .refl s
    · exact .refl s

theorem keepsPair_rowSkipped (h row cnt : Nat) (s : State) : KeepsPair s (rowSkipped h row cnt s) :=
  (keepsPair_modHead h _ s).trans (keepsPair_judgeRow ..)

theorem keepsPair_rowMatched (h row cnt : Nat) (s : State) : KeepsPair s (rowMatched h row cnt s) := by
  unfold rowMatched
  dsimp only
  refine .trans ?_ ((keepsPair_modHead h _ _).trans (keepsPair_judgeRow ..))
  split
  · exact keepsPair_raise ..
  · exact .refl s

theorem keepsPair_rowMismatched (h row cnt : Nat) (s : State) : KeepsPair s (rowMismatched h row cnt s) := by
  have hcount : ∀ (a : State) (m n : Nat),
      KeepsPair a { a with twin := { a.twin with cnt := { a.twin.cnt with mismatch := m, divergences := n } } } :=
    fun _ _ _ => ⟨rfl, rfl, rfl, rfl, rfl, rfl, rfl, rfl, fun _ => rfl⟩
  unfold rowMismatched
  extract_lets n d old ticks e s0 c1 w1 k1 s1 s2 w2 k2 s3 s4 s5
  have h0 : KeepsPair s s0 := keepsPair_raise ..
  split
  · exact (h0.trans ((keepsPair_closeRow h row cnt s0).trans (keepsPair_dropLive h _))).trans (hcount ..)
  · have h2 : KeepsPair s s2 := (h0.trans (keepsPair_holdTile ..)).trans (keepsPair_modHead ..)
    have h3 : KeepsPair s s3 := (h2.trans (hcount ..)).trans (keepsPair_dropLive ..)
    have h5 : KeepsPair s s5 := (h3.trans ((keepsPair_raise ..).trans (keepsPair_sendFlume ..))).trans (keepsPair_modHead ..)
    split
    · exact h5.trans (hcount ..)
    · exact h3

theorem keepsPair_noteSkew (h : Nat) (own peer : SigRecord) (s : State) : KeepsPair s (noteSkew h own peer s) := by
  unfold noteSkew
  split
  · exact ⟨rfl, rfl, rfl, rfl, rfl, rfl, rfl, rfl, fun _ => rfl⟩
  · split
    · exact .refl s
    · exact .trans (t := { s with twin := { s.twin with darkSkew := h :: s.twin.darkSkew } })
        ⟨rfl, rfl, rfl, rfl, rfl, rfl, rfl, rfl, fun _ => rfl⟩ (keepsPair_raise ..)

theorem keepsPair_foldl {α : Type} {f : State → α → State} (hf : ∀ s x, KeepsPair s (f s x)) (l : List α) (s : State) :
    KeepsPair s (l.foldl f s) := foldl_rel KeepsPair.refl KeepsPair.trans hf l s

/-- A comparison of a head frame leaves what the peer has sent (R255). -/
theorem compareFrame_spec (h cnt : Nat) (s : State) :
    (compareFrame h cnt s).twin.peerFaulted = s.twin.peerFaulted ∧ ∀ g, ((compareFrame h cnt s).head g).peerSigs = (s.head g).peerSigs := by
  unfold compareFrame
  dsimp only
  split
  · next own peer _ _ =>
    have hpair := (keepsPair_modHead h (fun d => { d with
      pairMatch := own.rowSigs == peer.rowSigs && !own.late && !peer.late
      sigs := d.sigs.map (fun r => if r.frameCnt = cnt then { r with compared := true } else r) }) s).trans (keepsPair_noteSkew h own peer _)
    have hrows := fun v => keepsPair_foldl (f := fun a r =>
      match rowCompare a own peer r with
      | 0 => rowMatched h r cnt a
      | 1 => rowSkipped h r cnt a
      | _ => rowMismatched h r cnt a) (fun a r => by
        split
        · exact keepsPair_rowMatched ..
        · exact keepsPair_rowSkipped ..
        · exact keepsPair_rowMismatched ..) (List.range own.rowSigs.length) v
    exact ⟨(hrows _).peerFaulted.trans hpair.peerFaulted, fun g => ((hrows _).peerSigs g).trans (hpair.peerSigs g)⟩
  · exact ⟨rfl, fun _ => rfl⟩

/-! ## Streams, groups and inputs -/

theorem keepsPair_setClass (x : Nat) (s : State) : KeepsPair s (setClass x s) := by
  unfold setClass idleDiscard
  dsimp only
  split
  · exact .refl s
  · split
    · split <;> exact ⟨rfl, rfl, rfl, rfl, rfl, rfl, rfl, rfl, fun _ => rfl⟩
    · split <;> exact ⟨rfl, rfl, rfl, rfl, rfl, rfl, rfl, rfl, fun _ => rfl⟩

theorem keepsPair_latchSilence (s : State) : KeepsPair s (latchSilence s) :=
  keepsPair_foldl (fun a x => by
    split
    · exact ⟨rfl, rfl, rfl, rfl, rfl, rfl, rfl, rfl, fun _ => rfl⟩
    · exact .refl a) _ s

theorem keepsPair_assignClasses (s : State) : KeepsPair s (assignClasses s) := keepsPair_foldl (fun _ _ => keepsPair_setClass ..) _ s

theorem keepsPair_sluiceStep (n : Nat) (s : State) : KeepsPair s (sluiceStep n s) :=
  keepsPair_foldl (fun a h => by
    dsimp only
    split
    · exact .refl a
    · exact keepsPair_modHead ..) _ s

theorem keepsPair_stallGroup (b : Basis) (g : Nat) (s : State) : KeepsPair s (stallGroup b g s) := by
  unfold stallGroup
  split
  · exact .refl s
  · exact ⟨rfl, rfl, rfl, rfl, rfl, rfl, rfl, rfl, fun _ => rfl⟩

theorem keepsPair_reportStall (g : Nat) (s : State) : KeepsPair s (reportStall g s) := by
  unfold reportStall
  dsimp only
  split
  · exact .refl s
  · exact .trans (t := s.modGroup g (fun q => { q with said := (s.group g).stall })) ⟨rfl, rfl, rfl, rfl, rfl, rfl, rfl, rfl, fun _ => rfl⟩
      (keepsPair_raise ..)

/-- The last steps of a tick whose exchange was late: no group commits, and no pane takes a frame (R250). -/
theorem keepsPair_finishSteps_closed (b : Basis) (n : Nat) (s : State) : KeepsPair s (finishSteps b n false s) := by
  have hstall : KeepsPair s ((pendingFlips s).foldl (fun a e => let t := stallGroup b e.1 a
      if e.1 < 64 then t else reportStall e.1 t) s) :=
    keepsPair_foldl (fun a e => by
      dsimp only
      split
      · exact keepsPair_stallGroup ..
      · exact (keepsPair_stallGroup ..).trans (keepsPair_reportStall ..)) _ s
  exact ((hstall.trans (keepsPair_assignClasses _)).trans (keepsPair_latchSilence _)).trans (keepsPair_sluiceStep ..)

end Sys2Proof.Machine
end

section
/-! The frames that a HOT pair exchanges in a tick (R50, R244 to R250, R255, R257). -/
namespace Sys2Proof.Machine

/-- A state with a received frame taken and counted (R228, R265). -/
def frameTaken (w : FlumeFrame) (s : State) : State :=
  { s with twin := { s.twin with cnt := { s.twin.cnt with
      corrected := (s.twin.cnt.corrected + (frameData w).2) % 2 ^ 32, framesRx := (s.twin.cnt.framesRx + 1) % 2 ^ 64 } } }

theorem takeFrame_taken {s : State} {type : Nat} {ok : Bool} {w : FlumeFrame} {f : FlumeHdr × Bytes} (h : s.receives type ok w f) :
    takeFrame type ok w s = (some f, frameTaken w s) := takeFrame_counts h

theorem onlyTwin_atTime (t : Time64) (s : State) : OnlyTwin s (atTime t s) := rfl

/-- A frame that is taken changes the twin unit and the counter's reading only. -/
theorem onlyTwin_frameTaken (w : FlumeFrame) (t : Time64) (s : State) : OnlyTwin s (atTime t (frameTaken w s)) :=
  .trans (t := frameTaken w s) rfl (onlyTwin_atTime t _)

/-! ## LEAD_STATE (R50, R245) -/

theorem exec_leadStateSend {s : State} {at' : Time64} (hlink : s.linkUsed = true) (hhot : s.hot = true) (hlead : s.timeLead = true)
    (h2 : 2 ≤ s.twin.lanesUsed) (hdue : leadStateT s ≤ at') (hnew : ∀ l : LeadState, s.time.leadRecv = some l → l.tick ≠ s.time.decided + 1) :
    ∃ l : LeadState, l.tick = s.time.decided + 1 ∧ l.at' = at' ∧ exec (.leadStateSend at') s = act (fun s =>
      sendFrame (s.time.decided + 1) none (.leadState l) { atTime at' s with time := { s.time with now := at', leadRecv := some l } }) s := by
  have halive : s.alive = true := by
    unfold State.linkUsed at hlink
    exact (Bool.and_eq_true_iff.mp (Bool.and_eq_true_iff.mp hlink).1).1
  have hrecv : s.time.leadRecv.any (fun l => l.tick == s.time.decided + 1) = false := by
    cases hl : s.time.leadRecv with
    | none => rfl
    | some l => exact beq_eq_false_iff_ne.mpr (hnew l hl)
  have hgo : ¬ (!s.alive || !s.hot || !s.timeLead || decide (s.twin.lanesUsed < 2) || decide (at' < leadStateT s)
      || s.time.leadRecv.any (fun l => l.tick == s.time.decided + 1)) = true := by
    rw [halive, hhot, hlead, decide_eq_false (Nat.not_lt.mpr h2), decide_eq_false (Nat.not_lt.mpr hdue), hrecv]
    exact Bool.false_ne_true
  refine ⟨⟨s.time.decided + 1, (ownLatch (atTime at' s)).1.time.own.code, (ownLatch (atTime at' s)).2.1, at'⟩, rfl, rfl, ?_⟩
  change execLeadStateSend at' s = _
  unfold execLeadStateSend
  exact act_congr (if_neg hgo)

theorem leadStateSend_completes {s : State} {at' : Time64} (hlink : s.linkUsed = true) (hhot : s.hot = true) (hlead : s.timeLead = true)
    (h2 : 2 ≤ s.twin.lanesUsed) (hdue : leadStateT s ≤ at') (hnew : ∀ l : LeadState, s.time.leadRecv = some l → l.tick ≠ s.time.decided + 1) :
    Completes (.leadStateSend at') s (fun t => ∃ l : LeadState, s.sentBody t (.leadState l) ∧ l.tick = s.time.decided + 1 ∧ l.at' = at'
      ∧ t.time = { s.time with now := at', leadRecv := some l } ∧ t.cfg = s.cfg ∧ t.events = s.events) := by
  obtain ⟨l, htick, hat, hexec⟩ := exec_leadStateSend hlink hhot hlead h2 hdue hnew
  have honly := onlyTwin_sendFrame (s.time.decided + 1) none (.leadState l)
    { atTime at' s with time := { s.time with now := at', leadRecv := some l } }
  have hcarry : State.linkCarries { atTime at' s with time := { s.time with now := at', leadRecv := some l } } := linkCarries_of_linkUsed hlink
  exact completes_of_keeps hexec _ rfl (.trans ⟨rfl, rfl, rfl⟩ honly.keeps)
    ⟨l, sentBody_sendFrame hcarry rfl .., htick, hat, sendFrame_time .., honly.get State.cfg, honly.get State.events⟩

theorem leadStateSend_early {s : State} {at' : Time64} (h : at' < leadStateT s) : Completes (.leadStateSend at') s (fun t => t = s) := by
  have hno : (!s.alive || !s.hot || !s.timeLead || decide (s.twin.lanesUsed < 2) || decide (at' < leadStateT s)
      || s.time.leadRecv.any (fun l => l.tick == s.time.decided + 1)) = true := by
    rw [decide_eq_true h, Bool.or_true, Bool.true_or]
  have hexec : exec (.leadStateSend at') s = act (fun s => s) s := by
    change execLeadStateSend at' s = _
    unfold execLeadStateSend
    exact act_congr (if_pos hno)
  exact completes_of_keeps hexec s rfl (.refl s) rfl

theorem exec_leadStateReceived {s : State} {tstate uWall : Nat} {w : FlumeFrame} {f : FlumeHdr × Bytes} {at' : Time64}
    (h : s.receives 4 (s.hot && 2 ≤ s.twin.lanesUsed) w f) (hlead : s.timeLead = false) (htick : f.1.tick = s.time.decided + 1) :
    exec (.leadStateReceived ⟨tstate, uWall, w, at'⟩) s = act (fun s =>
      { atTime at' (frameTaken w s) with time := { s.time with now := at', leadRecv := some ⟨f.1.tick, tstate, uWall, at'⟩ } }) s := by
  have hgo : ¬ ((frameTaken w s).timeLead || f.1.tick != (frameTaken w s).time.decided + 1) = true := by
    rw [show (frameTaken w s).timeLead = false from hlead, show (f.1.tick != (frameTaken w s).time.decided + 1) = false from bne_eq_false_iff_eq.mpr htick]
    exact Bool.false_ne_true
  change execLeadStateReceived ⟨tstate, uWall, w, at'⟩ s = _
  unfold execLeadStateReceived
  refine act_congr ?_
  dsimp only
  rw [takeFrame_taken h]
  exact if_neg hgo

/-! ## ADMIT (R247, R250) -/

theorem exec_admitReceived {s : State} {w : FlumeFrame} {f : FlumeHdr × Bytes} {at' : Time64}
    (h : s.receives 5 (s.hot && 2 ≤ s.twin.lanesUsed) w f) (hnone : s.twin.xchgTick = none) (htick : f.1.tick = s.time.decided + 1) :
    exec (.admitReceived ⟨w, at'⟩) s = act (fun s =>
      if at' ≤ xchgDeadline s f.1.tick then
        { atTime at' (frameTaken w s) with twin := { (frameTaken w s).twin with peerAdmit := some (readAdmit f.1.tick at' f.2) } }
      else frameTaken w s) s := by
  change execAdmitReceived ⟨w, at'⟩ s = _
  unfold execAdmitReceived
  refine act_congr ?_
  dsimp only
  rw [takeFrame_taken h]
  dsimp only
  rw [show (frameTaken w s).twin.xchgTick = none from hnone]
  refine ite_congr (propext ?_) (fun _ => rfl) (fun _ => rfl)
  rw [Bool.and_eq_true_iff, decide_eq_true_iff, decide_eq_true_iff]
  exact ⟨fun h => h.2, fun h => ⟨htick, h⟩⟩

theorem admitReceived_completes {s : State} {w : FlumeFrame} {f : FlumeHdr × Bytes} {at' : Time64}
    (h : s.receives 5 (s.hot && 2 ≤ s.twin.lanesUsed) w f) (hnone : s.twin.xchgTick = none) (htick : f.1.tick = s.time.decided + 1) :
    Completes (.admitReceived ⟨w, at'⟩) s (fun t =>
      t.twin.peerAdmit = (if at' ≤ xchgDeadline s f.1.tick then some (readAdmit f.1.tick at' f.2) else s.twin.peerAdmit)
      ∧ t.twin.cnt.framesRx = (s.twin.cnt.framesRx + 1) % 2 ^ 64 ∧ OnlyTwin s t) := by
  by_cases hin : at' ≤ xchgDeadline s f.1.tick
  · have honly : OnlyTwin s { atTime at' (frameTaken w s) with twin := { (frameTaken w s).twin with peerAdmit := some (readAdmit f.1.tick at' f.2) } } :=
      (onlyTwin_frameTaken w at' s).trans rfl
    exact completes_of_keeps (exec_admitReceived h hnone htick) _ (if_pos hin) honly.keeps ⟨(if_pos hin).symm, rfl, honly⟩
  · have honly : OnlyTwin s (frameTaken w s) := rfl
    exact completes_of_keeps (exec_admitReceived h hnone htick) _ (if_neg hin) honly.keeps ⟨(if_neg hin).symm, rfl, honly⟩

/-! ## An exchange that is late (R246, R250) -/

/-- A late tick counted. -/
def lateCounted (n : Nat) (s : State) : State :=
  { s with twin := { s.twin with
      lateRun := s.twin.lateRun + 1, lateTicks := (n :: s.twin.lateTicks).take 8
      cnt := { s.twin.cnt with xchgLate := (s.twin.cnt.xchgLate + 1) % 2 ^ 32 } } }

theorem keepsPair_lateTick (n : Nat) (s : State) : KeepsPair (lateCounted n s) (lateTick n s) := by
  unfold lateTick
  dsimp only
  split
  · exact (keepsPair_raise .twinXchgLate [(8, n)] (lateCounted n s)).trans (keepsPair_withdraw _)
  · exact keepsPair_raise .twinXchgLate [(8, n)] (lateCounted n s)

/-- The state in which an exchange has ended. -/
def xchgEnded (s : State) : State := { s with twin := { s.twin with xchgTick := none, ownAdmit := none, peerAdmit := none } }

theorem keepsPair_finishDecision_late {own : Admit} {s : State} (h : s.twin.peerAdmit = none) :
    KeepsPair (lateCounted own.tick (xchgEnded s)) (finishDecision own false s) := by
  have hlate : finishDecision own false s = finishSteps (maskBasis s [] []) own.tick false
      (publishHeld ((xchgEnded s).grid.decideT own.tick) (lateTick own.tick (xchgEnded s))) := by
    unfold finishDecision
    rw [h]
    rfl
  rw [hlate]
  exact ((keepsPair_lateTick ..).trans (keepsPair_publishHeld ..)).trans (keepsPair_finishSteps_closed ..)

theorem xchgDeadline_completes {s : State} {n : Nat} {own : Admit} {at' : Time64} (hx : s.twin.xchgTick = some n) (hown : s.twin.ownAdmit = some own)
    (hpeer : s.twin.peerAdmit = none) (hhot : s.hot = true) (halone : s.goesAlone = false) (hdue : xchgDeadline s n ≤ at') :
    Completes (.xchgDeadline at') s (fun t =>
      t.twin.xchgTick = none ∧ t.twin.lateRun = s.twin.lateRun + 1 ∧ t.twin.cnt.xchgLate = (s.twin.cnt.xchgLate + 1) % 2 ^ 32
      ∧ (∀ p : Nat, (t.pane p).shown = (s.pane p).shown)) := by
  have hexec : exec (.xchgDeadline at') s = act (fun s => finishDecision own false (atTime at' s)) s := by
    have hpair : (!s.hot || s.goesAlone) = false := by rw [hhot, halone]; rfl
    change execXchgDeadline at' s = _
    unfold execXchgDeadline
    refine act_congr ?_
    rw [hx, hown]
    exact (if_neg (Nat.not_lt.mpr hdue)).trans (congrArg (fun b => finishDecision own b (atTime at' s)) hpair)
  have hkeeps := keepsPair_finishDecision_late (own := own) (s := atTime at' s) hpeer
  refine completes_act hexec _ rfl ?_
  generalize finishDecision own false (atTime at' s) = u at hkeeps ⊢
  exact ⟨hkeeps.xchgTick, hkeeps.lateRun, hkeeps.xchgLate, fun p => congrArg (fun l => (tget paneInit l p).shown) hkeeps.panes⟩

/-! ## Signatures (R255) -/

/-- The peer's record of a SIG frame. -/
def sigRecordOf (m : SigFrame) (t : Time64) (n : Nat) : SigRecord :=
  ⟨m.frameCnt, m.dark, m.frameSig, m.rowSigs, m.rowFlags, m.xchgLate, false, t, n⟩

/-- The peer's record of a head frame kept with the three before it. -/
def sigKept (m : SigFrame) (r : SigRecord) (s : State) : State :=
  s.modHead m.head (fun d => { d with
    peerSigs := ((s.head m.head).peerSigs.filter (fun q => q.frameCnt != m.frameCnt) ++ [r]).drop
      (((s.head m.head).peerSigs.filter (fun q => q.frameCnt != m.frameCnt)).length - 3) })

theorem mem_sigKept (m : SigFrame) (r : SigRecord) (s : State) : r ∈ ((sigKept m r s).head m.head).peerSigs := by
  unfold sigKept
  rw [head_modHead]
  dsimp only
  generalize (s.head m.head).peerSigs.filter (fun q => q.frameCnt != m.frameCnt) = old
  rw [List.drop_append_of_le_length (Nat.sub_le ..)]
  exact List.mem_append_right _ (List.mem_singleton_self r)

theorem exec_sigReceived {s : State} {w : FlumeFrame} {f : FlumeHdr × Bytes} {at' : Time64}
    (h : s.receives 8 (s.hot && 2 ≤ s.twin.lanesUsed) w f) :
    exec (.sigReceived ⟨w, at'⟩) s = act (fun s =>
      compareFrame (readSig at' f.2).head (readSig at' f.2).frameCnt (sigKept (readSig at' f.2) (sigRecordOf (readSig at' f.2) at' f.1.tick)
        { atTime at' (frameTaken w s) with twin := { (frameTaken w s).twin with peerFaulted := (readSig at' f.2).selfFault } })) s := by
  change execSigReceived ⟨w, at'⟩ s = _
  unfold execSigReceived
  refine act_congr ?_
  dsimp only
  rw [takeFrame_taken h]
  rfl

theorem sigReceived_completes {s : State} {w : FlumeFrame} {f : FlumeHdr × Bytes} {at' : Time64} {m : SigFrame}
    (h : s.receives 8 (s.hot && 2 ≤ s.twin.lanesUsed) w f) (hm : m = readSig at' f.2) :
    Completes (.sigReceived ⟨w, at'⟩) s (fun t =>
      t.twin.peerFaulted = m.selfFault
      ∧ ∃ r ∈ (t.head m.head).peerSigs, r.frameCnt = m.frameCnt ∧ r.frameSig = m.frameSig ∧ r.rowSigs = m.rowSigs) := by
  have hexec := exec_sigReceived (at' := at') h
  rw [← hm] at hexec
  obtain ⟨hfault, hsigs⟩ := compareFrame_spec m.head m.frameCnt (sigKept m (sigRecordOf m at' f.1.tick)
    { atTime at' (frameTaken w s) with twin := { (frameTaken w s).twin with peerFaulted := m.selfFault } })
  refine completes_act hexec _ rfl ⟨hfault, sigRecordOf m at' f.1.tick, ?_, rfl, rfl, rfl⟩
  exact (hsigs m.head).symm ▸ mem_sigKept ..

/-- A record that did not come in time, counted (R255). -/
def sigMissed (h : Nat) (r : SigRecord) (t : Time64) (s : State) : State :=
  let s1 := (atTime t s).modHead h (fun d => { d with
    sigs := d.sigs.map (fun q => if q.frameCnt = r.frameCnt then { q with compared := true } else q) })
  { s1 with twin := { s1.twin with
      sigRun := tset h (tget 0 s.twin.sigRun h + 1) s1.twin.sigRun, cnt := { s1.twin.cnt with sigLate := (s1.twin.cnt.sigLate + 1) % 2 ^ 32 } } }

theorem exec_sigLate {s : State} {h : Fin 32} {r : SigRecord} {at' : Time64} (hr : (s.head h).sigs.find? (fun r => !r.compared) = some r)
    (hhot : s.hot = true) (hdue : 3 * r.formedT + s.grid.p3 ≤ 3 * at') :
    exec (.sigLate h at') s = act (fun s =>
      if tget 0 s.twin.sigRun h + 1 = 3 then
        raise .twinSigMissing [(1, h.val)] ((List.range r.rowSigs.length).foldl (fun a row => rowSkipped h row r.frameCnt a) (sigMissed h r at' s))
      else (List.range r.rowSigs.length).foldl (fun a row => rowSkipped h row r.frameCnt a) (sigMissed h r at' s)) s := by
  have hgo : ¬ (!s.hot || decide (3 * at' < 3 * r.formedT + s.grid.p3)) = true := by
    rw [hhot, decide_eq_false (Nat.not_lt.mpr hdue)]
    exact Bool.false_ne_true
  change execSigLate h at' s = _
  unfold execSigLate
  refine act_congr ?_
  rw [hr]
  exact if_neg hgo

theorem sigLate_completes {s : State} {h : Fin 32} {r : SigRecord} {at' : Time64} (hr : (s.head h).sigs.find? (fun r => !r.compared) = some r)
    (hhot : s.hot = true) (hdue : 3 * r.formedT + s.grid.p3 ≤ 3 * at') :
    Completes (.sigLate h at') s (fun t =>
      tget 0 t.twin.sigRun h = tget 0 s.twin.sigRun h + 1 ∧ t.twin.cnt.sigLate = (s.twin.cnt.sigLate + 1) % 2 ^ 32
      ∧ (tget 0 s.twin.sigRun h = 2 → s.raised t .twinSigMissing none [(1, h.val)])) := by
  have hrows := keepsPair_foldl (f := fun a row => rowSkipped h row r.frameCnt a) (fun _ _ => keepsPair_rowSkipped ..)
    (List.range r.rowSigs.length) (sigMissed h r at' s)
  have hexec := exec_sigLate hr hhot hdue
  have hrun : tget 0 (sigMissed h r at' s).twin.sigRun h = tget 0 s.twin.sigRun h + 1 := tget_tset_same ..
  by_cases h3 : tget 0 s.twin.sigRun h + 1 = 3
  · refine completes_act hexec _ (if_pos h3) ?_
    generalize (List.range r.rowSigs.length).foldl (fun a row => rowSkipped h row r.frameCnt a) (sigMissed h r at' s) = u at hrows ⊢
    have hmiss := hrows.trans (keepsPair_raise .twinSigMissing [(1, h.val)] u)
    have hraised : s.raised (raise .twinSigMissing [(1, h.val)] u) .twinSigMissing none [(1, h.val)] :=
      raised_raise _ _ (congrArg (· == TwinMode.hot) hrows.mode)
    generalize raise .twinSigMissing [(1, h.val)] u = v at hmiss hraised ⊢
    exact ⟨(congrArg (fun l => tget 0 l h.val) hmiss.sigRun).trans hrun, hmiss.sigLate, fun _ => raised_of_events hraised rfl rfl⟩
  · refine completes_act hexec _ (if_neg h3) ?_
    generalize (List.range r.rowSigs.length).foldl (fun a row => rowSkipped h row r.frameCnt a) (sigMissed h r at' s) = u at hrows ⊢
    exact ⟨(congrArg (fun l => tget 0 l h.val) hrows.sigRun).trans hrun, hrows.sigLate, fun h2 => absurd (congrArg (· + 1) h2) h3⟩

/-! ## STATE and EVENT frames (R230, R244, R257) -/

/-- What a STATE frame says of the peer (R230, R257). -/
def stateStep (m : StateMsg) (s : State) : State :=
  match m with
  | .withdraw n => peerWithdraws n s
  | .selfFault => { s with twin := { s.twin with peerFaulted := true } }
  | .divergence => s
  | .reinstate => { s with twin := { s.twin with peerWithdrawn := false, peerFaulted := false } }
  | .leave n => noteLeave n s

theorem exec_stateFrame {s : State} {m : StateMsg} {w : FlumeFrame} {f : FlumeHdr × Bytes} {at' : Time64} (h : s.receives 12 s.hot w f) :
    exec (.stateFrameReceived ⟨m, w⟩ at') s = act (fun s => stateStep m (atTime at' (frameTaken w s))) s := by
  change execStateFrameReceived ⟨m, w⟩ at' s = _
  unfold execStateFrameReceived
  refine act_congr ?_
  dsimp only
  rw [takeFrame_taken h]
  rfl

theorem setPrimary_spec (b : Bool) (s : State) :
    KeepsFrame s (setPrimary b s) ∧ (setPrimary b s).twin = { s.twin with primaryB := b } ∧ (setPrimary b s).events = s.events := by
  unfold setPrimary
  split
  · next h => exact ⟨.refl s, by rw [← beq_iff_eq.mp h], rfl⟩
  · dsimp only
    split <;> exact ⟨⟨rfl, rfl, rfl⟩, rfl, rfl⟩

/-- The peer has withdrawn, and this seat has not (R257, R296). -/
theorem peerWithdraws_spec {s : State} (h : s.twin.withdrawn = false) (n : Nat) :
    KeepsFrame s (peerWithdraws n s) ∧ (peerWithdraws n s).twin.peerWithdrawn = true ∧ (peerWithdraws n s).twin.withdrawn = false
    ∧ (s.seatB = true → (peerWithdraws n s).twin.primaryB = true) ∧ (peerWithdraws n s).events = s.events := by
  unfold peerWithdraws
  rw [h, Bool.false_and]
  dsimp only
  rw [Bool.false_and, if_neg Bool.false_ne_true, if_neg Bool.false_ne_true]
  obtain ⟨hk, htwin, hev⟩ := setPrimary_spec true { s with twin := { s.twin with peerWithdrawn := true } }
  split
  · rw [htwin]
    exact ⟨.trans ⟨rfl, rfl, rfl⟩ hk, rfl, h, fun _ => rfl, hev⟩
  · next hA => exact ⟨⟨rfl, rfl, rfl⟩, rfl, h, fun hB => absurd hB hA, rfl⟩

/-! ## Events (R244) -/

/-- The state in which a peer's event waits for the union. -/
def eventHeld (e : PeerEvent) (s : State) : State :=
  { s with twin := { s.twin with
    peerEvents := s.twin.peerEvents ++ [⟨e.time, !s.seatB, s.twin.evOrder, .peer e.code, none, e.payload⟩], evOrder := s.twin.evOrder + 1 } }

theorem exec_eventFrameReceived {s : State} {e : PeerEvent} {w : FlumeFrame} {f : FlumeHdr × Bytes} {at' : Time64} (h : s.receives 11 s.hot w f) :
    exec (.eventFrameReceived ⟨e, w⟩ at') s = act (fun s => eventHeld e (atTime at' (frameTaken w s))) s := by
  change execEventFrameReceived ⟨e, w⟩ at' s = _
  unfold execEventFrameReceived
  refine act_congr ?_
  dsimp only
  rw [takeFrame_taken h]
  rfl

theorem eventFrameReceived_completes {s : State} {e : PeerEvent} {w : FlumeFrame} {f : FlumeHdr × Bytes} {at' : Time64} (h : s.receives 11 s.hot w f) :
    Completes (.eventFrameReceived ⟨e, w⟩ at') s (fun t =>
      t.twin.peerEvents = s.twin.peerEvents ++ [⟨e.time, !s.seatB, s.twin.evOrder, .peer e.code, none, e.payload⟩]
      ∧ t.twin.evOrder = s.twin.evOrder + 1 ∧ OnlyTwin s t) := by
  have honly : OnlyTwin s (eventHeld e (atTime at' (frameTaken w s))) := (onlyTwin_frameTaken w at' s).trans rfl
  exact completes_of_keeps (exec_eventFrameReceived h) _ rfl honly.keeps ⟨rfl, rfl, honly⟩

/-- Settles O43. -/
theorem twinExchanges : Obligations.TwinExchanges := by
  refine ⟨fun s at' hlink hhot hlead h2 hdue hnew => leadStateSend_completes hlink hhot hlead h2 hdue hnew, fun s at' h => leadStateSend_early h,
    fun s tstate uWall w f at' h hlead htick => ?_, fun s w f at' h hnone htick => admitReceived_completes h hnone htick,
    fun s n own at' hx hown _ hpeer hhot halone hdue => xchgDeadline_completes hx hown hpeer hhot halone hdue,
    fun s w f at' m h hm => sigReceived_completes h hm, fun s h r at' hr hhot hdue => sigLate_completes hr hhot hdue,
    fun s w f at' h => ⟨?_, ?_, fun n => ?_, fun n hwd => ?_⟩,
    fun s e w f at' h => eventFrameReceived_completes h⟩
  · exact completes_of_keeps (exec_leadStateReceived h hlead htick) _ rfl ⟨rfl, rfl, rfl⟩ ⟨rfl, rfl, rfl, rfl⟩
  · have hre : OnlyTwin s (stateStep .reinstate (atTime at' (frameTaken w s))) := (onlyTwin_frameTaken w at' s).trans rfl
    exact completes_of_keeps (exec_stateFrame (m := .reinstate) h) _ rfl hre.keeps ⟨rfl, rfl, hre⟩
  · have hself : OnlyTwin s (stateStep .selfFault (atTime at' (frameTaken w s))) := (onlyTwin_frameTaken w at' s).trans rfl
    exact completes_of_keeps (exec_stateFrame (m := .selfFault) h) _ rfl hself.keeps ⟨rfl, hself⟩
  · have hleave : OnlyTwin s (stateStep (.leave n) (atTime at' (frameTaken w s))) := (onlyTwin_frameTaken w at' s).trans rfl
    exact completes_of_keeps (exec_stateFrame (m := .leave n) h) _ rfl hleave.keeps ⟨rfl, rfl, hleave⟩
  · obtain ⟨hk, hpw, hw, hprim, hev⟩ := peerWithdraws_spec (s := atTime at' (frameTaken w s)) hwd n
    exact completes_of_keeps (exec_stateFrame (m := .withdraw n) h) _ rfl ((onlyTwin_frameTaken w at' s).keeps.trans hk) ⟨hpw, hw, hprim, hev⟩

end Sys2Proof.Machine
end

section
/-! Commands that a HOT pair forwards, their acknowledgement and their resends (R231, R242, R243). -/
namespace Sys2Proof.Machine

/-! ## The state of a frame that has been received -/

/-- A frame counts only in a state that takes its type. -/
theorem ok_of_receives {s : State} {type : Nat} {ok : Bool} {w : FlumeFrame} {f : FlumeHdr × Bytes} (h : s.receives type ok w f) : ok = true := by
  cases ok with
  | true => rfl
  | false =>
    have hnone := takeFrame_refused (linkUsed_of_receives h) type w
    unfold State.receives at h
    rw [hnone] at h
    cases h

/-! ## Commands that a HOT pair drops -/

/-- What an answer in HOT leaves of the events and of the frames that wait (R244, R377). -/
structure AnswersHot (s t : State) : Prop where
  answers : OnlyAnswers s t
  hot : t.hot = s.hot
  outstanding : t.twin.outstanding = s.twin.outstanding
  events : s.hot = true → t.events = s.events

theorem AnswersHot.refl (s : State) : AnswersHot s s := ⟨.refl s, rfl, rfl, fun _ => rfl⟩

theorem AnswersHot.trans {s t u : State} (h : AnswersHot s t) (h' : AnswersHot t u) : AnswersHot s u :=
  ⟨h.answers.trans h'.answers, h'.hot.trans h.hot, h'.outstanding.trans h.outstanding,
    fun hh => (h'.events (h.hot.trans hh)).trans (h.events hh)⟩

/-- In HOT an answer changes nothing but the command interface and the twin unit. -/
theorem AnswersHot.onlyAcceptance {s t : State} (h : AnswersHot s t) (hhot : s.hot = true) : OnlyAcceptance s t := by
  have heq := h.answers.1
  rw [h.events hhot] at heq
  exact heq

theorem raise_events_hot (c : Ev) (p : List (Nat × Nat)) {s : State} (h : s.hot = true) : (raise c p s).events = s.events := by
  unfold raise raiseAt
  rw [if_pos h]
  unfold sendFlume
  exact (onlyTwin_sendFrame ..).get State.events

theorem raise_outstanding (c : Ev) (p : List (Nat × Nat)) (s : State) : (raise c p s).twin.outstanding = s.twin.outstanding := by
  obtain ⟨o, e, f, k, h⟩ := raiseAt_twin s.time.now c none p s
  unfold raise
  rw [h]

theorem answersHot_raise (c : Ev) (p : List (Nat × Nat)) (s : State) : AnswersHot s (raise c p s) :=
  ⟨(onlyEvents_raise c p s).onlyAnswers, raise_hot c p s, raise_outstanding c p s, raise_events_hot c p⟩

theorem answersHot_answer (h : CmdHdr) (op tick : Nat) (st : Status) (d : Nat) (res : Bytes) (s : State) :
    AnswersHot s (answer h op tick st d res s) := by
  have hform := (answer_frame h op tick st d res s).1
  have htwin : (answer h op tick st d res s).twin = s.twin := by rw [hform]
  have hevents : (answer h op tick st d res s).events = s.events := by rw [hform]
  exact ⟨onlyAnswers_answer .., congrArg (fun w : Twin => w.mode == .hot) htwin, congrArg Twin.outstanding htwin, fun _ => hevents⟩

theorem answersHot_failReply (a : Accepted) (tick : Nat) (st : Status) (d : Nat) (s : State) : AnswersHot s (failReply a tick st d s) := by
  unfold failReply
  split
  · exact answersHot_raise ..
  · exact answersHot_answer ..

/-- A state without the accepted commands of a frame (R242). -/
def withoutCmd (fseq : Nat) (s : State) : State :=
  { s with cmd := { s.cmd with accepted := s.cmd.accepted.filter (fun a => a.fseq != some fseq) } }

theorem answersHot_dropForwarded (fseq : Nat) (st : Status) (d : Nat) (s : State) : AnswersHot (withoutCmd fseq s) (dropForwarded fseq st d s) := by
  unfold dropForwarded
  rw [List.partition_eq_filter_filter]
  exact foldl_rel AnswersHot.refl AnswersHot.trans (fun b a => answersHot_failReply ..) _ _

/-- A forwarded command that is dropped in HOT leaves the accepted commands, and nothing but the interface and the twin unit changes. -/
theorem dropForwarded_hot {s : State} (fseq : Nat) (st : Status) (d : Nat) (h : s.hot = true) :
    (dropForwarded fseq st d s).cmd.accepted = s.cmd.accepted.filter (fun a => a.fseq != some fseq)
    ∧ (dropForwarded fseq st d s).twin.outstanding = s.twin.outstanding ∧ OnlyAcceptance s (dropForwarded fseq st d s) := by
  have hans := answersHot_dropForwarded fseq st d s
  exact ⟨hans.answers.2, hans.outstanding, .trans (t := withoutCmd fseq s) rfl (hans.onlyAcceptance h)⟩

/-! ## A forwarded packet (R242) -/

theorem ackFrame_spec {s u : State} (hs : s.linkCarries) (hu : u.twin.linkOn = s.twin.linkOn ∧ u.twin.lanes = s.twin.lanes ∧ u.out = s.out)
    (fseq st d : Nat) :
    s.sentBody (ackFrame fseq st d u) (.cmdAck ⟨fseq, st, d, u.time.now⟩) ∧ OnlyTwin u (ackFrame fseq st d u)
    ∧ (ackFrame fseq st d u).twin.rxCmd = u.twin.rxCmd := by
  obtain ⟨hon, hlanes, hout⟩ := hu
  have hu : u.linkCarries := ⟨hon.trans hs.1, hlanes ▸ hs.2⟩
  refine ⟨sentBody_sendFrame hu hout .., onlyTwin_sendFrame .., ?_⟩
  obtain ⟨o, fs, k, h⟩ := sendFrame_counts u.time.tick none (.cmdAck ⟨fseq, st, d, u.time.now⟩) u
  unfold ackFrame sendFlume
  rw [h]

theorem exec_cmdFrameReceived {s : State} {m : CmdFrame} {w : FlumeFrame} {f : FlumeHdr × Bytes} {h : CmdHdr} {k : Cmd} (hr : s.receives 9 s.hot w f)
    (hm : m.packet = some (h, k)) :
    exec (.cmdFrameReceived ⟨m, w⟩) s = act (fun s => takeForwarded f.1.fseq h k (atTime m.at' (frameTaken w s))) s := by
  change execCmdFrameReceived ⟨m, w⟩ s = _
  unfold execCmdFrameReceived
  refine act_congr ?_
  dsimp only
  rw [takeFrame_taken hr, hm]

/-- The state in which the number of a CMD frame has been noted. -/
def cmdNoted (fseq : Nat) (s : State) : State := { s with twin := { s.twin with rxCmd := some fseq } }

theorem onlyTwin_cmdNoted (fseq : Nat) (s : State) : OnlyTwin s (cmdNoted fseq s) := rfl

/-- A command that a forwarded packet brings (R242). -/
def forwardedCmd (fseq : Nat) (h : CmdHdr) (k : Cmd) (s : State) : Accepted :=
  ⟨s.cmd.order, h, k, ackTick s h, some fseq, true, true⟩

/-- A state whose accepted commands have one more. -/
def cmdJoined (a : Accepted) (s : State) : State :=
  { s with cmd := { s.cmd with order := s.cmd.order + 1, accepted := s.cmd.accepted ++ [a] } }

theorem onlyAcceptance_cmdJoined (a : Accepted) (s : State) : OnlyAcceptance s (cmdJoined a s) := rfl

theorem takeForwarded_again {fseq : Nat} {h : CmdHdr} {k : Cmd} {s : State} (hseen : seenFrame s fseq = true) :
    takeForwarded fseq h k s = ackFrame fseq 0 0 s := by
  unfold takeForwarded
  exact if_pos hseen

theorem takeForwarded_accepts {fseq : Nat} {h : CmdHdr} {k : Cmd} {s : State} (hseen : seenFrame s fseq = false)
    (hc : checkCmd (cmdNoted fseq s) { h with transport := .peer } k = none) :
    takeForwarded fseq h k s = ackFrame fseq 0 0 (cmdJoined (forwardedCmd fseq { h with transport := .peer } k (cmdNoted fseq s)) (cmdNoted fseq s)) := by
  unfold takeForwarded
  dsimp only
  rw [if_neg (Bool.eq_false_iff.mp hseen)]
  unfold cmdNoted at hc
  rw [hc]
  rfl

theorem takeForwarded_rejects {fseq : Nat} {h : CmdHdr} {k : Cmd} {s : State} {st : Status} {d : Nat} (hseen : seenFrame s fseq = false)
    (hc : checkCmd (cmdNoted fseq s) { h with transport := .peer } k = some (st, d)) :
    takeForwarded fseq h k s = ackFrame fseq st.code d (cmdNoted fseq s) := by
  unfold takeForwarded
  dsimp only
  rw [if_neg (Bool.eq_false_iff.mp hseen)]
  unfold cmdNoted at hc
  rw [hc]
  rfl

/-- A tick that a command resolves to lies past the last decided one (R361). -/
theorem decided_lt_resolve (s : State) (lead : Nat) (h : CmdHdr) : s.time.decided < (s.resolve lead h).tick := by
  unfold State.resolve
  dsimp only
  split
  · exact Nat.lt_of_succ_le (Nat.le_max_right ..)
  · split
    · exact Nat.lt_of_succ_le (Nat.le_max_right ..)
    · split
      · next hle => exact Nat.lt_of_succ_le (Nat.le_trans (Nat.le_max_right ..) hle)
      · exact Nat.lt_of_succ_le (Nat.le_max_right ..)

theorem cmdFrame_accepted {s : State} {m : CmdFrame} {w : FlumeFrame} {f : FlumeHdr × Bytes} {h : CmdHdr} {k : Cmd} (hr : s.receives 9 s.hot w f)
    (hm : m.packet = some (h, k)) (hseen : seenFrame s f.1.fseq = false)
    (hc : checkCmd (cmdNoted f.1.fseq (atTime m.at' (frameTaken w s))) { h with transport := .peer } k = none) :
    Completes (.cmdFrameReceived ⟨m, w⟩) s (fun t =>
      (∃ a, t.cmd.accepted = s.cmd.accepted ++ [a] ∧ a.hdr = { h with transport := .peer } ∧ a.cmd = k ∧ a.fseq = some f.1.fseq
        ∧ a.acked = true ∧ a.peer = true ∧ s.time.decided < a.tick)
      ∧ s.sentBody t (.cmdAck ⟨f.1.fseq, 0, 0, m.at'⟩) ∧ t.twin.rxCmd = some f.1.fseq ∧ t.cfg = s.cfg ∧ OnlyAcceptance s t) := by
  have hlt : s.time.decided
      < (forwardedCmd f.1.fseq { h with transport := .peer } k (cmdNoted f.1.fseq (atTime m.at' (frameTaken w s)))).tick :=
    decided_lt_resolve (cmdNoted f.1.fseq (atTime m.at' (frameTaken w s))) 50000 _
  obtain ⟨hsent, honly, hrx⟩ := ackFrame_spec (s := s)
    (u := cmdJoined (forwardedCmd f.1.fseq { h with transport := .peer } k (cmdNoted f.1.fseq (atTime m.at' (frameTaken w s))))
      (cmdNoted f.1.fseq (atTime m.at' (frameTaken w s)))) (linkCarries_of_receives hr) ⟨rfl, rfl, rfl⟩ f.1.fseq 0 0
  have hall : OnlyAcceptance s _ := ((((onlyTwin_frameTaken w m.at' s).trans (onlyTwin_cmdNoted ..)).onlyAcceptance).trans
    (onlyAcceptance_cmdJoined ..)).trans honly.onlyAcceptance
  exact completes_of_keeps (exec_cmdFrameReceived hr hm) _ (takeForwarded_accepts hseen hc) hall.keeps
    ⟨⟨_, honly.get (·.cmd.accepted), rfl, rfl, rfl, rfl, rfl, hlt⟩, hsent, hrx, hall.get State.cfg, hall⟩

theorem cmdFrame_rejected {s : State} {m : CmdFrame} {w : FlumeFrame} {f : FlumeHdr × Bytes} {h : CmdHdr} {k : Cmd} {st : Status} {d : Nat}
    (hr : s.receives 9 s.hot w f) (hm : m.packet = some (h, k)) (hseen : seenFrame s f.1.fseq = false)
    (hc : checkCmd (cmdNoted f.1.fseq (atTime m.at' (frameTaken w s))) { h with transport := .peer } k = some (st, d)) :
    Completes (.cmdFrameReceived ⟨m, w⟩) s (fun t =>
      t.cmd = s.cmd ∧ s.sentBody t (.cmdAck ⟨f.1.fseq, st.code, d, m.at'⟩) ∧ OnlyTwin s t) := by
  obtain ⟨hsent, honly, -⟩ := ackFrame_spec (s := s) (u := cmdNoted f.1.fseq (atTime m.at' (frameTaken w s))) (linkCarries_of_receives hr) ⟨rfl, rfl, rfl⟩
    f.1.fseq st.code d
  have hall : OnlyTwin s _ := ((onlyTwin_frameTaken w m.at' s).trans (onlyTwin_cmdNoted ..)).trans honly
  exact completes_of_keeps (exec_cmdFrameReceived hr hm) _ (takeForwarded_rejects hseen hc) hall.keeps ⟨hall.get State.cmd, hsent, hall⟩

theorem cmdFrame_seen {s : State} {m : CmdFrame} {w : FlumeFrame} {f : FlumeHdr × Bytes} {h : CmdHdr} {k : Cmd}
    (hr : s.receives 9 s.hot w f) (hm : m.packet = some (h, k)) (hseen : seenFrame s f.1.fseq = true) :
    Completes (.cmdFrameReceived ⟨m, w⟩) s (fun t =>
      t.cmd = s.cmd ∧ s.sentBody t (.cmdAck ⟨f.1.fseq, 0, 0, m.at'⟩) ∧ OnlyTwin s t) := by
  obtain ⟨hsent, honly, -⟩ := ackFrame_spec (s := s) (u := atTime m.at' (frameTaken w s)) (linkCarries_of_receives hr) ⟨rfl, rfl, rfl⟩ f.1.fseq 0 0
  have hall : OnlyTwin s _ := (onlyTwin_frameTaken w m.at' s).trans honly
  exact completes_of_keeps (exec_cmdFrameReceived hr hm) _ (takeForwarded_again hseen) hall.keeps ⟨hall.get State.cmd, hsent, hall⟩

/-! ## An acknowledgement (R242) -/

/-- The state in which a CMD frame that has been answered waits no more. -/
def cmdAnswered (fseq : Nat) (s : State) : State :=
  { s with twin := { s.twin with outstanding := s.twin.outstanding.filter (fun o => o.snap || o.fseq != fseq) } }

theorem onlyTwin_cmdAnswered (fseq : Nat) (s : State) : OnlyTwin s (cmdAnswered fseq s) := rfl

/-- The accepted commands with that of a frame acknowledged and its tick fixed. -/
def cmdsAcked (fseq : Nat) (s : State) : State :=
  { s with cmd := { s.cmd with accepted := s.cmd.accepted.map (fun a => if a.fseq = some fseq then
    { a with acked := true, tick := if s.routeBoth then a.tick else ackTick s a.hdr } else a) } }

theorem onlyAcceptance_cmdsAcked (fseq : Nat) (s : State) : OnlyAcceptance s (cmdsAcked fseq s) := rfl

theorem ackTick_congr {s t : State} (hcfg : t.cfg = s.cfg) (htime : t.time = s.time) (h : CmdHdr) : ackTick t h = ackTick s h := by
  unfold ackTick State.resolve State.grid
  rw [hcfg, htime]

theorem cmdsAcked_answered (fseq : Nat) (w : FlumeFrame) (t : Time64) (s : State) :
    (cmdsAcked fseq (cmdAnswered fseq (atTime t (frameTaken w s)))).cmd.accepted = s.cmd.accepted.map (fun a =>
      if a.fseq = some fseq then { a with acked := true, tick := if s.routeBoth then a.tick else ackTick (atTime t s) a.hdr } else a) := by
  have hboth : (cmdAnswered fseq (atTime t (frameTaken w s))).routeBoth = s.routeBoth := rfl
  have htick := ackTick_congr (s := atTime t s) (t := cmdAnswered fseq (atTime t (frameTaken w s))) rfl rfl
  unfold cmdsAcked
  simp only [hboth, htick]
  rfl

theorem exec_cmdAckReceived {s : State} {m : CmdAck} {w : FlumeFrame} {f : FlumeHdr × Bytes} (hr : s.receives 10 s.hot w f)
    (hout : s.twin.outstanding.any (fun o => o.fseq == m.fseq && !o.snap) = true) :
    exec (.cmdAckReceived ⟨m, w⟩) s = act (fun s =>
      if 0x100 ≤ m.status then dropForwarded m.fseq (statusOf m.status) (m.detail % 2 ^ 31 + 2 ^ 31) (cmdAnswered m.fseq (atTime m.at' (frameTaken w s)))
      else cmdsAcked m.fseq (cmdAnswered m.fseq (atTime m.at' (frameTaken w s)))) s := by
  have hgo : ¬ (!(frameTaken w s).twin.outstanding.any (fun o => o.fseq == m.fseq && !o.snap)) = true := by
    rw [show (frameTaken w s).twin.outstanding = s.twin.outstanding from rfl, hout]
    exact Bool.false_ne_true
  change execCmdAckReceived ⟨m, w⟩ s = _
  unfold execCmdAckReceived
  refine act_congr ?_
  dsimp only
  rw [takeFrame_taken hr]
  exact if_neg hgo

theorem cmdAck_taken {s : State} {m : CmdAck} {w : FlumeFrame} {f : FlumeHdr × Bytes} (hr : s.receives 10 s.hot w f)
    (hout : s.twin.outstanding.any (fun o => o.fseq == m.fseq && !o.snap) = true) (hst : m.status < 0x100) :
    Completes (.cmdAckReceived ⟨m, w⟩) s (fun t =>
      t.cmd.accepted = s.cmd.accepted.map (fun a => if a.fseq = some m.fseq then { a with
        acked := true
        tick := if s.routeBoth then a.tick else ackTick (atTime m.at' s) a.hdr } else a)
      ∧ t.twin.outstanding = s.twin.outstanding.filter (fun o => o.snap || o.fseq != m.fseq) ∧ t.out = s.out ∧ OnlyAcceptance s t) := by
  have hall : OnlyAcceptance s (cmdsAcked m.fseq (cmdAnswered m.fseq (atTime m.at' (frameTaken w s)))) :=
    ((onlyTwin_frameTaken w m.at' s).trans (onlyTwin_cmdAnswered ..)).onlyAcceptance.trans (onlyAcceptance_cmdsAcked ..)
  exact completes_of_keeps (exec_cmdAckReceived hr hout) _ (if_neg (Nat.not_le.mpr hst)) hall.keeps
    ⟨cmdsAcked_answered m.fseq w m.at' s, rfl, rfl, hall⟩

theorem cmdAck_refused {s : State} {m : CmdAck} {w : FlumeFrame} {f : FlumeHdr × Bytes} (hr : s.receives 10 s.hot w f)
    (hout : s.twin.outstanding.any (fun o => o.fseq == m.fseq && !o.snap) = true) (hst : 0x100 ≤ m.status) :
    Completes (.cmdAckReceived ⟨m, w⟩) s (fun t =>
      t.cmd.accepted = s.cmd.accepted.filter (fun a => a.fseq != some m.fseq) ∧ t.cfg = s.cfg ∧ OnlyAcceptance s t) := by
  obtain ⟨hacc, -, honly⟩ := dropForwarded_hot (s := cmdAnswered m.fseq (atTime m.at' (frameTaken w s))) m.fseq (statusOf m.status)
    (m.detail % 2 ^ 31 + 2 ^ 31) (ok_of_receives hr)
  have hall : OnlyAcceptance s _ := ((onlyTwin_frameTaken w m.at' s).trans (onlyTwin_cmdAnswered ..)).onlyAcceptance.trans honly
  exact completes_of_keeps (exec_cmdAckReceived hr hout) _ (if_pos hst) hall.keeps ⟨hacc, hall.get State.cfg, hall⟩

/-! ## Resends (R231) -/

/-- A CMD frame that waits for its acknowledgement. -/
def cmdWaits (fseq : Nat) (o : Outstanding) : Bool := o.fseq == fseq && o.snap == false

/-- The state in which a CMD frame no longer waits, or waits anew. -/
def cmdResent (fseq : Nat) (again : List Outstanding) (s : State) : State :=
  { s with twin := { s.twin with outstanding := s.twin.outstanding.filter (fun q => !(q.fseq == fseq && q.snap == false)) ++ again } }

theorem onlyTwin_cmdResent (fseq : Nat) (again : List Outstanding) (s : State) : OnlyTwin s (cmdResent fseq again s) := rfl

theorem exec_flumeResend {s : State} {fseq : Nat} {o : Outstanding} {at' : Time64}
    (ho : s.twin.outstanding.find? (fun o => o.fseq == fseq && o.snap == false) = some o) (hdue : o.sentT + 20000 ≤ at') :
    exec (.flumeResend ⟨false, fseq⟩ at') s = act (fun s =>
      if 3 ≤ o.resent then giveUpCmd fseq { atTime at' s with twin := { s.twin with
        outstanding := s.twin.outstanding.filter (fun q => !(q.fseq == fseq && q.snap == false)) } }
      else sendAgain false fseq (cmdResent fseq [{ o with sentT := at', resent := o.resent + 1 }] (atTime at' s))) s := by
  change execFlumeResend ⟨false, fseq⟩ at' s = _
  unfold execFlumeResend
  refine act_congr ?_
  dsimp only
  rw [ho]
  exact if_neg (Nat.not_lt.mpr hdue)

theorem flumeResend_again {s : State} {fseq : Nat} {o : Outstanding} {a : Accepted} {at' : Time64} (hlink : s.linkUsed = true)
    (ho : s.twin.outstanding.find? (fun o => o.fseq == fseq && o.snap == false) = some o) (hdue : o.sentT + 20000 ≤ at') (hn : o.resent < 3)
    (ha : s.cmd.accepted.find? (fun a => a.fseq == some fseq && !a.peer) = some a) :
    Completes (.flumeResend ⟨false, fseq⟩ at') s (fun t =>
      (∃ h fr, s.sent t (.flume h (.cmd (cmdFrameOf s.routeBoth a.hdr a.cmd at')) fr) ∧ h.fseq = fseq ∧ h.resend = true)
      ∧ t.cmd = s.cmd
      ∧ t.twin.outstanding = s.twin.outstanding.filter (fun q => !(q.fseq == fseq && q.snap == false))
        ++ [{ o with sentT := at', resent := o.resent + 1 }]
      ∧ OnlyTwin s t) := by
  have hsend : sendAgain false fseq (cmdResent fseq [{ o with sentT := at', resent := o.resent + 1 }] (atTime at' s))
      = sendFrame s.time.tick (some fseq) (.cmd (cmdFrameOf s.routeBoth a.hdr a.cmd at'))
          (cmdResent fseq [{ o with sentT := at', resent := o.resent + 1 }] (atTime at' s)) := by
    unfold sendAgain
    rw [if_neg Bool.false_ne_true, show (cmdResent fseq [{ o with sentT := at', resent := o.resent + 1 }] (atTime at' s)).cmd = s.cmd from rfl, ha]
    rfl
  have hcarry : (cmdResent fseq [{ o with sentT := at', resent := o.resent + 1 }] (atTime at' s)).linkCarries := linkCarries_of_linkUsed hlink
  have hout := sendFrame_out_carried hcarry s.time.tick (some fseq) (.cmd (cmdFrameOf s.routeBoth a.hdr a.cmd at'))
  have honly := onlyTwin_sendFrame s.time.tick (some fseq) (.cmd (cmdFrameOf s.routeBoth a.hdr a.cmd at'))
    (cmdResent fseq [{ o with sentT := at', resent := o.resent + 1 }] (atTime at' s))
  obtain ⟨out, fs, n, hform⟩ := sendFrame_counts s.time.tick (some fseq) (.cmd (cmdFrameOf s.routeBoth a.hdr a.cmd at'))
    (cmdResent fseq [{ o with sentT := at', resent := o.resent + 1 }] (atTime at' s))
  have hall : OnlyTwin s _ := ((onlyTwin_atTime at' s).trans (onlyTwin_cmdResent ..)).trans honly
  refine completes_of_keeps (exec_flumeResend ho hdue) _ ((if_neg (Nat.not_le.mpr hn)).trans hsend) hall.keeps
    ⟨⟨_, _, ⟨[], by rw [List.append_nil]; exact hout⟩, rfl, rfl⟩, hall.get State.cmd, ?_, hall⟩
  rw [hform]
  rfl

theorem flumeResend_gives_up {s : State} {fseq : Nat} {o : Outstanding} {at' : Time64} (hhot : s.hot = true)
    (ho : s.twin.outstanding.find? (fun o => o.fseq == fseq && o.snap == false) = some o) (hdue : o.sentT + 20000 ≤ at') (hn : 3 ≤ o.resent) :
    Completes (.flumeResend ⟨false, fseq⟩ at') s (fun t =>
      t.cmd.accepted = s.cmd.accepted.filter (fun a => a.fseq != some fseq)
      ∧ t.twin.outstanding = s.twin.outstanding.filter (fun q => !(q.fseq == fseq && q.snap == false)) ∧ t.cfg = s.cfg
      ∧ OnlyAcceptance s t) := by
  obtain ⟨u, hu⟩ : ∃ u, u = { atTime at' s with twin := { s.twin with
    outstanding := s.twin.outstanding.filter (fun q => !(q.fseq == fseq && q.snap == false)) } } := ⟨_, rfl⟩
  obtain ⟨out, fs, n, hform⟩ := sendFrame_counts u.time.tick (some fseq) (.cmd ⟨none, none, u.time.now⟩) u
  have hsent : OnlyTwin s (sendFrame u.time.tick (some fseq) (.cmd ⟨none, none, u.time.now⟩) u) :=
    .trans (t := u) (by rw [hu]; rfl) (onlyTwin_sendFrame ..)
  have hmode : (sendFrame u.time.tick (some fseq) (.cmd ⟨none, none, u.time.now⟩) u).hot = true := by
    rw [hform, hu]
    exact hhot
  obtain ⟨hacc, hout, honly⟩ := dropForwarded_hot fseq (.fail 3) 0 hmode
  have hall : OnlyAcceptance s _ := hsent.onlyAcceptance.trans honly
  refine completes_of_keeps (exec_flumeResend ho hdue) _ ((if_pos hn).trans (congrArg (giveUpCmd fseq) hu.symm)) hall.keeps
    ⟨?_, ?_, hall.get State.cfg, hall⟩
  · exact hacc.trans (congrArg (List.filter _) (hsent.get (·.cmd.accepted)))
  · refine hout.trans ?_
    rw [hform, hu]

/-- Settles O44. -/
theorem twinCommands : Obligations.TwinCommands := by
  unfold Obligations.TwinCommands
  refine ⟨fun s m w f h k hr hm hseen hc => ?_, fun s m w f h k st d hr hm hseen hc => ?_, fun s m w f h k hr hm hseen => cmdFrame_seen hr hm hseen,
    fun s m w f hr hout hst => cmdAck_taken hr hout hst, fun s m w f hr hout hst => cmdAck_refused hr hout hst,
    fun s fseq o a at' hlink ho hdue hn ha => flumeResend_again hlink ho hdue hn ha,
    fun s fseq o at' hhot ho hdue hn => flumeResend_gives_up hhot ho hdue hn⟩
  · rw [takeFrame_taken hr] at hc
    exact cmdFrame_accepted hr hm hseen hc
  · rw [takeFrame_taken hr] at hc
    exact cmdFrame_rejected hr hm hseen hc

end Sys2Proof.Machine
end

section
/-! Snapshot transfers (R231, R261, R262). -/
namespace Sys2Proof.Machine

/-! ## What is sent -/

/-- Two states have the same lanes, and nothing has been sent between them. -/
def SameLink (s u : State) : Prop := u.twin.linkOn = s.twin.linkOn ∧ u.twin.lanes = s.twin.lanes ∧ u.out = s.out

theorem SameLink.trans {s t u : State} (h : SameLink s t) (h' : SameLink t u) : SameLink s u := by
  obtain ⟨hon, hlanes, hout⟩ := h
  obtain ⟨hon', hlanes', hout'⟩ := h'
  exact ⟨hon'.trans hon, hlanes'.trans hlanes, hout'.trans hout⟩

theorem sameLink_atTime (t : Time64) (s : State) : SameLink s (atTime t s) := ⟨rfl, rfl, rfl⟩

theorem sameLink_frameTaken (w : FlumeFrame) (t : Time64) (s : State) : SameLink s (atTime t (frameTaken w s)) :=
  .trans (t := frameTaken w s) ⟨rfl, rfl, rfl⟩ (sameLink_atTime t _)

/-- A frame that goes out with what it leaves of the twin unit. -/
theorem sendFlume_spec {s u : State} (hs : s.linkCarries) (hu : SameLink s u) (b : FlumeBody) :
    s.sentBody (sendFlume b u) b ∧ OnlyTwin u (sendFlume b u)
    ∧ ∃ f k, (sendFlume b u).twin = { u.twin with fseqs := f, cnt := { u.twin.cnt with framesTx := k } } := by
  obtain ⟨hon, hlanes, hout⟩ := hu
  have hcarry : u.linkCarries := ⟨hon.trans hs.1, hlanes ▸ hs.2⟩
  obtain ⟨o, f, k, h⟩ := sendFrame_counts u.time.tick none b u
  refine ⟨sentBody_sendFrame hcarry hout .., onlyTwin_sendFrame .., f, k, ?_⟩
  unfold sendFlume
  rw [h]

/-- The segment of a transfer that goes out, and what it leaves of the transfer. -/
theorem sendSegment_spec {s u : State} {x : Sending} (hx : u.twin.sending = some x) (hs : s.linkCarries) (hu : SameLink s u) :
    s.sentBody (sendSegment u) (.snap (segmentOf x u.time.now)) ∧ OnlyTwin u (sendSegment u) ∧ (sendSegment u).twin.sending = some x
    ∧ (sendSegment u).twin.snapSentT = u.twin.snapSentT ∧ (sendSegment u).twin.mode = u.twin.mode := by
  obtain ⟨hsent, honly, f, k, htwin⟩ := sendFlume_spec (s := s) (u := { u with twin := { u.twin with
      outstanding := u.twin.outstanding.filter (fun o => !o.snap) ++ [⟨u.nextFseq 13, true, u.time.now, 0⟩] } }) hs (hu.trans ⟨rfl, rfl, rfl⟩) (.snap (segmentOf x u.time.now))
  have hsend : sendSegment u = sendFlume (.snap (segmentOf x u.time.now)) { u with twin := { u.twin with
      outstanding := u.twin.outstanding.filter (fun o => !o.snap) ++ [⟨u.nextFseq 13, true, u.time.now, 0⟩] } } := by
    unfold sendSegment
    rw [hx]
  rw [hsend, htwin]
  exact ⟨hsent, .trans (t := { u with twin := { u.twin with
    outstanding := u.twin.outstanding.filter (fun o => !o.snap) ++ [⟨u.nextFseq 13, true, u.time.now, 0⟩] } }) rfl honly, hx, rfl, rfl⟩

/-! ## The receiver -/

/-- A state with what this seat receives of a transfer. -/
def segmentStored (r : Option Receiving) (s : State) : State := { s with twin := { s.twin with receiving := r } }

theorem onlyTwin_segmentStored (r : Option Receiving) (s : State) : OnlyTwin s (segmentStored r s) := rfl

/-- What the receiver does with a segment that belongs to a transfer (R261). -/
def segmentStep (m : SnapSegment) (r : Option Receiving) (s : State) : State :=
  match r with
  | none => if knownSegment m s then sendFlume (.snapAck m.snapId m.offset) s else s
  | some r =>
    if r.data.length < r.total then sendFlume (.snapAck m.snapId m.offset) (segmentStored (some r) s)
    else if snapshotCrc r.data != m.crc then segmentStored none s
    else sendFlume (.snapAck m.snapId m.offset) (finishReceiving r s)

theorem exec_snapReceived {s : State} {m : SnapSegment} {w : FlumeFrame} {f : FlumeHdr × Bytes} (h : s.receives 13 (takesSnapshot s m.purpose) w f) :
    exec (.snapReceived ⟨m, w⟩) s = act (fun s =>
      if f.1.resend && knownSegment m (atTime m.at' (frameTaken w s)) then sendFlume (.snapAck m.snapId m.offset) (atTime m.at' (frameTaken w s))
      else segmentStep m (if m.offset = 0 then some ⟨m.purpose, m.snapId, m.tick, m.total, m.data⟩
        else match s.twin.receiving with
          | some r => if r.snapId = m.snapId && r.data.length = m.offset then some { r with data := r.data ++ m.data } else none
          | none => none) (atTime m.at' (frameTaken w s))) s := by
  change execSnapReceived ⟨m, w⟩ s = _
  unfold execSnapReceived
  refine act_congr ?_
  dsimp only
  rw [takeFrame_taken h]
  rfl

theorem exec_snapReceived_new {s : State} {m : SnapSegment} {w : FlumeFrame} {f : FlumeHdr × Bytes}
    (h : s.receives 13 (takesSnapshot s m.purpose) w f) (hre : f.1.resend = false) (hoff : m.offset = 0) :
    exec (.snapReceived ⟨m, w⟩) s
      = act (fun s => segmentStep m (some ⟨m.purpose, m.snapId, m.tick, m.total, m.data⟩) (atTime m.at' (frameTaken w s))) s := by
  rw [exec_snapReceived h]
  refine act_congr ?_
  rw [hre, Bool.false_and, if_neg Bool.false_ne_true, if_pos hoff]

theorem exec_snapReceived_next {s : State} {m : SnapSegment} {w : FlumeFrame} {f : FlumeHdr × Bytes} {r : Receiving}
    (h : s.receives 13 (takesSnapshot s m.purpose) w f) (hre : f.1.resend = false) (hoff : m.offset ≠ 0) (hr : s.twin.receiving = some r)
    (hid : r.snapId = m.snapId) (hlen : r.data.length = m.offset) :
    exec (.snapReceived ⟨m, w⟩) s = act (fun s => segmentStep m (some { r with data := r.data ++ m.data }) (atTime m.at' (frameTaken w s))) s := by
  rw [exec_snapReceived h]
  refine act_congr ?_
  have hfits : (decide (r.snapId = m.snapId) && decide (r.data.length = m.offset)) = true := by
    rw [decide_eq_true hid, decide_eq_true hlen]
    rfl
  rw [hre, Bool.false_and, if_neg Bool.false_ne_true, if_neg hoff, hr]
  dsimp only
  rw [if_pos hfits]

theorem snapReceived_first {s : State} {m : SnapSegment} {w : FlumeFrame} {f : FlumeHdr × Bytes} (h : s.receives 13 (takesSnapshot s m.purpose) w f)
    (hre : f.1.resend = false) (hoff : m.offset = 0) (hlen : m.data.length < m.total) :
    Completes (.snapReceived ⟨m, w⟩) s (fun t =>
      t.twin.receiving = some ⟨m.purpose, m.snapId, m.tick, m.total, m.data⟩ ∧ s.sentBody t (.snapAck m.snapId 0)
      ∧ t.twin.snapHeld = s.twin.snapHeld ∧ OnlyTwin s t) := by
  obtain ⟨hsent, honly, fs, k, htwin⟩ := sendFlume_spec (s := s)
    (u := segmentStored (some ⟨m.purpose, m.snapId, m.tick, m.total, m.data⟩) (atTime m.at' (frameTaken w s)))
    (linkCarries_of_receives h) ((sameLink_frameTaken w m.at' s).trans ⟨rfl, rfl, rfl⟩) (.snapAck m.snapId m.offset)
  have hall : OnlyTwin s _ := ((onlyTwin_frameTaken w m.at' s).trans (onlyTwin_segmentStored ..)).trans honly
  refine completes_of_keeps (exec_snapReceived_new h hre hoff) _ (if_pos hlen) hall.keeps ⟨?_, hoff ▸ hsent, ?_, hall⟩ <;> rw [htwin] <;> rfl

theorem snapReceived_again {s : State} {m : SnapSegment} {w : FlumeFrame} {f : FlumeHdr × Bytes} (h : s.receives 13 (takesSnapshot s m.purpose) w f)
    (hre : f.1.resend = true) (hknown : knownSegment m s = true) :
    Completes (.snapReceived ⟨m, w⟩) s (fun t =>
      s.sentBody t (.snapAck m.snapId m.offset) ∧ t.twin.receiving = s.twin.receiving ∧ t.twin.snapHeld = s.twin.snapHeld ∧ OnlyTwin s t) := by
  obtain ⟨hsent, honly, fs, k, htwin⟩ := sendFlume_spec (s := s) (u := atTime m.at' (frameTaken w s))
    (linkCarries_of_receives h) (sameLink_frameTaken w m.at' s) (.snapAck m.snapId m.offset)
  have hall : OnlyTwin s _ := (onlyTwin_frameTaken w m.at' s).trans honly
  have hgo : (f.1.resend && knownSegment m (atTime m.at' (frameTaken w s))) = true := by
    rw [hre, Bool.true_and]
    exact hknown
  refine completes_of_keeps (exec_snapReceived h) _ (if_pos hgo) hall.keeps ⟨hsent, ?_, ?_, hall⟩ <;> rw [htwin] <;> rfl

theorem snapReceived_wrong {s : State} {m : SnapSegment} {w : FlumeFrame} {f : FlumeHdr × Bytes} {r : Receiving}
    (h : s.receives 13 (takesSnapshot s m.purpose) w f) (hre : f.1.resend = false) (hoff : m.offset ≠ 0) (hr : s.twin.receiving = some r)
    (hid : r.snapId = m.snapId) (hlen : r.data.length = m.offset) (hall : r.total ≤ (r.data ++ m.data).length)
    (hcrc : snapshotCrc (r.data ++ m.data) ≠ m.crc) :
    Completes (.snapReceived ⟨m, w⟩) s (fun t => t.twin.receiving = none ∧ t.out = s.out ∧ t.twin.snapHeld = s.twin.snapHeld ∧ OnlyTwin s t) := by
  have hstep : segmentStep m (some { r with data := r.data ++ m.data }) (atTime m.at' (frameTaken w s))
      = segmentStored none (atTime m.at' (frameTaken w s)) := by
    refine (if_neg (Nat.not_lt.mpr hall)).trans (if_pos ?_)
    exact bne_iff_ne.mpr hcrc
  have honly : OnlyTwin s (segmentStored none (atTime m.at' (frameTaken w s))) := (onlyTwin_frameTaken w m.at' s).trans (onlyTwin_segmentStored ..)
  exact completes_of_keeps (exec_snapReceived_next h hre hoff hr hid hlen) _ hstep honly.keeps ⟨rfl, rfl, rfl, honly⟩

/-! ## The sender -/

/-- A transfer whose segment has been acknowledged. -/
def segmentAcked (x : Sending) : Sending := { x with acked := x.acked + 4096 }

/-- A state with the transfer that this seat sends. -/
def sendingNow (x : Sending) (s : State) : State := { s with twin := { s.twin with sending := some x } }

theorem onlyTwin_sendingNow (x : Sending) (s : State) : OnlyTwin s (sendingNow x s) := rfl

theorem exec_snapAckReceived {s : State} {x : Sending} {w : FlumeFrame} {f : FlumeHdr × Bytes} {at' : Time64}
    (h : s.receives 14 s.twin.sending.isSome w f) (hx : s.twin.sending = some x) (hdown : s.twin.linkDown = false) (hmore : x.acked + 4096 < x.size) :
    exec (.snapAckReceived x.snapId x.acked ⟨true, w⟩ at') s = act (fun s => sendSegment (sendingNow (segmentAcked x) (atTime at' (frameTaken w s)))) s := by
  have hmin : min x.size (x.acked + segmentBytes) = x.acked + 4096 := Nat.min_eq_right (Nat.le_of_lt hmore)
  have hsame : ¬ (x.snapId != x.snapId || x.acked != x.acked) = true := by
    rw [bne_self_eq_false, bne_self_eq_false]
    exact Bool.false_ne_true
  change execSnapAckReceived x.snapId x.acked ⟨true, w⟩ at' s = _
  unfold execSnapAckReceived
  refine act_congr ?_
  dsimp only
  rw [takeFrame_taken h]
  dsimp only
  rw [show (atTime at' (frameTaken w s)).twin.sending = some x from hx]
  dsimp only
  have hup : ¬ s.twin.linkDown = true := Bool.eq_false_iff.mp hdown
  rw [if_neg hsame, hmin]
  exact (if_neg Bool.false_ne_true).trans ((if_neg hup).trans (if_neg (Nat.not_le.mpr hmore)))

theorem snapAckReceived_completes {s : State} {x : Sending} {w : FlumeFrame} {f : FlumeHdr × Bytes} {at' : Time64}
    (h : s.receives 14 s.twin.sending.isSome w f) (hx : s.twin.sending = some x) (hdown : s.twin.linkDown = false) (hmore : x.acked + 4096 < x.size) :
    Completes (.snapAckReceived x.snapId x.acked ⟨true, w⟩ at') s (fun t =>
      t.twin.sending = some { x with acked := x.acked + 4096 }
      ∧ s.sentBody t (.snap (segmentOf { x with acked := x.acked + 4096 } at')) ∧ OnlyTwin s t) := by
  obtain ⟨hsent, honly, hsending, -, -⟩ := sendSegment_spec (s := s) (u := sendingNow (segmentAcked x) (atTime at' (frameTaken w s)))
    (x := segmentAcked x) rfl (linkCarries_of_receives h) ((sameLink_frameTaken w at' s).trans ⟨rfl, rfl, rfl⟩)
  have hall : OnlyTwin s _ := ((onlyTwin_frameTaken w at' s).trans (onlyTwin_sendingNow ..)).trans honly
  exact completes_of_keeps (exec_snapAckReceived h hx hdown hmore) _ rfl hall.keeps ⟨hsending, hsent, hall⟩

theorem exec_snapshotPeriod {s : State} {at' : Time64} (hlink : s.linkUsed = true) (hmode : s.twin.mode = .coldActive) (hnone : s.twin.sending = none)
    (hdue : ∀ u : Time64, s.twin.snapSentT = some u → u + 1000000000 * pv s.cfg pTwinSnapPeriod 0 ≤ at') :
    exec (.snapshotPeriod at') s = act (fun s => startSending 0 s.time.decided (atTime at' s)) s := by
  change execSnapshotPeriod at' s = _
  unfold execSnapshotPeriod
  refine act_congr ?_
  dsimp only
  have hmode' : (s.twin.mode != .coldActive) = false := bne_eq_false_iff_eq.mpr hmode
  rw [hlink, hmode', hnone]
  cases hsent : s.twin.snapSentT with
  | none => rfl
  | some u =>
    have hgo : ¬ (!true || false || !decide (u + 1000000000 * pv s.cfg pTwinSnapPeriod 0 ≤ at') || none.isSome (α := Sending)) = true := by
      rw [decide_eq_true (hdue u hsent)]
      exact Bool.false_ne_true
    dsimp only
    exact if_neg hgo

/-- The state in which the transfer of a snapshot begins. -/
def sendingBegun (purpose n : Nat) (s : State) : State :=
  { s with twin := { s.twin with
    snapId := (s.twin.snapId + 1) % 2 ^ 32, snapSentT := some s.time.now
    sending := some ⟨(s.twin.snapId + 1) % 2 ^ 32, takeSnapshot n s, (Config.snapshotBytes (takeSnapshot n s)).length, 0, 0, false, purpose⟩ } }

theorem onlyTwin_sendingBegun (purpose n : Nat) (s : State) : OnlyTwin s (sendingBegun purpose n s) := rfl

theorem snapshotPeriod_completes {s : State} {at' : Time64} (hlink : s.linkUsed = true) (hmode : s.twin.mode = .coldActive)
    (hnone : s.twin.sending = none) (hdue : ∀ u : Time64, s.twin.snapSentT = some u → u + 1000000000 * pv s.cfg pTwinSnapPeriod 0 ≤ at') :
    Completes (.snapshotPeriod at') s (fun t =>
      (∃ x, t.twin.sending = some x ∧ x.snapId = (s.twin.snapId + 1) % 2 ^ 32 ∧ x.acked = 0 ∧ x.purpose = 0 ∧ s.sentBody t (.snap (segmentOf x at')))
      ∧ t.twin.snapSentT = some at' ∧ t.twin.mode = .coldActive ∧ OnlyTwin s t) := by
  obtain ⟨hsent, honly, hsending, htime, hkept⟩ := sendSegment_spec (s := s) (u := sendingBegun 0 s.time.decided (atTime at' s)) rfl
    (linkCarries_of_linkUsed hlink) ((sameLink_atTime at' s).trans ⟨rfl, rfl, rfl⟩)
  have hall : OnlyTwin s _ := ((onlyTwin_atTime at' s).trans (onlyTwin_sendingBegun ..)).trans honly
  exact completes_of_keeps (exec_snapshotPeriod hlink hmode hnone hdue) _ rfl hall.keeps
    ⟨⟨_, hsending, rfl, rfl, rfl, hsent⟩, htime, hkept.trans hmode, hall⟩

/-! ## An old snapshot (R262) -/

/-- The state in which the age of the last snapshot has been reported. -/
def snapOldNoted (s : State) : State := { s with twin := { s.twin with snapOldSaid := true } }

theorem onlyTwin_snapOldNoted (s : State) : OnlyTwin s (snapOldNoted s) := rfl

theorem exec_twinSnapOld {s : State} {u at' : Time64} (halive : s.alive = true) (hmode : s.twin.mode = .coldStandby) (hu : s.twin.snapT = some u)
    (hold : u + 3000000000 * pv s.cfg pTwinSnapPeriod 0 < at') (hnew : s.twin.snapOldSaid = false) :
    exec (.twinSnapOld at') s = act (fun s => raise .twinSnapOld [] (snapOldNoted (atTime at' s))) s := by
  change execTwinSnapOld at' s = _
  unfold execTwinSnapOld
  refine act_congr ?_
  dsimp only
  have hgo : (s.alive && decide (s.twin.mode = .coldStandby) && decide (u + 3000000000 * pv s.cfg pTwinSnapPeriod 0 < at') && !s.twin.snapOldSaid)
      = true := by
    rw [halive, decide_eq_true hmode, decide_eq_true hold, hnew]
    rfl
  refine if_pos ?_
  rw [hu]
  exact hgo

theorem twinSnapOld_completes {s : State} {u at' : Time64} (halive : s.alive = true) (hmode : s.twin.mode = .coldStandby) (hu : s.twin.snapT = some u)
    (hold : u + 3000000000 * pv s.cfg pTwinSnapPeriod 0 < at') (hnew : s.twin.snapOldSaid = false) :
    Completes (.twinSnapOld at') s (fun t =>
      s.raised t .twinSnapOld none [] ∧ t.twin.snapOldSaid = true ∧ t.twin.mode = .coldStandby ∧ OnlyEvents s t) := by
  have hraised := raised_raise (s := s) (u := snapOldNoted (atTime at' s)) .twinSnapOld [] rfl
  have hall : OnlyEvents s (raise .twinSnapOld [] (snapOldNoted (atTime at' s))) :=
    ((onlyTwin_atTime at' s).trans (onlyTwin_snapOldNoted _)).onlyEvents.trans (onlyEvents_raise ..)
  obtain ⟨o, e, f, k, htwin⟩ := raiseAt_twin (snapOldNoted (atTime at' s)).time.now .twinSnapOld none [] (snapOldNoted (atTime at' s))
  exact completes_of_keeps (exec_twinSnapOld halive hmode hu hold hnew) _ rfl hall.keeps
    ⟨hraised, (congrArg Twin.snapOldSaid htwin :), (congrArg Twin.mode htwin :).trans hmode, hall⟩

/-- Settles O45. -/
theorem snapshotTransfers : Obligations.SnapshotTransfers :=
  ⟨fun _ _ _ _ h hre hoff hlen => snapReceived_first h hre hoff hlen, fun _ _ _ _ h hre hknown => snapReceived_again h hre hknown,
    fun _ _ _ _ _ h hre hoff hr hid hlen hall hcrc => snapReceived_wrong h hre hoff hr hid hlen hall hcrc,
    fun _ _ _ _ _ h hx hdown hmore => snapAckReceived_completes h hx hdown hmore,
    fun _ _ hlink hmode hnone hdue => snapshotPeriod_completes hlink hmode hnone hdue,
    fun _ _ _ halive hmode hu hold hnew => twinSnapOld_completes halive hmode hu hold hnew⟩

end Sys2Proof.Machine
end

section
/-! Borrowing of stream packets between the seats of a HOT pair (R251 to R253). -/
namespace Sys2Proof.Machine

/-! ## The borrower asks (R251) -/

/-- A state with a note of the borrower's. -/
def borrowNoted (asked : List (Nat × List Nat)) (opened : List (Nat × Time64)) (s : State) : State :=
  { s with twin := { s.twin with borrowAsked := asked, borrowOpen := opened } }

theorem onlyTwin_borrowNoted (asked : List (Nat × List Nat)) (opened : List (Nat × Time64)) (s : State) : OnlyTwin s (borrowNoted asked opened s) := rfl

/-- The numbers of each stream that have been asked for, once a request has gone out (R251). -/
def askedOnce (s : State) (x : Nat) (due : List Nat) : List (Nat × List Nat) :=
  tset x ((tget [] s.twin.borrowAsked x).filter (fun e => (s.stream x).lastAuEnd.getD 0 < e)
    ++ due.filter (fun e => ((rangesOf due).take 64).any (fun r => r.1 ≤ e && e ≤ r.2))) s.twin.borrowAsked

theorem exec_borrowWaitTimeout {s : State} {x : Fin 128} {ext : Nat} {at' : Time64} (hb : s.borrows = true) (hm : ext ∈ missing s x)
    (hw : waited s x ext at' = true) :
    exec (.borrowWaitTimeout x ext at') s = act (fun s =>
      sendFlume (.borrowReq ⟨x, (rangesOf ((missing s x).filter (fun e => waited s x e at'))).take 64, none, at'⟩)
        (borrowNoted (askedOnce s x ((missing s x).filter (fun e => waited s x e at'))) s.twin.borrowOpen (atTime at' s))) s := by
  have hdue : ((missing s x).filter (fun e => waited s x e at')).contains ext = true :=
    List.contains_iff_mem.mpr (List.mem_filter.mpr ⟨hm, hw⟩)
  have hgo : ¬ (!s.borrows || !((missing s x).filter (fun e => waited s x e at')).contains ext) = true := by
    rw [hb, hdue]
    exact Bool.false_ne_true
  change execBorrowWaitTimeout x ext at' s = _
  unfold execBorrowWaitTimeout
  exact act_congr (if_neg hgo)

theorem borrowWaitTimeout_completes {s : State} {x : Fin 128} {ext : Nat} {at' : Time64} (hb : s.borrows = true) (hlink : s.linkUsed = true)
    (hm : ext ∈ missing s x) (hw : waited s x ext at' = true) :
    Completes (.borrowWaitTimeout x ext at') s (fun t =>
      s.sentBody t (.borrowReq ⟨x, (rangesOf ((missing s x).filter (fun e => waited s x e at'))).take 64, none, at'⟩)
      ∧ t.streams = s.streams ∧ OnlyTwin s t) := by
  obtain ⟨hsent, honly, -⟩ := sendFlume_spec (s := s) (u := borrowNoted (askedOnce s x ((missing s x).filter (fun e => waited s x e at')))
    s.twin.borrowOpen (atTime at' s)) (linkCarries_of_linkUsed hlink)
    ((sameLink_atTime at' s).trans ⟨rfl, rfl, rfl⟩) (.borrowReq ⟨x, (rangesOf ((missing s x).filter (fun e => waited s x e at'))).take 64, none, at'⟩)
  have hall : OnlyTwin s _ := ((onlyTwin_atTime at' s).trans (onlyTwin_borrowNoted ..)).trans honly
  exact completes_of_keeps (exec_borrowWaitTimeout hb hm hw) _ rfl hall.keeps ⟨hsent, hall.get State.streams, hall⟩

theorem exec_borrowIdleTimeout {s : State} {x : Fin 128} {e : Nat} {at' : Time64} (hb : s.borrows = true) (he : (s.stream x).highExt = some e)
    (hst : (s.stream x).state = .priming ∨ (s.stream x).state = .flowing ∨ (s.stream x).state = .gapped) (hsil : ownSilent s x at' = true)
    (hagain : ∀ u : Time64, tfind s.twin.borrowOpen x = some u → u + 100000000 ≤ at') :
    exec (.borrowIdleTimeout x at') s = act (fun s =>
      sendFlume (.borrowReq ⟨x, [], some (e + 1), at'⟩) (borrowNoted s.twin.borrowAsked (tset x at' s.twin.borrowOpen) (atTime at' s))) s := by
  have hstate : ((s.stream x).state == .priming || (s.stream x).state == .flowing || (s.stream x).state == .gapped) = true := by
    rcases hst with h | h | h <;> rw [h] <;> rfl
  change execBorrowIdleTimeout x at' s = _
  unfold execBorrowIdleTimeout
  refine act_congr ?_
  dsimp only
  rw [he]
  dsimp only
  refine if_neg ?_
  rw [hb, hstate, hsil]
  cases hu : tfind s.twin.borrowOpen x with
  | none => exact Bool.false_ne_true
  | some u =>
    dsimp only
    rw [decide_eq_true (hagain u hu)]
    exact Bool.false_ne_true

theorem borrowIdleTimeout_completes {s : State} {x : Fin 128} {e : Nat} {at' : Time64} (hb : s.borrows = true) (hlink : s.linkUsed = true)
    (he : (s.stream x).highExt = some e)
    (hst : (s.stream x).state = .priming ∨ (s.stream x).state = .flowing ∨ (s.stream x).state = .gapped) (hsil : ownSilent s x at' = true)
    (hagain : ∀ u : Time64, tfind s.twin.borrowOpen x = some u → u + 100000000 ≤ at') :
    Completes (.borrowIdleTimeout x at') s (fun t =>
      s.sentBody t (.borrowReq ⟨x, [], some (e + 1), at'⟩) ∧ tfind t.twin.borrowOpen x = some at' ∧ OnlyTwin s t) := by
  obtain ⟨hsent, honly, f, k, htwin⟩ := sendFlume_spec (s := s) (u := borrowNoted s.twin.borrowAsked (tset x at' s.twin.borrowOpen) (atTime at' s))
    (linkCarries_of_linkUsed hlink) ((sameLink_atTime at' s).trans ⟨rfl, rfl, rfl⟩) (.borrowReq ⟨x, [], some (e + 1), at'⟩)
  have hall : OnlyTwin s _ := ((onlyTwin_atTime at' s).trans (onlyTwin_borrowNoted ..)).trans honly
  refine completes_of_keeps (exec_borrowIdleTimeout hb he hst hsil hagain) _ rfl hall.keeps ⟨hsent, ?_, hall⟩
  rw [htwin]
  exact tfind_tset_same ..

/-! ## The lender answers (R252, R253) -/

/-- A request of one number is answered for that number alone. -/
theorem exec_borrowReq_one {s : State} {x : Fin 128} {e : Nat} {at' : Time64} {w : FlumeFrame} {f : FlumeHdr × Bytes}
    (h : s.receives 6 (s.hot && 2 ≤ s.twin.lanesUsed) w f) :
    exec (.borrowReqReceived ⟨⟨x, [(e, e)], none, at'⟩, w⟩) s = act (fun s => answerBorrow x e (atTime at' (frameTaken w s))) s := by
  have hone : ([(e, e)].take 64).flatMap (fun r => countFrom r.1 (min 65536 (r.2 + 1 - r.1))) = [e] := by
    rw [List.take_of_length_le (Nat.succ_le_succ (Nat.zero_le 63)), List.flatMap_singleton, Nat.add_sub_cancel_left]
    rfl
  change execBorrowReqReceived ⟨⟨x, [(e, e)], none, at'⟩, w⟩ s = _
  unfold execBorrowReqReceived
  refine act_congr ?_
  dsimp only
  rw [takeFrame_taken h]
  dsimp only
  rw [hone]
  rfl

/-- A state with a packet counted that is not held (R252). -/
def notHeldCounted (s : State) : State :=
  { s with twin := { s.twin with cnt := { s.twin.cnt with notHeld := (s.twin.cnt.notHeld + 1) % 2 ^ 32 } } }

theorem onlyTwin_notHeldCounted (s : State) : OnlyTwin s (notHeldCounted s) := rfl

theorem borrowReq_notHeld {s : State} {x : Fin 128} {e : Nat} {at' : Time64} {w : FlumeFrame} {f : FlumeHdr × Bytes}
    (h : s.receives 6 (s.hot && 2 ≤ s.twin.lanesUsed) w f) (hnone : heldPacket s x e = none) :
    Completes (.borrowReqReceived ⟨⟨x, [(e, e)], none, at'⟩, w⟩) s (fun t =>
      s.sentBody t (.borrowData x e 1 none) ∧ t.twin.cnt.notHeld = (s.twin.cnt.notHeld + 1) % 2 ^ 32 ∧ OnlyTwin s t) := by
  have hans : answerBorrow x e (atTime at' (frameTaken w s)) = sendFlume (.borrowData x e 1 none) (notHeldCounted (atTime at' (frameTaken w s))) := by
    unfold answerBorrow
    rw [show heldPacket (atTime at' (frameTaken w s)) x e = none from hnone]
    rfl
  obtain ⟨hsent, honly, fs, k, htwin⟩ := sendFlume_spec (s := s) (u := notHeldCounted (atTime at' (frameTaken w s)))
    (linkCarries_of_receives h) ((sameLink_frameTaken w at' s).trans ⟨rfl, rfl, rfl⟩) (.borrowData x e 1 none)
  have hall : OnlyTwin s _ := ((onlyTwin_frameTaken w at' s).trans (onlyTwin_notHeldCounted _)).trans honly
  refine completes_of_keeps (exec_borrowReq_one h) _ hans hall.keeps ⟨hsent, ?_, hall⟩
  rw [htwin]
  rfl

/-- A state in which the window of lent bytes begins anew (R253). -/
def lendWindow (s : State) : State := { s with twin := { s.twin with lendT := s.time.now, lendBytes := 0 } }

/-- A state with a lent packet of some bytes counted (R252, R253). -/
def lentCounted (n : Nat) (s : State) : State :=
  { s with twin := { s.twin with lendBytes := s.twin.lendBytes + n, cnt := { s.twin.cnt with lent := (s.twin.cnt.lent + 1) % 2 ^ 64 } } }

theorem onlyTwin_lendWindow (s : State) : OnlyTwin s (lendWindow s) := rfl

theorem sameLink_lendWindow (s : State) : SameLink s (lendWindow s) := ⟨rfl, rfl, rfl⟩

theorem onlyTwin_lentCounted (n : Nat) (s : State) : OnlyTwin s (lentCounted n s) := rfl

/-- The first packet of a window of 1 ms is lent where two lanes or more can carry its bytes. -/
theorem lend_first {x ext : Nat} {p : BorrowPkt} {s : State} (hwin : s.twin.lendT + 1000000 ≤ s.time.now) (h2 : 2 ≤ s.twin.lanesUsed)
    (hlen : p.bytes.length ≤ 1562500) :
    lend x ext p s = sendFlume (.borrowData x ext 0 (some p)) (lentCounted p.bytes.length (lendWindow s)) := by
  have hfits : (lendWindow s).twin.lendBytes + p.bytes.length
      ≤ (if (lendWindow s).twin.lanesUsed < 2 then 0 else 781250 * (lendWindow s).twin.lanesUsed) := by
    have hlanes : (lendWindow s).twin.lanesUsed = s.twin.lanesUsed := rfl
    have hbytes : (lendWindow s).twin.lendBytes = 0 := rfl
    rw [hlanes, hbytes, if_neg (Nat.not_lt.mpr h2)]
    omega
  unfold lend
  dsimp only
  rw [if_pos hwin]
  exact if_pos hfits

theorem borrowReq_held {s : State} {x : Fin 128} {e : Nat} {p : Held} {at' : Time64} {w : FlumeFrame} {f : FlumeHdr × Bytes}
    (h : s.receives 6 (s.hot && 2 ≤ s.twin.lanesUsed) w f) (hp : heldPacket s x e = some p) (hwin : s.twin.lendT + 1000000 ≤ at')
    (hlen : p.bytes.length ≤ 1562500) :
    Completes (.borrowReqReceived ⟨⟨x, [(e, e)], none, at'⟩, w⟩) s (fun t =>
      s.sentBody t (.borrowData x e 0 (some ⟨p.path, p.arr, p.bytes⟩)) ∧ t.twin.cnt.lent = (s.twin.cnt.lent + 1) % 2 ^ 64 ∧ OnlyTwin s t) := by
  have h2 : 2 ≤ s.twin.lanesUsed := of_decide_eq_true (Bool.and_eq_true_iff.mp (ok_of_receives h)).2
  have hans : answerBorrow x e (atTime at' (frameTaken w s))
      = sendFlume (.borrowData x e 0 (some ⟨p.path, p.arr, p.bytes⟩)) (lentCounted p.bytes.length (lendWindow (atTime at' (frameTaken w s)))) := by
    unfold answerBorrow
    rw [show heldPacket (atTime at' (frameTaken w s)) x e = some p from hp]
    have hnow : (atTime at' (frameTaken w s)).twin.lendT + 1000000 ≤ (atTime at' (frameTaken w s)).time.now := hwin
    exact lend_first hnow h2 hlen
  obtain ⟨hsent, honly, fs, k, htwin⟩ := sendFlume_spec (s := s) (u := lentCounted p.bytes.length (lendWindow (atTime at' (frameTaken w s))))
    (linkCarries_of_receives h) (((sameLink_frameTaken w at' s).trans (sameLink_lendWindow _)).trans ⟨rfl, rfl, rfl⟩) (.borrowData x e 0 (some ⟨p.path, p.arr, p.bytes⟩))
  have hall : OnlyTwin s _ := (((onlyTwin_frameTaken w at' s).trans (onlyTwin_lendWindow _)).trans (onlyTwin_lentCounted ..)).trans honly
  refine completes_of_keeps (exec_borrowReq_one h) _ hans hall.keeps ⟨hsent, ?_, hall⟩
  rw [htwin]
  rfl

/-! ## Borrowed packets enter the merge (R252) -/

/-- Two states with the same configuration, whose twin counters differ at most in what is sent and lent. -/
def KeepsBorrowed (s t : State) : Prop :=
  t.cfg = s.cfg ∧ ∃ k l r, t.twin.cnt = { s.twin.cnt with framesTx := k, lent := l, refused := r }

theorem KeepsBorrowed.refl (s : State) : KeepsBorrowed s s := ⟨rfl, _, _, _, rfl⟩

theorem KeepsBorrowed.trans {s t u : State} (h : KeepsBorrowed s t) (h' : KeepsBorrowed t u) : KeepsBorrowed s u := by
  obtain ⟨hc, k, l, r, hk⟩ := h
  obtain ⟨hc', k', l', r', hk'⟩ := h'
  exact ⟨hc'.trans hc, k', l', r', by rw [hk', hk]⟩

theorem keepsBorrowed_of_eq {s t : State} (hc : t.cfg = s.cfg) (ht : t.twin = s.twin) : KeepsBorrowed s t :=
  ⟨hc, _, _, _, by rw [ht]⟩

theorem keepsBorrowed_sendFlume (b : FlumeBody) (s : State) : KeepsBorrowed s (sendFlume b s) := by
  obtain ⟨o, f, k, h⟩ := sendFrame_counts s.time.tick none b s
  unfold sendFlume
  rw [h]
  exact ⟨rfl, _, _, _, rfl⟩

theorem keepsBorrowed_raise (c : Ev) (p : List (Nat × Nat)) (s : State) : KeepsBorrowed s (raise c p s) := by
  unfold raise raiseAt
  split
  · exact .trans (t := { s with twin := { s.twin with
      ownEvents := s.twin.ownEvents ++ [⟨s.time.now, s.seatB, s.twin.evOrder, c, none, p⟩], evOrder := s.twin.evOrder + 1 } })
      ⟨rfl, _, _, _, rfl⟩ (keepsBorrowed_sendFlume ..)
  · exact keepsBorrowed_of_eq rfl rfl

theorem keepsBorrowed_modStream (x : Nat) (f : Stream → Stream) (s : State) : KeepsBorrowed s (s.modStream x f) := keepsBorrowed_of_eq rfl rfl

theorem keepsBorrowed_mirrorPut (d : Bytes) (t : Time64) (s : State) : KeepsBorrowed s (mirrorPut d t s) := by
  unfold mirrorPut
  split
  · exact .refl s
  · dsimp only
    split <;> exact keepsBorrowed_of_eq rfl rfl

theorem keepsBorrowed_spill (x cat : Nat) (p : Inbound) (arr : Time64) (s : State) : KeepsBorrowed s (spill x cat p arr s) := by
  unfold spill
  dsimp only
  split
  · exact (keepsBorrowed_modStream ..).trans (keepsBorrowed_mirrorPut ..)
  · exact keepsBorrowed_modStream ..

theorem keepsBorrowed_setStreamState (x : Nat) (n : StreamState) (c : StreamCause) (s : State) : KeepsBorrowed s (setStreamState x n c s) := by
  unfold setStreamState
  dsimp only
  split
  · exact .refl s
  · exact (keepsBorrowed_modStream ..).trans (keepsBorrowed_raise ..)

theorem keepsBorrowed_newSession (x : Nat) (s : State) : KeepsBorrowed s (newSession x s) := by
  unfold newSession
  extract_lets m lost s1
  exact (KeepsBorrowed.trans (t := s1.modFrz x (fun f => { f with seenFirst := false, bearing := false, tokenPos := false }))
    (keepsBorrowed_of_eq rfl rfl) (keepsBorrowed_raise ..))

/-- A state with a refused packet counted (R253). -/
def refusedCounted (s : State) : State :=
  { s with twin := { s.twin with cnt := { s.twin.cnt with refused := (s.twin.cnt.refused + 1) % 2 ^ 32 } } }

/-- The bytes that the lanes may carry for the peer in a window (R232). -/
def lendLimit (s : State) : Nat := if s.twin.lanesUsed < 2 then 0 else 781250 * s.twin.lanesUsed

/-- A packet lent or refused in the running window (R253). -/
def lendNow (x ext : Nat) (p : BorrowPkt) (u : State) : State :=
  if u.twin.lendBytes + p.bytes.length ≤ lendLimit u then
    sendFlume (.borrowData x ext 0 (some p)) (lentCounted p.bytes.length u)
  else sendFlume (.borrowData x ext 2 none) (refusedCounted u)

theorem lend_eq (x ext : Nat) (p : BorrowPkt) (s : State) :
    lend x ext p s = lendNow x ext p (if s.twin.lendT + 1000000 ≤ s.time.now then lendWindow s else s) := rfl

theorem keepsBorrowed_lendNow (x ext : Nat) (p : BorrowPkt) (s : State) : KeepsBorrowed s (lendNow x ext p s) := by
  unfold lendNow
  split
  · exact .trans (t := lentCounted p.bytes.length s) ⟨rfl, _, _, _, rfl⟩ (keepsBorrowed_sendFlume ..)
  · exact .trans (t := refusedCounted s) ⟨rfl, _, _, _, rfl⟩ (keepsBorrowed_sendFlume ..)

theorem keepsBorrowed_lend (x ext : Nat) (p : BorrowPkt) (s : State) : KeepsBorrowed s (lend x ext p s) := by
  rw [lend_eq]
  split
  · exact .trans (t := lendWindow s) ⟨rfl, _, _, _, rfl⟩ (keepsBorrowed_lendNow ..)
  · exact keepsBorrowed_lendNow ..

theorem keepsBorrowed_takeIn (x via src ext lvl : Nat) (p : StreamPkt) (now arr : Time64) (s : State) :
    KeepsBorrowed s (takeIn x via src ext lvl p now arr s) := by
  unfold takeIn
  extract_lets m ts s1 s2
  have h2 : KeepsBorrowed s s2 := keepsBorrowed_of_eq rfl rfl
  split
  · exact h2
  · refine h2.trans ?_
    unfold lendAccepted
    split
    · split
      · exact keepsBorrowed_lend ..
      · exact .refl _
    · exact .refl _

theorem keepsBorrowed_admitInto (x via : Nat) (i : Inbound) (p : StreamPkt) (now arr : Time64) {ready s : State} (h : KeepsBorrowed s ready) :
    KeepsBorrowed s (admitInto x via i p now arr ready s) := by
  unfold admitInto
  split
  · exact h.trans (keepsBorrowed_takeIn ..)
  · unfold turnAway
    split
    · exact .refl s
    · exact keepsBorrowed_modStream ..
    · exact keepsBorrowed_spill ..

theorem keepsBorrowed_takeCurrent (x via : Nat) (i : Inbound) (p : StreamPkt) (now arr : Time64) (s : State) :
    KeepsBorrowed s (takeCurrent x via i p now arr s) := by
  unfold takeCurrent
  extract_lets m fresh s1 prime s2
  have h1 : KeepsBorrowed s s1 := by
    unfold s1
    split
    · exact keepsBorrowed_newSession ..
    · exact .refl s
  have h2 : KeepsBorrowed s1 s2 := by
    unfold s2
    split
    · exact keepsBorrowed_setStreamState ..
    · exact .refl s1
  exact keepsBorrowed_admitInto _ _ _ _ _ _ (h1.trans h2)

theorem keepsBorrowed_takeOther (x via : Nat) (i : Inbound) (p : StreamPkt) (now arr : Time64) (s : State) :
    KeepsBorrowed s (takeOther x via i p now arr s) := by
  unfold takeOther
  split
  · exact keepsBorrowed_spill ..
  · extract_lets m1 s0 s1
    have h0 : KeepsBorrowed s s0 := keepsBorrowed_of_eq rfl rfl
    split
    · exact h0.trans (keepsBorrowed_spill ..)
    · have h1 : KeepsBorrowed s0 s1 := .trans (t := s.setStream x { m1 with newSsrcN := 0, ssrc := p.rtp.ssrc }) (keepsBorrowed_of_eq rfl rfl)
        (keepsBorrowed_newSession ..)
      exact h0.trans (keepsBorrowed_admitInto _ _ _ _ _ _ (h1.trans (keepsBorrowed_setStreamState ..)))

theorem keepsBorrowed_takePacket (x via : Nat) (i : Inbound) (now arr : Time64) (s : State) : KeepsBorrowed s (takePacket x via i now arr s) := by
  unfold takePacket
  split
  · exact keepsBorrowed_spill ..
  · split
    · exact (keepsBorrowed_modStream ..).trans (keepsBorrowed_takeCurrent ..)
    · exact keepsBorrowed_takeOther ..

/-- A state with a borrowed packet counted (R252). -/
def borrowedCounted (s : State) : State :=
  { s with twin := { s.twin with cnt := { s.twin.cnt with borrowed := (s.twin.cnt.borrowed + 1) % 2 ^ 64 } } }

theorem exec_borrowData {s : State} {ps : List BorrowPkt} {notHeld : Bool} {x : Fin 128} {at' : Time64} {w : FlumeFrame} {f : FlumeHdr × Bytes}
    (h : s.receives 7 (s.hot && 2 ≤ s.twin.lanesUsed) w f) :
    exec (.borrowDataReceived ⟨ps, w⟩ notHeld x at') s = act (fun s =>
      if notHeld || !streamOn s.cfg x then atTime at' (frameTaken w s)
      else ps.foldl (fun a p => takePacket x 2 (borrowIn p) at' p.arrivalT (borrowedCounted a)) (atTime at' (frameTaken w s))) s := by
  change execBorrowDataReceived ⟨ps, w⟩ notHeld x at' s = _
  unfold execBorrowDataReceived
  refine act_congr ?_
  dsimp only
  rw [takeFrame_taken h]
  rfl

theorem borrowData_notHeld {s : State} {x : Fin 128} {ps : List BorrowPkt} {at' : Time64} {w : FlumeFrame} {f : FlumeHdr × Bytes}
    (h : s.receives 7 (s.hot && 2 ≤ s.twin.lanesUsed) w f) :
    Completes (.borrowDataReceived ⟨ps, w⟩ true x at') s (fun t =>
      t.streams = s.streams ∧ t.twin.cnt.framesRx = (s.twin.cnt.framesRx + 1) % 2 ^ 64 ∧ OnlyTwin s t) := by
  have hall := onlyTwin_frameTaken w at' s
  exact completes_of_keeps (exec_borrowData h) _ (if_pos (Bool.true_or _)) hall.keeps ⟨rfl, rfl, hall⟩

theorem borrowData_taken {s : State} {x : Fin 128} {p : BorrowPkt} {at' : Time64} {w : FlumeFrame} {f : FlumeHdr × Bytes}
    (h : s.receives 7 (s.hot && 2 ≤ s.twin.lanesUsed) w f) (hon : streamOn s.cfg x = true) :
    Completes (.borrowDataReceived ⟨[p], w⟩ false x at') s (fun t =>
      t.twin.cnt.borrowed = (s.twin.cnt.borrowed + 1) % 2 ^ 64 ∧ t.twin.cnt.framesRx = (s.twin.cnt.framesRx + 1) % 2 ^ 64 ∧ t.cfg = s.cfg) := by
  have hgo : ¬ (false || !streamOn s.cfg x) = true := by
    rw [hon]
    exact Bool.false_ne_true
  obtain ⟨hcfg, k, l, r, hcnt⟩ := keepsBorrowed_takePacket x 2 (borrowIn p) at' p.arrivalT (borrowedCounted (atTime at' (frameTaken w s)))
  refine completes_act (exec_borrowData h) _ (if_neg hgo) ?_
  exact ⟨(congrArg TwinCounters.borrowed hcnt :), (congrArg TwinCounters.framesRx hcnt :), hcfg⟩

/-! ## The end of an open request (R251) -/

/-- A state without a stream's open request. -/
def lendClosed (x : Nat) (s : State) : State := { s with twin := { s.twin with lendOpen := tdel x s.twin.lendOpen } }

theorem onlyTwin_lendClosed (x : Nat) (s : State) : OnlyTwin s (lendClosed x s) := rfl

theorem openBorrowExpiry_completes {s : State} {x : Fin 128} {e at' : Time64} (he : tfind s.twin.lendOpen x = some e) (hdue : e ≤ at') :
    Completes (.openBorrowExpiry x at') s (fun t =>
      tfind t.twin.lendOpen x = none ∧ (∀ y : Nat, y ≠ x.val → tfind t.twin.lendOpen y = tfind s.twin.lendOpen y) ∧ OnlyTwin s t) := by
  have hexec : exec (.openBorrowExpiry x at') s = act (fun s => lendClosed x (atTime at' s)) s := by
    change execOpenBorrowExpiry x at' s = _
    unfold execOpenBorrowExpiry
    refine act_congr ?_
    rw [he]
    exact if_pos hdue
  have hall : OnlyTwin s (lendClosed x (atTime at' s)) := (onlyTwin_atTime at' s).trans (onlyTwin_lendClosed ..)
  exact completes_of_keeps hexec _ rfl hall.keeps ⟨tfind_tdel_same .., fun y hy => tfind_tdel_ne _ _ _ hy, hall⟩

/-- Settles O46. -/
theorem borrowing : Obligations.Borrowing :=
  ⟨fun _ _ _ _ hb hlink hm hw => borrowWaitTimeout_completes hb hlink hm hw,
    fun _ _ _ _ hb hlink he hst hsil hagain => borrowIdleTimeout_completes hb hlink he hst hsil hagain,
    fun _ _ _ _ _ _ h hnone => borrowReq_notHeld h hnone, fun _ _ _ _ _ _ _ h hp hwin hlen => borrowReq_held h hp hwin hlen,
    fun _ _ _ _ _ _ h => borrowData_notHeld h, fun _ _ _ _ _ _ h hon => borrowData_taken h hon,
    fun _ _ _ _ he hdue => openBorrowExpiry_completes he hdue⟩

end Sys2Proof.Machine
end

section
/-! Ports and streams: what a frame or a state change of one stream leaves unchanged (R84 to R88, R110). -/
namespace Sys2Proof.Machine

/-! ## One stream alone -/

/-- Two states differ at most in one stream, the ports, the mirror ring, the free values, the events and what is sent. -/
def OnlyStream (x : Nat) (s t : State) : Prop :=
  t = { s with streams := t.streams, eth := t.eth, mirror := t.mirror, mirrorDrop := t.mirrorDrop, free := t.free, events := t.events, out := t.out
               time := { s.time with now := t.time.now }, twin := t.twin }
  ∧ ∀ y : Nat, y ≠ x → t.stream y = s.stream y

theorem OnlyStream.refl (x : Nat) (s : State) : OnlyStream x s s := ⟨rfl, fun _ _ => rfl⟩

theorem OnlyStream.trans {x : Nat} {s t u : State} (h : OnlyStream x s t) (h' : OnlyStream x t u) : OnlyStream x s u := by
  obtain ⟨heq, hne⟩ := h
  obtain ⟨heq', hne'⟩ := h'
  exact ⟨by rw [heq', heq], fun y hy => (hne' y hy).trans (hne y hy)⟩

theorem OnlyStream.get {x : Nat} {β : Type} (p : State → β) {s t : State} (h : OnlyStream x s t) :
    p t = p { s with streams := t.streams, eth := t.eth, mirror := t.mirror, mirrorDrop := t.mirrorDrop, free := t.free, events := t.events, out := t.out
                     time := { s.time with now := t.time.now }, twin := t.twin } := congrArg p h.1

theorem OnlyStream.ne {x : Nat} {s t : State} (h : OnlyStream x s t) {y : Nat} (hy : y ≠ x) : t.stream y = s.stream y := h.2 y hy

theorem OnlyStream.keeps {x : Nat} {s t : State} (h : OnlyStream x s t) : KeepsFrame s t :=
  ⟨h.get State.pending, h.get State.seatB, h.get State.dram⟩

theorem OnlyEvents.onlyStream {s t : State} (x : Nat) (h : OnlyEvents s t) : OnlyStream x s t := by
  have hstreams := h.get State.streams
  refine ⟨?_, fun y _ => congrArg (fun l => tget streamInit l y) hstreams⟩
  unfold OnlyEvents at h
  rw [h]

theorem onlyStream_setStream (x : Nat) (v : Stream) (s : State) : OnlyStream x s (s.setStream x v) :=
  ⟨rfl, fun _ hy => stream_setStream_ne _ _ _ hy⟩

theorem onlyStream_modStream (x : Nat) (f : Stream → Stream) (s : State) : OnlyStream x s (s.modStream x f) := onlyStream_setStream ..

theorem stream_modStream (x : Nat) (f : Stream → Stream) (s : State) : (s.modStream x f).stream x = f (s.stream x) := stream_setStream ..

theorem onlyStream_atTime (x : Nat) (t : Time64) (s : State) : OnlyStream x s (atTime t s) := ⟨rfl, fun _ _ => rfl⟩

theorem onlyStream_modEthPort (x p : Nat) (f : EthPort → EthPort) (s : State) : OnlyStream x s (s.modEthPort p f) := ⟨rfl, fun _ _ => rfl⟩

theorem onlyStream_raise (x : Nat) (c : Ev) (p : List (Nat × Nat)) (s : State) : OnlyStream x s (raise c p s) := (onlyEvents_raise c p s).onlyStream x

/-! ## The Spillway (R110, R112) -/

/-- A state with another mirror ring, outputs and free values. -/
def State.mirrored (s : State) (m : Option Ring) (k : Nat) (o : List Out) (f : Nat) : State :=
  { s with mirror := m, mirrorDrop := k, out := o, free := f }

theorem stream_mirrored (s : State) (m : Option Ring) (k : Nat) (o : List Out) (f x : Nat) : (s.mirrored m k o f).stream x = s.stream x := rfl

theorem onlyStream_mirrored (x : Nat) (s : State) (m : Option Ring) (k : Nat) (o : List Out) (f : Nat) : OnlyStream x s (s.mirrored m k o f) :=
  ⟨rfl, fun _ _ => rfl⟩

/-- A mirror record changes the mirror ring and what the host sees of it. -/
theorem mirrorPut_form (d : Bytes) (t : Time64) (s : State) : ∃ m k o f, mirrorPut d t s = s.mirrored m k o f := by
  unfold mirrorPut
  split
  · exact ⟨_, _, _, _, rfl⟩
  · dsimp only
    split <;> exact ⟨_, _, _, _, rfl⟩

/-- A stream with a packet counted that went to the Spillway. -/
def Stream.spilledIn (m : Stream) (cat : Nat) : Stream :=
  { m with cnt := { m.cnt with spill := setNth ((nth 0 m.cnt.spill cat + 1) % 2 ^ 64) m.cnt.spill cat } }

theorem spill_form (x cat : Nat) (p : Inbound) (arr : Time64) (s : State) :
    ∃ m k o f, spill x cat p arr s = (s.modStream x (fun m => m.spilledIn cat)).mirrored m k o f := by
  unfold spill
  dsimp only
  split
  · exact mirrorPut_form ..
  · exact ⟨_, _, _, _, rfl⟩

/-- A packet that goes to the Spillway changes its stream's counters and the mirror ring only. -/
theorem spill_spec (x cat : Nat) (p : Inbound) (arr : Time64) (s : State) :
    OnlyStream x s (spill x cat p arr s) ∧ (spill x cat p arr s).stream x = (s.stream x).spilledIn cat ∧ (spill x cat p arr s).events = s.events := by
  obtain ⟨m, k, o, f, h⟩ := spill_form x cat p arr s
  rw [h]
  exact ⟨(onlyStream_modStream ..).trans (onlyStream_mirrored ..), (stream_mirrored ..).trans (stream_modStream ..), rfl⟩

theorem nth_spilledIn {m : Stream} {cat : Nat} (h : cat < m.cnt.spill.length) :
    nth 0 (m.spilledIn cat).cnt.spill cat = (nth 0 m.cnt.spill cat + 1) % 2 ^ 64 := nth_setNth _ _ _ _ h

/-! ## Frames on a port (R84, R86) -/

/-- A frame that a port has received whole, at its receive time. -/
def State.portHeard (s : State) (f : NetFrame) : State := countRx f.port (atTime (rxTime s.cfg f.port f.rx) s)

theorem portHeard_cfg (s : State) (f : NetFrame) : (s.portHeard f).cfg = s.cfg := rfl

theorem portHeard_now (s : State) (f : NetFrame) : (s.portHeard f).time.now = rxTime s.cfg f.port f.rx := rfl

theorem portHeard_stream (s : State) (f : NetFrame) (x : Nat) : (s.portHeard f).stream x = s.stream x := rfl

theorem onlyStream_portHeard (x : Nat) (s : State) (f : NetFrame) : OnlyStream x s (s.portHeard f) :=
  (onlyStream_atTime x (rxTime s.cfg f.port f.rx) s).trans
    (onlyStream_modEthPort x f.port (fun e => { e with framesRx := (e.framesRx + 1) % 2 ^ 64 }) _)

theorem ethPort_modEthPort (p : Nat) (g : EthPort → EthPort) (s : State) : (s.modEthPort p g).ethPort p = g (s.ethPort p) := ethPort_setEthPort ..

theorem streamFrame_badFcs {s : State} {f : NetFrame} (h : f.fcsOk = false) :
    streamFrame f s = noteFcs f.port (atTime (rxTime s.cfg f.port f.rx) s) := by
  have hbad : (!f.fcsOk) = true := by rw [h]; rfl
  unfold streamFrame
  exact if_pos hbad

/-- What a port does with a whole frame (R86, R88). -/
def claimedFrame (f : NetFrame) (s : State) : State :=
  match datagramIn f.bytes with
  | none => noteUnmatched f.port s
  | some u =>
    match claimOf s f.port u with
    | .rtp x => takePacket x (pathOf s.cfg f.port) (inbound s.cfg f u) s.time.now s.time.now s
    | .rtcp x => takeRtcp x (inbound s.cfg f u) (if f.basinUe then [] else u.data) s.time.now s
    | .none => noteUnmatched f.port s

theorem streamFrame_whole {s : State} {f : NetFrame} (h : f.fcsOk = true) : streamFrame f s = claimedFrame f (s.portHeard f) := by
  have hok : ¬ (!f.fcsOk) = true := by
    rw [h]
    exact Bool.false_ne_true
  unfold streamFrame
  exact if_neg hok

theorem exec_rtpPacketReceived {s : State} {f : NetFrame} (h : s.netOn f.port = true) : exec (.rtpPacketReceived f) s = act (streamFrame f) s := by
  change execRtpPacketReceived f s = _
  unfold execRtpPacketReceived
  exact act_congr (if_pos h)

theorem exec_rtcpSrReceived {s : State} {f : NetFrame} (h : s.netOn f.port = true) : exec (.rtcpSrReceived f) s = act (streamFrame f) s := by
  change execRtcpSrReceived f s = _
  unfold execRtcpSrReceived
  exact act_congr (if_pos h)

theorem claimOf_congr {s u : State} (h : u.cfg = s.cfg) (p : Nat) (d : UdpIn) : claimOf u p d = claimOf s p d := by
  unfold claimOf streamFor
  rw [h]

theorem claimedFrame_rtcp {s : State} {f : NetFrame} {x : Nat} {d : UdpIn} (hd : datagramIn f.bytes = some d) (hc : claimOf s f.port d = .rtcp x)
    (hue : f.basinUe = false) :
    claimedFrame f (s.portHeard f) = takeRtcp x (inbound s.cfg f d) d.data (rxTime s.cfg f.port f.rx) (s.portHeard f) := by
  rw [← claimOf_congr (portHeard_cfg s f)] at hc
  unfold claimedFrame
  rw [hd]
  dsimp only
  rw [hc, hue, portHeard_cfg, portHeard_now]
  rfl

theorem usableSr_congr {s u : State} {x : Nat} (hcfg : u.cfg = s.cfg) (hstream : u.stream x = s.stream x) (hest : u.time.est = s.time.est)
    (hdom : u.time.servoDom = s.time.servoDom) (b : Bytes) : usableSr u x b = usableSr s x b := by
  have hntp : ∀ r, ntpTime u r = ntpTime s r := by
    intro r
    unfold ntpTime utcOffset State.est
    rw [hcfg, hest, hdom]
  unfold usableSr
  simp only [hstream, hntp]

theorem usableSr_portHeard (s : State) (f : NetFrame) (x : Nat) (b : Bytes) : usableSr (s.portHeard f) x b = usableSr s x b :=
  usableSr_congr (portHeard_cfg s f) (portHeard_stream s f x) rfl rfl b

theorem ntpTime_portHeard (s : State) (f : NetFrame) (r : SrIn) : ntpTime (s.portHeard f) r = ntpTime s r := by
  have hest : (s.portHeard f).time.est = s.time.est := rfl
  have hdom : (s.portHeard f).time.servoDom = s.time.servoDom := rfl
  unfold ntpTime utcOffset State.est
  rw [portHeard_cfg, hest, hdom]

/-- A sender report that a stream uses sets the mapping of its RTP clock (R39). -/
theorem rtcpSr_used {s : State} {f : NetFrame} {x : Nat} {d : UdpIn} {r : SrIn} (h : s.claims f d (.rtcp x)) (hue : f.basinUe = false)
    (hr : usableSr s x d.data = some r) :
    Completes (.rtcpSrReceived f) s (fun u =>
      u.stream x = { s.stream x with srMap := some (natOf (ntpTime s r), r.rtp, rxTime s.cfg f.port f.rx) }
      ∧ (∀ y : Nat, y ≠ x → u.stream y = s.stream y) ∧ u.events = s.events ∧ u.out = s.out) := by
  obtain ⟨hon, hfcs, hd, hc⟩ := h
  have htake : takeRtcp x (inbound s.cfg f d) d.data (rxTime s.cfg f.port f.rx) (s.portHeard f)
      = (s.portHeard f).modStream x (fun m => { m with srMap := some (natOf (ntpTime s r), r.rtp, (rxTime s.cfg f.port f.rx)) }) := by
    unfold takeRtcp
    rw [usableSr_portHeard, hr]
    dsimp only
    rw [ntpTime_portHeard]
  have hall := (onlyStream_portHeard x s f).trans
    (onlyStream_modStream x (fun m => { m with srMap := some (natOf (ntpTime s r), r.rtp, (rxTime s.cfg f.port f.rx)) }) (s.portHeard f))
  exact completes_of_keeps (exec_rtcpSrReceived hon) _ ((streamFrame_whole hfcs).trans ((claimedFrame_rtcp hd hc hue).trans htake)) hall.keeps
    ⟨stream_modStream .., hall.2, rfl, rfl⟩

/-- An RTCP datagram without a usable sender report goes to the Spillway as MALFORMED (log 120). -/
theorem rtcpSr_malformed {s : State} {f : NetFrame} {x : Nat} {d : UdpIn} (h : s.claims f d (.rtcp x)) (hue : f.basinUe = false)
    (hr : usableSr s x d.data = none) (hlen : 2 < (s.stream x).cnt.spill.length) :
    Completes (.rtcpSrReceived f) s (fun u =>
      nth 0 (u.stream x).cnt.spill 2 = (nth 0 (s.stream x).cnt.spill 2 + 1) % 2 ^ 64 ∧ (u.stream x).srMap = (s.stream x).srMap
      ∧ (∀ y : Nat, y ≠ x → u.stream y = s.stream y) ∧ u.events = s.events) := by
  obtain ⟨hon, hfcs, hd, hc⟩ := h
  have htake : takeRtcp x (inbound s.cfg f d) d.data (rxTime s.cfg f.port f.rx) (s.portHeard f)
      = spill x 2 (inbound s.cfg f d) (rxTime s.cfg f.port f.rx) (s.portHeard f) := by
    unfold takeRtcp
    rw [usableSr_portHeard, hr]
  obtain ⟨honly, hstream, hev⟩ := spill_spec x 2 (inbound s.cfg f d) (rxTime s.cfg f.port f.rx) (s.portHeard f)
  have hall := (onlyStream_portHeard x s f).trans honly
  refine completes_of_keeps (exec_rtcpSrReceived hon) _ ((streamFrame_whole hfcs).trans ((claimedFrame_rtcp hd hc hue).trans htake)) hall.keeps
    ⟨?_, ?_, hall.2, hev⟩
  · rw [hstream]
    exact nth_spilledIn hlen
  · rw [hstream]
    rfl

/-! ## Frames that nothing claims (R84, R86) -/

theorem ethPort_sendEth (p : Nat) (k : EthKind) (s : State) :
    (sendEth p k s).ethPort p = { s.ethPort p with framesTx := ((s.ethPort p).framesTx + 1) % 2 ^ 64 } :=
  ethPort_modEthPort p (fun e => { e with framesTx := (e.framesTx + 1) % 2 ^ 64 }) s

theorem exec_ethFrameReceived_badFcs {s : State} {f : EthFrame} (hon : s.netOn f.port = true) (hfcs : f.fcsOk = false) :
    exec (.ethFrameReceived f) s = act (fun s => noteFcs f.port (atTime (rxTime s.cfg f.port f.rx) s)) s := by
  have hin : ¬ (!s.netOn f.port) = true := by
    rw [hon]
    exact Bool.false_ne_true
  have hbad : (!f.fcsOk) = true := by rw [hfcs]; rfl
  change execEthFrameReceived f s = _
  unfold execEthFrameReceived
  exact act_congr ((if_neg hin).trans (if_pos hbad))

/-- A whole frame counted on its port at its receive time. -/
def State.frameHeard (s : State) (f : EthFrame) : State := countRx f.port (atTime (rxTime s.cfg f.port f.rx) s)

theorem exec_ethFrameReceived_arp {s : State} {f : EthFrame} {a : Bytes} (hon : s.netOn f.port = true) (hfcs : f.fcsOk = true) (hlen : f.len ≤ 9216)
    (htags : f.tags ≤ 1) (hk : f.kind = .arpRequest a) :
    exec (.ethFrameReceived f) s = act (fun s =>
      if ownAddress s.cfg f.port a then sendEth f.port f.kind (s.frameHeard f) else noteUnmatched f.port (s.frameHeard f)) s := by
  have hin : ¬ (!s.netOn f.port) = true := by
    rw [hon]
    exact Bool.false_ne_true
  have hok : ¬ (!f.fcsOk) = true := by
    rw [hfcs]
    exact Bool.false_ne_true
  have hfits : ¬ (decide (9216 < f.len) || decide (1 < f.tags)) = true := by
    rw [decide_eq_false (Nat.not_lt.mpr hlen), decide_eq_false (Nat.not_lt.mpr htags)]
    exact Bool.false_ne_true
  change execEthFrameReceived f s = _
  unfold execEthFrameReceived
  refine act_congr ((if_neg hin).trans ((if_neg hok).trans ((if_neg hfits).trans ?_)))
  rw [hk]
  rfl

theorem ethFrame_badFcs {s : State} {f : EthFrame} (hon : s.netOn f.port = true) (hfcs : f.fcsOk = false) :
    Completes (.ethFrameReceived f) s (fun u =>
      u.ethPort f.port = { s.ethPort f.port with fcsErr := ((s.ethPort f.port).fcsErr + 1) % 2 ^ 64 } ∧ u.out = s.out
      ∧ u.streams = s.streams ∧ u.events = s.events) :=
  completes_of_keeps (exec_ethFrameReceived_badFcs hon hfcs) _ rfl ⟨rfl, rfl, rfl⟩ ⟨ethPort_modEthPort .., rfl, rfl, rfl⟩

theorem ethFrame_arp {s : State} {f : EthFrame} {a : Bytes} (hon : s.netOn f.port = true) (hfcs : f.fcsOk = true) (hlen : f.len ≤ 9216)
    (htags : f.tags ≤ 1) (hk : f.kind = .arpRequest a) :
    Completes (.ethFrameReceived f) s (fun u =>
      (u.ethPort f.port).framesRx = ((s.ethPort f.port).framesRx + 1) % 2 ^ 64
      ∧ (if ownAddress s.cfg f.port a then u.out = s.out ++ [.frame f.port f.kind]
            ∧ (u.ethPort f.port).framesTx = ((s.ethPort f.port).framesTx + 1) % 2 ^ 64
          else u.out = s.out ∧ (u.ethPort f.port).unmatched = ((s.ethPort f.port).unmatched + 1) % 2 ^ 64)
      ∧ u.streams = s.streams ∧ u.events = s.events) := by
  have hheard : (s.frameHeard f).ethPort f.port = { s.ethPort f.port with framesRx := ((s.ethPort f.port).framesRx + 1) % 2 ^ 64 } :=
    ethPort_modEthPort ..
  by_cases hown : ownAddress s.cfg f.port a = true
  · have hport : (sendEth f.port f.kind (s.frameHeard f)).ethPort f.port
        = { (s.frameHeard f).ethPort f.port with framesTx := (((s.frameHeard f).ethPort f.port).framesTx + 1) % 2 ^ 64 } := ethPort_sendEth ..
    rw [hheard] at hport
    refine completes_of_keeps (exec_ethFrameReceived_arp hon hfcs hlen htags hk) _ (if_pos hown) ⟨rfl, rfl, rfl⟩
      ⟨congrArg EthPort.framesRx hport, ?_, rfl, rfl⟩
    rw [if_pos hown]
    exact ⟨rfl, congrArg EthPort.framesTx hport⟩
  · have hport : (noteUnmatched f.port (s.frameHeard f)).ethPort f.port
        = { (s.frameHeard f).ethPort f.port with unmatched := (((s.frameHeard f).ethPort f.port).unmatched + 1) % 2 ^ 64 } := ethPort_modEthPort ..
    rw [hheard] at hport
    refine completes_of_keeps (exec_ethFrameReceived_arp hon hfcs hlen htags hk) _ (if_neg hown) ⟨rfl, rfl, rfl⟩
      ⟨congrArg EthPort.framesRx hport, ?_, rfl, rfl⟩
    rw [if_neg hown]
    exact ⟨rfl, congrArg EthPort.unmatched hport⟩

/-! ## Links (R85) -/

/-- A state with a port's link up or down. -/
def linkSet (p : Nat) (up : Bool) (s : State) : State := s.modEthPort p (fun e => { e with link := up })

theorem exec_netLink {s : State} {p : Fin 4} {up : Bool} {t : Time64} (hon : s.portOn p = true) (hup : (s.ethPort p).link ≠ up) :
    exec (.netLink p up t) s = act (fun s =>
      raise .netLink [(1, p.val), (1, pv s.cfg pNetPortMode p), (1, b2n up)] (linkSet p up (atTime t s))) s := by
  have hgo : ¬ ((s.ethPort p).link == up || !s.portOn p) = true := by
    rw [beq_eq_false_iff_ne.mpr hup, hon]
    exact Bool.false_ne_true
  change execNetLink p up t s = _
  unfold execNetLink
  exact act_congr (if_neg hgo)

theorem netLink_completes {s : State} {p : Fin 4} {up : Bool} {t : Time64} (hon : s.portOn p = true) (hup : (s.ethPort p).link ≠ up) :
    Completes (.netLink p up t) s (fun u =>
      u.ethPort p = { s.ethPort p with link := up } ∧ (∀ q : Nat, q ≠ p.val → u.ethPort q = s.ethPort q)
      ∧ s.raised u .netLink none [(1, p.val), (1, pv s.cfg pNetPortMode p), (1, b2n up)] ∧ u.cfg = s.cfg ∧ u.streams = s.streams) := by
  have honly := onlyEvents_raise .netLink [(1, p.val), (1, pv s.cfg pNetPortMode p), (1, b2n up)] (linkSet p up (atTime t s))
  have heth := honly.get State.eth
  have hport : ∀ q, (raise .netLink [(1, p.val), (1, pv s.cfg pNetPortMode p), (1, b2n up)] (linkSet p up (atTime t s))).ethPort q
      = (linkSet p up (atTime t s)).ethPort q := fun q => congrArg (fun l => tget ethInit l q) heth
  refine completes_of_keeps (exec_netLink hon hup) _ rfl (.trans (t := linkSet p up (atTime t s)) ⟨rfl, rfl, rfl⟩ honly.keeps)
    ⟨(hport _).trans (ethPort_modEthPort ..), fun q hq => (hport q).trans (ethPort_setEthPort_ne _ _ _ hq), raised_raise .netLink _ rfl,
      honly.get State.cfg, honly.get State.streams⟩

/-- Settles O30. -/
theorem portTraffic : Obligations.PortTraffic :=
  ⟨fun _ _ _ _ _ h hue hr => rtcpSr_used h hue hr, fun _ _ _ _ h hue hr hlen => rtcpSr_malformed h hue hr hlen,
    fun _ _ hon hfcs => ethFrame_badFcs hon hfcs, fun _ _ _ hon hfcs hlen htags hk => ethFrame_arp hon hfcs hlen htags hk,
    fun _ _ _ _ hon hup => netLink_completes hon hup⟩

end Sys2Proof.Machine
end

section
/-! The merge of a stream's packets (R91, R93, R95, R110). -/
namespace Sys2Proof.Machine

/-! ## Lending (R251 to R253) -/

theorem onlyTwin_refusedCounted (s : State) : OnlyTwin s (refusedCounted s) := rfl

theorem onlyTwin_sendFlume (b : FlumeBody) (s : State) : OnlyTwin s (sendFlume b s) := onlyTwin_sendFrame ..

theorem onlyTwin_lendNow (x ext : Nat) (p : BorrowPkt) (s : State) : OnlyTwin s (lendNow x ext p s) := by
  unfold lendNow
  split
  · exact (onlyTwin_lentCounted ..).trans (onlyTwin_sendFlume ..)
  · exact (onlyTwin_refusedCounted ..).trans (onlyTwin_sendFlume ..)

theorem onlyTwin_lend (x ext : Nat) (p : BorrowPkt) (s : State) : OnlyTwin s (lend x ext p s) := by
  rw [lend_eq]
  split
  · exact (onlyTwin_lendWindow _).trans (onlyTwin_lendNow ..)
  · exact onlyTwin_lendNow ..

theorem onlyTwin_lendAccepted (x ext : Nat) (p : BorrowPkt) (s : State) : OnlyTwin s (lendAccepted x ext p s) := by
  unfold lendAccepted
  split
  · split
    · exact onlyTwin_lend ..
    · exact .refl s
  · exact .refl s

/-! ## Access units (R95) -/

theorem got_boundAus (prev : Option Nat) (l : List Au) : (boundAus prev l).map Au.got = l.map Au.got := by
  induction l generalizing prev with
  | nil => rfl
  | cons a r ih =>
    unfold boundAus
    exact congrArg (a.got :: ·) (ih _)

theorem length_boundAus (prev : Option Nat) (l : List Au) : (boundAus prev l).length = l.length := by
  have h := congrArg List.length (got_boundAus prev l)
  rwa [List.length_map, List.length_map] at h

/-- Marking what has become complete leaves the packets of the access units as they are. -/
theorem markComplete_form (x : Nat) (now : Time64) (s : State) :
    ∃ aus fl k, markComplete x now s = s.modStream x (fun m => { m with aus := aus, floorPts := fl, cnt := { m.cnt with auComplete := k } })
      ∧ aus.map Au.got = (s.stream x).aus.map Au.got := by
  refine ⟨_, _, _, rfl, ?_⟩
  rw [List.map_map, ← got_boundAus (s.stream x).lastAuEnd (s.stream x).aus]
  refine List.map_congr_left fun a _ => ?_
  dsimp only [Function.comp_apply]
  split <;> rfl

/-- A packet that is taken in stands in one of the access units. -/
theorem mem_addPacket (c : Cfg) (x : Nat) (m : Stream) (ext ts path : Nat) (p : StreamPkt) (now arr : Time64) :
    ∃ a ∈ addPacket c x m ext ts path p now arr, ext ∈ a.got := by
  unfold addPacket
  dsimp only
  split
  · next hany =>
    obtain ⟨a, ha, hts⟩ := List.any_eq_true.mp hany
    refine ⟨_, List.mem_map.mpr ⟨a, ha, rfl⟩, ?_⟩
    rw [if_pos (beq_iff_eq.mp hts)]
    unfold Au.got
    rw [List.map_append]
    exact List.mem_append_right _ (List.mem_singleton_self _)
  · exact ⟨_, (perm_insertBy ..).mem_iff.mpr List.mem_cons_self, List.mem_singleton_self _⟩

/-! ## A packet of the session (R99, R100) -/

theorem claimedFrame_rtp {s : State} {f : NetFrame} {x : Nat} {d : UdpIn} (hd : datagramIn f.bytes = some d) (hc : claimOf s f.port d = .rtp x) :
    claimedFrame f (s.portHeard f)
      = takePacket x (pathOf s.cfg f.port) (inbound s.cfg f d) (rxTime s.cfg f.port f.rx) (rxTime s.cfg f.port f.rx) (s.portHeard f) := by
  rw [← claimOf_congr (portHeard_cfg s f)] at hc
  unfold claimedFrame
  rw [hd]
  dsimp only
  rw [hc, portHeard_cfg, portHeard_now]

theorem claimedFrame_unmatched {s : State} {f : NetFrame} (h : datagramIn f.bytes = none ∨ ∃ d, s.claims f d .none) :
    claimedFrame f (s.portHeard f) = noteUnmatched f.port (s.portHeard f) := by
  unfold claimedFrame
  rcases h with hd | ⟨d, -, -, hd, hc⟩
  · rw [hd]
  · rw [← claimOf_congr (portHeard_cfg s f)] at hc
    rw [hd]
    dsimp only
    rw [hc]

/-- A packet of a stream's format from its SSRC ends a run of packets from another one (R100). -/
theorem takePacket_current {x via : Nat} {i : Inbound} {p : StreamPkt} {now arr : Time64} {c : Cfg} {s : State} (hcfg : s.cfg = c)
    (hform : formatIn c x i = some p) (hssrc : ssrcOk c x (s.stream x) p = true) :
    takePacket x via i now arr s = takeCurrent x via i p now arr (s.modStream x (fun m => { m with newSsrcN := 0 })) := by
  unfold takePacket
  rw [hcfg, hform]
  exact if_pos hssrc

theorem takePacket_malformed {x via : Nat} {i : Inbound} {now arr : Time64} {s : State} (hform : formatIn s.cfg x i = none) :
    takePacket x via i now arr s = spill x 2 i arr s := by
  unfold takePacket
  rw [hform]

/-- A packet in a FLOWING session is judged in the state as it is. -/
theorem takeCurrent_flowing {x via : Nat} {i : Inbound} {p : StreamPkt} {now arr : Time64} {s : State} (hsess : (s.stream x).session = true)
    (hstate : (s.stream x).state = .flowing) : takeCurrent x via i p now arr s = admitInto x via i p now arr s s := by
  have hres : resumes s.cfg x (s.stream x) arr = false := by
    unfold resumes
    rw [hstate]
    rfl
  unfold takeCurrent
  dsimp only
  rw [hsess, hres, hstate]
  rfl

theorem heard_eq (s : State) (f : NetFrame) (x : Nat) : s.heard f x = (s.portHeard f).modStream x (fun m => { m with newSsrcN := 0 }) := rfl

theorem heard_stream (s : State) (f : NetFrame) (x : Nat) : (s.heard f x).stream x = { s.stream x with newSsrcN := 0 } := by
  rw [heard_eq, stream_modStream, portHeard_stream]

/-- A packet that a FLOWING session gets is judged by the merge. -/
theorem streamFrame_gets {s : State} {f : NetFrame} {x : Nat} {p : StreamPkt} {d : UdpIn} (h : s.claims f d (.rtp x))
    (hform : formatIn s.cfg x (inbound s.cfg f d) = some p) (hssrc : ssrcOk s.cfg x (s.stream x) p = true) :
    streamFrame f s = takeCurrent x (pathOf s.cfg f.port) (inbound s.cfg f d) p (rxTime s.cfg f.port f.rx) (rxTime s.cfg f.port f.rx) (s.heard f x) := by
  obtain ⟨-, hfcs, hd, hc⟩ := h
  rw [← portHeard_stream s f x] at hssrc
  rw [heard_eq, ← takePacket_current (portHeard_cfg s f) hform hssrc]
  exact (streamFrame_whole hfcs).trans (claimedFrame_rtp hd hc)

theorem exec_gets {s : State} {f : NetFrame} {x : Nat} {p : StreamPkt} (h : s.gets f x p) :
    ∃ d, exec (.rtpPacketReceived f) s = act (fun s =>
      admitInto x (pathOf s.cfg f.port) (inbound s.cfg f d) p (rxTime s.cfg f.port f.rx) (rxTime s.cfg f.port f.rx) (s.heard f x) (s.heard f x)) s := by
  obtain ⟨⟨d, hclaims, hform⟩, hssrc, hsess, hstate⟩ := h
  have hcur := takeCurrent_flowing (x := x) (via := pathOf s.cfg f.port) (i := inbound s.cfg f d) (p := p) (now := rxTime s.cfg f.port f.rx)
    (arr := rxTime s.cfg f.port f.rx) (s := s.heard f x) ((congrArg Stream.session (heard_stream s f x)).trans hsess)
    ((congrArg Stream.state (heard_stream s f x)).trans hstate)
  exact ⟨d, (exec_rtpPacketReceived hclaims.1).trans (act_congr ((streamFrame_gets hclaims hform hssrc).trans hcur))⟩

theorem onlyStream_heard (s : State) (f : NetFrame) (x : Nat) :
    OnlyStream x s (s.heard f x) ∧ (s.heard f x).stream x = { s.stream x with newSsrcN := 0 } :=
  ⟨(onlyStream_portHeard x s f).trans (onlyStream_modStream x (fun m => { m with newSsrcN := 0 }) (s.portHeard f)),
    stream_modStream x (fun m => { m with newSsrcN := 0 }) (s.portHeard f)⟩

/-! ## A packet that is accepted (R91, R93, R95) -/

/-- What the acceptance of a packet leaves in its stream. -/
structure TakenIn (m : Stream) (via ext lvl : Nat) (now arr : Time64) (n : Stream) : Prop where
  counted : n.cnt.pktAccept = (m.cnt.pktAccept + 1) % 2 ^ 64
  lastPkt : n.lastPkt = some arr
  policer : n.policer = lvl
  seen : n.seen = m.seen ++ [⟨ext, via, now, false⟩]
  held : ∃ a ∈ n.aus, ext ∈ a.got
  state : n.state = m.state

/-- A stream with a packet taken in, before what is complete is marked. -/
def Stream.taken (c : Cfg) (x via src ext lvl ts : Nat) (p : StreamPkt) (now arr : Time64) (m : Stream) : Stream :=
  { m with
    highExt := some (max ext (m.highExt.getD ext)), seen := m.seen ++ [⟨ext, via, now, false⟩], lastPkt := some arr
    ownPkt := if via = 2 then m.ownPkt else some now, policer := lvl, policerT := now
    ssrc := p.rtp.ssrc, rtpUnwrap := max ts m.rtpUnwrap
    flowPkts := if m.state = .flowing then m.flowPkts ++ [m.flowNow now] else m.flowPkts
    aus := addPacket c x m ext ts src p now arr, cnt := { m.cnt with pktAccept := (m.cnt.pktAccept + 1) % 2 ^ 64 } }

/-- A state with a packet taken in, and what has become complete marked. -/
def packetTaken (x via src ext lvl ts : Nat) (p : StreamPkt) (now arr : Time64) (s : State) : State :=
  markComplete x now (s.modStream x (Stream.taken s.cfg x via src ext lvl ts p now arr))

theorem takeIn_eq (x via src ext lvl : Nat) (p : StreamPkt) (now arr : Time64) (s : State) :
    takeIn x via src ext lvl p now arr s =
      (if via = 2 then packetTaken x via src ext lvl (unwrapTs (s.stream x).rtpUnwrap p.rtp.ts) p now arr s
      else lendAccepted x ext ⟨src, arr, p.bytes⟩ (packetTaken x via src ext lvl (unwrapTs (s.stream x).rtpUnwrap p.rtp.ts) p now arr s)) := rfl

theorem packetTaken_spec (x via src ext lvl ts : Nat) (p : StreamPkt) (now arr : Time64) (s : State) :
    OnlyStream x s (packetTaken x via src ext lvl ts p now arr s) ∧ (packetTaken x via src ext lvl ts p now arr s).events = s.events
    ∧ TakenIn (s.stream x) via ext lvl now arr ((packetTaken x via src ext lvl ts p now arr s).stream x) := by
  have htaken := stream_modStream x (Stream.taken s.cfg x via src ext lvl ts p now arr) s
  obtain ⟨aus, fl, k, hform, hgot⟩ := markComplete_form x now (s.modStream x (Stream.taken s.cfg x via src ext lvl ts p now arr))
  rw [htaken] at hgot
  have hheld : ∃ a ∈ aus, ext ∈ a.got := by
    obtain ⟨a, ha, hext⟩ := mem_addPacket s.cfg x (s.stream x) ext ts src p now arr
    have hmem : a.got ∈ aus.map Au.got := hgot ▸ List.mem_map.mpr ⟨a, ha, rfl⟩
    obtain ⟨b, hb, heq⟩ := List.mem_map.mp hmem
    exact ⟨b, hb, heq ▸ hext⟩
  unfold packetTaken
  rw [hform, stream_modStream, htaken]
  exact ⟨(onlyStream_modStream ..).trans (onlyStream_modStream ..), rfl, ⟨rfl, rfl, rfl, rfl, hheld, rfl⟩⟩

theorem takeIn_spec (x via src ext lvl : Nat) (p : StreamPkt) (now arr : Time64) (s : State) :
    OnlyStream x s (takeIn x via src ext lvl p now arr s) ∧ (takeIn x via src ext lvl p now arr s).events = s.events
    ∧ TakenIn (s.stream x) via ext lvl now arr ((takeIn x via src ext lvl p now arr s).stream x) := by
  obtain ⟨honly, hev, htaken⟩ := packetTaken_spec x via src ext lvl (unwrapTs (s.stream x).rtpUnwrap p.rtp.ts) p now arr s
  rw [takeIn_eq]
  generalize packetTaken x via src ext lvl (unwrapTs (s.stream x).rtpUnwrap p.rtp.ts) p now arr s = u at honly hev htaken ⊢
  split
  · exact ⟨honly, hev, htaken⟩
  · have hlend := onlyTwin_lendAccepted x ext ⟨src, arr, p.bytes⟩ u
    have hstream : (lendAccepted x ext ⟨src, arr, p.bytes⟩ u).stream x = u.stream x :=
      congrArg (fun l => tget streamInit l x) (hlend.get State.streams)
    rw [hstream]
    exact ⟨honly.trans (hlend.onlyEvents.onlyStream x), (hlend.get State.events).trans hev, htaken⟩

theorem gets_accepted {s : State} {f : NetFrame} {x ext lvl : Nat} {p : StreamPkt} (h : s.gets f x p)
    (hf : fateOf x (pathOf s.cfg f.port) p (rxTime s.cfg f.port f.rx) (s.heard f x) = .accept ext lvl) :
    Completes (.rtpPacketReceived f) s (fun u =>
      (u.stream x).cnt.pktAccept = ((s.stream x).cnt.pktAccept + 1) % 2 ^ 64
      ∧ (u.stream x).lastPkt = some (rxTime s.cfg f.port f.rx) ∧ (u.stream x).policer = lvl
      ∧ (u.stream x).seen = (s.stream x).seen ++ [⟨ext, pathOf s.cfg f.port, rxTime s.cfg f.port f.rx, false⟩]
      ∧ (∃ a ∈ (u.stream x).aus, ext ∈ a.got) ∧ (u.stream x).state = .flowing ∧ (∀ y : Nat, y ≠ x → u.stream y = s.stream y)
      ∧ u.events = s.events ∧ u.ledger = s.ledger) := by
  obtain ⟨d, hexec⟩ := exec_gets h
  obtain ⟨-, -, -, hstate⟩ := h
  obtain ⟨hheard, hm⟩ := onlyStream_heard s f x
  have hadmit : admitInto x (pathOf s.cfg f.port) (inbound s.cfg f d) p (rxTime s.cfg f.port f.rx) (rxTime s.cfg f.port f.rx) (s.heard f x) (s.heard f x)
      = takeIn x (pathOf s.cfg f.port) (inbound s.cfg f d).path ext lvl p (rxTime s.cfg f.port f.rx) (rxTime s.cfg f.port f.rx) (s.heard f x) := by
    unfold admitInto
    rw [hf]
  obtain ⟨honly, hev, htaken⟩ := takeIn_spec x (pathOf s.cfg f.port) (inbound s.cfg f d).path ext lvl p (rxTime s.cfg f.port f.rx)
    (rxTime s.cfg f.port f.rx) (s.heard f x)
  rw [hm] at htaken
  have hall := hheard.trans honly
  exact completes_of_keeps hexec _ hadmit hall.keeps
    ⟨htaken.counted, htaken.lastPkt, htaken.policer, htaken.seen, htaken.held, htaken.state.trans hstate, hall.2, hev, hall.get State.ledger⟩

/-! ## A packet that is not accepted (R93, R110) -/

theorem gets_pathDup {s : State} {f : NetFrame} {x ext : Nat} {p : StreamPkt} (h : s.gets f x p)
    (hf : fateOf x (pathOf s.cfg f.port) p (rxTime s.cfg f.port f.rx) (s.heard f x) = .pathDup ext) :
    Completes (.rtpPacketReceived f) s (fun u =>
      (u.stream x).cnt = { (s.stream x).cnt with pathDup := ((s.stream x).cnt.pathDup + 1) % 2 ^ 64 }
      ∧ (u.stream x).aus = (s.stream x).aus ∧ (∀ y : Nat, y ≠ x → u.stream y = s.stream y) ∧ u.events = s.events ∧ u.out = s.out) := by
  obtain ⟨d, hexec⟩ := exec_gets h
  obtain ⟨hheard, hm⟩ := onlyStream_heard s f x
  have hadmit : admitInto x (pathOf s.cfg f.port) (inbound s.cfg f d) p (rxTime s.cfg f.port f.rx) (rxTime s.cfg f.port f.rx) (s.heard f x) (s.heard f x)
      = (s.heard f x).modStream x (fun m => { m with
          seen := m.seen.map (fun e => if e.ext = ext then { e with both := true } else e), cnt := { m.cnt with pathDup := (m.cnt.pathDup + 1) % 2 ^ 64 } }) := by
    unfold admitInto
    rw [hf]
    rfl
  have hall := hheard.trans (onlyStream_modStream x (fun m => { m with
    seen := m.seen.map (fun e => if e.ext = ext then { e with both := true } else e), cnt := { m.cnt with pathDup := (m.cnt.pathDup + 1) % 2 ^ 64 } })
    (s.heard f x))
  refine completes_of_keeps hexec _ hadmit hall.keeps ⟨?_, ?_, hall.2, rfl, rfl⟩ <;> rw [stream_modStream, hm]

theorem gets_spilled {s : State} {f : NetFrame} {x c : Nat} {p : StreamPkt} (h : s.gets f x p)
    (hf : fateOf x (pathOf s.cfg f.port) p (rxTime s.cfg f.port f.rx) (s.heard f x) = .spilled c) (hlen : c < (s.stream x).cnt.spill.length) :
    Completes (.rtpPacketReceived f) s (fun u =>
      nth 0 (u.stream x).cnt.spill c = (nth 0 (s.stream x).cnt.spill c + 1) % 2 ^ 64 ∧ (u.stream x).aus = (s.stream x).aus
      ∧ (u.stream x).state = .flowing ∧ (∀ y : Nat, y ≠ x → u.stream y = s.stream y) ∧ u.events = s.events) := by
  obtain ⟨d, hexec⟩ := exec_gets h
  obtain ⟨-, -, -, hstate⟩ := h
  obtain ⟨hheard, hm⟩ := onlyStream_heard s f x
  have hadmit : admitInto x (pathOf s.cfg f.port) (inbound s.cfg f d) p (rxTime s.cfg f.port f.rx) (rxTime s.cfg f.port f.rx) (s.heard f x) (s.heard f x)
      = spill x c (inbound s.cfg f d) (rxTime s.cfg f.port f.rx) (s.heard f x) := by
    unfold admitInto
    rw [hf]
    rfl
  obtain ⟨honly, hstream, hev⟩ := spill_spec x c (inbound s.cfg f d) (rxTime s.cfg f.port f.rx) (s.heard f x)
  rw [hm] at hstream
  have hall := hheard.trans honly
  refine completes_of_keeps hexec _ hadmit hall.keeps ⟨?_, ?_, ?_, hall.2, hev⟩ <;> rw [hstream]
  · exact nth_spilledIn (m := { s.stream x with newSsrcN := 0 }) hlen
  · rfl
  · exact hstate

theorem rtp_malformed {s : State} {f : NetFrame} {x : Nat} {d : UdpIn} (h : s.claims f d (.rtp x))
    (hform : formatIn s.cfg x (inbound s.cfg f d) = none) (hlen : 2 < (s.stream x).cnt.spill.length) :
    Completes (.rtpPacketReceived f) s (fun u =>
      nth 0 (u.stream x).cnt.spill 2 = (nth 0 (s.stream x).cnt.spill 2 + 1) % 2 ^ 64 ∧ (u.stream x).aus = (s.stream x).aus
      ∧ (u.stream x).state = (s.stream x).state ∧ (∀ y : Nat, y ≠ x → u.stream y = s.stream y) ∧ u.events = s.events) := by
  obtain ⟨hon, hfcs, hd, hc⟩ := h
  have htake := takePacket_malformed (x := x) (via := pathOf s.cfg f.port) (now := rxTime s.cfg f.port f.rx) (arr := rxTime s.cfg f.port f.rx)
    (s := s.portHeard f) hform
  obtain ⟨honly, hstream, hev⟩ := spill_spec x 2 (inbound s.cfg f d) (rxTime s.cfg f.port f.rx) (s.portHeard f)
  rw [portHeard_stream] at hstream
  have hall := (onlyStream_portHeard x s f).trans honly
  refine completes_of_keeps (exec_rtpPacketReceived hon) _ ((streamFrame_whole hfcs).trans ((claimedFrame_rtp hd hc).trans htake))
    hall.keeps ⟨?_, ?_, ?_, hall.2, hev⟩ <;> rw [hstream]
  · exact nth_spilledIn hlen
  · rfl
  · rfl

/-! ## A frame that no stream gets (R84, R86) -/

theorem rtp_badFcs {s : State} {f : NetFrame} (hon : s.netOn f.port = true) (hfcs : f.fcsOk = false) :
    Completes (.rtpPacketReceived f) s (fun u =>
      u.ethPort f.port = { s.ethPort f.port with fcsErr := ((s.ethPort f.port).fcsErr + 1) % 2 ^ 64 } ∧ u.streams = s.streams
      ∧ u.events = s.events ∧ u.out = s.out) :=
  completes_of_keeps (exec_rtpPacketReceived hon) _ (streamFrame_badFcs hfcs) ⟨rfl, rfl, rfl⟩ ⟨ethPort_modEthPort .., rfl, rfl, rfl⟩

theorem ethPort_noteUnmatched (p : Nat) (s : State) :
    (noteUnmatched p s).ethPort p = { s.ethPort p with unmatched := ((s.ethPort p).unmatched + 1) % 2 ^ 64 } := ethPort_modEthPort ..

theorem ethPort_portHeard (s : State) (f : NetFrame) :
    (s.portHeard f).ethPort f.port = { s.ethPort f.port with framesRx := ((s.ethPort f.port).framesRx + 1) % 2 ^ 64 } := ethPort_modEthPort ..

theorem rtp_unmatched {s : State} {f : NetFrame} (hon : s.netOn f.port = true) (hfcs : f.fcsOk = true)
    (h : datagramIn f.bytes = none ∨ ∃ d, s.claims f d .none) :
    Completes (.rtpPacketReceived f) s (fun u =>
      u.ethPort f.port = { s.ethPort f.port with framesRx := ((s.ethPort f.port).framesRx + 1) % 2 ^ 64,
                                                  unmatched := ((s.ethPort f.port).unmatched + 1) % 2 ^ 64 }
      ∧ u.streams = s.streams ∧ u.events = s.events ∧ u.out = s.out) := by
  refine completes_of_keeps (exec_rtpPacketReceived hon) _ ((streamFrame_whole hfcs).trans (claimedFrame_unmatched h)) ⟨rfl, rfl, rfl⟩
    ⟨?_, rfl, rfl, rfl⟩
  rw [ethPort_noteUnmatched, ethPort_portHeard]

/-- Settles O29. -/
theorem streamPackets : Obligations.StreamPackets :=
  ⟨fun _ _ hon hfcs => rtp_badFcs hon hfcs, fun _ _ hon hfcs h => rtp_unmatched hon hfcs h, fun _ _ _ _ _ _ h hf => gets_accepted h hf,
    fun _ _ _ _ _ h hf => gets_pathDup h hf, fun _ _ _ _ _ h hf hlen => gets_spilled h hf hlen,
    fun _ _ _ _ h hform hlen => rtp_malformed h hform hlen⟩

end Sys2Proof.Machine
end

section
/-! The jitter buffer, stream states and merge windows (R93, R95, R97, R99). -/
namespace Sys2Proof.Machine

/-! ## Stream states (R99) -/

theorem stream_raise (c : Ev) (p : List (Nat × Nat)) (s : State) (x : Nat) : (raise c p s).stream x = s.stream x :=
  congrArg (fun l => tget streamInit l x) (raise_streams c p s)

/-- A stream in another state from an instant on. -/
def Stream.inState (m : Stream) (n : StreamState) (t : Time64) : Stream :=
  { m.leaveFlow t with state := n, flowSince := if n = .flowing then some t else none }

theorem setStreamState_same {x : Nat} {n : StreamState} (c : StreamCause) {s : State} (h : (s.stream x).state = n) : setStreamState x n c s = s := by
  unfold setStreamState
  exact if_pos h

theorem setStreamState_change {x : Nat} {n : StreamState} (c : StreamCause) {s : State} (h : (s.stream x).state ≠ n) :
    setStreamState x n c s
      = raise .streamState [(1, x), (1, (s.stream x).state.code), (1, n.code), (1, c.code)] (s.modStream x (fun m => m.inState n s.time.now)) := by
  unfold setStreamState
  exact if_neg h

/-- A change of a stream's state changes that stream and reports it. -/
theorem setStreamState_spec {x : Nat} {n : StreamState} (c : StreamCause) {s : State} (h : (s.stream x).state ≠ n) :
    OnlyStream x s (setStreamState x n c s) ∧ (setStreamState x n c s).stream x = (s.stream x).inState n s.time.now
    ∧ s.raised (setStreamState x n c s) .streamState none [(1, x), (1, (s.stream x).state.code), (1, n.code), (1, c.code)] := by
  rw [setStreamState_change c h]
  have honly := onlyEvents_raise .streamState [(1, x), (1, (s.stream x).state.code), (1, n.code), (1, c.code)]
    (s.modStream x (fun m => m.inState n s.time.now))
  exact ⟨(onlyStream_modStream ..).trans (honly.onlyStream x),
    (stream_raise ..).trans (stream_modStream ..), raised_raise .streamState _ rfl⟩

/-! ## What leaves the buffer as it is -/

/-- Two states differ in one stream, whose jitter buffer stands as it was and which is in a given state. -/
structure BufferThen (x : Nat) (st : StreamState) (s t : State) : Prop where
  only : OnlyStream x s t
  aus : (t.stream x).aus = (s.stream x).aus
  last : (t.stream x).lastAuEnd = (s.stream x).lastAuEnd
  state : (t.stream x).state = st

theorem BufferThen.refl (x : Nat) (s : State) : BufferThen x (s.stream x).state s s := ⟨.refl x s, rfl, rfl, rfl⟩

theorem BufferThen.trans {x : Nat} {a b : StreamState} {s t u : State} (h : BufferThen x a s t) (h' : BufferThen x b t u) : BufferThen x b s u :=
  ⟨h.only.trans h'.only, h'.aus.trans h.aus, h'.last.trans h.last, h'.state⟩

/-- A change of other fields of a stream leaves its buffer and its state as they are. -/
theorem bufferThen_setStream {x : Nat} {v : Stream} {s : State} (ha : v.aus = (s.stream x).aus) (hl : v.lastAuEnd = (s.stream x).lastAuEnd)
    {st : StreamState} (hs : v.state = st) : BufferThen x st s (s.setStream x v) := by
  refine ⟨onlyStream_setStream .., ?_, ?_, ?_⟩ <;> rw [stream_setStream] <;> assumption

theorem bufferThen_modStream {x : Nat} {f : Stream → Stream} {s : State} (ha : (f (s.stream x)).aus = (s.stream x).aus)
    (hl : (f (s.stream x)).lastAuEnd = (s.stream x).lastAuEnd) {st : StreamState} (hs : (f (s.stream x)).state = st) :
    BufferThen x st s (s.modStream x f) := bufferThen_setStream ha hl hs

theorem bufferThen_setStreamState (x : Nat) (n : StreamState) (c : StreamCause) (s : State) : BufferThen x n s (setStreamState x n c s) := by
  by_cases h : (s.stream x).state = n
  · rw [setStreamState_same c h]
    exact h ▸ .refl x s
  · obtain ⟨honly, hm, -⟩ := setStreamState_spec c h
    refine ⟨honly, ?_, ?_, ?_⟩ <;> rw [hm] <;> rfl

theorem bufferThen_idleDiscard {x : Nat} (n : Nat) {v : Stream} {s : State} (ha : v.aus = (s.stream x).aus) (hl : v.lastAuEnd = (s.stream x).lastAuEnd)
    {st : StreamState} (hs : v.state = st) : BufferThen x st s (idleDiscard x n (s.setStream x v)) := by
  refine (bufferThen_setStream ha hl hs).trans (bufferThen_modStream ?_ ?_ ?_)
  · rfl
  · rfl
  · rw [stream_setStream]
    exact hs

theorem bufferThen_trimBacklog (x : Nat) (s : State) : BufferThen x (s.stream x).state s (trimBacklog x s) := by
  unfold trimBacklog
  split
  · exact .refl x s
  · dsimp only
    split
    · exact .refl x s
    · refine bufferThen_setStream ?_ ?_ ?_ <;> rfl

/-- A released picture changes its stream's queue, and neither the buffer nor the stream's state. -/
theorem bufferThen_queuePicture (x : Nat) (q : Picture) (s : State) : BufferThen x (s.stream x).state s (queuePicture x q s) := by
  unfold queuePicture
  dsimp only
  split
  · refine bufferThen_idleDiscard 1 ?_ ?_ ?_ <;> rfl
  · split
    · refine bufferThen_setStream ?_ ?_ ?_ <;> rfl
    · split
      · refine bufferThen_idleDiscard 1 ?_ ?_ ?_ <;> rfl
      · have hset := bufferThen_setStream (x := x) (s := s) (v := { s.stream x with
          queue := (s.stream x).queue ++ [{ q with gap := (s.stream x).gapNext, fresh := (s.stream x).startDecode }], gapNext := false
          waitEntry := false, startDecode := false }) rfl rfl rfl
        have htrim := bufferThen_trimBacklog x (s.setStream x { s.stream x with
          queue := (s.stream x).queue ++ [{ q with gap := (s.stream x).gapNext, fresh := (s.stream x).startDecode }], gapNext := false
          waitEntry := false, startDecode := false })
        rw [stream_setStream] at htrim
        exact hset.trans htrim

/-! ## The release of an access unit (R95, R99) -/

theorem bufferThen_noteSets (x : Nat) (nals : List Bytes) (s : State) : BufferThen x (s.stream x).state s (s.modStream x (noteSets s.cfg x nals)) :=
  bufferThen_modStream rfl rfl rfl

/-- A picture queued behind a change of its stream's state. -/
theorem bufferThen_queue_after (x : Nat) (q : Picture) (n : StreamState) (c : StreamCause) (s : State) :
    BufferThen x n s (queuePicture x q (setStreamState x n c s)) := by
  have hset := bufferThen_setStreamState x n c s
  have hqueue := bufferThen_queuePicture x q (setStreamState x n c s)
  rw [hset.state] at hqueue
  exact hset.trans hqueue

/-- A stream with an access unit discarded before an entry point. -/
def Stream.preEntry (m : Stream) : Stream := { m with gapNext := true, cnt := { m.cnt with auPreEntry := (m.cnt.auPreEntry + 1) % 2 ^ 32 } }

theorem bufferThen_preEntry (x : Nat) (s : State) : BufferThen x (s.stream x).state s (s.modStream x Stream.preEntry) := bufferThen_modStream rfl rfl rfl

theorem releaseAu_priming {x : Nat} {a : Au} {t : Time64} {s : State} (h : (s.stream x).state = .priming) :
    BufferThen x (if (pictureOf s.cfg x (s.stream x) a t false).entry then .flowing else .resync) s (releaseAu x a t false s) := by
  have hsets := bufferThen_noteSets x (pictureOf s.cfg x (s.stream x) a t false).nals s
  unfold releaseAu
  dsimp only
  rw [h]
  dsimp only
  split
  · exact hsets.trans (bufferThen_queue_after ..)
  · have hset := bufferThen_setStreamState x .resync .noEntry (s.modStream x (noteSets s.cfg x (pictureOf s.cfg x (s.stream x) a t false).nals))
    have hdrop := bufferThen_preEntry x
      (setStreamState x .resync .noEntry (s.modStream x (noteSets s.cfg x (pictureOf s.cfg x (s.stream x) a t false).nals)))
    rw [hset.state] at hdrop
    exact (hsets.trans hset).trans hdrop

theorem releaseAu_flowing {x : Nat} {a : Au} {t : Time64} {s : State} (h : (s.stream x).state = .flowing) :
    BufferThen x .flowing s (releaseAu x a t false s) := by
  have hsets := bufferThen_noteSets x (pictureOf s.cfg x (s.stream x) a t false).nals s
  have hqueue := bufferThen_queuePicture x (pictureOf s.cfg x (s.stream x) a t false)
    (s.modStream x (noteSets s.cfg x (pictureOf s.cfg x (s.stream x) a t false).nals))
  rw [hsets.state, h] at hqueue
  unfold releaseAu
  dsimp only
  rw [h]
  exact hsets.trans hqueue

/-- The release of an access unit leaves the buffer of its stream as it is. -/
theorem releaseAu_buffer (x : Nat) (a : Au) (t : Time64) (s : State) : ∃ st, BufferThen x st s (releaseAu x a t false s) := by
  have hsets := bufferThen_noteSets x (pictureOf s.cfg x (s.stream x) a t false).nals s
  cases h : (s.stream x).state with
  | priming => exact ⟨_, releaseAu_priming h⟩
  | flowing => exact ⟨_, releaseAu_flowing h⟩
  | resync =>
    unfold releaseAu
    dsimp only
    rw [h]
    dsimp only
    split
    · exact ⟨_, hsets.trans (bufferThen_queue_after ..)⟩
    · exact ⟨_, hsets.trans (bufferThen_preEntry ..)⟩
  | gapped =>
    unfold releaseAu
    dsimp only
    rw [h]
    exact ⟨_, hsets.trans (bufferThen_queue_after ..)⟩
  | idle =>
    unfold releaseAu
    dsimp only
    rw [h]
    exact ⟨_, .refl x s⟩
  | silent =>
    unfold releaseAu
    dsimp only
    rw [h]
    exact ⟨_, hsets.trans (bufferThen_queuePicture ..)⟩

/-! ## The front of the buffer (R95) -/

/-- What the access unit at the front leaves in its stream as it goes. -/
structure Popped (m n : Stream) : Prop where
  length : n.aus.length + 1 = m.aus.length
  last : n.lastAuEnd.isSome = true
  state : n.state = m.state
  cnt : n.cnt = m.cnt

theorem popAu_spec {x : Nat} {a : Au} {r : List Au} {s : State} (h : (s.stream x).aus = a :: r) :
    OnlyStream x s (popAu x s) ∧ Popped (s.stream x) ((popAu x s).stream x) := by
  refine ⟨onlyStream_modStream .., ?_⟩
  have hlen := length_boundAus (s.stream x).lastAuEnd (s.stream x).aus
  unfold popAu
  rw [stream_modStream]
  cases hb : boundAus (s.stream x).lastAuEnd (s.stream x).aus with
  | nil =>
    rw [hb, h] at hlen
    cases hlen
  | cons b q =>
    rw [hb] at hlen
    exact ⟨hlen, rfl, rfl, rfl⟩

/-- Whether a picture is an entry point does not depend on its stream's state. -/
theorem entry_pictureOf (c : Cfg) (x : Nat) (m n : Stream) (a : Au) (t : Time64) (b : Bool) :
    (pictureOf c x m a t b).entry = (pictureOf c x n a t b).entry := rfl

/-- A stream whose access unit left the buffer with its completion's lateness counted (R95). -/
def Stream.lateCounted (m : Stream) (late : Bool) : Stream :=
  { m with cnt := if late then { m.cnt with jbLate := (m.cnt.jbLate + 1) % 2 ^ 32 } else m.cnt }

theorem openAu_eq (x : Nat) (a : Au) (t : Time64) (s : State) :
    ∃ late, openAu x a t s = releaseAu x a t false ((popAu x s).modStream x (fun m => m.lateCounted late)) := ⟨_, rfl⟩

theorem jitterRelease_due {s : State} {x : Fin 128} {t : Time64} {a : Au} {r : List Au} (ha : (s.stream x).aus = a :: r)
    (hdue : auDue s.cfg x (s.stream x) t a = true) :
    Completes (.jitterRelease x t) s (fun u =>
      (u.stream x).aus.length = r.length ∧ (u.stream x).lastAuEnd.isSome = true
      ∧ ((s.stream x).state = .priming → (u.stream x).state = if (pictureOf s.cfg x (s.stream x) a t false).entry then .flowing else .resync)
      ∧ ((s.stream x).state = .flowing → (u.stream x).state = .flowing)
      ∧ (∀ y : Nat, y ≠ x.val → u.stream y = s.stream y) ∧ u.ledger = s.ledger ∧ u.cfg = s.cfg) := by
  have hexec : exec (.jitterRelease x t) s = act (fun s => openAu x a t (atTime t s)) s := by
    change execJitterRelease x t s = _
    unfold execJitterRelease
    refine act_congr ?_
    dsimp only
    rw [ha]
    exact if_pos hdue
  obtain ⟨late, hopen⟩ := openAu_eq x a t (atTime t s)
  obtain ⟨hpop, hpopped⟩ := popAu_spec (s := atTime t s) ha
  rw [show (atTime t s).stream x = s.stream x from rfl] at hpopped
  have hlate := stream_modStream x (fun m => m.lateCounted late) (popAu x (atTime t s))
  have hmod := onlyStream_modStream x (fun m => m.lateCounted late) (popAu x (atTime t s))
  generalize (popAu x (atTime t s)).modStream x (fun m => m.lateCounted late) = w at hopen hlate hmod
  have hstate : (w.stream x).state = (s.stream x).state := (congrArg Stream.state hlate).trans hpopped.state
  have hbefore : OnlyStream x s w := ((onlyStream_atTime x t s).trans hpop).trans hmod
  have hcfg : w.cfg = s.cfg := hbefore.get State.cfg
  obtain ⟨st, hrel⟩ := releaseAu_buffer x a t w
  have hall := hbefore.trans hrel.only
  refine completes_of_keeps hexec _ hopen hall.keeps
    ⟨?_, ?_, fun hp => ?_, fun hf => (releaseAu_flowing (hstate.trans hf)).state, hall.2, hall.get State.ledger, hall.get State.cfg⟩
  · rw [hrel.aus, hlate]
    exact Nat.succ.inj (hpopped.length.trans (congrArg List.length ha))
  · rw [hrel.last, hlate]
    exact hpopped.last
  · rw [(releaseAu_priming (hstate.trans hp)).state, hcfg, entry_pictureOf s.cfg x (w.stream x) (s.stream x)]

theorem jitterRelease_none {s : State} {x : Fin 128} {t : Time64} (ha : (s.stream x).aus = []) :
    Completes (.jitterRelease x t) s (fun u => u = { s with time := { s.time with now := t } }) := by
  have hexec : exec (.jitterRelease x t) s = act (atTime t) s := by
    change execJitterRelease x t s = _
    unfold execJitterRelease
    refine act_congr ?_
    dsimp only
    rw [ha]
  exact completes_of_keeps hexec _ rfl ⟨rfl, rfl, rfl⟩ rfl

/-! ## Gaps (R97, R99) -/

/-- A stream whose only access unit has been closed. -/
def Stream.gapClosed (a : Au) (m : Stream) : Stream :=
  { m with aus := [{ a with closed := true }], cnt := { m.cnt with auPartial := (m.cnt.auPartial + 1) % 2 ^ 32 } }

theorem markClosed_one {x : Nat} {t : Time64} {a : Au} {s : State} (ha : (s.stream x).aus = [a]) (hc : a.complete = none) (hcl : a.closed = false)
    (hdue : a.lastT + 1000 * pv s.cfg pSrcGapTimeoutUs x ≤ t) (hst : (s.stream x).state = .flowing) :
    markClosed x t s = setStreamState x .gapped .closedAu (s.modStream x (Stream.gapClosed a)) := by
  have hnow : closesNow s.cfg x (s.stream x) t a none = true := by
    unfold closesNow
    rw [hc, hcl, decide_eq_true hdue]
    rfl
  have hmarks : closeMarks s.cfg x (s.stream x) t [a] = [{ a with closed := true }] := by
    unfold closeMarks closeMarks
    rw [List.head?_nil, if_pos hnow]
  have hone : ([{ a with closed := true }].filter (fun a : Au => a.closed)).length - ([a].filter (fun a => a.closed)).length = 1 := by
    rw [List.filter_cons_of_pos rfl, List.filter_cons_of_neg (by rw [hcl]; exact Bool.false_ne_true)]
    rfl
  unfold markClosed
  dsimp only
  rw [ha, hmarks, hone, if_neg Nat.one_ne_zero, if_pos hst]
  rfl

theorem popClosed_one {x : Nat} {t : Time64} {a : Au} {s : State} (ha : (s.stream x).aus = [a]) (hcl : a.closed = true)
    (hpol : pv s.cfg pSrcPartialPolicy x = 0) :
    popClosed x t (s.stream x).aus.length s = (popAu x s).modStream x (fun m => { m with gapNext := true }) := by
  have hpol' : ¬ pv s.cfg pSrcPartialPolicy x = 1 := by
    rw [hpol]
    exact Nat.zero_ne_one
  have hopen : ¬ (!a.closed) = true := by
    rw [hcl]
    exact Bool.false_ne_true
  rw [ha]
  unfold List.length List.length popClosed popClosed
  rw [ha]
  exact (if_neg hopen).trans (if_neg hpol')

/-- What a gap timeout does once what is closed has left the buffer (R99). -/
def gapAfter (x : Nat) (t : Time64) (s : State) : State :=
  if (s.stream x).state = .flowing && (s.stream x).lastPkt.any (fun l => l + 1000 * pv s.cfg pSrcGapTimeoutUs x ≤ t) then
    setStreamState x .gapped .gapTimeout s
  else s

theorem exec_gapTimeout (s : State) (x : Fin 128) (t : Time64) :
    exec (.gapTimeout x t) s = act (fun s =>
      gapAfter x t (popClosed x t ((markClosed x t (atTime t s)).stream x).aus.length (markClosed x t (atTime t s)))) s := rfl

/-- A stream that does not flow is left as it is. -/
theorem gapAfter_still {x : Nat} {t : Time64} {s : State} {n : StreamState} (h : (s.stream x).state = n) (hn : n ≠ .flowing) : gapAfter x t s = s := by
  have hno : ¬ (decide ((s.stream x).state = .flowing) && (s.stream x).lastPkt.any (fun l => l + 1000 * pv s.cfg pSrcGapTimeoutUs x ≤ t)) = true := by
    rw [h, decide_eq_false hn]
    exact Bool.false_ne_true
  exact if_neg hno

theorem gapTimeout_closes {s : State} {x : Fin 128} {t : Time64} {a : Au} (ha : (s.stream x).aus = [a]) (hc : a.complete = none)
    (hcl : a.closed = false) (hdue : a.lastT + 1000 * pv s.cfg pSrcGapTimeoutUs x ≤ t) (hpol : pv s.cfg pSrcPartialPolicy x = 0)
    (hst : (s.stream x).state = .flowing) :
    Completes (.gapTimeout x t) s (fun u =>
      (u.stream x).aus = [] ∧ (u.stream x).state = .gapped
      ∧ (u.stream x).cnt.auPartial = ((s.stream x).cnt.auPartial + 1) % 2 ^ 32
      ∧ s.raised u .streamState none [(1, x.val), (1, 2), (1, 3), (1, 4)] ∧ (∀ y : Nat, y ≠ x.val → u.stream y = s.stream y)) := by
  obtain ⟨v, hv⟩ : ∃ v, v = (atTime t s).modStream x (Stream.gapClosed a) := ⟨_, rfl⟩
  have hvs : v.stream x = (s.stream x).gapClosed a := hv ▸ stream_modStream ..
  have hvonly : OnlyStream x s v := hv ▸ (onlyStream_atTime x t s).trans (onlyStream_modStream ..)
  have hflow : (v.stream x).state ≠ .gapped := by
    rw [hvs, show ((s.stream x).gapClosed a).state = .flowing from hst]
    decide
  have hmark : markClosed x t (atTime t s) = setStreamState x .gapped .closedAu v := hv ▸ markClosed_one ha hc hcl hdue hst
  obtain ⟨honly, hstream, hraised⟩ := setStreamState_spec .closedAu hflow
  rw [hvs] at hstream hraised
  rw [show ((s.stream x).gapClosed a).state = .flowing from hst] at hraised
  have hhot : v.hot = s.hot := by rw [hv]; rfl
  have hall : OnlyStream x s (setStreamState x .gapped .closedAu v) := hvonly.trans honly
  obtain ⟨w, hw⟩ : ∃ w, w = setStreamState x .gapped .closedAu v := ⟨_, rfl⟩
  rw [← hw] at hmark honly hstream hraised hall
  have haus : (w.stream x).aus = [{ a with closed := true }] := by rw [hstream]; rfl
  obtain ⟨hpop, hpopped⟩ := popAu_spec haus
  have hgap := stream_modStream x (fun m => { m with gapNext := true }) (popAu x w)
  have hfin : popClosed x t (w.stream x).aus.length w = (popAu x w).modStream x (fun m => { m with gapNext := true }) :=
    popClosed_one haus rfl ((congrArg (fun c => pv c pSrcPartialPolicy x) (hall.get State.cfg)).trans hpol)
  have hstate : (((popAu x w).modStream x (fun m => { m with gapNext := true })).stream x).state = .gapped := by
    rw [hgap]
    exact hpopped.state.trans (congrArg Stream.state hstream)
  have hnone : ((popAu x w).stream x).aus.length = 0 := by
    have hlen := hpopped.length
    rw [haus] at hlen
    exact Nat.succ.inj hlen
  have hend := hall.trans (hpop.trans (onlyStream_modStream x (fun m => { m with gapNext := true }) (popAu x w)))
  refine completes_of_keeps (exec_gapTimeout s x t) ((popAu x w).modStream x (fun m => { m with gapNext := true })) ?_ hend.keeps
    ⟨?_, hstate, ?_, ?_, hend.2⟩
  · rw [hmark, hfin]
    exact gapAfter_still hstate (by decide)
  · rw [hgap]
    exact List.length_eq_zero_iff.mp hnone
  · rw [hgap]
    exact (congrArg StreamCounters.auPartial hpopped.cnt).trans (congrArg (fun m => m.cnt.auPartial) hstream)
  · have hraised' : s.raised w .streamState none [(1, x.val), (1, 2), (1, 3), (1, 4)] := by
      unfold State.raised at hraised ⊢
      rw [hhot] at hraised
      exact hraised
    exact raised_of_events hraised' rfl rfl

theorem markClosed_none {x : Nat} {t : Time64} {s : State} (ha : (s.stream x).aus = []) : markClosed x t s = s := by
  unfold markClosed
  dsimp only
  rw [ha]
  rfl

/-- A stream in another state that is not FLOWING, as an obligation says it. -/
theorem inState_still {n : StreamState} (hn : n ≠ .flowing) (m : Stream) (t : Time64) : m.inState n t = { m.leaveFlow t with state := n } := by
  unfold Stream.inState
  rw [if_neg hn]
  rfl

theorem gapTimeout_stops {s : State} {x : Fin 128} {t l : Time64} (ha : (s.stream x).aus = []) (hst : (s.stream x).state = .flowing)
    (hl : (s.stream x).lastPkt = some l) (hdue : l + 1000 * pv s.cfg pSrcGapTimeoutUs x ≤ t) :
    Completes (.gapTimeout x t) s (fun u =>
      u.stream x = { (s.stream x).leaveFlow t with state := .gapped } ∧ s.raised u .streamState none [(1, x.val), (1, 2), (1, 3), (1, 3)]
      ∧ (∀ y : Nat, y ≠ x.val → u.stream y = s.stream y)) := by
  have hgo : (decide (((atTime t s).stream x).state = .flowing)
      && ((atTime t s).stream x).lastPkt.any (fun l => l + 1000 * pv (atTime t s).cfg pSrcGapTimeoutUs x ≤ t)) = true := by
    rw [show (atTime t s).stream x = s.stream x from rfl, hst, hl]
    exact decide_eq_true hdue
  have hne : ((atTime t s).stream x).state ≠ .gapped := by
    rw [show ((atTime t s).stream x).state = .flowing from hst]
    decide
  obtain ⟨honly, hstream, hraised⟩ := setStreamState_spec .gapTimeout hne
  rw [show ((atTime t s).stream x).state = .flowing from hst] at hraised
  have hall := (onlyStream_atTime x t s).trans honly
  refine completes_of_keeps (exec_gapTimeout s x t) (setStreamState x .gapped .gapTimeout (atTime t s)) ?_ hall.keeps
    ⟨hstream.trans (inState_still (by decide) _ t), hraised, hall.2⟩
  rw [markClosed_none (s := atTime t s) ha, show ((atTime t s).stream x).aus = [] from ha]
  exact if_pos hgo

/-! ## Silence (R99) -/

theorem exec_silenceTimeout {s : State} {x : Fin 128} {t l : Time64}
    (hst : (s.stream x).state = .priming ∨ (s.stream x).state = .resync ∨ (s.stream x).state = .gapped) (hl : (s.stream x).lastPkt = some l)
    (hdue : l + 1000 * pv s.cfg pSrcSilenceUs x ≤ t) :
    exec (.silenceTimeout x t) s = act (fun s => setStreamState x .silent .silence (atTime t s)) s := by
  have hwaits : ((s.stream x).state == .priming || (s.stream x).state == .resync || (s.stream x).state == .gapped
      || ((s.stream x).state == .flowing && pv s.cfg pDecOrigin x == 1)) = true := by
    rcases hst with h | h | h <;> rw [h] <;> rfl
  have hgo : (((s.stream x).state == .priming || (s.stream x).state == .resync || (s.stream x).state == .gapped
      || ((s.stream x).state == .flowing && pv s.cfg pDecOrigin x == 1))
      && (s.stream x).lastPkt.any (fun l => l + 1000 * pv s.cfg pSrcSilenceUs x ≤ t)) = true := by
    rw [hwaits, hl]
    exact decide_eq_true hdue
  change execSilenceTimeout x t s = _
  unfold execSilenceTimeout
  exact act_congr (if_pos hgo)

theorem silenceTimeout_silent {s : State} {x : Fin 128} {t l : Time64}
    (hst : (s.stream x).state = .priming ∨ (s.stream x).state = .resync ∨ (s.stream x).state = .gapped) (hl : (s.stream x).lastPkt = some l)
    (hdue : l + 1000 * pv s.cfg pSrcSilenceUs x ≤ t) :
    Completes (.silenceTimeout x t) s (fun u =>
      u.stream x = { (s.stream x).leaveFlow t with state := .silent }
      ∧ s.raised u .streamState none [(1, x.val), (1, (s.stream x).state.code), (1, 4), (1, 5)]
      ∧ (∀ y : Nat, y ≠ x.val → u.stream y = s.stream y)) := by
  have hne : ((atTime t s).stream x).state ≠ .silent := by
    rw [show ((atTime t s).stream x).state = (s.stream x).state from rfl]
    rcases hst with h | h | h <;> rw [h] <;> decide
  obtain ⟨honly, hstream, hraised⟩ := setStreamState_spec .silence hne
  have hall := (onlyStream_atTime x t s).trans honly
  exact completes_of_keeps (exec_silenceTimeout hst hl hdue) _ rfl hall.keeps ⟨hstream.trans (inState_still (by decide) _ t), hraised, hall.2⟩

theorem silenceTimeout_idle {s : State} {x : Fin 128} {t : Time64} (hst : (s.stream x).state = .idle) :
    Completes (.silenceTimeout x t) s (fun u => u = { s with time := { s.time with now := t } }) := by
  have hwaits : ((s.stream x).state == .priming || (s.stream x).state == .resync || (s.stream x).state == .gapped
      || ((s.stream x).state == .flowing && pv s.cfg pDecOrigin x == 1)) = false := by
    rw [hst]
    rfl
  have hno : ¬ (((s.stream x).state == .priming || (s.stream x).state == .resync || (s.stream x).state == .gapped
      || ((s.stream x).state == .flowing && pv s.cfg pDecOrigin x == 1))
      && (s.stream x).lastPkt.any (fun l => l + 1000 * pv s.cfg pSrcSilenceUs x ≤ t)) = true := by
    rw [hwaits]
    exact Bool.false_ne_true
  have hexec : exec (.silenceTimeout x t) s = act (atTime t) s := by
    change execSilenceTimeout x t s = _
    unfold execSilenceTimeout
    exact act_congr (if_neg hno)
  exact completes_of_keeps hexec _ rfl ⟨rfl, rfl, rfl⟩ rfl

/-! ## Merge windows (R93) -/

/-- A stream whose merge window of a number has closed, counted for one path where the number came on one of two. -/
def Stream.mergeClosed (ext : Nat) (e : SeenSeq) (both : Bool) (m : Stream) : Stream :=
  { m with
    seen := m.seen.filter (fun q => q.ext != ext), closedHigh := some (max ext (m.closedHigh.getD 0))
    cnt := { m.cnt with
      pathOnlyA := (m.cnt.pathOnlyA + b2n ((!e.both && both) && e.path == 0)) % 2 ^ 64
      pathOnlyB := (m.cnt.pathOnlyB + b2n ((!e.both && both) && e.path == 1)) % 2 ^ 64 } }

theorem exec_mergeWindowClose {s : State} {x : Fin 128} {ext : Nat} {t : Time64} {e : SeenSeq}
    (he : (s.stream x).seen.find? (fun q => q.ext == ext) = some e) (hdue : e.t + 1000 * pv s.cfg pSrcPathSkewUs x ≤ t) :
    exec (.mergeWindowClose x ext t) s = act (fun s => (atTime t s).modStream x (Stream.mergeClosed ext e (bothPaths s.cfg x))) s := by
  change execMergeWindowClose x ext t s = _
  unfold execMergeWindowClose
  refine act_congr ?_
  dsimp only
  rw [show ((atTime t s).stream x).seen.find? (fun q => q.ext == ext) = some e from he]
  exact if_neg (Nat.not_lt.mpr hdue)

theorem mergeWindowClose_completes {s : State} {x : Fin 128} {ext : Nat} {t : Time64} {e : SeenSeq}
    (he : (s.stream x).seen.find? (fun q => q.ext == ext) = some e) (hdue : e.t + 1000 * pv s.cfg pSrcPathSkewUs x ≤ t)
    (hboth : bothPaths s.cfg x = true) :
    Completes (.mergeWindowClose x ext t) s (fun u =>
      (u.stream x).seen = (s.stream x).seen.filter (fun q => q.ext != ext)
      ∧ (u.stream x).cnt.pathOnlyA = ((s.stream x).cnt.pathOnlyA + b2n (!e.both && e.path == 0)) % 2 ^ 64
      ∧ (u.stream x).cnt.pathOnlyB = ((s.stream x).cnt.pathOnlyB + b2n (!e.both && e.path == 1)) % 2 ^ 64
      ∧ (∀ y : Nat, y ≠ x.val → u.stream y = s.stream y) ∧ u.events = s.events) := by
  have hall := (onlyStream_atTime x t s).trans (onlyStream_modStream x (Stream.mergeClosed ext e true) (atTime t s))
  have hstream := stream_modStream x (Stream.mergeClosed ext e true) (atTime t s)
  refine completes_of_keeps (exec_mergeWindowClose he hdue) ((atTime t s).modStream x (Stream.mergeClosed ext e true)) (by rw [hboth]) hall.keeps
    ⟨?_, ?_, ?_, hall.2, rfl⟩ <;> rw [hstream]
  · rfl
  · unfold Stream.mergeClosed
    rw [Bool.and_true]
    rfl
  · unfold Stream.mergeClosed
    rw [Bool.and_true]
    rfl

/-- Settles O31. -/
theorem jitterBuffer : Obligations.JitterBuffer :=
  ⟨⟨fun _ _ _ _ _ ha _ hdue => jitterRelease_due ha hdue, fun _ _ _ ha => jitterRelease_none ha,
      fun _ _ _ _ ha hc hcl hdue hpol hst => gapTimeout_closes ha hc hcl hdue hpol hst, fun _ _ _ _ ha hst hl hdue => gapTimeout_stops ha hst hl hdue⟩,
    fun _ _ _ _ hst hl hdue => silenceTimeout_silent hst hl hdue, fun _ _ _ hst => silenceTimeout_idle hst,
    fun _ _ _ _ _ he hdue hboth => mergeWindowClose_completes he hdue hboth⟩

end Sys2Proof.Machine
end

section
/-! Late fences, stalled groups and retired buffers (R180, R183, R187). -/
namespace Sys2Proof.Machine

/-! ## Late fences (R183) -/

/-- A group in which a late fence is counted, where its pending flip names it. -/
def Group.fenceLate (f : Nat) (q : Group) : Group :=
  if q.pending.any (fun p => p.layers.any (fun l => l.fence == f)) then { q with late := (q.late + 1) % 2 ^ 32 } else q

theorem exec_fenceReadLate (s : State) (f : Nat) :
    exec (.fenceReadLate f) s = act (fun s => { s with groups := s.groups.map (fun e => (e.1, e.2.fenceLate f)) }) s := by
  change execFenceReadLate f s = _
  unfold execFenceReadLate
  refine act_congr ?_
  refine congrArg (fun l => { s with groups := l }) (List.map_congr_left fun e _ => ?_)
  obtain ⟨g, pending, stall, late, notReady, values, said⟩ := e
  cases pending <;> rfl

theorem fenceReadLate_completes (s : State) (f : Nat) : Completes (.fenceReadLate f) s (fun t =>
    (∀ g : Nat, t.group g = if (s.group g).pending.any (fun p => p.layers.any (fun l => l.fence == f))
      then { s.group g with late := ((s.group g).late + 1) % 2 ^ 32 } else s.group g)
    ∧ t = { s with groups := t.groups }) :=
  completes_of_keeps (exec_fenceReadLate s f) _ rfl ⟨rfl, rfl, rfl⟩ ⟨fun g => tget_map (Group.fenceLate f) groupInit s.groups g, rfl⟩

/-! ## Stalled groups (R187) -/

theorem reportStall_due {g : Nat} {s : State} (hp : (s.group g).pending.isSome = true) (hst : (s.group g).stall ≠ 0)
    (hev : (s.group g).stall % pv s.cfg pFgStallTicks 0 = 0) (hsaid : (s.group g).said ≠ (s.group g).stall) :
    reportStall g s = raise .flipStall ([(1, g), (1, (s.group g).notReady.length)] ++ ((s.group g).notReady.take 3).flatMap (fun p =>
      [(2, p), (8, ((layerFlip (s.group g).pending (paneSource s.cfg p)).bind (fun l => fenceRead (s.group g).values l.fence)).getD 0)]))
      (s.modGroup g (fun q => { q with said := q.stall })) := by
  have hnone : (s.group g).pending.isNone = false := by rw [← Option.not_isSome, hp]; rfl
  have hevery : ((s.group g).stall % pv s.cfg pFgStallTicks 0 != 0) = false := bne_eq_false_iff_eq.mpr hev
  have hgo : ¬ ((s.group g).pending.isNone || decide ((s.group g).stall = 0) || (s.group g).stall % pv s.cfg pFgStallTicks 0 != 0
      || decide ((s.group g).said = (s.group g).stall)) = true := by
    rw [hnone, decide_eq_false hst, hevery, decide_eq_false hsaid]
    exact Bool.false_ne_true
  have hval : ∀ p, (match layerFlip (s.group g).pending (paneSource s.cfg p) with
      | some l => (fenceRead (s.group g).values l.fence).getD 0
      | none => 0) = ((layerFlip (s.group g).pending (paneSource s.cfg p)).bind (fun l => fenceRead (s.group g).values l.fence)).getD 0 := by
    intro p
    cases layerFlip (s.group g).pending (paneSource s.cfg p) <;> rfl
  unfold reportStall
  dsimp only
  rw [if_neg hgo]
  simp only [← hval] <;> rfl

theorem group_raise (c : Ev) (p : List (Nat × Nat)) (s : State) (g : Nat) : (raise c p s).group g = s.group g :=
  congrArg (fun l => tget groupInit l g) (raise_groups c p s)

theorem flipStall_completes {s : State} {g : Fin 64} (hp : (s.group g).pending.isSome = true) (hst : (s.group g).stall ≠ 0)
    (hev : (s.group g).stall % pv s.cfg pFgStallTicks 0 = 0) (hsaid : (s.group g).said ≠ (s.group g).stall) :
    Completes (.flipStall g) s (fun t =>
      t.group g = { s.group g with said := (s.group g).stall } ∧ (∀ k : Nat, k ≠ g.val → t.group k = s.group k)
      ∧ s.raised t .flipStall none ([(1, g.val), (1, (s.group g).notReady.length)] ++ ((s.group g).notReady.take 3).flatMap (fun p =>
          [(2, p), (8, ((layerFlip (s.group g).pending (paneSource s.cfg p)).bind (fun l => fenceRead (s.group g).values l.fence)).getD 0)]))) := by
  have hexec : exec (.flipStall g) s = act (reportStall g) s := rfl
  exact completes_of_keeps hexec _ (reportStall_due hp hst hev hsaid)
    (.trans (t := s.modGroup g (fun q => { q with said := q.stall })) ⟨rfl, rfl, rfl⟩ (onlyEvents_raise ..).keeps)
    ⟨(group_raise ..).trans (group_setGroup ..), fun k hk => (group_raise ..).trans (group_setGroup_ne _ _ _ hk), raised_raise .flipStall _ rfl⟩

/-! ## Retired buffers (R180) -/

theorem exec_bufRetired {s : State} {b : Fin 1024} {at' : Time64} (h : (s.buf b).state = 2) :
    exec (.bufRetired b at') s = act (fun s => if bufShown s b then s else
      raise .bufRetired ([(2, b.val), (1, 0)] ++ (s.buf b).scans.flatMap (fun q => [(1, q.1), (4, q.2)])) ((atTime at' s).setBuf b bufInit)) s := by
  have hstate : ((s.buf b).state != 2) = false := bne_eq_false_iff_eq.mpr h
  change execBufRetired b at' s = _
  unfold execBufRetired
  refine act_congr ?_
  dsimp only
  rw [hstate, Bool.false_or]

theorem buf_raise (c : Ev) (p : List (Nat × Nat)) (s : State) (b : Nat) : (raise c p s).buf b = s.buf b :=
  congrArg (fun l => tget bufInit l b) (raise_bufs c p s)

theorem bufRetired_completes {s : State} {b : Fin 1024} {at' : Time64} (h : (s.buf b).state = 2) :
    Completes (.bufRetired b at') s (fun t =>
      if bufShown s b then t = s
      else t.buf b = bufInit ∧ (∀ k : Nat, k ≠ b.val → t.buf k = s.buf k) ∧ t.ledger = s.ledger
        ∧ s.raised t .bufRetired none ([(2, b.val), (1, 0)] ++ (s.buf b).scans.flatMap (fun q => [(1, q.1), (4, q.2)]))) := by
  by_cases hshown : bufShown s b = true
  · exact completes_of_keeps (exec_bufRetired h) s (if_pos hshown) (.refl s) ((if_pos hshown).mpr rfl)
  · have honly := onlyEvents_raise .bufRetired ([(2, b.val), (1, 0)] ++ (s.buf b).scans.flatMap (fun q => [(1, q.1), (4, q.2)]))
      ((atTime at' s).setBuf b bufInit)
    refine completes_of_keeps (exec_bufRetired h) _ (if_neg hshown) (.trans (t := (atTime at' s).setBuf b bufInit) ⟨rfl, rfl, rfl⟩ honly.keeps) ?_
    rw [if_neg hshown]
    exact ⟨(buf_raise ..).trans (buf_setBuf ..), fun k hk => (buf_raise ..).trans (buf_setBuf_ne _ _ _ hk), honly.get State.ledger,
      raised_raise .bufRetired _ rfl⟩

/-- Settles O35. -/
theorem flipsAndBuffers : Obligations.FlipsAndBuffers :=
  ⟨fenceReadLate_completes, fun _ _ hp hst hev hsaid => flipStall_completes hp hst hev hsaid, fun _ _ _ h => bufRetired_completes h⟩

end Sys2Proof.Machine
end

section
/-! When a picture sets or clears the freeze latch of its source (R142 to R154). -/
namespace Sys2Proof.Machine

/-! ## What the tests leave of the latch -/

/-- Two states differ in a source's freeze detector, but not in its latch, and in what is raised. -/
structure LatchKept (x : Nat) (s t : State) : Prop where
  frz : (t.frz x).frz = (s.frz x).frz
  setCount : (t.frz x).setCount = (s.frz x).setCount
  ne : ∀ y : Nat, y ≠ x → t.frz y = s.frz y
  cfg : t.cfg = s.cfg
  streams : t.streams = s.streams
  panes : t.panes = s.panes
  hot : t.hot = s.hot

theorem LatchKept.refl (x : Nat) (s : State) : LatchKept x s s := ⟨rfl, rfl, fun _ _ => rfl, rfl, rfl, rfl, rfl⟩

theorem LatchKept.trans {x : Nat} {s t u : State} (h : LatchKept x s t) (h' : LatchKept x t u) : LatchKept x s u :=
  ⟨h'.frz.trans h.frz, h'.setCount.trans h.setCount, fun y hy => (h'.ne y hy).trans (h.ne y hy), h'.cfg.trans h.cfg, h'.streams.trans h.streams,
    h'.panes.trans h.panes, h'.hot.trans h.hot⟩

theorem latchKept_setFrz {x : Nat} {v : Freeze} {s : State} (hf : v.frz = (s.frz x).frz) (hc : v.setCount = (s.frz x).setCount) :
    LatchKept x s (s.setFrz x v) := by
  refine ⟨?_, ?_, fun _ hy => frz_setFrz_ne _ _ _ hy, rfl, rfl, rfl, rfl⟩ <;> rw [frz_setFrz] <;> assumption

theorem frz_raise (c : Ev) (p : List (Nat × Nat)) (s : State) (x : Nat) : (raise c p s).frz x = s.frz x :=
  congrArg (fun l => tget freezeInit l x) (raise_freeze c p s)

theorem latchKept_raise (x : Nat) (c : Ev) (p : List (Nat × Nat)) (s : State) : LatchKept x s (raise c p s) :=
  ⟨congrArg Freeze.frz (frz_raise ..), congrArg Freeze.setCount (frz_raise ..), fun _ _ => frz_raise .., raise_cfg .., raise_streams ..,
    raise_panes .., raise_hot ..⟩

/-! ## The tests (R144, R146, R152) -/

theorem latchKept_sigrepTest (s : State) (x : Nat) (i : FreezeIn) (tiles : List TileRec) : LatchKept x s (sigrepTest s x i tiles).2 := by
  unfold sigrepTest
  extract_lets f c el rep hit share f1
  have hf : f1.frz = (s.frz x).frz := by
    unfold f1
    split <;> rfl
  have hc : f1.setCount = (s.frz x).setCount := by
    unfold f1
    split <;> rfl
  split
  · exact latchKept_setFrz hf hc
  · split
    · exact latchKept_setFrz hf hc
    · split <;> exact latchKept_setFrz hf hc

theorem latchKept_intraTest (s : State) (x : Nat) (i : FreezeIn) (tiles : List TileRec) : LatchKept x s (intraTest s x i tiles).2.2 := by
  unfold intraTest
  dsimp only
  split
  · exact .trans (latchKept_setFrz (v := { s.frz x with base := none, baseBad := false }) rfl rfl) (latchKept_raise ..)
  · split
    · refine latchKept_setFrz ?_ ?_ <;> rfl
    · split
      · refine latchKept_setFrz ?_ ?_ <;> rfl
      · split
        · refine latchKept_setFrz ?_ ?_ <;> rfl
        · split <;> (refine latchKept_setFrz ?_ ?_ <;> rfl)

theorem tokenRow_latch (c : Cfg) (x : Nat) (f : Freeze) (cap : Dated) (k : Token) :
    (tokenRow c x f cap k).2.2.frz = f.frz ∧ (tokenRow c x f cap k).2.2.setCount = f.setCount := by
  unfold tokenRow notAdvancing
  dsimp only
  split
  · exact ⟨rfl, rfl⟩
  · split
    · exact ⟨rfl, rfl⟩
    · split
      · exact ⟨rfl, rfl⟩
      · split
        · exact ⟨rfl, rfl⟩
        · split <;> exact ⟨rfl, rfl⟩

theorem latchKept_tokenTest (x : Nat) (i : FreezeIn) (s : State) : LatchKept x s (tokenTest x i s).2.2.2 := by
  unfold tokenTest
  extract_lets l bad s1 use' note
  have h1 : LatchKept x s s1 := by
    refine foldl_rel (LatchKept.refl x) LatchKept.trans (fun a _ => ?_) bad s
    exact .trans (latchKept_setFrz (v := { a.frz x with faults := ((a.frz x).faults + 1) % 2 ^ 32 }) rfl rfl) (latchKept_raise ..)
  split
  · next k _ _ =>
    split
    · refine h1.trans (latchKept_setFrz ?_ ?_) <;> rfl
    · obtain ⟨hf, hc⟩ := tokenRow_latch s.cfg x { s1.frz x with bearing := true } i.cap k
      have h2 : LatchKept x s1 (s1.setFrz x { note k (tokenRow s.cfg x { s1.frz x with bearing := true } i.cap k).2.2 with seenFirst := true }) :=
        latchKept_setFrz hf hc
      dsimp only
      split
      · exact (h1.trans h2).trans (latchKept_raise ..)
      · exact h1.trans h2
  · dsimp only
    split
    · refine h1.trans (latchKept_setFrz ?_ ?_) <;> rfl
    · exact h1

/-! ## The decision (R153, R154) -/

/-- What the tests of a picture have found: the four kinds of evidence, whether it is positive, whether it seeds the base, how often a token overruled, and
its tile records. -/
structure Findings where
  payload  : Bool
  intra    : Bool
  sigrep   : Bool
  token    : Bool
  pos      : Bool
  seed     : Bool
  overrule : Bool
  tiles    : List TileRec

/-- Whether there is freeze evidence. -/
def Findings.evidence (e : Findings) : Bool := e.payload || e.intra || e.sigrep || e.token

/-- The four kinds of evidence and a clearing picture as FRZ_EVIDENCE holds them (R153). -/
def evidenceMask (payload intra sigrep token clear : Bool) : Nat :=
  packFields [(0, 1, b2n payload), (1, 1, b2n intra), (2, 1, b2n sigrep), (3, 1, b2n token), (4, 1, b2n clear)]

theorem evidenceMask_set : ∀ p i g t c : Bool, (p || i || g || t) = true → evidenceMask p i g t c % 16 ≠ 0 := by decide

theorem evidenceMask_clear : ∀ p i g t c : Bool, (p || i || g || t) = false → c = true → evidenceMask p i g t c = 16 := by decide

/-- The evidence of a picture as FRZ_EVIDENCE holds it (R153). -/
def Findings.mask (e : Findings) : Nat := evidenceMask e.payload e.intra e.sigrep e.token (!e.evidence && e.pos)

/-- A detector with a picture's findings noted. -/
def Freeze.noted (f : Freeze) (i : FreezeIn) (e : Findings) : Freeze :=
  { f with evLast := e.mask, frameSeq := i.seq, lastCols := i.cols, lastTiles := e.tiles, override := (f.override + b2n e.overrule) % 2 ^ 32 }

/-- The decision on a picture's findings (R153, R154). -/
def freezeDecide (x : Nat) (i : FreezeIn) (e : Findings) (s : State) : State :=
  let g := (s.frz x).noted i e
  if e.evidence then
    if g.frz then s.setFrz x g
    else
      raise .freezeSet [(1, x), (4, i.seq), (1, e.mask), (8, (since g i.cap e.payload e.intra e.sigrep e.token).t)]
        (s.setFrz x { g with frz := true, frzSince := since g i.cap e.payload e.intra e.sigrep e.token, setCount := (g.setCount + 1) % 2 ^ 32 })
  else if e.pos then
    if g.frz then raise .freezeClear [(1, x), (4, i.seq), (1, e.mask), (8, 0)] (s.setFrz x { g with evidenceT := i.cap, frz := false, frzSince := ⟨0, false⟩ })
    else s.setFrz x { g with evidenceT := i.cap }
  else if e.seed && !g.frz then s.setFrz x { g with evidenceT := i.cap }
  else s.setFrz x g

/-- A picture is judged by its findings, which leave the latch as it is; a payload repeated often enough is among them (R145). -/
theorem freezeEval_decides (x : Nat) (i : FreezeIn) (s : State) :
    ∃ e u, (freezeEval x i s).2 = freezeDecide x i e u ∧ LatchKept x s u
      ∧ (i.uncomp = false → (s.frz x).lastCrc = some i.auCrc → pv s.cfg pFrzPayloadCount x ≤ ((s.frz x).payloadRun + 1) % 2 ^ 32 → e.payload = true) := by
  unfold freezeEval
  extract_lets f0 prev t0 rep baseKept f1 payload s1 mot motion
  have h1 : LatchKept x s s1 := latchKept_setFrz rfl rfl
  have hpay : i.uncomp = false → (s.frz x).lastCrc = some i.auCrc → pv s.cfg pFrzPayloadCount x ≤ ((s.frz x).payloadRun + 1) % 2 ^ 32 → payload = true := by
    intro hun hcrc hrun
    have hrep : rep = true := by
      unfold rep
      rw [hun, decide_eq_true hcrc]
      rfl
    have hr : f1.payloadRun = (f0.payloadRun + 1) % 2 ^ 32 := if_pos hrep
    unfold payload
    rw [hr, hun, decide_eq_true hrun]
    rfl
  split
  next t1 test s2 heq =>
  have h2 : LatchKept x s1 s2 := by
    have h : s2 = (if i.uncomp then (t0, (sigrepTest s1 x i t0).1, (sigrepTest s1 x i t0).2)
      else if i.intra && !i.recBearing then intraTest s1 x i t0 else (t0, .neutral, s1)).2.2 := (congrArg (fun p => p.2.2) heq).symm
    rw [h]
    split
    · exact latchKept_sigrepTest ..
    · split
      · exact latchKept_intraTest ..
      · exact .refl x s1
  extract_lets intra0 sigrep
  split
  next tok statValid seen s3 heq' =>
  have h3 : LatchKept x s2 s3 := by
    have h : s3 = (if i.uncomp then (.neutral, false, false, s2) else tokenTest x i s2).2.2.2 := (congrArg (fun p => p.2.2.2) heq').symm
    rw [h]
    split
    · exact .refl x s2
    · exact latchKept_tokenTest ..
  extract_lets f token overruled intra pos ev mask g from' g1 s4
  exact ⟨⟨payload, intra, sigrep, decide token, pos, decide (test = .seed), overruled, t1⟩, s3, rfl, (h1.trans h2).trans h3, hpay⟩

/-! ## What the decision does (R153, R154) -/

theorem mask_clear {e : Findings} (hev : e.evidence = false) (hpos : e.pos = true) : e.mask = 16 :=
  evidenceMask_clear _ _ _ _ _ hev (by rw [hev, hpos]; rfl)

theorem mask_set {e : Findings} (hev : e.evidence = true) : e.mask % 16 ≠ 0 := evidenceMask_set _ _ _ _ _ hev

/-- The decision changes its source's detector and raises events, and nothing else. -/
theorem freezeDecide_frame (x : Nat) (i : FreezeIn) (e : Findings) (s : State) :
    (∀ y : Nat, y ≠ x → (freezeDecide x i e s).frz y = s.frz y) ∧ (freezeDecide x i e s).cfg = s.cfg
    ∧ (freezeDecide x i e s).streams = s.streams ∧ (freezeDecide x i e s).panes = s.panes := by
  have hset : ∀ v : Freeze, (∀ y : Nat, y ≠ x → (s.setFrz x v).frz y = s.frz y) ∧ (s.setFrz x v).cfg = s.cfg
      ∧ (s.setFrz x v).streams = s.streams ∧ (s.setFrz x v).panes = s.panes :=
    fun v => ⟨fun _ hy => frz_setFrz_ne _ _ _ hy, rfl, rfl, rfl⟩
  have hraise : ∀ (v : Freeze) (c : Ev) (p : List (Nat × Nat)), (∀ y : Nat, y ≠ x → (raise c p (s.setFrz x v)).frz y = s.frz y)
      ∧ (raise c p (s.setFrz x v)).cfg = s.cfg ∧ (raise c p (s.setFrz x v)).streams = s.streams ∧ (raise c p (s.setFrz x v)).panes = s.panes :=
    fun v c p => ⟨fun y hy => (frz_raise ..).trans ((hset v).1 y hy), raise_cfg .., raise_streams .., raise_panes ..⟩
  unfold freezeDecide
  dsimp only
  split
  · split
    · exact hset _
    · exact hraise ..
  · split
    · split
      · exact hraise ..
      · exact hset _
    · split <;> exact hset _

/-- A latch that is clear is set by evidence only, with FREEZE_SET. -/
theorem freezeDecide_sets {x : Nat} {i : FreezeIn} {e : Findings} {s : State} (hf : (s.frz x).frz = false)
    (hset : ((freezeDecide x i e s).frz x).frz = true) :
    ((freezeDecide x i e s).frz x).evLast % 16 ≠ 0 ∧ ((freezeDecide x i e s).frz x).setCount = ((s.frz x).setCount + 1) % 2 ^ 32
    ∧ s.raised (freezeDecide x i e s) .freezeSet none [(1, x), (4, i.seq), (1, ((freezeDecide x i e s).frz x).evLast),
        (8, ((freezeDecide x i e s).frz x).frzSince.t)] := by
  have hg : ¬ ((s.frz x).noted i e).frz = true := Bool.eq_false_iff.mp hf
  by_cases hev : e.evidence = true
  · have hd : freezeDecide x i e s
        = raise .freezeSet [(1, x), (4, i.seq), (1, e.mask), (8, (since ((s.frz x).noted i e) i.cap e.payload e.intra e.sigrep e.token).t)]
          (s.setFrz x { (s.frz x).noted i e with
            frz := true, frzSince := since ((s.frz x).noted i e) i.cap e.payload e.intra e.sigrep e.token
            setCount := (((s.frz x).noted i e).setCount + 1) % 2 ^ 32 }) := (if_pos hev).trans (if_neg hg)
    rw [hd, frz_raise, frz_setFrz]
    exact ⟨mask_set hev, rfl, raised_raise .freezeSet _ rfl⟩
  · refine absurd hset (Bool.eq_false_iff.mp ?_)
    unfold freezeDecide
    dsimp only
    rw [if_neg hev, if_neg hg]
    split
    · rw [frz_setFrz]
      exact hf
    · split <;> rw [frz_setFrz] <;> exact hf

/-- A latch that is set is cleared by a positive picture without evidence only, with FREEZE_CLEAR. -/
theorem freezeDecide_clears {x : Nat} {i : FreezeIn} {e : Findings} {s : State} (hf : (s.frz x).frz = true)
    (hclear : ((freezeDecide x i e s).frz x).frz = false) :
    ((freezeDecide x i e s).frz x).evLast = 16 ∧ ((freezeDecide x i e s).frz x).evidenceT = i.cap
    ∧ s.raised (freezeDecide x i e s) .freezeClear none [(1, x), (4, i.seq), (1, 16), (8, 0)] := by
  have hg : ((s.frz x).noted i e).frz = true := hf
  by_cases hev : e.evidence = true
  · refine absurd hclear (ne_false_of_eq_true ?_)
    have hd : freezeDecide x i e s = s.setFrz x ((s.frz x).noted i e) := (if_pos hev).trans (if_pos hg)
    rw [hd, frz_setFrz]
    exact hg
  · by_cases hpos : e.pos = true
    · have hd : freezeDecide x i e s = raise .freezeClear [(1, x), (4, i.seq), (1, e.mask), (8, 0)]
          (s.setFrz x { (s.frz x).noted i e with evidenceT := i.cap, frz := false, frzSince := ⟨0, false⟩ }) :=
        (if_neg hev).trans ((if_pos hpos).trans (if_pos hg))
      have hmask := mask_clear (Bool.eq_false_iff.mpr hev) hpos
      rw [hd, frz_raise, frz_setFrz, hmask]
      exact ⟨hmask, rfl, raised_raise .freezeClear _ rfl⟩
    · refine absurd hclear (ne_false_of_eq_true ?_)
      unfold freezeDecide
      dsimp only
      rw [if_neg hev, if_neg hpos]
      split <;> rw [frz_setFrz] <;> exact hg

/-- Evidence leaves the latch set. -/
theorem freezeDecide_evidence {x : Nat} {i : FreezeIn} {e : Findings} {s : State} (hev : e.evidence = true) :
    ((freezeDecide x i e s).frz x).frz = true := by
  unfold freezeDecide
  dsimp only
  rw [if_pos hev]
  split
  · next hg =>
    rw [frz_setFrz]
    exact hg
  · rw [frz_raise, frz_setFrz]

theorem raised_of_hot {s u t : State} {c : Ev} {g : Option Nat} {p : List (Nat × Nat)} (hhot : u.hot = s.hot) (h : u.raised t c g p) : s.raised t c g p := by
  unfold State.raised at h ⊢
  rw [← hhot]
  exact h

/-- Settles O34. -/
theorem freezeDecision : Obligations.FreezeDecision := by
  intro x i s
  obtain ⟨e, u, hd, hk, hpay⟩ := freezeEval_decides x i s
  obtain ⟨hne, hcfg, hstreams, hpanes⟩ := freezeDecide_frame x i e u
  rw [hd]
  refine ⟨fun hf hclear => ?_, fun hf hset => ?_, fun hun hcrc hrun => ?_, fun y hy => (hne y hy).trans (hk.ne y hy), hcfg.trans hk.cfg,
    hstreams.trans hk.streams, hpanes.trans hk.panes⟩
  · obtain ⟨hlast, hT, hraised⟩ := freezeDecide_clears (hk.frz.trans hf) hclear
    exact ⟨hlast, hT, raised_of_hot hk.hot hraised⟩
  · obtain ⟨hlast, hcount, hraised⟩ := freezeDecide_sets (hk.frz.trans hf) hset
    exact ⟨hlast, hk.setCount ▸ hcount, raised_of_hot hk.hot hraised⟩
  · refine freezeDecide_evidence ?_
    unfold Findings.evidence
    rw [hpay hun hcrc hrun]
    rfl

end Sys2Proof.Machine
end

section
/-! Decode lanes and the playback ring (R123, R124, R126, R128). -/
namespace Sys2Proof.Machine

/-! ## The streams alone -/

/-- Two states differ at most in their streams. -/
def OnlyStreams (s t : State) : Prop := t = { s with streams := t.streams }

theorem OnlyStreams.refl (s : State) : OnlyStreams s s := rfl

theorem OnlyStreams.trans {s t u : State} (h : OnlyStreams s t) (h' : OnlyStreams t u) : OnlyStreams s u := by
  unfold OnlyStreams at *
  rw [h', h]

theorem OnlyStreams.get {β : Type} (p : State → β) {s t : State} (h : OnlyStreams s t) : p t = p { s with streams := t.streams } := congrArg p h

theorem OnlyStreams.keeps {s t : State} (h : OnlyStreams s t) : KeepsFrame s t := ⟨h.get State.pending, h.get State.seatB, h.get State.dram⟩

theorem onlyStreams_setStream (x : Nat) (v : Stream) (s : State) : OnlyStreams s (s.setStream x v) := rfl

/-- Two states differ at most in the queue of one stream and what is noted of it. -/
structure QueueChanged (x : Nat) (s t : State) : Prop where
  only : OnlyStreams s t
  ne : ∀ y : Nat, y ≠ x → t.stream y = s.stream y
  stream : t.stream x = { s.stream x with
    queue := (t.stream x).queue, waitEntry := (t.stream x).waitEntry, startDecode := (t.stream x).startDecode
    gapNext := (t.stream x).gapNext, cnt := (t.stream x).cnt }

theorem QueueChanged.refl (x : Nat) (s : State) : QueueChanged x s s := ⟨rfl, fun _ _ => rfl, rfl⟩

theorem QueueChanged.trans {x : Nat} {s t u : State} (h : QueueChanged x s t) (h' : QueueChanged x t u) : QueueChanged x s u :=
  ⟨h.only.trans h'.only, fun y hy => (h'.ne y hy).trans (h.ne y hy), by rw [h'.stream, h.stream]⟩

theorem queueChanged_setStream {x : Nat} {v : Stream} {s : State}
    (h : v = { s.stream x with queue := v.queue, waitEntry := v.waitEntry, startDecode := v.startDecode, gapNext := v.gapNext, cnt := v.cnt }) :
    QueueChanged x s (s.setStream x v) := by
  refine ⟨onlyStreams_setStream .., fun _ hy => stream_setStream_ne _ _ _ hy, ?_⟩
  rw [stream_setStream]
  exact h

theorem queueChanged_idleDiscard (x n : Nat) (s : State) : QueueChanged x s (idleDiscard x n s) :=
  queueChanged_setStream (v := { s.stream x with cnt := { (s.stream x).cnt with idleDiscard := ((s.stream x).cnt.idleDiscard + n) % 2 ^ 32 } }) rfl

theorem queueChanged_trimBacklog (x : Nat) (s : State) : QueueChanged x s (trimBacklog x s) := by
  unfold trimBacklog
  split
  · exact .refl x s
  · dsimp only
    split
    · exact .refl x s
    · refine queueChanged_setStream ?_
      rfl

theorem queueChanged_queuePicture (x : Nat) (q : Picture) (s : State) : QueueChanged x s (queuePicture x q s) := by
  unfold queuePicture
  dsimp only
  split
  · refine .trans (queueChanged_setStream ?_) (queueChanged_idleDiscard ..)
    rfl
  · split
    · refine queueChanged_setStream ?_
      rfl
    · split
      · refine .trans (queueChanged_setStream ?_) (queueChanged_idleDiscard ..)
        rfl
      · refine .trans (queueChanged_setStream ?_) (queueChanged_trimBacklog ..)
        rfl

theorem onlyStreams_trimAll (l : List (Nat × Stream)) (s : State) : OnlyStreams s (l.foldl (fun a e => trimBacklog e.1 a) s) :=
  foldl_rel OnlyStreams.refl OnlyStreams.trans (fun _ _ => (queueChanged_trimBacklog ..).only) l s

/-! ## A free lane (R123) -/

theorem lane_modLane (l : Nat) (f : Lane → Lane) (s : State) : (s.modLane l f).lane l = f (s.lane l) := lane_setLane ..

theorem fillLane_takes {l x : Nat} {s w : State} (hw : w = s.streams.foldl (fun a e => trimBacklog e.1 a) s) (hopen : laneOpen w l = true)
    (hx : choosePicture w = some x) : fillLane l s = takePicture l x w := by
  have hgo : ¬ (!laneOpen w l) = true := by
    rw [hopen]
    exact Bool.false_ne_true
  unfold fillLane
  dsimp only
  rw [← hw, if_neg hgo, hx]

theorem fillLane_waits {l : Nat} {s w : State} (hw : w = s.streams.foldl (fun a e => trimBacklog e.1 a) s)
    (h : laneOpen w l = false ∨ choosePicture w = none) : fillLane l s = w := by
  unfold fillLane
  dsimp only
  rw [← hw]
  rcases h with hshut | hnone
  · have hgo : (!laneOpen w l) = true := by rw [hshut]; rfl
    exact if_pos hgo
  · rw [hnone]
    exact ite_self w

theorem exec_laneFree {s : State} {lane : Fin 12} {t : Time64} (h : s.alive = true) :
    exec (.laneFree lane t) s = act (fun s => fillLane lane (atTime t s)) s := by
  change execLaneFree lane t s = _
  unfold execLaneFree
  exact act_congr (if_pos h)

/-- A picture taken by a lane changes its stream's queue and the lane. -/
theorem takePicture_spec (l x : Nat) (s : State) :
    KeepsFrame s (takePicture l x s) ∧ ((takePicture l x s).lane l).stream = some x
    ∧ ((takePicture l x s).stream x).queue = (match (s.stream x).queue with
        | q :: r => { q with lane := some l } :: r
        | [] => [])
    ∧ (∀ k : Nat, k ≠ l → (takePicture l x s).lane k = s.lane k) ∧ (takePicture l x s).ledger = s.ledger ∧ (takePicture l x s).events = s.events := by
  refine ⟨⟨rfl, rfl, rfl⟩, congrArg Lane.stream (lane_modLane ..), congrArg Stream.queue (stream_modStream x (fun m => { m with queue := match m.queue with
    | q :: r => { q with lane := some l } :: r
    | [] => [] }) s), fun k hk => lane_setLane_ne _ _ _ hk, rfl, rfl⟩

theorem laneFree_takes {s w : State} {lane : Fin 12} {x : Nat} {t : Time64} (halive : s.alive = true)
    (hw : w = s.streams.foldl (fun a e => trimBacklog e.1 a) (atTime t s)) (hopen : laneOpen w lane = true) (hx : choosePicture w = some x) :
    Completes (.laneFree lane t) s (fun u =>
      (u.lane lane).stream = some x
      ∧ (u.stream x).queue = (match (w.stream x).queue with
          | q :: r => { q with lane := some lane.val } :: r
          | [] => [])
      ∧ (∀ l : Nat, l ≠ lane.val → u.lane l = s.lane l) ∧ u.ledger = s.ledger ∧ u.events = s.events) := by
  have honly : OnlyStreams (atTime t s) w := hw ▸ onlyStreams_trimAll s.streams (atTime t s)
  have hlane : ∀ l, w.lane l = s.lane l := fun l => congrArg (fun k => tget laneInit k l) (honly.get State.lanes)
  obtain ⟨hkeeps, hstream, hqueue, hne, hledger, hev⟩ := takePicture_spec lane x w
  exact completes_of_keeps (exec_laneFree halive) _ (fillLane_takes hw hopen hx) ((KeepsFrame.trans ⟨rfl, rfl, rfl⟩ honly.keeps).trans hkeeps)
    ⟨hstream, hqueue, fun l hl => (hne l hl).trans (hlane l), hledger.trans (honly.get State.ledger), hev.trans (honly.get State.events)⟩

theorem laneFree_waits {s w : State} {lane : Fin 12} {t : Time64} (halive : s.alive = true)
    (hw : w = s.streams.foldl (fun a e => trimBacklog e.1 a) (atTime t s)) (h : laneOpen w lane = false ∨ choosePicture w = none) :
    Completes (.laneFree lane t) s (fun u => u.lanes = s.lanes ∧ u.streams = w.streams ∧ u.ledger = s.ledger) := by
  have honly : OnlyStreams (atTime t s) w := hw ▸ onlyStreams_trimAll s.streams (atTime t s)
  exact completes_of_keeps (exec_laneFree halive) w (fillLane_waits hw h) (.trans (t := atTime t s) ⟨rfl, rfl, rfl⟩ honly.keeps)
    ⟨honly.get State.lanes, rfl, honly.get State.ledger⟩

/-! ## Pre-emption (R124) -/

/-- What the pre-emption of a lane does where a picture waits (R124, R126). -/
def preemptStep (lane row x y : Nat) (s : State) : State :=
  if (s.lane lane).stopping then s
  else if preempts s.cfg.profile (s.stream y).cls (s.stream x).cls then
    fillLane lane ((s.modStream x (fun m => { m with queue := match m.queue with
      | q :: r => { q with lane := none, row := max q.row row } :: r
      | [] => [] })).modLane lane (fun d => { d with stream := none }))
  else s

theorem exec_decodePreempt {s : State} {lane : Fin 12} {row x y : Nat} {t : Time64} (hx : (s.lane lane).stream = some x)
    (hy : choosePicture (atTime t s) = some y) :
    exec (.decodePreempt lane row t) s = act (fun s => preemptStep lane row x y (atTime t s)) s := by
  change execDecodePreempt lane row t s = _
  unfold execDecodePreempt
  refine act_congr ?_
  dsimp only
  rw [hx]
  dsimp only
  rw [hy]
  rfl

theorem decodePreempt_takes {s : State} {lane : Fin 12} {row x y : Nat} {t : Time64} (hx : (s.lane lane).stream = some x)
    (hy : choosePicture (atTime t s) = some y) (hstop : (s.lane lane).stopping = false)
    (hp : preempts s.cfg.profile (s.stream y).cls (s.stream x).cls = true) :
    Completes (.decodePreempt lane row t) s (fun u =>
      u = { fillLane lane (((atTime t s).modStream x (fun m => { m with queue := match m.queue with
              | q :: r => { q with lane := none, row := max q.row row } :: r
              | [] => [] })).modLane lane (fun d => { d with stream := none })) with
            pending := s.pending, seatB := s.seatB, dram := s.dram }) := by
  have hgo : ¬ ((atTime t s).lane lane).stopping = true := Bool.eq_false_iff.mp hstop
  exact completes_act (exec_decodePreempt hx hy) _ ((if_neg hgo).trans (if_pos hp)) rfl

theorem decodePreempt_stays {s : State} {lane : Fin 12} {row x y : Nat} {t : Time64} (hx : (s.lane lane).stream = some x)
    (hy : choosePicture (atTime t s) = some y) (h : (s.lane lane).stopping = true ∨ preempts s.cfg.profile (s.stream y).cls (s.stream x).cls = false) :
    Completes (.decodePreempt lane row t) s (fun u => u = { s with time := { s.time with now := t } }) := by
  have hstay : preemptStep lane row x y (atTime t s) = atTime t s := by
    unfold preemptStep
    rcases h with hstop | hno
    · exact if_pos hstop
    · have hno' : ¬ preempts (atTime t s).cfg.profile ((atTime t s).stream y).cls ((atTime t s).stream x).cls = true := Bool.eq_false_iff.mp hno
      rw [if_neg hno']
      exact ite_self _
  exact completes_of_keeps (exec_decodePreempt hx hy) _ hstay ⟨rfl, rfl, rfl⟩ rfl

/-! ## The safe point of a lane (R126) -/

/-- What a lane that is being disabled does at its safe point (R126). -/
def laneStops (l : Nat) (s : State) : State :=
  if (s.lane l).restart then
    match s.cmd.deferred.find? (fun q => q.1 == .lane l) with
    | some (_, h, _) =>
      raiseTag .decLaneReady h.tag [(1, l)]
        { s.setLane l ⟨none, false, false, false⟩ with cmd := { s.cmd with deferred := s.cmd.deferred.filter (fun q => q.1 != .lane l) } }
    | none => raise .decLaneReady [(1, l)] (s.setLane l ⟨none, false, false, false⟩)
  else s.setLane l ⟨none, false, true, false⟩

theorem exec_decLaneSafePoint {s : State} {lane : Fin 12} {t : Time64} (hstop : (s.lane lane).stopping = true) (hidle : (s.lane lane).stream = none) :
    exec (.decLaneSafePoint lane t) s = act (fun s => laneStops lane (atTime t s)) s := by
  have hgo : ¬ (!(s.lane lane).stopping || (s.lane lane).stream.isSome) = true := by
    rw [hstop, hidle]
    exact Bool.false_ne_true
  change execDecLaneSafePoint lane t s = _
  unfold execDecLaneSafePoint
  exact act_congr (if_neg hgo)

theorem decLaneSafePoint_stops {s : State} {lane : Fin 12} {t : Time64} (hstop : (s.lane lane).stopping = true) (hidle : (s.lane lane).stream = none)
    (hre : (s.lane lane).restart = false) :
    Completes (.decLaneSafePoint lane t) s (fun u =>
      u.lane lane = ⟨none, false, true, false⟩ ∧ (∀ l : Nat, l ≠ lane.val → u.lane l = s.lane l) ∧ u.events = s.events ∧ u.cmd = s.cmd) := by
  have hre' : ¬ ((atTime t s).lane lane).restart = true := Bool.eq_false_iff.mp hre
  exact completes_of_keeps (exec_decLaneSafePoint hstop hidle) _ (if_neg hre') ⟨rfl, rfl, rfl⟩
    ⟨lane_setLane .., fun _ hl => lane_setLane_ne _ _ _ hl, rfl, rfl⟩

/-- A state in which a lane starts again, its deferred answer taken. -/
def laneRestarted (l : Nat) (s : State) : State :=
  { s.setLane l ⟨none, false, false, false⟩ with cmd := { s.cmd with deferred := s.cmd.deferred.filter (fun q => q.1 != .lane l) } }

theorem decLaneSafePoint_restarts {s : State} {lane : Fin 12} {t : Time64} {h : CmdHdr} {k : Cmd} (hstop : (s.lane lane).stopping = true)
    (hidle : (s.lane lane).stream = none) (hre : (s.lane lane).restart = true)
    (hd : s.cmd.deferred.find? (fun q => q.1 == .lane lane.val) = some (.lane lane.val, h, k)) :
    Completes (.decLaneSafePoint lane t) s (fun u =>
      u.lane lane = ⟨none, false, false, false⟩ ∧ (∀ l : Nat, l ≠ lane.val → u.lane l = s.lane l)
      ∧ s.raised u .decLaneReady (some h.tag) [(1, lane.val)]
      ∧ u.cmd.deferred = s.cmd.deferred.filter (fun q => q.1 != .lane lane.val)) := by
  have hstops : laneStops lane (atTime t s) = raiseTag .decLaneReady h.tag [(1, lane.val)] (laneRestarted lane (atTime t s)) := by
    unfold laneStops
    rw [if_pos (show ((atTime t s).lane lane).restart = true from hre),
      show (atTime t s).cmd.deferred.find? (fun q => q.1 == .lane lane.val) = some (.lane lane.val, h, k) from hd]
    rfl
  have honly : OnlyEvents (laneRestarted lane (atTime t s)) (raiseTag .decLaneReady h.tag [(1, lane.val)] (laneRestarted lane (atTime t s))) :=
    onlyEvents_raiseAt ..
  have hlane : ∀ l, (raiseTag .decLaneReady h.tag [(1, lane.val)] (laneRestarted lane (atTime t s))).lane l = (laneRestarted lane (atTime t s)).lane l :=
    fun l => congrArg (fun k => tget laneInit k l) (honly.get State.lanes)
  have hne : ∀ l : Nat, l ≠ lane.val → (laneRestarted lane (atTime t s)).lane l = s.lane l :=
    fun l hl => lane_setLane_ne (atTime t s) lane ⟨none, false, false, false⟩ hl
  exact completes_of_keeps (exec_decLaneSafePoint hstop hidle) _ hstops (.trans (t := laneRestarted lane (atTime t s)) ⟨rfl, rfl, rfl⟩ honly.keeps)
    ⟨(hlane lane).trans (lane_setLane (atTime t s) lane _), fun l hl => (hlane l).trans (hne l hl), raised_raiseAt _ _ _ _ _ _ rfl,
      honly.get (·.cmd.deferred)⟩

/-! ## The playback ring (R128, R391) -/

/-- What a descriptor of the playback ring leaves of its stream. -/
structure DescTaken (x : Nat) (t : Time64) (s u : State) : Prop where
  keeps : KeepsFrame s u
  extends_ : Extends s u
  ne : ∀ y : Nat, y ≠ x → u.stream y = s.stream y
  ring : (u.stream x).ring = (s.stream x).ring
  state : (u.stream x).state = .flowing
  lastPkt : (u.stream x).lastPkt = some t
  session : (u.stream x).session = true

/-- A new session restarts its stream and the freeze detector, and reports it (R100). -/
theorem newSession_spec (x : Nat) (s : State) :
    KeepsFrame s (newSession x s) ∧ Extends s (newSession x s) ∧ (∀ y : Nat, y ≠ x → (newSession x s).stream y = s.stream y)
    ∧ ((newSession x s).stream x).ring = (s.stream x).ring ∧ ((newSession x s).stream x).session = true := by
  unfold newSession
  extract_lets m lost s1
  have hne : ∀ y : Nat, y ≠ x → s1.stream y = s.stream y := fun _ hy => stream_setStream_ne _ _ _ hy
  have hx : (s1.stream x).ring = (s.stream x).ring ∧ (s1.stream x).session = true := by
    unfold s1
    rw [stream_modStream]
    exact ⟨rfl, rfl⟩
  have hkeep : KeepsFrame s (s1.modFrz x (fun f => { f with seenFirst := false, bearing := false, tokenPos := false })) := ⟨rfl, rfl, rfl⟩
  have hext : Extends s (s1.modFrz x (fun f => { f with seenFirst := false, bearing := false, tokenPos := false })) := .of_eq rfl
  have hstream : ∀ y, (raise .streamSession [(1, x)] (s1.modFrz x (fun f => { f with seenFirst := false, bearing := false, tokenPos := false }))).stream y
      = s1.stream y := fun y => stream_raise ..
  exact ⟨hkeep.trans (onlyEvents_raise ..).keeps, hext.trans (extends_raise ..), fun y hy => (hstream y).trans (hne y hy),
    (congrArg Stream.ring (hstream x)).trans hx.1, (congrArg Stream.session (hstream x)).trans hx.2⟩

theorem extends_setStreamState (x : Nat) (n : StreamState) (c : StreamCause) (s : State) : Extends s (setStreamState x n c s) := by
  by_cases h : (s.stream x).state = n
  · rw [setStreamState_same c h]
    exact .refl s
  · rw [setStreamState_change c h]
    exact .trans (t := s.modStream x (fun m => m.inState n s.time.now)) (.of_eq rfl) (extends_raise ..)

/-- A stream of a session that becomes FLOWING with a packet. -/
theorem flowing_spec (x : Nat) (t : Time64) {s : State} (hs : (s.stream x).session = true) :
    DescTaken x t s (setStreamState x .flowing .packet (s.modStream x (fun m => { m with lastPkt := some t }))) := by
  have hmod := stream_modStream x (fun m => { m with lastPkt := some t }) s
  have hext : Extends s (s.modStream x (fun m => { m with lastPkt := some t })) := .of_eq rfl
  have honly := onlyStream_modStream x (fun m => { m with lastPkt := some t }) s
  generalize s.modStream x (fun m => { m with lastPkt := some t }) = u at hmod hext honly ⊢
  by_cases h : (u.stream x).state = .flowing
  · rw [setStreamState_same .packet h]
    exact ⟨honly.keeps, hext, honly.2, by rw [hmod], h, by rw [hmod], by rw [hmod]; exact hs⟩
  · have hset := extends_setStreamState x .flowing .packet u
    obtain ⟨hst, hm, -⟩ := setStreamState_spec .packet h
    rw [hmod] at hm
    exact ⟨honly.keeps.trans hst.keeps, hext.trans hset, fun y hy => (hst.2 y hy).trans (honly.2 y hy), by rw [hm]; rfl, by rw [hm]; rfl,
      by rw [hm]; rfl, by rw [hm]; exact hs⟩

theorem DescTaken.trans_queue {x : Nat} {t : Time64} {s u v : State} (h : DescTaken x t s u) (h' : QueueChanged x u v) : DescTaken x t s v := by
  obtain ⟨honly, hne, hstream⟩ := h'
  exact ⟨h.keeps.trans honly.keeps, h.extends_.trans (.of_eq (honly.get State.out)), fun y hy => (hne y hy).trans (h.ne y hy),
    by rw [hstream]; exact h.ring, by rw [hstream]; exact h.state, by rw [hstream]; exact h.lastPkt, by rw [hstream]; exact h.session⟩

/-- A change of the in-band parameter sets leaves what a descriptor has set. -/
theorem DescTaken.trans_sets {x : Nat} {t : Time64} {s u : State} (h : DescTaken x t s u) (c : Cfg) (nals : List Bytes) :
    DescTaken x t s (u.setStream x (noteSets c x nals (u.stream x))) := by
  have hx := stream_setStream u x (noteSets c x nals (u.stream x))
  have honly := onlyStream_setStream x (noteSets c x nals (u.stream x)) u
  exact ⟨h.keeps.trans honly.keeps, h.extends_.trans (.of_eq rfl), fun y hy => (honly.2 y hy).trans (h.ne y hy), by rw [hx]; exact h.ring,
    by rw [hx]; exact h.state, by rw [hx]; exact h.lastPkt, by rw [hx]; exact h.session⟩

/-- A descriptor is read over PCIe first, and its access unit released at once. -/
theorem takeDesc_spec (x : Nat) (t : Time64) (k : PlaybackDesc × Option Bytes) (s : State) :
    DescTaken x t (emit (.hostRead k.1.auAddr k.1.auLen) s) (takeDesc x t k s) := by
  unfold takeDesc
  extract_lets d s0 s1 s2
  have h2 : DescTaken x t s0 s2 := by
    by_cases hnew : (d.newSession || !(s.stream x).session) = true
    · have hs1 : s1 = newSession x s0 := if_pos hnew
      obtain ⟨hkeep, hext, hne, hring, hsess⟩ := newSession_spec x s0
      unfold s2
      rw [hs1]
      have hflow := flowing_spec x t hsess
      exact ⟨hkeep.trans hflow.keeps, hext.trans hflow.extends_, fun y hy => (hflow.ne y hy).trans (hne y hy), hflow.ring.trans hring, hflow.state,
        hflow.lastPkt, hflow.session⟩
    · have hs1 : s1 = s0 := if_neg hnew
      have hsess : (s0.stream x).session = true := by
        have hno := Bool.or_eq_false_iff.mp (Bool.eq_false_iff.mpr hnew)
        exact (Bool.not_eq_eq_eq_not.mp hno.2 :)
      unfold s2
      rw [hs1]
      exact flowing_spec x t hsess
  split
  · refine h2.trans_queue (queueChanged_setStream ?_)
    rfl
  · exact (h2.trans_sets ..).trans_queue (queueChanged_queuePicture ..)

/-- The descriptors that are taken, the first of them read first. -/
theorem takeDescs_spec (x : Nat) (t : Time64) (k : PlaybackDesc × Option Bytes) (l : List (PlaybackDesc × Option Bytes)) (s : State) :
    DescTaken x t (emit (.hostRead k.1.auAddr k.1.auLen) s) ((k :: l).foldl (fun a d => takeDesc x t d a) s) := by
  have hrest : ∀ (l : List (PlaybackDesc × Option Bytes)) (u v : State), DescTaken x t u v → DescTaken x t u (l.foldl (fun a d => takeDesc x t d a) v) := by
    intro l
    induction l with
    | nil => exact fun _ _ h => h
    | cons k l ih =>
      intro u v h
      have hk := takeDesc_spec x t k v
      have hread : Extends v (emit (.hostRead k.1.auAddr k.1.auLen) v) := extends_emit ..
      exact ih u _ ⟨h.keeps.trans hk.keeps, (h.extends_.trans hread).trans hk.extends_, fun y hy => (hk.ne y hy).trans (h.ne y hy), hk.ring.trans h.ring,
        hk.state, hk.lastPkt, hk.session⟩
  exact hrest l _ _ (takeDesc_spec x t k s)

/-- The descriptors that a read of the playback ring brings (R128). -/
def postedDescs (r : PlaybackRead) (n : Nat) : List (PlaybackDesc × Option Bytes) :=
  (List.range n).map (fun i => (playbackDesc (slice r.ring (32 * i) 32), nth none r.aus i))

/-- A field within the first bytes of a layout is a field of the layout. -/
theorem fld_slice_zero {b : Bytes} {n off len : Nat} (h : off + len ≤ n) : fld (slice b 0 n) off len = fld b off len := by
  unfold fld slice
  rw [List.drop_zero, List.drop_take, List.take_take, Nat.min_eq_left (Nat.le_sub_of_add_le' h)]

/-- The state in which a playback stream's ring has been read (R391). -/
def ringRead (x : Nat) (g : Ring) (s : State) : State :=
  emit (.hostWrite (g.base - 56) (le 8 g.consumer)) (s.setStream x { s.stream x with ring := some g })

theorem exec_playbackPoll {s : State} {x : Fin 128} {r : PlaybackRead} {t : Time64} {g : Ring} {n : Nat} (hg : (s.stream x).ring = some g)
    (hen : pv s.cfg pSrcEnable x ≠ 0) (horig : pv s.cfg pDecOrigin x = 1) (halive : s.alive = true)
    (hn : n = (r.producer + 2 ^ g.log2 - g.consumer) % 2 ^ g.log2 / 32) :
    exec (.playbackPoll x r t) s = act (fun s =>
      if postedDescs r n == [] then atTime t s
      else (postedDescs r n).foldl (fun a d => takeDesc x t d a)
        (ringRead x { g with producer := r.producer % 2 ^ g.log2, consumer := (g.consumer + 32 * (postedDescs r n).length) % 2 ^ g.log2 } (atTime t s))) s := by
  have hgo : ¬ (decide (pv s.cfg pSrcEnable x = 0) || pv s.cfg pDecOrigin x != 1 || !s.alive) = true := by
    rw [decide_eq_false hen, bne_eq_false_iff_eq.mpr horig, halive]
    exact Bool.false_ne_true
  change execPlaybackPoll x r t s = _
  unfold execPlaybackPoll
  refine act_congr ?_
  dsimp only
  rw [hg, hn]
  exact if_neg hgo

theorem playbackPoll_takes {s : State} {x : Fin 128} {r : PlaybackRead} {t : Time64} {g : Ring} {n : Nat} (hg : (s.stream x).ring = some g)
    (hen : pv s.cfg pSrcEnable x ≠ 0) (horig : pv s.cfg pDecOrigin x = 1) (halive : s.alive = true)
    (hn : n = (r.producer + 2 ^ g.log2 - g.consumer) % 2 ^ g.log2 / 32) (h0 : n ≠ 0) :
    Completes (.playbackPoll x r t) s (fun u =>
      (u.stream x).ring = some { g with producer := r.producer % 2 ^ g.log2, consumer := (g.consumer + 32 * n) % 2 ^ g.log2 }
      ∧ (∃ l, u.out = s.out ++ [.hostWrite (g.base - 56) (le 8 ((g.consumer + 32 * n) % 2 ^ g.log2)),
          .hostRead (fld r.ring 0 8) (fld r.ring 8 4)] ++ l)
      ∧ (u.stream x).state = .flowing ∧ (u.stream x).lastPkt = some t ∧ (u.stream x).session = true
      ∧ (∀ y : Nat, y ≠ x.val → u.stream y = s.stream y)) := by
  obtain ⟨k, rfl⟩ := Nat.exists_eq_succ_of_ne_zero h0
  have hlen : (postedDescs r k.succ).length = k.succ := by
    unfold postedDescs
    rw [List.length_map, List.length_range]
  have hdescs : postedDescs r k.succ = (playbackDesc (slice r.ring 0 32), nth none r.aus 0) :: (postedDescs r k.succ).tail := by
    unfold postedDescs
    rw [List.range_succ_eq_map]
    rfl
  have hne : ¬ (postedDescs r k.succ == []) = true := by
    rw [hdescs, beq_eq_false_iff_ne.mpr (List.cons_ne_nil _ _)]
    exact Bool.false_ne_true
  have hstep := takeDescs_spec x t (playbackDesc (slice r.ring 0 32), nth none r.aus 0) (postedDescs r k.succ).tail
    (ringRead x { g with producer := r.producer % 2 ^ g.log2, consumer := (g.consumer + 32 * k.succ) % 2 ^ g.log2 } (atTime t s))
  rw [← hdescs] at hstep
  have haddr : (playbackDesc (slice r.ring 0 32)).auAddr = fld r.ring 0 8 := fld_slice_zero (by decide)
  have hbytes : (playbackDesc (slice r.ring 0 32)).auLen = fld r.ring 8 4 := fld_slice_zero (by decide)
  dsimp only at hstep
  rw [haddr, hbytes] at hstep
  have hread : ∀ g', ((ringRead x g' (atTime t s)).stream x).ring = some g' := fun g' => congrArg Stream.ring (stream_setStream (atTime t s) x _)
  have hother : ∀ g' (y : Nat), y ≠ x.val → (ringRead x g' (atTime t s)).stream y = s.stream y := fun g' y hy => stream_setStream_ne (atTime t s) x _ hy
  refine completes_of_keeps (exec_playbackPoll hg hen horig halive hn) _ (if_neg hne) ?_ ?_
  · rw [hlen]
    exact .trans (t := ringRead x { g with producer := r.producer % 2 ^ g.log2, consumer := (g.consumer + 32 * k.succ) % 2 ^ g.log2 } (atTime t s))
      ⟨rfl, rfl, rfl⟩ (.trans ⟨rfl, rfl, rfl⟩ hstep.keeps)
  · rw [hlen]
    refine ⟨hstep.ring.trans (hread _), ?_, hstep.state, hstep.lastPkt, hstep.session, fun y hy => (hstep.ne y hy).trans (hother _ y hy)⟩
    obtain ⟨l, hl⟩ := hstep.extends_
    refine ⟨l, hl.trans ?_⟩
    unfold ringRead emit
    dsimp only [atTime, State.setStream]
    rw [List.append_assoc s.out]
    rfl

/-- A producer index at the consumer's says that nothing was posted. -/
theorem posted_none {p c m : Nat} (h : p % m = c % m) (hc : c < m) : (p + m - c) % m / 32 = 0 := by
  rw [Nat.mod_eq_of_lt hc] at h
  have hp : p + m - c = m * (p / m + 1) := by
    have hdiv := Nat.div_add_mod p m
    rw [h] at hdiv
    rw [Nat.mul_add, Nat.mul_one]
    omega
  rw [hp, Nat.mul_mod_right]

theorem playbackPoll_none {s : State} {x : Fin 128} {r : PlaybackRead} {t : Time64} {g : Ring} (hg : (s.stream x).ring = some g)
    (hen : pv s.cfg pSrcEnable x ≠ 0) (horig : pv s.cfg pDecOrigin x = 1) (halive : s.alive = true)
    (hp : r.producer % 2 ^ g.log2 = g.consumer % 2 ^ g.log2) (hc : g.consumer < 2 ^ g.log2) :
    Completes (.playbackPoll x r t) s (fun u => u = { s with time := { s.time with now := t } }) :=
  completes_of_keeps (exec_playbackPoll hg hen horig halive (posted_none hp hc).symm) (atTime t s) rfl ⟨rfl, rfl, rfl⟩ rfl

/-- Settles O32. -/
theorem decodeLanes : Obligations.DecodeLanes :=
  ⟨⟨fun _ _ _ _ _ halive hw hopen hx => laneFree_takes halive hw hopen hx, fun _ _ _ _ halive hw h => laneFree_waits halive hw h,
      fun _ _ _ _ _ _ hx hy hstop hp => decodePreempt_takes hx hy hstop hp, fun _ _ _ _ _ _ hx hy h => decodePreempt_stays hx hy h⟩,
    fun _ _ _ hstop hidle hre => decLaneSafePoint_stops hstop hidle hre, fun _ _ _ _ _ hstop hidle hre hd => decLaneSafePoint_restarts hstop hidle hre hd,
    fun _ _ _ _ _ _ hg hen horig halive hn h0 => playbackPoll_takes hg hen horig halive hn h0,
    fun _ _ _ _ _ hg hen horig halive hp hc => playbackPoll_none hg hen horig halive hp hc⟩

end Sys2Proof.Machine
end

section
/-! Pictures that become frames (R117, R98): in LOW-LATENCY a completed frame may be admitted by a frame under way (R103), and the evaluation of that
head frame ends what was said of another source's capture times (R65). -/
namespace Sys2Proof.Machine
open Sys2Proof.Tests

/-- A LOW-LATENCY device whose ST 2110-20 stream 127 has a frame, shown by pane 3 of head 31. -/
def lowLatency2110 : State :=
  let s := withPar pSrc2110W 127 64 (withPar pSrc2110H 127 64 st0)
  { s with cfg := { s.cfg with profile := .lowLatency, panes := [(3, ⟨31, 127⟩)] } }

/-- Pane 3 as a head frame latches it, in the second tile row. -/
def lateRowPane : PaneIn := { paneIn lowLatency2110.cfg .lowLatency 3 with dest := (0, 64, 64, 64) }

/-- Head 31 scans the frame of tick 120, of which two lines are composed; the capture time of source 5 contradicted the clock on that head. -/
def rowAdmission : State :=
  (lowLatency2110.setHead 31 { inFrame0 with frame := some { fin0 with tick := 120, panes := [lateRowPane] } }).setSource 5
    { lowLatency2110.source 5 with futureHeads := [31] }

/-- The heads on which a source's capture time contradicts the clock, after an outcome. -/
def futureAfter (x : Nat) : Host.Outcome State Fault Refusal → List Nat
  | .next t => (t.source x).futureHeads
  | _ => []

/-- The admission of the frame evaluates the head frame again, and source 5 is not on it. -/
theorem rowAdmission_ends_future : futureAfter 5 (exec (.ingestFrameComplete 127 5 1000000000) rowAdmission) = [] := by decide +kernel

/-- Refutes O33: the last clause says that no other source changes, but the admission of the frame into the head frame under way (R103) ends the
contradiction noted of source 5. -/
theorem not_decodedFrames : ¬ Obligations.DecodedFrames := by
  intro h
  obtain ⟨t, ht, -, -, hothers, -⟩ := h.2 rowAdmission 127 (pic none) [] 1000000000 (by decide +kernel) (by decide +kernel)
  have hended : (t.source 5).futureHeads = [] := by
    have hrun := rowAdmission_ends_future
    rw [show (5 : Nat) = (pic none).ts % 2 ^ 32 from rfl] at hrun
    rwa [ht] at hrun
  rw [hothers 5 (by decide)] at hended
  exact absurd hended (by decide +kernel)

end Sys2Proof.Machine
end

section
/-! DisplayPort ports (R197, R203 to R205): what the operations of a port do to its heads and to the port, and what they leave. -/
namespace Sys2Proof.Machine

/-- Two states differ at most in the heads, the LIVE pins and their cause, the ports and what is sent. -/
def OnlyLinks (s t : State) : Prop :=
  t = { s with
    heads := t.heads, pins := { s.pins with live := t.pins.live }, cmd := { s.cmd with irqCause := t.cmd.irqCause }, dp := t.dp, out := t.out }

theorem OnlyLinks.refl (s : State) : OnlyLinks s s := rfl

theorem OnlyLinks.trans {s t u : State} (h : OnlyLinks s t) (h' : OnlyLinks t u) : OnlyLinks s u := by
  unfold OnlyLinks at *; rw [h', h]

theorem OnlyLinks.get {β : Type} (p : State → β) {s t : State} (h : OnlyLinks s t) :
    p t = p { s with
      heads := t.heads, pins := { s.pins with live := t.pins.live }, cmd := { s.cmd with irqCause := t.cmd.irqCause }, dp := t.dp, out := t.out } :=
  congrArg p h

theorem OnlyLinks.keeps {s t : State} (h : OnlyLinks s t) : KeepsFrame s t := ⟨h.get State.pending, h.get State.seatB, h.get State.dram⟩

theorem OnlyHeads.onlyLinks {s t : State} (h : OnlyHeads s t) : OnlyLinks s t := by
  unfold OnlyHeads OnlyLinks at *; rw [h]

/-- Work for some heads of a port: of the heads no other changes and none its timing, and of the ports only the slots of this one. -/
structure HeadWork (p : Nat) (hs : List Nat) (s t : State) : Prop where
  only   : OnlyLinks s t
  others : ∀ g : Nat, g ∉ hs → t.head g = s.head g
  timing : ∀ g : Nat, (t.head g).timing = (s.head g).timing
  ports  : ∀ q : Nat, q ≠ p → t.dpPort q = s.dpPort q
  port   : t.dpPort p = { s.dpPort p with slots := (t.dpPort p).slots }

namespace HeadWork
variable {p : Nat} {hs hs' : List Nat} {s t u : State}

theorem refl (p : Nat) (hs : List Nat) (s : State) : HeadWork p hs s s := ⟨.refl s, fun _ _ => rfl, fun _ => rfl, fun _ _ => rfl, rfl⟩

theorem trans (h : HeadWork p hs s t) (h' : HeadWork p hs t u) : HeadWork p hs s u where
  only := h.only.trans h'.only
  others g hg := (h'.others g hg).trans (h.others g hg)
  timing g := (h'.timing g).trans (h.timing g)
  ports q hq := (h'.ports q hq).trans (h.ports q hq)
  port := by rw [h'.port, h.port]

theorem mono (h : HeadWork p hs s t) (hsub : ∀ g ∈ hs, g ∈ hs') : HeadWork p hs' s t :=
  ⟨h.only, fun g hg => h.others g (fun hm => hg (hsub g hm)), h.timing, h.ports, h.port⟩

/-- Work that leaves the ports. -/
theorem of_head {h : Nat} (hw : OnlyHead h s t) (htim : (t.head h).timing = (s.head h).timing) : HeadWork p [h] s t where
  only := hw.1.onlyLinks
  others g hg := hw.2 g (fun he => hg (List.mem_singleton.mpr he))
  timing g := by
    by_cases he : g = h
    · rw [he, htim]
    · rw [hw.2 g he]
  ports q _ := congrArg (fun l => tget dpInit l q) (hw.1.get State.dp)
  port := by rw [show t.dpPort p = s.dpPort p from congrArg (fun l => tget dpInit l p) (hw.1.get State.dp)]

/-- Work that leaves the heads. -/
theorem of_port {f : DpPort → DpPort} (honly : t = { s with dp := (s.modDpPort p f).dp, out := t.out })
    (hf : f (s.dpPort p) = { s.dpPort p with slots := (f (s.dpPort p)).slots }) : HeadWork p hs s t where
  only := by
    unfold OnlyLinks
    rw [honly]
  others g _ := congrArg (fun x => x.head g) honly
  timing g := congrArg (fun x => (x.head g).timing) honly
  ports q hq := (congrArg (fun x => x.dpPort q) honly).trans (dpPort_setDpPort_ne s p _ hq)
  port := by
    rw [show t.dpPort p = f (s.dpPort p) from (congrArg (fun x => x.dpPort p) honly).trans (dpPort_setDpPort ..)]
    exact hf

theorem of_out (honly : t = { s with out := t.out }) : HeadWork p hs s t := by
  rw [honly]
  exact ⟨rfl, fun _ _ => rfl, fun _ => rfl, fun _ _ => rfl, rfl⟩

theorem portHeads (h : HeadWork p hs s t) (q : Nat) : t.portHeads q = s.portHeads q := by
  unfold State.portHeads
  exact congrArg (fun f => (List.range 32).filter f) (funext fun g => by rw [h.timing g])

/-- The heads of a list worked for in turn. -/
theorem foldl {f : State → Nat → State} (hf : ∀ a h, HeadWork p [h] a (f a h)) (l : List Nat) (s : State) : HeadWork p l s (l.foldl f s) := by
  induction l generalizing s with
  | nil => exact .refl p [] s
  | cons h l ih =>
    exact ((hf s h).mono (fun g hg => List.mem_cons.mpr (.inl (List.mem_singleton.mp hg)))).trans
      ((ih (f s h)).mono (fun g hg => List.mem_cons_of_mem _ hg))

/-- What each head's own work brings about, of a state that may differ by the others' work, every head of the list has afterwards. -/
theorem foldl_each {f : State → Nat → State} (hf : ∀ a h, HeadWork p [h] a (f a h)) {Q : Nat → Head → Prop} {l : List Nat} {s : State}
    (hQ : ∀ a h, h ∈ l → OnlyLinks s a → (∀ g : Nat, g ∉ l → a.head g = s.head g) → Q h ((f a h).head h)) :
    ∀ h ∈ l, Q h ((l.foldl f s).head h) := by
  have main : ∀ (k : List Nat) (a : State), (∀ g ∈ k, g ∈ l) → OnlyLinks s a → (∀ g : Nat, g ∉ l → a.head g = s.head g) →
      ∀ h ∈ k, Q h ((k.foldl f a).head h) := by
    intro k
    induction k with
    | nil => exact fun _ _ _ _ _ hh => absurd hh List.not_mem_nil
    | cons x k ih =>
      intro a hsub honly hout h hh
      rw [List.foldl_cons]
      have hstep := hf a x
      by_cases hk : h ∈ k
      · refine ih (f a x) (fun g hg => hsub g (List.mem_cons_of_mem _ hg)) (honly.trans hstep.only) (fun g hg => ?_) h hk
        rw [hstep.others g (fun he => hg (List.mem_singleton.mp he ▸ hsub x List.mem_cons_self)), hout g hg]
      · obtain rfl := (List.mem_cons.mp hh).resolve_right hk
        rw [(HeadWork.foldl hf k (f a h)).others h hk]
        exact hQ a h (hsub h List.mem_cons_self) honly hout
  exact main l s (fun _ hg => hg) (.refl s) (fun _ _ => rfl)

end HeadWork

/-! ## Retimes -/

/-- A retime whose last step is done at an instant (R197 step 4). -/
def Retime.settled (r : Retime) (t : Time64) : Retime :=
  if r.pllDone && r.portDone && r.readyT.isNone then { r with readyT := some t } else r

theorem onlyHead_settleRetime (h : Nat) (s : State) : OnlyHead h s (settleRetime h s) := by
  unfold settleRetime
  split
  · exact .refl h s
  · split
    · exact onlyHead_modHead ..
    · exact .refl h s

theorem head_settleRetime (h : Nat) (s : State) :
    ∃ rm rs pr rd rc ep, (settleRetime h s).head h = { s.head h with
      retime := (s.head h).retime.map (fun r => r.settled s.time.now), rowMatch := rm, rowMissed := rs, pairRows := pr, rowDiverged := rd,
      rechecks := rc, episodes := ep } := by
  unfold settleRetime
  split
  next hr => exact ⟨_, _, _, _, _, _, by rw [hr, Option.map_none, ← hr]⟩
  next r hr =>
    unfold Retime.settled
    split
    next hgo => exact ⟨_, _, _, _, _, _, by rw [head_modHead, hr, Option.map_some, if_pos hgo]⟩
    next hgo => exact ⟨_, _, _, _, _, _, by rw [hr, Option.map_some, if_neg hgo, ← hr]⟩

/-- A blanked head that waits for the steps of a retime. -/
def Head.awaiting (d : Head) (own train pll port : Bool) : Head :=
  { d with
    retime := some ⟨own || (match d.retime with | some r => r.own | none => false), train, pll, port, none⟩,
    running := false, preComposed := 0, preLines := [], preTiles := [], preWeir := false, preLost := [], preGrey := [], preGreySrc := [], resync := true,
    cnt := if own then { d.cnt with retimes := (d.cnt.retimes + 1) % 2 ^ 32 } else d.cnt }

theorem enterRetime_eq (h : Nat) (own train pll port : Bool) (s : State) :
    enterRetime h own train pll port s = settleRetime h ((blankHead h s).modHead h (fun d => d.awaiting own train pll port)) := rfl

/-- A head that enters a retime is blanked and makes no frames (R197 step 1). -/
theorem enterRetime_spec (h : Nat) (own train pll port : Bool) (s : State) :
    OnlyHead h s (enterRetime h own train pll port s)
    ∧ ((enterRetime h own train pll port s).head h).blankNow = true ∧ ((enterRetime h own train pll port s).head h).live = false
    ∧ ((enterRetime h own train pll port s).head h).running = false
    ∧ ((enterRetime h own train pll port s).head h).timing = (s.head h).timing
    ∧ ((enterRetime h own train pll port s).head h).retime.isSome = true := by
  obtain ⟨px, tl, hi, hblank⟩ := head_blankHead h s
  obtain ⟨rm, rs, pr, rd, rc, ep, hset⟩ := head_settleRetime h ((blankHead h s).modHead h (fun d => d.awaiting own train pll port))
  rw [head_modHead, hblank] at hset
  rw [enterRetime_eq]
  refine ⟨(onlyHead_blankHead h s).trans ((onlyHead_modHead ..).trans (onlyHead_settleRetime ..)), ?_⟩
  rw [hset]
  exact ⟨rfl, rfl, rfl, rfl, rfl⟩

theorem headWork_enterRetime (p h : Nat) (own train pll port : Bool) (s : State) : HeadWork p [h] s (enterRetime h own train pll port s) :=
  .of_head (enterRetime_spec h own train pll port s).1 (enterRetime_spec h own train pll port s).2.2.2.2.1

/-- One head of a port is blanked and waits for the port. -/
def retimeHead (a : State) (h : Nat) : State :=
  let pll := match (a.head h).retime with | some r => r.pllDone | none => true
  enterRetime h false true pll false a

theorem retimePort_eq (p : Nat) (s : State) : retimePort p s = (s.portHeads p).foldl retimeHead s := rfl

theorem retimePort_spec (p : Nat) (s : State) :
    HeadWork p (s.portHeads p) s (retimePort p s)
    ∧ ∀ h ∈ s.portHeads p, ((retimePort p s).head h).blankNow = true ∧ ((retimePort p s).head h).live = false
      ∧ ((retimePort p s).head h).running = false := by
  have hstep : ∀ (a : State) (h : Nat), HeadWork p [h] a (retimeHead a h) := fun a h => headWork_enterRetime ..
  rw [retimePort_eq]
  refine ⟨.foldl hstep _ s, HeadWork.foldl_each (Q := fun _ d => d.blankNow = true ∧ d.live = false ∧ d.running = false) hstep fun a h _ _ _ => ?_⟩
  obtain ⟨-, hblank, hlive, hrun, -⟩ := enterRetime_spec h false true (match (a.head h).retime with | some r => r.pllDone | none => true) false a
  exact ⟨hblank, hlive, hrun⟩

/-! ## The link of a port -/

theorem onlyLinks_dropLink (p : Nat) (training : Bool) (s : State) : OnlyLinks s (dropLink p training s) := rfl

/-- A link event counted on a head. -/
def countLink (a : State) (h : Nat) : State := a.modHead h (fun d => { d with cnt := { d.cnt with linkEvents := (d.cnt.linkEvents + 1) % 2 ^ 32 } })

theorem linkEvent_eq (p cause : Nat) (s : State) : linkEvent p cause s = (s.portHeads p).foldl countLink (raise .dpLink [(1, p), (1, cause)] s) := rfl

theorem onlyHead_countLink (a : State) (h : Nat) : OnlyHead h a (countLink a h) := onlyHead_modHead ..

theorem head_raise (c : Ev) (l : List (Nat × Nat)) (s : State) (g : Nat) : (raise c l s).head g = s.head g := head_of_heads_eq (raise_heads c l s) g

theorem linkEvent_spec (p cause : Nat) (s : State) :
    OnlyHeads (raise .dpLink [(1, p), (1, cause)] s) (linkEvent p cause s) ∧ (∀ g : Nat, ((linkEvent p cause s).head g).timing = (s.head g).timing) := by
  have htim : ∀ (a : State) (h : Nat), HeadWork p [h] a (countLink a h) := fun a h =>
    .of_head (onlyHead_countLink a h) (by unfold countLink; rw [head_modHead])
  rw [linkEvent_eq]
  refine ⟨foldl_rel OnlyHeads.refl OnlyHeads.trans (fun a h => (onlyHead_countLink a h).1) _ _, fun g => ?_⟩
  rw [(HeadWork.foldl htim _ _).timing g, head_raise]

theorem linkEvent_port (p cause q : Nat) (s : State) : (linkEvent p cause s).dpPort q = s.dpPort q :=
  congrArg (fun l => tget dpInit l q) (((linkEvent_spec p cause s).1.get State.dp).trans (raise_dp ..))

theorem portHeads_of_timing {s t : State} (h : ∀ g : Nat, (t.head g).timing = (s.head g).timing) (p : Nat) : t.portHeads p = s.portHeads p := by
  unfold State.portHeads
  exact congrArg (fun f => (List.range 32).filter f) (funext fun g => by rw [h g])

theorem dpPort_modDpPort (p : Nat) (f : DpPort → DpPort) (s : State) : (s.modDpPort p f).dpPort p = f (s.dpPort p) := dpPort_setDpPort ..

theorem dpPort_modDpPort_ne {p q : Nat} (f : DpPort → DpPort) (s : State) (h : q ≠ p) : (s.modDpPort p f).dpPort q = s.dpPort q :=
  dpPort_setDpPort_ne s p _ h

/-- A port that starts training other than for a new configuration (R203): the link's loss is reported, its heads wait blanked. -/
theorem startTraining_spec (p cause : Nat) (hc : cause ≠ 1) (s : State) :
    OnlyLinks (raise .dpLink [(1, p), (1, cause)] s) (startTraining p cause s)
    ∧ ((startTraining p cause s).dpPort p).trained = false
    ∧ ((startTraining p cause s).dpPort p).training = ((s.dpPort p).mode != 0 && !(s.dpPort p).unplugged)
    ∧ ((startTraining p cause s).dpPort p).failedT = none
    ∧ ((startTraining p cause s).dpPort p).unplugged = (s.dpPort p).unplugged
    ∧ ∀ h ∈ s.portHeads p, ((startTraining p cause s).head h).running = false ∧ ((startTraining p cause s).head h).live = false := by
  obtain ⟨hlink, htim⟩ := linkEvent_spec p cause s
  have hrun : startTraining p cause s = retimePort p (dropLink p ((s.dpPort p).mode != 0 && !(s.dpPort p).unplugged) (linkEvent p cause s)) := by
    unfold startTraining
    dsimp only
    rw [if_pos (by simp [hc])]
  rw [hrun]
  have hport := linkEvent_port p cause p s
  generalize linkEvent p cause s = u at *
  generalize htr : ((s.dpPort p).mode != 0 && !(s.dpPort p).unplugged) = training at *
  obtain ⟨hwork, hheads⟩ := retimePort_spec p (dropLink p training u)
  have hdrop : (dropLink p training u).dpPort p = { u.dpPort p with trained := false, training := training, failedT := none, slots := [] } :=
    dpPort_modDpPort ..
  rw [hwork.port, hdrop, hport]
  refine ⟨hlink.onlyLinks.trans ((onlyLinks_dropLink p training u).trans hwork.only), rfl, rfl, rfl, rfl, fun h hh => ?_⟩
  rw [← portHeads_of_timing htim p] at hh
  exact (hheads h hh).2.symm

/-- An event raised before work on heads and ports has been raised. -/
theorem raised_of_onlyLinks {s t u : State} {c : Ev} {g : Option Nat} {l : List (Nat × Nat)} (h : s.raised t c g l) (hw : OnlyLinks t u) :
    s.raised u c g l :=
  raised_of_events h (hw.get State.events) (hw.get (fun x => x.twin.ownEvents))

/-! ## A trained link -/

/-- What a fold's step brings about for its own entry, and keeps of the others', every entry has afterwards. -/
theorem foldl_gains {σ α : Type} {f : σ → α → σ} {P : α → σ → Prop} (hgain : ∀ a x, P x (f a x)) (hkeep : ∀ a x y, P y a → P y (f a x))
    (l : List α) (a : σ) : ∀ x ∈ l, P x (l.foldl f a) := by
  have hstays : ∀ (k : List α) (b : σ) (y : α), P y b → P y (k.foldl f b) := by
    intro k
    induction k with
    | nil => exact fun _ _ h => h
    | cons x k ih => exact fun b y h => ih (f b x) y (hkeep b x y h)
  induction l generalizing a with
  | nil => exact fun _ h => absurd h List.not_mem_nil
  | cons x l ih =>
    intro y hy
    rcases List.mem_cons.mp hy with rfl | hy
    · exact hstays l (f a y) y (hgain a y)
    · exact ih (f a x) y hy

theorem isSome_tset {α : Type} (i k : Nat) (v : α) (t : Table α) (h : k = i ∨ (tfind t k).isSome = true) : (tfind (tset i v t) k).isSome = true := by
  by_cases he : k = i
  · rw [he, tfind_tset_same]; rfl
  · rw [tfind_tset_ne (h := he)]; exact h.resolve_left he

/-- What the messages and slots of one head change when a link has trained. -/
def openHead (p : Nat) (a : State) (h : Nat) : State :=
  let rad := (a.head h).timing.rad
  takeSlots h p (askSlots h p (sendSideband p (.remoteI2cRead rad) (sendSideband p (.remoteDpcdRead rad) a)))

theorem askSlots_spec (h p : Nat) (s : State) : ∃ o, askSlots h p s = { s with out := o } := by
  unfold askSlots
  dsimp only
  split
  · exact ⟨_, rfl⟩
  · exact ⟨_, rfl⟩

theorem takeSlots_spec (h p : Nat) (a : State) :
    HeadWork p [] a (takeSlots h p a) ∧ (takeSlots h p a).heads = a.heads
    ∧ ((a.dpPort p).mode = 2 → ((takeSlots h p a).dpPort p).slots = tset h (slotsOf a h p) (a.dpPort p).slots) := by
  unfold takeSlots
  split
  next hmode => exact ⟨.refl p [] a, rfl, fun h2 => absurd h2 (bne_iff_ne.mp hmode)⟩
  next => exact ⟨.of_port (f := fun d => { d with slots := tset h (slotsOf a h p) d.slots }) rfl rfl, rfl, fun _ => congrArg DpPort.slots (dpPort_modDpPort ..)⟩

theorem openHead_spec (p : Nat) (a : State) (h : Nat) :
    HeadWork p [] a (openHead p a h) ∧ (openHead p a h).heads = a.heads
    ∧ ((a.dpPort p).mode = 2 → ((openHead p a h).dpPort p).slots = tset h (slotsOf a h p) (a.dpPort p).slots) := by
  have hsent : ∃ o, askSlots h p (sendSideband p (.remoteI2cRead (a.head h).timing.rad) (sendSideband p (.remoteDpcdRead (a.head h).timing.rad) a))
      = { a with out := o } := askSlots_spec ..
  obtain ⟨o, ho⟩ := hsent
  unfold openHead
  dsimp only
  rw [ho]
  obtain ⟨hwork, hheads, hslots⟩ := takeSlots_spec h p { a with out := o }
  exact ⟨HeadWork.trans (t := { a with out := o }) (.of_out rfl) hwork, hheads, hslots⟩

/-- An MST port whose link has trained has slots for each of its heads (R205); another has nothing to open. -/
theorem openTopology_spec (p : Nat) (s : State) :
    HeadWork p [] s (openTopology p s)
    ∧ ((s.dpPort p).mode ≠ 2 → openTopology p s = s)
    ∧ ((s.dpPort p).mode = 2 → ∀ h ∈ s.portHeads p, (tfind ((openTopology p s).dpPort p).slots h).isSome = true) := by
  have hgo : openTopology p s = if (s.dpPort p).mode != 2 then s else
      (s.portHeads p).foldl (openHead p) (sendSideband p .clearPayloadIdTable (sendSideband p .linkAddress s)) := rfl
  have hbegin : HeadWork p [] s (sendSideband p .clearPayloadIdTable (sendSideband p .linkAddress s)) := .of_out rfl
  rw [hgo]
  by_cases hmode : (s.dpPort p).mode = 2
  · rw [if_neg (by simp [hmode])]
    refine ⟨hbegin.trans (foldl_rel (HeadWork.refl p []) HeadWork.trans (fun a h => (openHead_spec p a h).1) _ _), fun hne => absurd hmode hne,
      fun _ h hh => ?_⟩
    have hall := foldl_gains (f := openHead p) (P := fun h a => (a.dpPort p).mode = 2 → (tfind (a.dpPort p).slots h).isSome = true)
      (fun a h hm => ?_) (fun a h g hg hm => ?_) (s.portHeads p) (sendSideband p .clearPayloadIdTable (sendSideband p .linkAddress s)) h hh
    · refine hall ?_
      rw [(foldl_rel (HeadWork.refl p []) HeadWork.trans (fun a h => (openHead_spec p a h).1) (s.portHeads p) _).port]
      exact hmode
    · obtain ⟨hwork, -, hslots⟩ := openHead_spec p a h
      rw [hwork.port] at hm
      rw [hslots hm]
      exact isSome_tset _ _ _ _ (.inl rfl)
    · obtain ⟨hwork, -, hslots⟩ := openHead_spec p a h
      rw [hwork.port] at hm
      rw [hslots hm]
      exact isSome_tset _ _ _ _ (.inr (hg hm))
  · rw [if_pos (by simp [hmode])]
    exact ⟨.refl p [] s, fun _ => rfl, fun h2 => absurd h2 hmode⟩

/-- A port whose link has trained, with the data read from its sinks (R203, R207). -/
def DpPort.linked (d : DpPort) (i : LinkInfo) : DpPort :=
  { d with
    trained := true, training := false, failedT := none, dpcd := (keepSink i.own).dpcd, edid := (keepSink i.own).edid, slots := [],
    sinks := if d.mode = 2 then i.sinks.foldl (fun a q => tset q.1 (keepSink q.2) a) [] else [] }

/-- A head whose port's step of a retime is done. -/
def portReady (a : State) (h : Nat) : State :=
  settleRetime h (a.modHead h (fun d => { d with retime := d.retime.map (fun r => { r with portDone := true }) }))

theorem settled_portDone (r : Retime) (t : Time64) : (r.settled t).portDone = r.portDone := by
  unfold Retime.settled
  split <;> rfl

theorem portReady_spec (p : Nat) (a : State) (h : Nat) :
    HeadWork p [h] a (portReady a h) ∧ (∀ g : Nat, ((portReady a h).head g).live = (a.head g).live) ∧ (portReady a h).dp = a.dp
    ∧ ∀ r, ((portReady a h).head h).retime = some r → r.portDone = true := by
  unfold portReady
  have honly := (onlyHead_modHead h (fun d => { d with retime := d.retime.map (fun r => { r with portDone := true }) }) a).trans
    (onlyHead_settleRetime h _)
  obtain ⟨rm, rs, pr, rd, rc, ep, hset⟩ := head_settleRetime h (a.modHead h (fun d => { d with
    retime := d.retime.map (fun r => { r with portDone := true }) }))
  rw [head_modHead] at hset
  refine ⟨.of_head honly (by rw [hset]), fun g => ?_, honly.1.get State.dp, fun r hr => ?_⟩
  · by_cases hg : g = h
    · rw [hg, hset]
    · rw [honly.2 g hg]
  · rw [hset] at hr
    simp only [Option.map_eq_some_iff] at hr
    obtain ⟨_, ⟨r', -, rfl⟩, rfl⟩ := hr
    rw [settled_portDone]

end Sys2Proof.Machine
end

section
/-! Link training and HPD (R203, R204). -/
namespace Sys2Proof.Machine

theorem head_atTime (t : Time64) (s : State) (g : Nat) : (atTime t s).head g = s.head g := rfl

/-- The port's link has trained: its sinks and slots, and then its heads. -/
def linkTrained (p : Fin 8) (i : LinkInfo) (s : State) : State :=
  ((openTopology p (s.modDpPort p (fun d => d.linked i))).portHeads p).foldl portReady (openTopology p (s.modDpPort p (fun d => d.linked i)))

theorem exec_linkTrainComplete {s : State} {p : Fin 8} {i : LinkInfo} {t : Time64} (htr : (s.dpPort p).training = true)
    (hun : (s.dpPort p).unplugged = false) : exec (.linkTrainComplete p i t) s = act (fun s => linkTrained p i (atTime t s)) s := by
  change execLinkTrainComplete p i t s = _
  unfold execLinkTrainComplete
  refine act_congr ?_
  exact if_neg (by rw [htr, hun]; exact Bool.false_ne_true)

theorem linkTrained_spec (p : Fin 8) (i : LinkInfo) (s : State) :
    OnlyLinks s (linkTrained p i s) ∧ (∀ q : Nat, q ≠ p.val → (linkTrained p i s).dpPort q = s.dpPort q)
    ∧ (∀ h : Nat, ((linkTrained p i s).head h).live = (s.head h).live)
    ∧ (linkTrained p i s).dpPort p = { (s.dpPort p).linked i with slots := ((linkTrained p i s).dpPort p).slots }
    ∧ ((s.dpPort p).mode ≠ 2 → ((linkTrained p i s).dpPort p).slots = [])
    ∧ ((s.dpPort p).mode = 2 → ∀ h ∈ s.portHeads p, (tfind ((linkTrained p i s).dpPort p).slots h).isSome = true)
    ∧ ∀ h ∈ s.portHeads p, ∀ r, ((linkTrained p i s).head h).retime = some r → r.portDone = true := by
  unfold linkTrained
  have hlinked : (s.modDpPort p (fun d => d.linked i)).dpPort p = (s.dpPort p).linked i := dpPort_modDpPort ..
  have hothers : ∀ q : Nat, q ≠ p.val → (s.modDpPort p (fun d => d.linked i)).dpPort q = s.dpPort q := fun q hq => dpPort_modDpPort_ne _ s hq
  obtain ⟨hopen, hplain, hslots⟩ := openTopology_spec p (s.modDpPort p (fun d => d.linked i))
  have hfirst : OnlyLinks s (s.modDpPort p (fun d => d.linked i)) := rfl
  have hheads : ∀ q : Nat, (s.modDpPort p (fun d => d.linked i)).portHeads q = s.portHeads q := fun _ => rfl
  have hlive0 : ∀ h : Nat, (s.modDpPort p (fun d => d.linked i)).head h = s.head h := fun _ => rfl
  generalize s.modDpPort p (fun d => d.linked i) = u at *
  have hph : (openTopology p u).portHeads p = s.portHeads p := (hopen.portHeads p).trans (hheads p)
  have hlive1 : ∀ h : Nat, (openTopology p u).head h = s.head h := fun h => (hopen.others h List.not_mem_nil).trans (hlive0 h)
  have hmode : (u.dpPort p).mode = (s.dpPort p).mode := by rw [hlinked]; rfl
  have hbare : (u.dpPort p).slots = [] := by rw [hlinked]; rfl
  rw [hmode, hheads] at hslots
  rw [hmode] at hplain
  have hwork := HeadWork.foldl (fun a h => (portReady_spec p a h).1) ((openTopology p u).portHeads p) (openTopology p u)
  have hdp : (((openTopology p u).portHeads p).foldl portReady (openTopology p u)).dp = (openTopology p u).dp :=
    foldl_rel (R := fun a b => b.dp = a.dp) (fun _ => rfl) (fun h h' => h'.trans h) (fun a h => (portReady_spec p a h).2.2.1) _ _
  have hlive : ∀ h : Nat, ((((openTopology p u).portHeads p).foldl portReady (openTopology p u)).head h).live = ((openTopology p u).head h).live :=
    foldl_rel (R := fun a b => ∀ h : Nat, (b.head h).live = (a.head h).live) (fun _ _ => rfl) (fun h h' g => (h' g).trans (h g))
      (fun a h => (portReady_spec p a h).2.1) _ _
  have hready := HeadWork.foldl_each (p := p) (Q := fun _ d => ∀ r, d.retime = some r → r.portDone = true) (s := openTopology p u)
    (l := (openTopology p u).portHeads p) (fun a h => (portReady_spec p a h).1) (fun a h _ _ _ => (portReady_spec p a h).2.2.2)
  rw [hph] at *
  generalize (s.portHeads p).foldl portReady (openTopology p u) = v at *
  have hvp : v.dpPort p = (openTopology p u).dpPort p := congrArg (fun l => tget dpInit l p) hdp
  refine ⟨(hfirst.trans hopen.only).trans hwork.only, fun q hq => ?_, fun h => ?_, ?_, fun hne => ?_, fun h2 h hh => ?_, hready⟩
  · rw [hwork.ports q hq, hopen.ports q hq, hothers q hq]
  · rw [hlive h, hlive1]
  · rw [hwork.port, hopen.port, hlinked]
  · rw [hvp, hplain hne, hbare]
  · rw [hvp]
    exact hslots h2 h hh

theorem linkTrainComplete_completes (s : State) (p : Fin 8) (info : SinkInfo) (sinks : List (Fin 32 × SinkInfo)) (at' : Time64)
    (htr : (s.dpPort p).training = true) (hun : (s.dpPort p).unplugged = false) :
    Completes (.linkTrainComplete p ⟨info, sinks⟩ at') s (fun t =>
      t.dpPort p = { s.dpPort p with
        trained := true, training := false, failedT := none, dpcd := padTo 256 info.dpcd, edid := info.edid.take 512
        sinks := (t.dpPort p).sinks, slots := (t.dpPort p).slots }
      ∧ ((s.dpPort p).mode ≠ 2 → (t.dpPort p).sinks = [] ∧ (t.dpPort p).slots = [])
      ∧ ((s.dpPort p).mode = 2 → (∀ h ∈ s.portHeads p, (tfind (t.dpPort p).slots h).isSome = true)
        ∧ ∀ q ∈ sinks, (tfind (t.dpPort p).sinks q.1.val).isSome = true)
      ∧ (∀ h ∈ s.portHeads p, ∀ r, (t.head h).retime = some r → r.portDone = true)
      ∧ (∀ q : Nat, q ≠ p.val → t.dpPort q = s.dpPort q) ∧ (∀ h : Nat, (t.head h).live = (s.head h).live) ∧ t.events = s.events) := by
  obtain ⟨honly, hothers, hlive, hport, hplain, hslots, hready⟩ := linkTrained_spec p ⟨info, sinks⟩ (atTime at' s)
  refine completes_of_keeps (exec_linkTrainComplete htr hun) _ rfl honly.keeps
    ⟨?_, fun hne => ⟨?_, hplain hne⟩, fun h2 => ⟨hslots h2, fun q hq => ?_⟩, hready, hothers, hlive, honly.get State.events⟩
  · rw [hport]
    rfl
  · rw [hport]
    exact if_neg hne
  · rw [hport]
    refine (congrArg (fun l => (tfind l q.1.val).isSome) (if_pos h2)).trans ?_
    exact foldl_gains (f := fun a q => tset q.1.val (keepSink q.2) a) (P := fun q a => (tfind a q.1.val).isSome = true)
      (fun a x => isSome_tset x.1.val _ (keepSink x.2) a (.inl rfl)) (fun a x y hy => isSome_tset x.1.val y.1.val (keepSink x.2) a (.inr hy)) sinks [] q hq

/-! ## Failure and retry -/

theorem linkTrainFail_completes (s : State) (p : Fin 8) (phase : Nat) (at' : Time64) (hgo : (s.dpPort p).training = true ∨ awaitsSlots s p = true) :
    Completes (.linkTrainFail p phase at') s (fun t =>
      (t.dpPort p).training = false ∧ (t.dpPort p).trained = false ∧ (t.dpPort p).failedT = some at'
      ∧ (∀ h ∈ s.portHeads p, (t.head h).blankNow = true ∧ (t.head h).live = false)
      ∧ s.raised t .linkTrainFail none [(1, p.val), (1, phase)]) := by
  have hrun : exec (.linkTrainFail p phase at') s = act (fun s => raise .linkTrainFail [(1, p.val), (1, phase)]
      (retimePort p ((dropLink p false (atTime at' s)).modDpPort p (fun d => { d with failedT := some at' })))) s := by
    change execLinkTrainFail p phase at' s = _
    unfold execLinkTrainFail
    refine act_congr ?_
    refine if_neg (fun hno => ?_)
    simp only [Bool.and_eq_true, Bool.not_eq_true'] at hno
    rcases hgo with h | h
    · rw [h] at hno
      exact absurd hno.1 Bool.noConfusion
    · rw [h] at hno
      exact absurd hno.2 Bool.noConfusion
  have hport : ((dropLink p false (atTime at' s)).modDpPort p (fun d => { d with failedT := some at' })).dpPort p
      = { s.dpPort p with trained := false, training := false, failedT := some at', slots := [] } := by
    rw [dpPort_modDpPort]
    exact congrArg (fun d => { d with failedT := some at' }) (dpPort_modDpPort ..)
  have hfirst : OnlyLinks (atTime at' s) ((dropLink p false (atTime at' s)).modDpPort p (fun d => { d with failedT := some at' })) := rfl
  have hheads : ((dropLink p false (atTime at' s)).modDpPort p (fun d => { d with failedT := some at' })).portHeads p = s.portHeads p := rfl
  obtain ⟨u, hu⟩ : ∃ u, u = (dropLink p false (atTime at' s)).modDpPort p (fun d => { d with failedT := some at' }) := ⟨_, rfl⟩
  rw [← hu] at hport hfirst hheads
  obtain ⟨hwork, hdark⟩ := retimePort_spec p u
  rw [hheads] at hdark
  have hlinks := hfirst.trans hwork.only
  have hvp := hwork.port
  have hhot : (retimePort p u).hot = s.hot := hlinks.get State.hot
  refine completes_of_keeps hrun (raise .linkTrainFail [(1, p.val), (1, phase)] (retimePort p u)) (by rw [hu]) ?_ ?_
  · exact KeepsFrame.trans (t := retimePort p u) hlinks.keeps ⟨raise_pending .., raise_seatB .., raise_dram ..⟩
  · have hraised := raised_raise .linkTrainFail [(1, p.val), (1, phase)] hhot
    have hdp : ∀ q, (raise .linkTrainFail [(1, p.val), (1, phase)] (retimePort p u)).dpPort q = (retimePort p u).dpPort q :=
      fun q => congrArg (fun l => tget dpInit l q) (raise_dp ..)
    rw [hdp, hvp, hport]
    refine ⟨rfl, rfl, rfl, fun h hh => ?_, hraised⟩
    rw [head_raise]
    exact ⟨(hdark h hh).1, (hdark h hh).2.1⟩

/-- What a port that starts training from a state is, as the rows report it: the state that the row starts it from may differ in the reading
of the counter and in the port's own record. -/
theorem startTraining_reported {s u : State} {p cause : Nat} (hc : cause ≠ 1) (hhot : u.hot = s.hot) (hheads : u.portHeads p = s.portHeads p)
    (hk : KeepsFrame s u) (hmode : (u.dpPort p).mode ≠ 0) (hun : (u.dpPort p).unplugged = false) :
    KeepsFrame s (startTraining p cause u) ∧ ((startTraining p cause u).dpPort p).training = true
    ∧ ((startTraining p cause u).dpPort p).trained = false
    ∧ ((startTraining p cause u).dpPort p).failedT = none ∧ ((startTraining p cause u).dpPort p).unplugged = false
    ∧ (∀ h ∈ s.portHeads p, ((startTraining p cause u).head h).running = false ∧ ((startTraining p cause u).head h).live = false)
    ∧ s.raised (startTraining p cause u) .dpLink none [(1, p), (1, cause)] := by
  obtain ⟨honly, htrained, htraining, hfailed, hplug, hdark⟩ := startTraining_spec p cause hc u
  rw [hheads] at hdark
  rw [hun] at hplug htraining
  rw [bne_iff_ne.mpr hmode] at htraining
  refine ⟨hk.trans (KeepsFrame.trans (t := raise .dpLink [(1, p), (1, cause)] u) ⟨raise_pending .., raise_seatB .., raise_dram ..⟩ honly.keeps),
    htraining, htrained, hfailed, hplug, hdark, raised_of_onlyLinks (raised_raise _ _ hhot) honly⟩

theorem linkTrainRetry_completes (s : State) (p : Fin 8) (f at' : Time64) (hf : (s.dpPort p).failedT = some f) (hat : f + 1000000000 ≤ at')
    (hmode : (s.dpPort p).mode ≠ 0) (hun : (s.dpPort p).unplugged = false) :
    Completes (.linkTrainRetry p at') s (fun t =>
      (t.dpPort p).training = true ∧ (t.dpPort p).failedT = none
      ∧ (∀ h ∈ s.portHeads p, (t.head h).running = false ∧ (t.head h).live = false)
      ∧ s.raised t .dpLink none [(1, p.val), (1, 3)]) := by
  have hrun : exec (.linkTrainRetry p at') s = act (fun s => startTraining p 3 (atTime at' s)) s := by
    change execLinkTrainRetry p at' s = _
    unfold execLinkTrainRetry
    refine act_congr ?_
    rw [hf]
    exact if_pos (by rw [bne_iff_ne.mpr hmode, decide_eq_true hat]; rfl)
  obtain ⟨hk, htraining, -, hfailed, -, hdark, hraised⟩ := startTraining_reported (s := s) (u := atTime at' s) (p := p) (cause := 3)
    (by decide) rfl rfl ⟨rfl, rfl, rfl⟩ hmode hun
  exact completes_of_keeps hrun _ rfl hk ⟨htraining, hfailed, hdark, hraised⟩

theorem irqHpd_completes (s : State) (p : Fin 8) (lost : Bool) (at' : Time64) (htr : (s.dpPort p).trained = true) (hmode : (s.dpPort p).mode ≠ 0)
    (hun : (s.dpPort p).unplugged = false) :
    Completes (.irqHpd p lost at') s (fun t =>
      if lost then (t.dpPort p).trained = false ∧ (t.dpPort p).training = true
        ∧ (∀ h ∈ s.portHeads p, (t.head h).running = false ∧ (t.head h).live = false) ∧ s.raised t .dpLink none [(1, p.val), (1, 2)]
      else t = { s with time := { s.time with now := at' } }) := by
  cases lost with
  | false => exact completes_of_keeps (f := fun s => atTime at' s) rfl _ rfl ⟨rfl, rfl, rfl⟩ rfl
  | true =>
    have hrun : exec (.irqHpd p true at') s = act (fun s => startTraining p 2 (atTime at' s)) s := by
      change execIrqHpd p true at' s = _
      unfold execIrqHpd
      refine act_congr ?_
      exact if_pos (by rw [htr]; rfl)
    obtain ⟨hk, htraining, htrained, -, -, hdark, hraised⟩ := startTraining_reported (s := s) (u := atTime at' s) (p := p) (cause := 2)
      (by decide) rfl rfl ⟨rfl, rfl, rfl⟩ hmode hun
    exact completes_of_keeps hrun _ rfl hk ⟨htrained, htraining, hdark, hraised⟩

/-! ## Unplugs and returns -/

theorem hpdReturn_completes (s : State) (p : Fin 8) (at' : Time64) (hplug : (s.dpPort p).unplugged = true) (hmode : (s.dpPort p).mode ≠ 0) :
    Completes (.hpdReturn p at') s (fun t =>
      (t.dpPort p).unplugged = false ∧ (t.dpPort p).training = true ∧ (∀ h ∈ s.portHeads p, (t.head h).live = false)
      ∧ s.raised t .dpLink none [(1, p.val), (1, 3)]) := by
  have hport : ((atTime at' s).modDpPort p (fun d => { d with unplugged := false })).dpPort p = { s.dpPort p with unplugged := false } :=
    dpPort_modDpPort ..
  have hmode' : (((atTime at' s).modDpPort p (fun d => { d with unplugged := false })).dpPort p).mode ≠ 0 := by
    rw [hport]
    exact hmode
  have hrun : exec (.hpdReturn p at') s
      = act (fun s => startTraining p 3 ((atTime at' s).modDpPort p (fun d => { d with unplugged := false }))) s := by
    change execHpdReturn p at' s = _
    unfold execHpdReturn
    refine act_congr ?_
    have hgo : ¬ (!(s.dpPort p).unplugged) = true := by rw [hplug]; exact Bool.false_ne_true
    exact (if_neg hgo).trans (if_neg hmode')
  obtain ⟨hk, htraining, -, -, hun, hdark, hraised⟩ := startTraining_reported (s := s) (p := p)
    (u := (atTime at' s).modDpPort p (fun d => { d with unplugged := false })) (cause := 3) (by decide) rfl rfl ⟨rfl, rfl, rfl⟩ hmode' (by rw [hport])
  exact completes_of_keeps hrun _ rfl hk ⟨hun, htraining, fun h hh => (hdark h hh).2, hraised⟩

theorem hpdUnplug_completes (s : State) (p : Fin 8) (at' : Time64) (hplug : (s.dpPort p).unplugged = false) :
    Completes (.hpdUnplug p at') s (fun t =>
      (t.dpPort p).unplugged = true ∧ (t.dpPort p).trained = false
      ∧ (∀ h ∈ s.portHeads p, (t.head h).blankNow = true ∧ (t.head h).running = false ∧ (t.head h).live = false)
      ∧ s.raised t .dpLink none [(1, p.val), (1, 0)]) := by
  have hrun : exec (.hpdUnplug p at') s = act (fun s =>
      retimePort p ((dropLink p false (linkEvent p 0 (atTime at' s))).modDpPort p (fun d => { d with unplugged := true }))) s := by
    change execHpdUnplug p at' s = _
    unfold execHpdUnplug
    refine act_congr ?_
    exact if_neg (by rw [hplug]; exact Bool.false_ne_true)
  obtain ⟨hlink, htim⟩ := linkEvent_spec p 0 (atTime at' s)
  obtain ⟨u, hu⟩ : ∃ u, u = linkEvent p 0 (atTime at' s) := ⟨_, rfl⟩
  rw [← hu] at hlink htim
  obtain ⟨v, hv⟩ : ∃ v, v = (dropLink p false u).modDpPort p (fun d => { d with unplugged := true }) := ⟨_, rfl⟩
  have hdrop : OnlyLinks u v := by rw [hv]; rfl
  have hport : (v.dpPort p).unplugged = true ∧ (v.dpPort p).trained = false := by
    rw [hv, dpPort_modDpPort]
    exact ⟨rfl, congrArg DpPort.trained (dpPort_modDpPort p.val _ u)⟩
  have hheads : v.portHeads p = s.portHeads p := by
    rw [hv]
    exact portHeads_of_timing (s := s) htim p
  obtain ⟨hwork, hdark⟩ := retimePort_spec p v
  have hlinks := (hlink.onlyLinks.trans hdrop).trans hwork.only
  refine completes_of_keeps hrun (retimePort p v) (by rw [hv, hu]) ?_ ⟨?_, ?_, fun h hh => ?_, ?_⟩
  · exact KeepsFrame.trans (t := raise .dpLink [(1, p.val), (1, 0)] (atTime at' s)) ⟨raise_pending .., raise_seatB .., raise_dram ..⟩ hlinks.keeps
  · rw [hwork.port]
    exact hport.1
  · rw [hwork.port]
    exact hport.2
  · rw [← hheads] at hh
    exact ⟨(hdark h hh).1, (hdark h hh).2.2, (hdark h hh).2.1⟩
  · exact raised_of_onlyLinks (raised_raise .dpLink [(1, p.val), (1, 0)] (u := atTime at' s) (s := s) rfl) hlinks

end Sys2Proof.Machine
end

section
/-! MST topology (R205): the heads whose sinks have left, and those whose sinks are back. -/
namespace Sys2Proof.Machine

theorem releaseSlots_spec (h p : Nat) (a : State) :
    HeadWork p [] a (releaseSlots h p a) ∧ tfind ((releaseSlots h p a).dpPort p).slots h = none
    ∧ ∀ y : Nat, tfind (a.dpPort p).slots y = none → tfind ((releaseSlots h p a).dpPort p).slots y = none := by
  unfold releaseSlots
  dsimp only
  split
  next hnone => exact ⟨.refl p [] a, Option.isNone_iff_eq_none.mp hnone, fun _ hy => hy⟩
  next =>
    have hrel : HeadWork p [] a (a.modDpPort p (fun d => { d with slots := tdel h d.slots })) :=
      .of_port (f := fun d => { d with slots := tdel h d.slots }) rfl rfl
    have hslots : ((a.modDpPort p (fun d => { d with slots := tdel h d.slots })).dpPort p).slots = tdel h (a.dpPort p).slots :=
      congrArg DpPort.slots (dpPort_modDpPort ..)
    have hgone : tfind (tdel h (a.dpPort p).slots) h = none := tfind_tdel_same ..
    have hkeep : ∀ y : Nat, tfind (a.dpPort p).slots y = none → tfind (tdel h (a.dpPort p).slots) y = none := by
      intro y hy
      by_cases he : y = h
      · rw [he]; exact hgone
      · rw [tfind_tdel_ne (h := he)]; exact hy
    split
    · exact ⟨hrel.trans (.of_out rfl), (congrArg (fun l => tfind l h) hslots).trans hgone,
        fun y hy => (congrArg (fun l => tfind l y) hslots).trans (hkeep y hy)⟩
    · exact ⟨hrel, (congrArg (fun l => tfind l h) hslots).trans hgone, fun y hy => (congrArg (fun l => tfind l y) hslots).trans (hkeep y hy)⟩

/-- A head whose sink has left. -/
def Head.sinkGone (d : Head) : Head := { d with unplugged := true, cnt := { d.cnt with linkEvents := (d.cnt.linkEvents + 1) % 2 ^ 32 } }

/-- The sink of a head has left its MST port. -/
def sinkLeaves (p : Nat) (a : State) (h : Nat) : State := blankHead h ((releaseSlots h p a).modHead h Head.sinkGone)

theorem sinkLeaves_spec (p : Nat) (a : State) (h : Nat) :
    HeadWork p [h] a (sinkLeaves p a h)
    ∧ ((sinkLeaves p a h).head h).unplugged = true ∧ ((sinkLeaves p a h).head h).blankNow = true ∧ ((sinkLeaves p a h).head h).live = false
    ∧ tfind ((sinkLeaves p a h).dpPort p).slots h = none
    ∧ ∀ y : Nat, tfind (a.dpPort p).slots y = none → tfind ((sinkLeaves p a h).dpPort p).slots y = none := by
  obtain ⟨hrel, hgone, hkeep⟩ := releaseSlots_spec h p a
  obtain ⟨px, tl, hi, hblank⟩ := head_blankHead h ((releaseSlots h p a).modHead h Head.sinkGone)
  have honly := (onlyHead_modHead h Head.sinkGone (releaseSlots h p a)).trans (onlyHead_blankHead h _)
  rw [head_modHead] at hblank
  have hports : ∀ q, (sinkLeaves p a h).dpPort q = (releaseSlots h p a).dpPort q := fun q => congrArg (fun l => tget dpInit l q) (honly.1.get State.dp)
  rw [hports p]
  unfold sinkLeaves
  refine ⟨(hrel.mono (fun _ hg => absurd hg List.not_mem_nil)).trans (.of_head honly (by rw [hblank]; rfl)), ?_⟩
  rw [hblank]
  exact ⟨rfl, rfl, rfl, hgone, hkeep⟩

/-- The sink of a head is back on its MST port. -/
def sinkReturns (p : Nat) (a : State) (h : Nat) : State :=
  askSlots h p (enterRetime h false false true false (a.modHead h (fun d => { d with unplugged := false })))

theorem sinkReturns_spec (p : Nat) (a : State) (h : Nat) : HeadWork p [h] a (sinkReturns p a h) ∧ (sinkReturns p a h).dp = a.dp := by
  obtain ⟨honly, -, -, -, htim, -⟩ := enterRetime_spec h false false true false (a.modHead h (fun d => { d with unplugged := false }))
  rw [head_modHead] at htim
  have hboth := (onlyHead_modHead h (fun d => { d with unplugged := false }) a).trans honly
  unfold sinkReturns
  generalize enterRetime h false false true false (a.modHead h (fun d => { d with unplugged := false })) = b at *
  obtain ⟨o, ho⟩ := askSlots_spec h p b
  rw [ho]
  exact ⟨(HeadWork.of_head hboth htim).trans (.of_out rfl), hboth.1.get State.dp⟩

/-- One head of the port, by whether its sink has left or is back. -/
def followTopology (p : Nat) (left departed : List Nat) (a : State) (h : Nat) : State :=
  if left.contains h then sinkLeaves p a h else if (a.head h).unplugged && !departed.contains h then sinkReturns p a h else a

theorem followTopology_spec (p : Nat) (left departed : List Nat) (a : State) (h : Nat) :
    HeadWork p [h] a (followTopology p left departed a h)
    ∧ (left.contains h = true → ((followTopology p left departed a h).head h).unplugged = true
      ∧ ((followTopology p left departed a h).head h).blankNow = true ∧ ((followTopology p left departed a h).head h).live = false
      ∧ tfind ((followTopology p left departed a h).dpPort p).slots h = none)
    ∧ ∀ y : Nat, tfind (a.dpPort p).slots y = none → tfind ((followTopology p left departed a h).dpPort p).slots y = none := by
  unfold followTopology
  split
  next hleft =>
    obtain ⟨hwork, hun, hblank, hlive, hgone, hkeep⟩ := sinkLeaves_spec p a h
    exact ⟨hwork, fun _ => ⟨hun, hblank, hlive, hgone⟩, hkeep⟩
  next hleft =>
    split
    · obtain ⟨hwork, hdp⟩ := sinkReturns_spec p a h
      exact ⟨hwork, fun hl => absurd hl hleft, fun y hy => (congrArg (fun l => tfind (tget dpInit l p).slots y) hdp).trans hy⟩
    · exact ⟨.refl p [h] a, fun hl => absurd hl hleft, fun _ hy => hy⟩

/-- The heads of a port whose sinks have left and that were not yet unplugged. -/
def leftHeads (p : Nat) (gone : List Nat) (s : State) : List Nat := (s.portHeads p).filter (fun h => gone.contains h && !(s.head h).unplugged)

/-- What a topology change reports. -/
def topologyReported (p : Nat) (left : List Nat) (s : State) : State :=
  if left == [] then raise .dpTopology [(1, p)] s else raise .dpLink [(1, p), (1, 0)] (raise .dpTopology [(1, p)] s)

theorem onlyEvents_topologyReported (p : Nat) (left : List Nat) (s : State) : OnlyEvents s (topologyReported p left s) := by
  unfold topologyReported
  split
  · exact onlyEvents_raise ..
  · exact (onlyEvents_raise ..).trans (onlyEvents_raise ..)

theorem exec_dpTopology {s : State} {p : Fin 8} {gone : List Nat} {t : Time64} (hmode : (s.dpPort p).mode = 2) :
    exec (.dpTopology p gone t) s = act (fun s => (s.portHeads p).foldl (followTopology p (leftHeads p gone s) gone)
      (topologyReported p (leftHeads p gone s) (atTime t s))) s := by
  change execDpTopology p gone t s = _
  unfold execDpTopology
  refine act_congr ?_
  refine (if_neg (by rw [hmode]; decide)).trans ?_
  have hheads : (raise .dpTopology [(1, p.val)] (atTime t s)).heads = s.heads := raise_heads ..
  have hleft : ((raise .dpTopology [(1, p.val)] (atTime t s)).portHeads p).filter
      (fun h => gone.contains h && !((raise .dpTopology [(1, p.val)] (atTime t s)).head h).unplugged) = leftHeads p gone s := by
    unfold leftHeads State.portHeads State.head
    rw [hheads]
  have hrep : ∀ g, (topologyReported p (leftHeads p gone s) (atTime t s)).head g = s.head g :=
    fun g => (onlyEvents_topologyReported p (leftHeads p gone s) (atTime t s)).get (fun x => x.head g)
  dsimp only
  rw [hleft]
  exact congrArg (fun l => l.foldl (followTopology p (leftHeads p gone s) gone) (topologyReported p (leftHeads p gone s) (atTime t s)))
    (portHeads_of_timing (fun g => congrArg Head.timing (hrep g)) p)

theorem dpTopology_completes (s : State) (p : Fin 8) (gone : List Nat) (at' : Time64) (hmode : (s.dpPort p).mode = 2) :
    Completes (.dpTopology p gone at') s (fun t =>
      (∀ h ∈ s.portHeads p, h ∈ gone → (s.head h).unplugged = false →
        (t.head h).unplugged = true ∧ (t.head h).blankNow = true ∧ (t.head h).live = false)
      ∧ (∀ h : Nat, h ∉ s.portHeads p → t.head h = s.head h) ∧ (∀ q : Nat, q ≠ p.val → t.dpPort q = s.dpPort q)
      ∧ t.dpPort p = { s.dpPort p with slots := (t.dpPort p).slots }
      ∧ (∀ h ∈ s.portHeads p, h ∈ gone → (s.head h).unplugged = false → tfind (t.dpPort p).slots h = none)
      ∧ ((∀ h ∈ s.portHeads p, h ∉ gone ∨ (s.head h).unplugged = true) → s.raised t .dpTopology none [(1, p.val)])) := by
  have hmem : ∀ h ∈ s.portHeads p, h ∈ gone → (s.head h).unplugged = false → (leftHeads p gone s).contains h = true := by
    intro h hh hg hun
    exact List.contains_iff_mem.mpr (List.mem_filter.mpr ⟨hh, by rw [hun, List.contains_iff_mem.mpr hg]; rfl⟩)
  have hnil : (∀ h ∈ s.portHeads p, h ∉ gone ∨ (s.head h).unplugged = true) → leftHeads p gone s = [] := by
    intro hall
    refine List.filter_eq_nil_iff.mpr fun h hh => ?_
    rcases hall h hh with hg | hun
    · simp [hg]
    · simp [hun]
  generalize hleft : leftHeads p gone s = left at hmem hnil
  have hrep := onlyEvents_topologyReported p left (atTime at' s)
  have hheads : ∀ g, (topologyReported p left (atTime at' s)).head g = s.head g := fun g => hrep.get (fun x => x.head g)
  have hports : ∀ q, (topologyReported p left (atTime at' s)).dpPort q = s.dpPort q := fun q => hrep.get (fun x => x.dpPort q)
  have hwork := HeadWork.foldl (p := p) (fun a h => (followTopology_spec p left gone a h).1) (s.portHeads p) (topologyReported p left (atTime at' s))
  have hdark := HeadWork.foldl_each (p := p) (l := s.portHeads p) (s := topologyReported p left (atTime at' s))
    (Q := fun h d => left.contains h = true → d.unplugged = true ∧ d.blankNow = true ∧ d.live = false)
    (fun a h => (followTopology_spec p left gone a h).1) (fun a h _ _ _ hl => by
      obtain ⟨hun, hblank, hlive, -⟩ := (followTopology_spec p left gone a h).2.1 hl
      exact ⟨hun, hblank, hlive⟩)
  have hslots := foldl_gains (f := followTopology p left gone) (P := fun h a => left.contains h = true → tfind (a.dpPort p).slots h = none)
    (fun a h hl => ((followTopology_spec p left gone a h).2.1 hl).2.2.2)
    (fun a h y hy hl => (followTopology_spec p left gone a h).2.2 y (hy hl)) (s.portHeads p) (topologyReported p left (atTime at' s))
  have hrun := exec_dpTopology (gone := gone) (t := at') hmode
  refine completes_of_keeps hrun ((s.portHeads p).foldl (followTopology p left gone) (topologyReported p left (atTime at' s))) (by rw [hleft])
    (KeepsFrame.trans (t := atTime at' s) ⟨rfl, rfl, rfl⟩ (hrep.keeps.trans hwork.only.keeps))
    ⟨fun h hh hg hun => hdark h hh (hmem h hh hg hun), fun h hh => (hwork.others h hh).trans (hheads h),
      fun q hq => (hwork.ports q hq).trans (hports q), ?_, fun h hh hg hun => hslots h hh (hmem h hh hg hun), fun hall => ?_⟩
  · rw [hwork.port, hports p]
  · refine raised_of_onlyLinks ?_ hwork.only
    rw [hnil hall]
    exact raised_raise (u := atTime at' s) (s := s) _ _ rfl

/-- Settles O40, row by row. -/
theorem portTraining : Obligations.PortTraining :=
  ⟨linkTrainComplete_completes, linkTrainFail_completes, linkTrainRetry_completes, hpdUnplug_completes, irqHpd_completes, hpdReturn_completes,
    dpTopology_completes⟩

end Sys2Proof.Machine
end

section
/-! Output checks (R72, R219, R334): the comparison of a tile with its two guarded copies, and what follows for the head. -/
namespace Sys2Proof.Machine

theorem tfind_map {α : Type} (g : Nat × α → α) (t : Table α) (i : Nat) :
    tfind (t.map (fun e => (e.1, g e))) i = (tfind t i).map (fun x => g (i, x)) := by
  induction t with
  | nil => rfl
  | cons e t ih =>
    by_cases he : i = e.1
    · simp [tfind, he]
    · simp [tfind, he, ih]

/-! ## The comparison -/

/-- A check with both copies as they were written. -/
structure CleanCopies (o : CheckObs) : Prop where
  copyA  : o.copyA = 0
  copyB  : o.copyB = 0
  guardA : o.guardA = 0
  guardB : o.guardB = 0

theorem checkTile_class {o : CheckObs} (h : CleanCopies o) (sig : BitVec 32) :
    (checkTile sig o).1 = if o.disturb = 0 then (.isMatch, false) else (.dataMismatch, false) := by
  have hres : (sig.setWidth 64 ^^^ o.disturb.setWidth 64 = sig.setWidth 64) ↔ o.disturb = 0 := by
    constructor
    · intro heq
      have hzero : o.disturb.setWidth 64 = 0 := by
        have := congrArg (fun v => sig.setWidth 64 ^^^ v) heq
        simpa [← BitVec.xor_assoc] using this
      have hback := congrArg (BitVec.setWidth 32) hzero
      rwa [BitVec.setWidth_setWidth_of_le _ (by decide), BitVec.setWidth_eq] at hback
    · intro hz
      simp [hz]
  unfold checkTile compareDual classify
  simp only [h.copyA, h.copyB, h.guardA, h.guardB, hres, BitVec.ofNat_eq_ofNat, BitVec.setWidth_zero, BitVec.xor_zero, BitVec.not_not, beq_self_eq_true, if_true]

theorem checkTile_result {o : CheckObs} (sig : BitVec 32) (hd : o.disturb = 0) : (checkTile sig o).2.1.setWidth 32 = sig := by
  unfold checkTile
  simp [hd, BitVec.setWidth_setWidth_of_le]

/-! ## A match, a mismatch, a miss -/

/-- The tile that a check has compared. -/
def Head.noteCheck (i : Nat) (sig : BitVec 32) (d : Head) : Head :=
  { d with tiles := d.tiles.map (fun e => (e.1, if e.1 = i then { e.2 with checked := true, outSig := sig } else e.2)) }

theorem noteCheck_tile {d : Head} {i : Nat} {x : TileOut} (sig : BitVec 32) (hx : tfind d.tiles i = some x) :
    tfind (d.noteCheck i sig).tiles i = some { x with checked := true, outSig := sig } := by
  unfold Head.noteCheck
  rw [tfind_map, hx]
  simp

theorem tileMatched_spec (h row col : Nat) (s : State) :
    OnlyHead h s (tileMatched h row col s)
    ∧ ∃ rc n, (tileMatched h row col s).head h = { s.head h with rechecks := rc, cnt := { (s.head h).cnt with transient := n } } := by
  unfold tileMatched
  refine ⟨onlyHead_modHead h _ s, ?_⟩
  rw [head_modHead]
  exact ⟨_, _, rfl⟩

/-- The tiles of a head of which one is held UNVERIFIED. -/
def heldTiles (d : Head) (row col : Nat) : Table TileOut :=
  d.tiles.map (fun e =>
    (e.1, if e.1 = row * d.cols + col && col < d.cols && e.2.verdict != .dark then { e.2 with verdict := .unverified } else e.2))

theorem holdTile_spec {h : Nat} {s : State} {fi : FrameIn} (hf : (s.head h).frame = some fi) (row col : Nat) (held : Option (Nat × Nat × Nat))
    (twin : Bool) :
    OnlyHead h { s with recheckN := s.recheckN + 1 } (holdTile h row col held twin s)
    ∧ ((holdTile h row col held twin s).head h).live = false ∧ ((holdTile h row col held twin s).head h).tiles = heldTiles (s.head h) row col
    ∧ ((holdTile h row col held twin s).head h).cnt = (s.head h).cnt := by
  unfold holdTile
  dsimp only
  rw [hf]
  generalize recheckPlace s h row fi = place
  obtain ⟨n, c⟩ := place
  dsimp only
  refine ⟨(onlyHead_modHead ..).trans (onlyHead_dropLive ..), ?_⟩
  rw [head_dropLive, head_modHead]
  exact ⟨rfl, rfl, rfl⟩

/-- A mismatch that is counted. -/
def Head.countMismatch (d : Head) : Head := { d with sticky := d.sticky ||| 2 ^ 20, cnt := { d.cnt with mismatch := (d.cnt.mismatch + 1) % 2 ^ 32 } }

/-- What CU_MISMATCH says of a tile's check by a unit (R332). -/
def mismatchPayload (h row col cnt unit : Nat) (c : (CmpClass × Bool) × BitVec 64 × BitVec 64 × BitVec 64) : List (Nat × Nat) :=
  [(1, unit), (1, c.1.1.code), (1, b2n c.1.2), (8, c.2.1.toNat), (8, c.2.2.1.toNat), (8, c.2.2.2.toNat), (8, (tripleFold cnt h row col).toNat)]

/-- The check unit's finding is reported and counted. -/
def mismatchNoted (h row col : Nat) (c : (CmpClass × Bool) × BitVec 64 × BitVec 64 × BitVec 64) (s : State) : State :=
  (raise .cuMismatch (mismatchPayload h row col (s.head h).frameCnt (freeBelow 256 s).1 c) (freeBelow 256 s).2).modHead h Head.countMismatch

theorem tileMismatched_eq (h row col : Nat) (c : (CmpClass × Bool) × BitVec 64 × BitVec 64 × BitVec 64) (s : State) :
    tileMismatched h row col c s = holdTile h row col none false
      { mismatchNoted h row col c s with
        twin := { (mismatchNoted h row col c s).twin with lastMismatch := some (mismatchNoted h row col c s).time.tick } } := rfl

theorem mismatchNoted_spec (h row col : Nat) (c : (CmpClass × Bool) × BitVec 64 × BitVec 64 × BitVec 64) (s : State) :
    KeepsFrame s (mismatchNoted h row col c s) ∧ (mismatchNoted h row col c s).head h = (s.head h).countMismatch
    ∧ (∀ g : Nat, g ≠ h → (mismatchNoted h row col c s).head g = s.head g)
    ∧ ∃ (unit : Nat) (l : List (Nat × Nat)), s.raised (mismatchNoted h row col c s) .cuMismatch none
      ([(1, unit), (1, c.1.1.code), (1, b2n c.1.2)] ++ l) := by
  unfold mismatchNoted
  generalize hp : mismatchPayload h row col (s.head h).frameCnt (freeBelow 256 s).1 c = p
  have hfree : ∀ g : Nat, (freeBelow 256 s).2.head g = s.head g := fun _ => rfl
  have hk : KeepsFrame s (freeBelow 256 s).2 := ⟨rfl, rfl, rfl⟩
  have hhot : (freeBelow 256 s).2.hot = s.hot := rfl
  generalize (freeBelow 256 s).2 = u at hfree hk hhot
  refine ⟨KeepsFrame.trans (t := raise .cuMismatch p u) (hk.trans ⟨raise_pending .., raise_seatB .., raise_dram ..⟩) ⟨rfl, rfl, rfl⟩, ?_, fun g hg => ?_,
    (freeBelow 256 s).1, p.drop 3, ?_⟩
  · rw [head_modHead, head_raise, hfree]
  · rw [(onlyHead_modHead h Head.countMismatch _).2 g hg, head_raise, hfree]
  · have hraised := raised_raise .cuMismatch p hhot
    rw [← hp] at hraised ⊢
    exact raised_of_events hraised rfl rfl

theorem tileMismatched_spec {h : Nat} {s : State} {fi : FrameIn} (hf : (s.head h).frame = some fi) (row col : Nat)
    (c : (CmpClass × Bool) × BitVec 64 × BitVec 64 × BitVec 64) :
    KeepsFrame s (tileMismatched h row col c s)
    ∧ ((tileMismatched h row col c s).head h).live = false ∧ ((tileMismatched h row col c s).head h).tiles = heldTiles (s.head h) row col
    ∧ ((tileMismatched h row col c s).head h).cnt.mismatch = ((s.head h).cnt.mismatch + 1) % 2 ^ 32
    ∧ (∀ g : Nat, g ≠ h → (tileMismatched h row col c s).head g = s.head g)
    ∧ ∃ (unit : Nat) (l : List (Nat × Nat)), s.raised (tileMismatched h row col c s) .cuMismatch none
      ([(1, unit), (1, c.1.1.code), (1, b2n c.1.2)] ++ l) := by
  rw [tileMismatched_eq]
  obtain ⟨hk, hhead, hothers, unit, l, hraised⟩ := mismatchNoted_spec h row col c s
  generalize mismatchNoted h row col c s = u at *
  have hf' : (u.head h).frame = some fi := by
    rw [hhead]
    exact hf
  obtain ⟨honly, hlive, htiles, hcnt⟩ := holdTile_spec (s := { u with twin := { u.twin with lastMismatch := some u.time.tick } }) hf' row col none false
  refine ⟨KeepsFrame.trans hk ⟨honly.1.get State.pending, honly.1.get State.seatB, honly.1.get State.dram⟩, hlive, ?_, ?_,
    fun g hg => (honly.2 g hg).trans (hothers g hg), unit, l,
    raised_of_events hraised (honly.1.get State.events) (honly.1.get (fun x => x.twin.ownEvents))⟩
  · refine htiles.trans ((congrArg (fun d => heldTiles d row col) hhead).trans rfl)
  · refine (congrArg HeadCounters.mismatch hcnt).trans ((congrArg (fun d => d.cnt.mismatch) hhead).trans rfl)

/-- A row that the lane could not finish is a miss (R219). -/
theorem endRow_missed {h row col : Nat} {s : State} {x : TileOut} (hx : tfind (s.head h).tiles (row * (s.head h).cols + col) = some x)
    (hcol : col < (s.head h).cols) (hnot : x.checked = false) :
    endRow h row s = s.modHead h (fun d => { d with
      rowMissed := tset row (tget 0 d.rowMissed row + 1) d.rowMissed, cnt := { d.cnt with verifyMiss := (d.cnt.verifyMiss + 1) % 2 ^ 32 } }) := by
  unfold endRow
  extract_lets d whole n s1
  have hwhole : whole = false := by
    refine List.all_eq_false.mpr ⟨col, List.mem_range.mpr hcol, ?_⟩
    rw [show tfind d.tiles (row * d.cols + col) = some x from hx]
    exact fun hyes => absurd (hnot.symm.trans hyes) Bool.false_ne_true
  have hmiss : ¬ whole = true := by
    rw [hwhole]
    exact Bool.false_ne_true
  refine (if_pos (by rw [hwhole, Bool.not_false, Bool.or_true])).trans ?_
  exact congrArg (s.modHead h) (funext fun d => if_neg hmiss)

end Sys2Proof.Machine
end

section
/-! The output check of a tile, settled. -/
namespace Sys2Proof.Machine

/-- A tile of a row that the lane checks, which has left and was not yet compared. -/
structure ChecksTile (s : State) (p : TilePos) (fi : FrameIn) (x : TileOut) : Prop where
  frame    : (s.head p.head).frame = some fi
  tile     : tfind (s.head p.head).tiles (p.row * (s.head p.head).cols + p.col) = some x
  col      : p.col < (s.head p.head).cols
  open'    : (s.head p.head).recDone = false
  fresh    : x.checked = false
  departed : x.departed = true
  whole    : x.filled = false
  shown    : x.verdict ≠ .dark
  row      : rowChecked (s.head p.head) p.head p.row fi = true

/-- What a check that the lane finished does with the tile. -/
def tileCompared (p : TilePos) (o : CheckObs) (sig : BitVec 32) (s : State) : State :=
  let u := s.modHead p.head (Head.noteCheck (p.row * (s.head p.head).cols + p.col) ((checkTile sig o).2.1.setWidth 32))
  if (checkTile sig o).1.1 = .isMatch then tileMatched p.head p.row p.col u else tileMismatched p.head p.row p.col (checkTile sig o) u

/-- What a check finds, by whether the lane finished it. -/
def checkFinding (p : TilePos) (o : CheckObs) (fi : FrameIn) (d : Head) (s : State) : State :=
  if !o.finished || d.unread.contains p.row then s else tileCompared p o (outSig p.head d fi p.row p.col) s

theorem exec_outputCheck {s : State} {p : TilePos} {o : CheckObs} {fi : FrameIn} {x : TileOut} {t : Time64} (h : ChecksTile s p fi x) :
    exec (.outputCheckComplete p o t) s = act (fun s =>
      if p.col + 1 = (s.head p.head).cols then endRow p.head p.row (checkFinding p o fi (s.head p.head) (atTime t s))
      else checkFinding p o fi (s.head p.head) (atTime t s)) s := by
  change execOutputCheckComplete p o t s = _
  unfold execOutputCheckComplete
  refine act_congr ?_
  have hgo : ¬ (decide (p.col ≥ (s.head p.head).cols) || (s.head p.head).recDone || x.checked || !x.departed || x.filled || x.verdict == .dark
      || !rowChecked (s.head p.head) p.head p.row fi) = true := by
    rw [h.open', h.fresh, h.departed, h.whole, beq_false_of_ne h.shown, h.row, decide_eq_false (Nat.not_le_of_gt h.col)]
    exact Bool.false_ne_true
  dsimp only
  rw [h.frame, h.tile]
  exact if_neg hgo

/-- A finished check of a row that was read, not at the row's last tile. -/
theorem exec_outputCheck_inner {s : State} {p : TilePos} {o : CheckObs} {fi : FrameIn} {x : TileOut} {t : Time64} (h : ChecksTile s p fi x)
    (hfin : o.finished = true) (hread : (s.head p.head).unread.contains p.row = false) (hin : p.col + 1 < (s.head p.head).cols) :
    exec (.outputCheckComplete p o t) s = act (fun s => tileCompared p o (outSig p.head (s.head p.head) fi p.row p.col) (atTime t s)) s := by
  rw [exec_outputCheck h]
  refine act_congr ?_
  refine (if_neg (by omega)).trans ?_
  unfold checkFinding
  exact if_neg (by rw [hfin, hread]; exact Bool.false_ne_true)

theorem head_noteCheck (p : TilePos) (sig : BitVec 32) (i : Nat) (s : State) :
    (s.modHead p.head (Head.noteCheck i sig)).head p.head = (s.head p.head).noteCheck i sig := head_modHead ..

theorem tileCompared_match {s : State} {p : TilePos} {o : CheckObs} {x : TileOut} (hc : CleanCopies o) (hd : o.disturb = 0) (sig : BitVec 32)
    (hx : tfind (s.head p.head).tiles (p.row * (s.head p.head).cols + p.col) = some x) :
    OnlyHead p.head s (tileCompared p o sig s)
    ∧ tfind ((tileCompared p o sig s).head p.head).tiles (p.row * (s.head p.head).cols + p.col) = some { x with checked := true, outSig := sig }
    ∧ ((tileCompared p o sig s).head p.head).cnt.mismatch = (s.head p.head).cnt.mismatch
    ∧ ((tileCompared p o sig s).head p.head).live = (s.head p.head).live := by
  have hclass : (checkTile sig o).1.1 = .isMatch := by rw [checkTile_class hc, if_pos hd]
  unfold tileCompared
  dsimp only
  rw [if_pos hclass, checkTile_result sig hd]
  obtain ⟨honly, rc, n, hhead⟩ := tileMatched_spec p.head p.row p.col
    (s.modHead p.head (Head.noteCheck (p.row * (s.head p.head).cols + p.col) sig))
  rw [hhead, head_noteCheck]
  exact ⟨(onlyHead_modHead ..).trans honly, noteCheck_tile sig hx, rfl, rfl⟩

theorem tileCompared_mismatch {s : State} {p : TilePos} {o : CheckObs} {fi : FrameIn} {x : TileOut} (hc : CleanCopies o) (hd : o.disturb ≠ 0)
    (sig : BitVec 32) (hf : (s.head p.head).frame = some fi) (hcol : p.col < (s.head p.head).cols) (hdark : x.verdict ≠ .dark)
    (hx : tfind (s.head p.head).tiles (p.row * (s.head p.head).cols + p.col) = some x) :
    KeepsFrame s (tileCompared p o sig s)
    ∧ (∃ z, tfind ((tileCompared p o sig s).head p.head).tiles (p.row * (s.head p.head).cols + p.col) = some z
      ∧ z.verdict = .unverified ∧ z.checked = true)
    ∧ ((tileCompared p o sig s).head p.head).cnt.mismatch = ((s.head p.head).cnt.mismatch + 1) % 2 ^ 32
    ∧ ((tileCompared p o sig s).head p.head).live = false
    ∧ (∃ (unit : Nat) (l : List (Nat × Nat)), s.raised (tileCompared p o sig s) .cuMismatch none ([(1, unit), (1, 1), (1, 0)] ++ l))
    ∧ ∀ g : Nat, g ≠ p.head.val → (tileCompared p o sig s).head g = s.head g := by
  have hclass : (checkTile sig o).1 = (.dataMismatch, false) := by rw [checkTile_class hc, if_neg hd]
  unfold tileCompared
  dsimp only
  rw [if_neg (by rw [hclass]; exact CmpClass.noConfusion)]
  generalize (checkTile sig o).2.1.setWidth 32 = res
  have htile := noteCheck_tile res hx
  have hhead := head_noteCheck p res (p.row * (s.head p.head).cols + p.col) s
  have hothers := (onlyHead_modHead p.head (Head.noteCheck (p.row * (s.head p.head).cols + p.col) res) s).2
  have hfirst : KeepsFrame s (s.modHead p.head (Head.noteCheck (p.row * (s.head p.head).cols + p.col) res)) := ⟨rfl, rfl, rfl⟩
  have hhot : (s.modHead p.head (Head.noteCheck (p.row * (s.head p.head).cols + p.col) res)).hot = s.hot := rfl
  generalize s.modHead p.head (Head.noteCheck (p.row * (s.head p.head).cols + p.col) res) = u at *
  have hf' : (u.head p.head).frame = some fi := by
    rw [hhead]
    exact hf
  obtain ⟨hk, hlive, htiles, hcnt, hrest, unit, l, hraised⟩ := tileMismatched_spec hf' p.row p.col (checkTile sig o)
  rw [hclass] at hraised
  refine ⟨hfirst.trans hk, ⟨{ x with checked := true, outSig := res, verdict := .unverified }, ?_, rfl, rfl⟩, ?_, hlive,
    ⟨unit, l, raised_of_hot hhot hraised⟩, fun g hg => (hrest g hg).trans (hothers g hg)⟩
  · rw [htiles, hhead]
    unfold heldTiles
    rw [tfind_map, htile]
    refine congrArg some (if_pos ?_)
    rw [decide_eq_true (show p.row * (s.head p.head).cols + p.col = p.row * ((s.head p.head).noteCheck _ res).cols + p.col from rfl),
      decide_eq_true (show p.col < ((s.head p.head).noteCheck _ res).cols from hcol), bne_iff_ne.mpr hdark]
    rfl
  · rw [hcnt, hhead]
    rfl

/-- Settles O38, by what the lane found. -/
theorem outputChecks : Obligations.OutputChecks := by
  intro s p o fi x at' hf hx hcol hrec hfresh hdep hfill hdark hrow hca hcb hga hgb
  have hchecks : ChecksTile s p fi x := ⟨hf, hx, hcol, hrec, hfresh, hdep, hfill, hdark, hrow⟩
  have hclean : CleanCopies o := ⟨hca, hcb, hga, hgb⟩
  refine ⟨fun hfin hread hin hd => ?_, fun hfin hread hin hd => ?_, fun hfin hlast => ?_⟩
  · obtain ⟨honly, htile, hcnt, hlive⟩ := tileCompared_match (s := atTime at' s) hclean hd (outSig p.head (s.head p.head) fi p.row p.col) hx
    exact completes_of_keeps (exec_outputCheck_inner hchecks hfin hread hin) _ rfl
      ⟨honly.1.get State.pending, honly.1.get State.seatB, honly.1.get State.dram⟩
      ⟨htile, hcnt, hlive, honly.1.get State.events, honly.2⟩
  · obtain ⟨hk, htile, hcnt, hlive, hraised, hothers⟩ := tileCompared_mismatch (s := atTime at' s) hclean hd
      (outSig p.head (s.head p.head) fi p.row p.col) hf hcol hdark hx
    exact completes_of_keeps (exec_outputCheck_inner hchecks hfin hread hin) _ rfl (KeepsFrame.trans (t := atTime at' s) ⟨rfl, rfl, rfl⟩ hk)
      ⟨htile, hcnt, hlive, hraised, hothers⟩
  · have hrun : exec (.outputCheckComplete p o at') s = act (fun s => endRow p.head p.row (atTime at' s)) s := by
      rw [exec_outputCheck hchecks]
      refine act_congr ?_
      refine (if_pos hlast).trans (congrArg (endRow p.head p.row) ?_)
      unfold checkFinding
      exact if_pos (by rw [hfin]; rfl)
    refine completes_of_keeps hrun _ (endRow_missed (s := atTime at' s) hx hcol hfresh) ⟨rfl, rfl, rfl⟩ ?_
    rw [head_modHead]
    exact ⟨rfl, tget_tset_same .., rfl, rfl, rfl, rfl⟩

end Sys2Proof.Machine
end

section
/-! What the work on a head's frames leaves (R46, R212, R254 to R256): the rest of the device, the other heads, and of the head its timing and where
it stands in its scan. -/
namespace Sys2Proof.Machine

/-- Two states differ at most in what work on a head's frames touches: the heads, the LIVE pins and their cause, events and what is sent, and what
is noted of sources, panes, buffers, legends and sessions. -/
def OnlyScan (s t : State) : Prop :=
  t = { s with
    out := t.out, cmd := { s.cmd with irqCause := t.cmd.irqCause }, events := t.events, heads := t.heads, pins := { s.pins with live := t.pins.live },
    twin := t.twin, recheckN := t.recheckN, sources := t.sources, panes := t.panes, bufs := t.bufs, legends := t.legends, enc := t.enc }

theorem OnlyScan.refl (s : State) : OnlyScan s s := rfl

theorem OnlyScan.trans {s t u : State} (h : OnlyScan s t) (h' : OnlyScan t u) : OnlyScan s u := by
  unfold OnlyScan at *; rw [h', h]

theorem OnlyScan.get {β : Type} (p : State → β) {s t : State} (h : OnlyScan s t) :
    p t = p { s with
      out := t.out, cmd := { s.cmd with irqCause := t.cmd.irqCause }, events := t.events, heads := t.heads, pins := { s.pins with live := t.pins.live },
      twin := t.twin, recheckN := t.recheckN, sources := t.sources, panes := t.panes, bufs := t.bufs, legends := t.legends, enc := t.enc } := congrArg p h

theorem OnlyScan.keeps {s t : State} (h : OnlyScan s t) : KeepsFrame s t := ⟨h.get State.pending, h.get State.seatB, h.get State.dram⟩

theorem OnlyHeads.onlyScan {s t : State} (h : OnlyHeads s t) : OnlyScan s t := by
  unfold OnlyHeads OnlyScan at *; rw [h]

/-- Where a head stands in its scan. -/
structure Scan where
  timing     : HeadTiming
  shadow     : Option HeadTiming
  shadowDue  : Bool
  retime     : Option Retime
  running    : Bool
  inFrame    : Bool
  vblank     : Bool
  recDone    : Bool
  frame      : Option FrameIn
  nextIn     : List FrameIn
  frameCnt   : Nat
  frameStart : Time64

/-- The place of a head in its scan. -/
def Head.scan (d : Head) : Scan :=
  ⟨d.timing, d.shadow, d.shadowDue, d.retime, d.running, d.inFrame, d.vblank, d.recDone, d.frame, d.nextIn, d.frameCnt, d.frameStart⟩

/-- Work on one head that leaves its place in its scan. -/
structure ScanWork (h : Nat) (s t : State) : Prop where
  only   : OnlyScan s t
  others : ∀ g : Nat, g ≠ h → t.head g = s.head g
  scan   : (t.head h).scan = (s.head h).scan

namespace ScanWork
variable {h : Nat} {s t u : State}

theorem refl (h : Nat) (s : State) : ScanWork h s s := ⟨.refl s, fun _ _ => rfl, rfl⟩

theorem trans (w : ScanWork h s t) (w' : ScanWork h t u) : ScanWork h s u :=
  ⟨w.only.trans w'.only, fun g hg => (w'.others g hg).trans (w.others g hg), w'.scan.trans w.scan⟩

theorem get {β : Type} (p : Scan → β) (w : ScanWork h s t) : p (t.head h).scan = p (s.head h).scan := congrArg p w.scan

/-- Work that leaves the heads. -/
theorem of_heads (honly : OnlyScan s t) (hh : t.heads = s.heads) : ScanWork h s t :=
  ⟨honly, fun g _ => head_of_heads_eq hh g, congrArg Head.scan (head_of_heads_eq hh h)⟩

theorem of_modHead (f : Head → Head) (s : State) (hf : (f (s.head h)).scan = (s.head h).scan := by rfl) : ScanWork h s (s.modHead h f) :=
  ⟨rfl, (onlyHead_modHead h f s).2, by rw [head_modHead]; exact hf⟩

theorem foldl {α : Type} {f : State → α → State} (hf : ∀ a x, ScanWork h a (f a x)) (l : List α) (s : State) : ScanWork h s (l.foldl f s) :=
  foldl_rel (refl h) trans hf l s

theorem twin (w : Twin) (s : State) : ScanWork h s { s with twin := w } := of_heads rfl rfl

theorem emit (o : Out) (s : State) : ScanWork h s (emit o s) := of_heads rfl rfl

theorem sendFrame (n : Nat) (r : Option Nat) (b : FlumeBody) (s : State) : ScanWork h s (sendFrame n r b s) := by
  obtain ⟨o, f, k, hs⟩ := sendFrame_counts n r b s
  rw [hs]
  exact of_heads rfl rfl

theorem raiseAt (t : Time64) (c : Ev) (g : Option Nat) (p : List (Nat × Nat)) (s : State) : ScanWork h s (raiseAt t c g p s) := by
  unfold Machine.raiseAt
  split
  · exact (twin { s.twin with
        ownEvents := s.twin.ownEvents ++ [⟨t, s.seatB, s.twin.evOrder, c, g, p⟩], evOrder := s.twin.evOrder + 1 } s).trans (sendFrame ..)
  · exact of_heads rfl rfl

theorem raise (c : Ev) (p : List (Nat × Nat)) (s : State) : ScanWork h s (raise c p s) := raiseAt ..

theorem settlePins (s : State) : ScanWork h s (settlePins s) := of_heads (onlyHeads_settlePins s).onlyScan (settlePins_heads s)

theorem dropLive (s : State) : ScanWork h s (dropLive h s) := (of_modHead (fun d => { d with live := false }) s).trans (settlePins ..)

/-! ### Rows compared (R255, R256) -/

theorem holdTile (row col : Nat) (held : Option (Nat × Nat × Nat)) (tw : Bool) (s : State) : ScanWork h s (holdTile h row col held tw s) := by
  unfold Machine.holdTile
  dsimp only
  split
  · exact refl h s
  · have hcount : ScanWork h s { s with recheckN := s.recheckN + 1 } := of_heads rfl rfl
    exact hcount.trans ((of_modHead _ _).trans (dropLive ..))

theorem closeRow (row cnt : Nat) (s : State) : ScanWork h s (closeRow h row cnt s) := of_modHead _ s

theorem judgeRow (row cnt : Nat) (s : State) : ScanWork h s (judgeRow h row cnt s) := by
  unfold Machine.judgeRow
  dsimp only
  split
  · exact refl h s
  · split
    · exact (closeRow row cnt s).trans ((raise ..).trans (twin ..))
    · split
      · exact closeRow ..
      · exact refl h s
    · exact refl h s

theorem rowSkipped (row cnt : Nat) (s : State) : ScanWork h s (rowSkipped h row cnt s) := (of_modHead _ s).trans (judgeRow ..)

theorem rowMatched (row cnt : Nat) (s : State) : ScanWork h s (rowMatched h row cnt s) := by
  unfold Machine.rowMatched
  dsimp only
  refine .trans ?_ ((of_modHead _ _).trans (judgeRow ..))
  split
  · exact raise ..
  · exact refl h s

theorem rowMismatched (row cnt : Nat) (s : State) : ScanWork h s (rowMismatched h row cnt s) := by
  unfold Machine.rowMismatched
  extract_lets n d old ticks e s0 c1 w1 k1 s1 s2 w2 k2 s3 s4 s5
  have h0 : ScanWork h s s0 := raise ..
  split
  · exact (h0.trans ((closeRow row cnt s0).trans (dropLive _))).trans (twin ..)
  · have h2 : ScanWork h s s2 := (h0.trans (holdTile ..)).trans (of_modHead _ s1)
    have h3 : ScanWork h s s3 := (h2.trans (twin ..)).trans (dropLive ..)
    have h5 : ScanWork h s s5 := (h3.trans ((raise ..).trans (sendFrame ..))).trans (of_modHead _ s4)
    split
    · exact h5.trans (twin ..)
    · exact h3

theorem noteSkew (own peer : SigRecord) (s : State) : ScanWork h s (noteSkew h own peer s) := by
  unfold Machine.noteSkew
  split
  · exact twin ..
  · split
    · exact refl h s
    · exact (twin ..).trans (raise ..)

theorem compareFrame (cnt : Nat) (s : State) : ScanWork h s (compareFrame h cnt s) := by
  unfold Machine.compareFrame
  dsimp only
  split
  · refine ((of_modHead _ s).trans (noteSkew ..)).trans ((twin ..).trans (foldl (fun a r => ?_) _ _))
    split
    · exact rowMatched ..
    · exact rowSkipped ..
    · exact rowMismatched ..
  · exact refl h s

end ScanWork

theorem scanWork_sendSig (h : Fin 32) (s : State) : ScanWork h s (sendSig h s) := by
  unfold sendSig
  dsimp only
  split
  · exact (ScanWork.of_modHead _ s).trans ((ScanWork.sendFrame ..).trans (ScanWork.compareFrame ..))
  · split
    · exact ScanWork.sendFrame ..
    · exact .refl h s

namespace ScanWork
variable {h : Nat} {s t u : State}

/-! ### Fills (R211, R212) -/

theorem endFill (s : State) : ScanWork h s (endFill h s) := by
  unfold Machine.endFill
  dsimp only
  split
  · exact refl h s
  · exact (of_modHead _ s).trans (raise ..)

theorem noteLead (lead : Nat) (s : State) : ScanWork h s (noteLead h lead s) := by
  unfold Machine.noteLead
  dsimp only
  split
  · exact refl h s
  · split
    · exact ((of_modHead _ s).trans (of_modHead _ _)).trans (raise ..)
    · exact of_modHead _ s

theorem fillFrom (row x y cause : Nat) (s : State) : ScanWork h s (fillFrom h row x y cause s) := by
  unfold Machine.fillFrom
  dsimp only
  split
  · exact refl h s
  · refine .trans ?_ ((of_modHead _ _).trans (dropLive ..))
    split
    · split
      · exact refl h s
      · exact endFill s
    · exact refl h s

theorem starve (below : Nat) (s : State) : ScanWork h s (starve h below s) := by
  unfold Machine.starve
  refine foldl (fun a row => ?_) _ s
  dsimp only
  split
  · split
    · exact (noteLead 0 a).trans (fillFrom ..)
    · exact refl h a
  · exact refl h a

end ScanWork
end Sys2Proof.Machine
end

section
/-! The start of blanking (R196, R197, R199): the frame's end, and the transfer of a committed timing. -/
namespace Sys2Proof.Machine

/-! ## Transfers -/

/-- Whether nothing is to come for a head's port with its blanking. -/
def PortSettled (s : State) (h : Nat) : Prop := ∀ p : Nat, (s.head h).timing.port = some p → (s.dpPort p).pendingCfg = false

theorem portSettled_of {s t : State} {h : Nat} (hp : PortSettled s h) (htim : (t.head h).timing = (s.head h).timing) (hdp : t.dp = s.dp) :
    PortSettled t h := by
  intro p hport
  rw [htim] at hport
  exact (congrArg (fun l => (tget dpInit l p).pendingCfg) hdp).trans (hp p hport)

theorem retimeRuns_of {s t : State} {h : Nat} (htim : (t.head h).timing = (s.head h).timing) (hret : (t.head h).retime = (s.head h).retime)
    (hdp : t.dp = s.dp) : t.retimeRuns h = s.retimeRuns h := by
  unfold State.retimeRuns State.dpPort
  rw [htim, hret, hdp]

/-- Without a committed timing there is nothing to transfer. -/
theorem transferTiming_none {h : Nat} {s : State} (hp : PortSettled s h) (hs : (s.head h).shadow = none) : transferTiming h s = s := by
  unfold transferTiming
  split
  · rfl
  · extract_lets s1
    have hs1 : s1 = s := by
      simp only [s1]
      split
      next p hport => exact if_neg (by rw [hp p hport]; exact Bool.false_ne_true)
      next => rfl
    rw [hs1, hs]

/-- A committed timing is taken once the record of the frame before is done, and waits for it before (R71, R196). -/
theorem transferTiming_some {h : Nat} {s : State} {x : HeadTiming} (hp : PortSettled s h) (hr : s.retimeRuns h = false)
    (hs : (s.head h).shadow = some x) :
    transferTiming h s = if (s.head h).recDone then takeShadow h x s else s.modHead h (fun d => { d with shadowDue := true }) := by
  unfold transferTiming
  refine (if_neg (by rw [hr]; exact Bool.false_ne_true)).trans ?_
  extract_lets s1
  have hs1 : s1 = s := by
    simp only [s1]
    split
    next p hport => exact if_neg (by rw [hp p hport]; exact Bool.false_ne_true)
    next => rfl
  rw [hs1, hs]

/-! ## The end of a frame -/

/-- The frame under way on a head ends (R212, R254). -/
def frameEnded (h : Fin 32) (rows : Nat) (s : State) : State :=
  sendSig h (endFill h ((starve h rows s).modHead h (fun d => { d with inFrame := false, vblank := true })))

theorem exec_vblankStart_end {s : State} {h : Fin 32} {t : Time64} (hin : (s.head h).inFrame = true) (hat : afterLast s h 0 ≤ t) :
    exec (.vblankStart h t) s = act (fun s => transferTiming h (frameEnded h (s.head h).rows (atTime t s))) s := by
  change execVblankStart h t s = _
  unfold execVblankStart
  refine act_congr ?_
  exact (if_pos hin).trans (if_neg (Nat.not_lt_of_ge hat))

theorem frameEnded_spec (h : Fin 32) (rows : Nat) (s : State) :
    OnlyScan s (frameEnded h rows s) ∧ (∀ g : Nat, g ≠ h.val → (frameEnded h rows s).head g = s.head g)
    ∧ ((frameEnded h rows s).head h).scan = { (s.head h).scan with inFrame := false, vblank := true } := by
  unfold frameEnded
  have hfill : ScanWork h s (starve h rows s) := .starve ..
  generalize starve h rows s = u at *
  have hend := (onlyHead_modHead h (fun d => { d with inFrame := false, vblank := true }) u)
  have hhead := head_modHead h (fun d => { d with inFrame := false, vblank := true }) u
  generalize u.modHead h (fun d => { d with inFrame := false, vblank := true }) = v at *
  have hrest := (ScanWork.endFill (h := h) v).trans (scanWork_sendSig h _)
  refine ⟨(hfill.only.trans hend.1.onlyScan).trans hrest.only, fun g hg => ?_, ?_⟩
  · rw [hrest.others g hg, hend.2 g hg, hfill.others g hg]
  · rw [hrest.scan, hhead]
    change { (u.head h).scan with inFrame := false, vblank := true } = _
    rw [hfill.scan]

/-- Where every line has been composed there is none to fill. -/
theorem starve_composed {h below : Nat} {s : State} (hc : (s.head h).timing.vactive ≤ (s.head h).composed) : starve h below s = s := by
  have hstep : ∀ row : Nat, (fun (a : State) (row : Nat) =>
      let d := a.head h
      match d.frame with
      | some fi =>
        if d.inFrame && !d.blankNow && d.composed < d.timing.vactive && d.composed / 64 = row && lineDep a h fi d.composed < a.time.now then
          fillFrom h row 0 d.composed 0 (noteLead h 0 a)
        else a
      | none => a) s row = s := by
    intro row
    dsimp only
    split
    · exact if_neg (by rw [decide_eq_false (Nat.not_lt_of_ge hc), Bool.and_false]; exact Bool.false_ne_true)
    · rfl
  unfold starve
  generalize List.range (min below (s.head h).rows) = l
  induction l with
  | nil => rfl
  | cons x l ih =>
    rw [List.foldl_cons]
    exact (congrArg (fun a => List.foldl _ a l) (hstep x)).trans ih

end Sys2Proof.Machine
end

section
/-! A committed timing that a head takes (R196 to R199). -/
namespace Sys2Proof.Machine

/-- What every transfer leaves: the queue, the seat, DRAM, the configuration and the ledger; what was sent stays sent. -/
structure Transfers (s t : State) : Prop where
  keeps  : KeepsFrame s t
  cfg    : t.cfg = s.cfg
  ledger : t.ledger = s.ledger
  sends  : Extends s t

theorem Transfers.refl (s : State) : Transfers s s := ⟨⟨rfl, rfl, rfl⟩, rfl, rfl, .refl s⟩

theorem Transfers.trans {s t u : State} (h : Transfers s t) (h' : Transfers t u) : Transfers s u :=
  ⟨h.keeps.trans h'.keeps, h'.cfg.trans h.cfg, h'.ledger.trans h.ledger, h.sends.trans h'.sends⟩

theorem OnlyHeads.transfers {s t : State} (h : OnlyHeads s t) : Transfers s t :=
  ⟨h.onlyScan.keeps, h.get State.cfg, h.get State.ledger, .of_eq (h.get State.out)⟩

theorem HeadWork.transfers {p : Nat} {hs : List Nat} {s t : State} (h : HeadWork p hs s t) (ho : Extends s t) : Transfers s t :=
  ⟨h.only.keeps, h.only.get State.cfg, h.only.get State.ledger, ho⟩

theorem extends_releaseSlots (h p : Nat) (s : State) : Extends s (releaseSlots h p s) := by
  unfold releaseSlots
  dsimp only
  split
  · exact .refl s
  · split
    · exact Extends.trans (t := s.modDpPort p (fun d => { d with slots := tdel h d.slots })) ⟨[], (List.append_nil _).symm⟩ (extends_emit ..)
    · exact ⟨[], (List.append_nil _).symm⟩

theorem transfers_releaseSlots (h p : Nat) (s : State) : Transfers s (releaseSlots h p s) :=
  (releaseSlots_spec h p s).1.transfers (extends_releaseSlots h p s)

theorem transfers_askSlots (h p : Nat) (s : State) : Transfers s (askSlots h p s) := by
  unfold askSlots
  dsimp only
  split
  · exact .refl s
  · exact ⟨⟨rfl, rfl, rfl⟩, rfl, rfl, (extends_emit ..).trans (extends_emit ..)⟩

/-! ## What a retime leaves of a head -/

/-- The record of a head's frame and its committed timing. -/
def Head.record (d : Head) : Option HeadTiming × Bool × List Nat × Nat × Verdict := (d.shadow, d.recDone, d.vsum, d.vsumCnt, d.worst)

/-- A head that waits in a retime, without frames. -/
structure Waits (d : Head) : Prop where
  running : d.running = false
  live    : d.live = false
  retime  : d.retime.isSome = true

theorem enterRetime_waits (h : Nat) (own train pll port : Bool) (s : State) : Waits ((enterRetime h own train pll port s).head h) := by
  obtain ⟨-, -, hlive, hrun, -, hret⟩ := enterRetime_spec h own train pll port s
  exact ⟨hrun, hlive, hret⟩

theorem record_enterRetime (h : Nat) (own train pll port : Bool) (s : State) :
    ((enterRetime h own train pll port s).head h).record = (s.head h).record := by
  obtain ⟨px, tl, hi, hblank⟩ := head_blankHead h s
  obtain ⟨rm, rs, pr, rd, rc, ep, hset⟩ := head_settleRetime h ((blankHead h s).modHead h (fun d => d.awaiting own train pll port))
  rw [head_modHead, hblank] at hset
  rw [enterRetime_eq, hset]
  rfl

/-- What the work on a port's heads keeps of every head. -/
structure RetimesKept (s t : State) : Prop where
  only   : OnlyHeads s t
  timing : ∀ g : Nat, (t.head g).timing = (s.head g).timing
  record : ∀ g : Nat, (t.head g).record = (s.head g).record
  waits  : ∀ g : Nat, Waits (s.head g) → Waits (t.head g)

theorem RetimesKept.refl (s : State) : RetimesKept s s := ⟨.refl s, fun _ => rfl, fun _ => rfl, fun _ h => h⟩

theorem RetimesKept.trans {s t u : State} (h : RetimesKept s t) (h' : RetimesKept t u) : RetimesKept s u :=
  ⟨h.only.trans h'.only, fun g => (h'.timing g).trans (h.timing g), fun g => (h'.record g).trans (h.record g), fun g hw => h'.waits g (h.waits g hw)⟩

theorem retimesKept_enterRetime (h : Nat) (own train pll port : Bool) (s : State) : RetimesKept s (enterRetime h own train pll port s) := by
  obtain ⟨honly, -, -, -, htim, -⟩ := enterRetime_spec h own train pll port s
  have hcase : ∀ (P : Nat → Prop), P h → (∀ g, g ≠ h → P g) → ∀ g, P g := fun P hh ho g => if he : g = h then he ▸ hh else ho g he
  refine ⟨honly.1, hcase _ htim fun g hg => by rw [honly.2 g hg], hcase _ (record_enterRetime ..) fun g hg => by rw [honly.2 g hg],
    hcase _ (fun _ => enterRetime_waits ..) fun g hg hw => by rw [honly.2 g hg]; exact hw⟩

theorem retimesKept_retimePort (p : Nat) (s : State) : RetimesKept s (retimePort p s) := by
  rw [retimePort_eq]
  exact foldl_rel RetimesKept.refl RetimesKept.trans (fun a h => retimesKept_enterRetime ..) _ s

/-! ## The timing taken -/

/-- What a head that has taken a timing is. -/
structure TimingTaken (h : Nat) (x : HeadTiming) (s t : State) : Prop where
  transfers : Transfers s t
  timing    : (t.head h).timing = x
  record    : (t.head h).record = (none, true, (s.head h).vsum, (s.head h).vsumCnt, (s.head h).worst)
  running   : (t.head h).running = false
  live      : (t.head h).live = false
  retime    : x.port.isSome = true → (t.head h).retime.isSome = true

/-- A head that has released its slots. -/
def slotsFreed (h : Nat) (s : State) : State :=
  match (s.head h).timing.port with
  | some p => releaseSlots h p s
  | none => s

/-- The frames latched for a head that its new timing starts. -/
def keptFrames (x : HeadTiming) (d : Head) : List FrameIn := if x.port.isSome then refit d.timing x d.nextIn else []

/-- A head under its new timing. -/
def Head.takes (x : HeadTiming) (fifo : Nat) (d : Head) : Head :=
  { d.passBanks (d.nextIn.filter (fun fi => !(keptFrames x d).contains fi)) with
    timing := x, frame := none, nextIn := keptFrames x d, inFrame := false, vblank := true, recDone := true,
    lines := [], tiles := [], composed := 0, rechecks := [], episodes := [], lostTiles := [], fifo := fifo }

/-- A head blanked under its new timing. -/
def underTiming (h : Nat) (x : HeadTiming) (s : State) : State :=
  let s1 := blankHead h ((slotsFreed h s).modHead h (fun d => { d with shadow := none, shadowDue := false }))
  leaveFuture h (s1.modHead h (Head.takes x (if x.port.isSome then fifoSize s.grid x else 0)))

/-- What follows a new timing, by the state of its port. -/
def startTiming (h : Nat) (x : HeadTiming) (s : State) : State :=
  match x.port with
  | none => s.modHead h (fun d => { d with retime := none, running := false, enabled := false })
  | some p =>
    if (s.dpPort p).mode = 0 || (s.dpPort p).trained || (s.dpPort p).training then
      let s3 := enterRetime h true (!(s.dpPort p).trained) false ((s.dpPort p).trained && (s.dpPort p).mode == 1) s
      if (s.dpPort p).trained then askSlots h p s3 else s3
    else startTraining p 1 (enterRetime h true true false false s)

theorem takeShadow_eq (h : Nat) (x : HeadTiming) (s : State) : takeShadow h x s = startTiming h x (underTiming h x s) := rfl

theorem underTiming_spec (h : Nat) (x : HeadTiming) (s : State) :
    Transfers s (underTiming h x s) ∧ ((underTiming h x s).head h).timing = x ∧ ((underTiming h x s).head h).live = false
    ∧ ((underTiming h x s).head h).record = (none, true, (s.head h).vsum, (s.head h).vsumCnt, (s.head h).worst) := by
  have hfreed : Transfers s (slotsFreed h s) ∧ (slotsFreed h s).head h = s.head h := by
    unfold slotsFreed
    split
    · exact ⟨transfers_releaseSlots .., (releaseSlots_spec h _ s).1.others h List.not_mem_nil⟩
    · exact ⟨.refl s, rfl⟩
  unfold underTiming
  generalize hfifo : (if x.port.isSome then fifoSize s.grid x else 0) = fifo
  generalize slotsFreed h s = u at hfreed
  obtain ⟨hfirst, hhead⟩ := hfreed
  obtain ⟨px, tl, hi, hblank⟩ := head_blankHead h (u.modHead h (fun d => { d with shadow := none, shadowDue := false }))
  rw [head_modHead, hhead] at hblank
  have honly := (onlyHead_modHead h (fun d => { d with shadow := none, shadowDue := false }) u).trans (onlyHead_blankHead h _)
  dsimp only
  generalize blankHead h (u.modHead h (fun d => { d with shadow := none, shadowDue := false })) = v at *
  have hlast : Transfers v (leaveFuture h (v.modHead h (Head.takes x fifo))) := ⟨⟨rfl, rfl, rfl⟩, rfl, rfl, .refl v⟩
  have hres : (leaveFuture h (v.modHead h (Head.takes x fifo))).head h = (v.head h).takes x fifo := head_modHead h (Head.takes x fifo) v
  rw [hres, hblank]
  exact ⟨(hfirst.trans honly.1.transfers).trans hlast, rfl, rfl, rfl⟩

/-- A port that starts training for a head of its own that already waits. -/
theorem startTraining_untrained {p : Nat} {s : State} (htr : (s.dpPort p).trained = false) :
    startTraining p 1 s = retimePort p (dropLink p ((s.dpPort p).mode != 0 && !(s.dpPort p).unplugged) s) := by
  unfold startTraining
  dsimp only
  rw [htr]
  rfl

theorem startTiming_spec {h : Nat} {x : HeadTiming} {s : State} (htim : (s.head h).timing = x) (hlive : (s.head h).live = false) :
    Transfers s (startTiming h x s) ∧ ((startTiming h x s).head h).timing = x
    ∧ ((startTiming h x s).head h).record = (s.head h).record ∧ ((startTiming h x s).head h).running = false
    ∧ ((startTiming h x s).head h).live = false ∧ (x.port.isSome = true → ((startTiming h x s).head h).retime.isSome = true) := by
  unfold startTiming
  split
  next hport =>
    rw [head_modHead, hport]
    exact ⟨(onlyHead_modHead h _ s).1.transfers, htim, rfl, rfl, hlive, fun hno => absurd hno Bool.false_ne_true⟩
  next p hport =>
    have hfrom : ∀ u, RetimesKept s u → Waits (u.head h) → Transfers s u ∧ (u.head h).timing = x ∧ (u.head h).record = (s.head h).record
        ∧ (u.head h).running = false ∧ (u.head h).live = false ∧ (x.port.isSome = true → (u.head h).retime.isSome = true) :=
      fun u hk hw => ⟨hk.only.transfers, (hk.timing h).trans htim, hk.record h, hw.running, hw.live, fun _ => hw.retime⟩
    split
    next =>
      dsimp only
      have hentered := retimesKept_enterRetime h true (!(s.dpPort p).trained) false ((s.dpPort p).trained && (s.dpPort p).mode == 1) s
      have hwaits := enterRetime_waits h true (!(s.dpPort p).trained) false ((s.dpPort p).trained && (s.dpPort p).mode == 1) s
      generalize enterRetime h true (!(s.dpPort p).trained) false ((s.dpPort p).trained && (s.dpPort p).mode == 1) s = u at *
      obtain ⟨htrans, hrest⟩ := hfrom u hentered hwaits
      split
      · have hask := transfers_askSlots h p u
        obtain ⟨o, ho⟩ := askSlots_spec h p u
        refine ⟨htrans.trans hask, ?_⟩
        rw [ho]
        exact hrest
      · exact ⟨htrans, hrest⟩
    next hidle =>
      have htr : (s.dpPort p).trained = false := by
        simp only [Bool.or_eq_true, not_or, Bool.not_eq_true] at hidle
        exact hidle.1.2
      have hentered := retimesKept_enterRetime h true true false false s
      have hwaits := enterRetime_waits h true true false false s
      have hdp : (enterRetime h true true false false s).dp = s.dp := hentered.only.get State.dp
      generalize enterRetime h true true false false s = u at *
      have htr' : (u.dpPort p).trained = false := (congrArg (fun l => (tget dpInit l p).trained) hdp).trans htr
      rw [startTraining_untrained htr']
      generalize ((u.dpPort p).mode != 0 && !(u.dpPort p).unplugged) = training
      have hdrop : Transfers u (dropLink p training u) := ⟨⟨rfl, rfl, rfl⟩, rfl, rfl, .refl u⟩
      have hports := retimesKept_retimePort p (dropLink p training u)
      have hw : Waits ((retimePort p (dropLink p training u)).head h) := hports.waits h hwaits
      exact ⟨(hentered.only.transfers.trans hdrop).trans hports.only.transfers, (hports.timing h).trans ((hentered.timing h).trans htim),
        (hports.record h).trans (hentered.record h), hw.running, hw.live, fun _ => hw.retime⟩

theorem takeShadow_spec (h : Nat) (x : HeadTiming) (s : State) : TimingTaken h x s (takeShadow h x s) := by
  obtain ⟨htrans, htim, hlive, hrec⟩ := underTiming_spec h x s
  rw [takeShadow_eq]
  generalize underTiming h x s = u at *
  obtain ⟨hstart, htim', hrec', hrun, hlive', hret⟩ := startTiming_spec htim hlive
  exact ⟨htrans.trans hstart, htim', hrec'.trans hrec, hrun, hlive', hret⟩

end Sys2Proof.Machine
end

section
/-! The blanking of a head, row by row: its start (R196), the safe point (R199), and the steps of a retime (R197). -/
namespace Sys2Proof.Machine

/-! ## The start of blanking -/

/-- The live state of a head that is not of a pair, at the end of a frame whose every line was composed. -/
theorem frameEnded_live {h : Fin 32} {rows : Nat} {s : State} (hhot : s.hot = false)
    (hc : (s.head h).timing.vactive ≤ (s.head h).composed) : ((frameEnded h rows s).head h).live = (s.head h).live := by
  unfold frameEnded
  rw [starve_composed hc]
  have hlive : ((s.modHead h (fun d => { d with inFrame := false, vblank := true })).head h).live = (s.head h).live := by rw [head_modHead]
  have hhot' : (s.modHead h (fun d => { d with inFrame := false, vblank := true })).hot = false := hhot
  generalize s.modHead h (fun d => { d with inFrame := false, vblank := true }) = u at *
  have hfill : ((endFill h u).head h).live = (u.head h).live ∧ (endFill h u).hot = u.hot := by
    unfold endFill
    dsimp only
    split
    · exact ⟨rfl, rfl⟩
    · rw [head_raise, head_modHead, raise_hot]
      exact ⟨rfl, rfl⟩
  rw [← hlive, ← hfill.1]
  have hhot'' := hfill.2.trans hhot'
  generalize endFill h u = v at *
  unfold sendSig
  dsimp only
  rw [if_neg (by rw [hhot'']; exact Bool.false_ne_true)]
  split
  · exact congrArg Head.live (head_of_heads_eq (sendFrame_heads ..) h)
  · rfl

theorem vblankStart_ends (s : State) (h : Fin 32) (at' : Time64) (hin : (s.head h).inFrame = true) (hat : afterLast s h 0 ≤ at')
    (hsh : (s.head h).shadow = none) (hp : ∀ p : Nat, (s.head h).timing.port = some p → (s.dpPort p).pendingCfg = false) :
    Completes (.vblankStart h at') s (fun t =>
      (t.head h).inFrame = false ∧ (t.head h).vblank = true ∧ (t.head h).timing = (s.head h).timing
      ∧ (t.head h).running = (s.head h).running
      ∧ (s.hot = false → (s.head h).timing.vactive ≤ (s.head h).composed → (t.head h).live = (s.head h).live)
      ∧ (∀ g : Nat, g ≠ h.val → t.head g = s.head g) ∧ t.dp = s.dp) := by
  obtain ⟨honly, hothers, hscan⟩ := frameEnded_spec h (s.head h).rows (atTime at' s)
  have hlive := fun hhot hc => frameEnded_live (h := h) (rows := (s.head h).rows) (s := atTime at' s) hhot hc
  have hend : transferTiming h (frameEnded h (s.head h).rows (atTime at' s)) = frameEnded h (s.head h).rows (atTime at' s) :=
    transferTiming_none (portSettled_of (s := s) hp (congrArg Scan.timing hscan) (honly.get State.dp)) ((congrArg Scan.shadow hscan).trans hsh)
  exact completes_of_keeps (exec_vblankStart_end hin hat) _ hend honly.keeps
    ⟨congrArg Scan.inFrame hscan, congrArg Scan.vblank hscan, congrArg Scan.timing hscan, congrArg Scan.running hscan, hlive, hothers, honly.get State.dp⟩

theorem vblankStart_awaits (s : State) (h : Fin 32) (x : HeadTiming) (at' : Time64) (hin : (s.head h).inFrame = true)
    (hat : afterLast s h 0 ≤ at') (hsh : (s.head h).shadow = some x) (hrec : (s.head h).recDone = false) (hruns : s.retimeRuns h = false)
    (hp : ∀ p : Nat, (s.head h).timing.port = some p → (s.dpPort p).pendingCfg = false) :
    Completes (.vblankStart h at') s (fun t =>
      (t.head h).inFrame = false ∧ (t.head h).shadow = some x ∧ (t.head h).shadowDue = true ∧ (t.head h).timing = (s.head h).timing) := by
  obtain ⟨honly, -, hscan⟩ := frameEnded_spec h (s.head h).rows (atTime at' s)
  rw [head_atTime] at hscan
  obtain ⟨v, hv⟩ : ∃ v, v = frameEnded h (s.head h).rows (atTime at' s) := ⟨_, rfl⟩
  rw [← hv] at honly hscan
  have hdp : v.dp = s.dp := honly.get State.dp
  have htim : (v.head h).timing = (s.head h).timing := congrArg Scan.timing hscan
  have hshadow : (v.head h).shadow = some x := (congrArg Scan.shadow hscan).trans hsh
  have hrec' : (v.head h).recDone = false := (congrArg Scan.recDone hscan).trans hrec
  have hruns' : v.retimeRuns h = false := (retimeRuns_of htim (congrArg Scan.retime hscan) hdp).trans hruns
  have hin' : (v.head h).inFrame = false := congrArg Scan.inFrame hscan
  have hend : transferTiming h v = v.modHead h (fun d => { d with shadowDue := true }) :=
    (transferTiming_some (portSettled_of hp htim hdp) hruns' hshadow).trans (if_neg (by rw [hrec']; exact Bool.false_ne_true))
  refine completes_of_keeps (exec_vblankStart_end hin hat) (v.modHead h (fun d => { d with shadowDue := true })) (by rw [← hv]; exact hend) honly.keeps ?_
  rw [head_modHead]
  exact ⟨hin', hshadow, rfl, htim⟩

theorem vblankStart_takes (s : State) (h : Fin 32) (x : HeadTiming) (at' : Time64) (hin : (s.head h).inFrame = false)
    (hret : (s.head h).retime.isSome = true) (hsh : (s.head h).shadow = some x) (hrec : (s.head h).recDone = true) (hruns : s.retimeRuns h = false)
    (hp : ∀ p : Nat, (s.head h).timing.port = some p → (s.dpPort p).pendingCfg = false) :
    Completes (.vblankStart h at') s (fun t =>
      (t.head h).timing = x ∧ (t.head h).shadow = none ∧ (t.head h).running = false ∧ (t.head h).live = false
      ∧ (x.port.isSome = true → (t.head h).retime.isSome = true)) := by
  have hrun : exec (.vblankStart h at') s = act (fun s => takeShadow h x (atTime at' s)) s := by
    change execVblankStart h at' s = _
    unfold execVblankStart
    refine act_congr ?_
    refine ((if_neg (by rw [hin]; exact Bool.false_ne_true)).trans (if_pos hret)).trans ?_
    exact (transferTiming_some (s := atTime at' s) hp hruns hsh).trans (if_pos hrec)
  have htaken := takeShadow_spec h x (atTime at' s)
  exact completes_of_keeps hrun _ rfl htaken.transfers.keeps
    ⟨htaken.timing, congrArg Prod.fst htaken.record, htaken.running, htaken.live, htaken.retime⟩

theorem vblankStart_still (s : State) (h : Fin 32) (at' : Time64)
    (hno : (s.head h).inFrame = true ∧ at' < afterLast s h 0 ∨ (s.head h).inFrame = false ∧ (s.head h).retime = none) :
    Completes (.vblankStart h at') s (fun t => t = s) := by
  have hrun : exec (.vblankStart h at') s = act (fun s => s) s := by
    change execVblankStart h at' s = _
    unfold execVblankStart
    refine act_congr ?_
    rcases hno with ⟨hin, hat⟩ | ⟨hin, hret⟩
    · exact (if_pos hin).trans (if_pos hat)
    · exact (if_neg (by rw [hin]; exact Bool.false_ne_true)).trans (if_neg (by rw [hret]; exact Bool.false_ne_true))
  exact completes_of_keeps hrun s rfl ⟨rfl, rfl, rfl⟩ rfl

/-! ## The safe point -/

/-- A head disabled at its safe point. -/
def Head.stopped (d : Head) : Head :=
  { d with
    disabling := false, enabled := false, nextIn := d.nextIn.map (fun fi => { fi with on := d.reEnable.isSome }), restart := d.reEnable.isSome,
    blankNow := true, rowMatch := [], rowMissed := [], pairRows := [], rowDiverged := [], rechecks := [], episodes := [], preComposed := 0,
    preLines := [], preTiles := [], preGrey := [], preGreySrc := [] }

theorem headSafePoint_completes (s : State) (h : Fin 32) (at' : Time64) (hdis : (s.head h).disabling = true) (hin : (s.head h).inFrame = false) :
    Completes (.headSafePoint h at') s (fun t =>
      (t.head h).disabling = false ∧ (t.head h).enabled = false ∧ (t.head h).blankNow = true ∧ (t.head h).live = false
      ∧ (t.head h).timing = (s.head h).timing ∧ (t.head h).retime = (s.head h).retime
      ∧ (t.head h).nextIn = (s.head h).nextIn.map (fun fi => { fi with on := (s.head h).reEnable.isSome })
      ∧ (∀ g : Nat, g ≠ h.val → t.head g = s.head g) ∧ t.dp = s.dp ∧ t.events = s.events) := by
  have hrun : exec (.headSafePoint h at') s = act (fun s => dropLive h ((atTime at' s).modHead h Head.stopped)) s := by
    change execHeadSafePoint h at' s = _
    unfold execHeadSafePoint
    refine act_congr ?_
    exact if_neg (by rw [hdis, hin]; exact Bool.false_ne_true)
  have honly := (onlyHead_modHead h Head.stopped (atTime at' s)).trans (onlyHead_dropLive h _)
  refine completes_of_keeps hrun _ rfl honly.1.onlyScan.keeps ?_
  have hhead := head_dropLive h ((atTime at' s).modHead h Head.stopped)
  rw [head_modHead] at hhead
  rw [hhead]
  exact ⟨rfl, rfl, rfl, rfl, rfl, rfl, rfl, honly.2, honly.1.get State.dp, honly.1.get State.events⟩

/-! ## The steps of a retime -/

theorem settleRetime_heads (h : Nat) (s : State) : settleRetime h s = { s with heads := (settleRetime h s).heads } := by
  unfold settleRetime
  split
  · rfl
  · split <;> rfl

/-- A step of a head's retime that is done. -/
def Head.stepped (f : Retime → Retime) (d : Head) : Head := { d with retime := d.retime.map f }

/-- After a step of its retime nothing but the retime and what was verified before has changed of the head. -/
theorem stepRetime_spec {h : Nat} {s v : State} {r : Retime} (f : Retime → Retime) (hv : v.heads = (s.modHead h (Head.stepped f)).heads)
    (hnow : v.time.now = s.time.now) (hr : (s.head h).retime = some r) :
    ∃ rm rs pr rd rc ep, (settleRetime h v).head h = { s.head h with
      retime := some ((f r).settled s.time.now), rowMatch := rm, rowMissed := rs, pairRows := pr, rowDiverged := rd, rechecks := rc,
      episodes := ep } := by
  obtain ⟨rm, rs, pr, rd, rc, ep, hset⟩ := head_settleRetime h v
  have hhead : v.head h = (s.head h).stepped f := (head_of_heads_eq hv h).trans (head_modHead ..)
  rw [hhead, hnow] at hset
  refine ⟨rm, rs, pr, rd, rc, ep, hset.trans ?_⟩
  unfold Head.stepped
  rw [hr]
  rfl

/-- The ready instant of a retime that has one more step done. -/
theorem settled_eq (r : Retime) (t : Time64) : r.settled t = { r with
    readyT := if r.pllDone && r.portDone && r.readyT.isNone then some t else r.readyT } := by
  unfold Retime.settled
  split <;> rfl

theorem headPllLocked_completes (s : State) (h : Fin 32) (r : Retime) (at' : Time64) (hr : (s.head h).retime = some r) :
    Completes (.headPllLocked h at') s (fun t =>
      (t.head h).retime = some { r with pllDone := true, readyT := if r.portDone && r.readyT.isNone then some at' else r.readyT }
      ∧ (t.head h).timing = (s.head h).timing ∧ (t.head h).running = (s.head h).running ∧ (t.head h).inFrame = (s.head h).inFrame
      ∧ (t.head h).tiles = (s.head h).tiles ∧ (t.head h).live = (s.head h).live ∧ (t.head h).frameCnt = (s.head h).frameCnt
      ∧ (∀ g : Nat, g ≠ h.val → t.head g = s.head g) ∧ t = { s with heads := t.heads, time := { s.time with now := at' } }) := by
  have honly := (onlyHead_modHead h (Head.stepped (fun r => { r with pllDone := true })) (atTime at' s)).trans (onlyHead_settleRetime h _)
  obtain ⟨rm, rs, pr, rd, rc, ep, hset⟩ := stepRetime_spec (s := atTime at' s) (fun r => { r with pllDone := true }) rfl rfl hr
  have hframe := settleRetime_heads h ((atTime at' s).modHead h (Head.stepped (fun r => { r with pllDone := true })))
  refine completes_of_keeps (f := fun s => settleRetime h ((atTime at' s).modHead h (Head.stepped (fun r => { r with pllDone := true })))) rfl _ rfl
    honly.1.onlyScan.keeps ?_
  rw [hset]
  exact ⟨congrArg some (settled_eq ..), rfl, rfl, rfl, rfl, rfl, rfl, honly.2, hframe⟩

theorem mstAllocationDone_completes (s : State) (h : Fin 32) (r : Retime) (p : Nat) (at' : Time64) (hr : (s.head h).retime = some r)
    (hport : (s.head h).timing.port = some p) (htr : (s.dpPort p).trained = true) :
    Completes (.mstAllocationDone h at') s (fun t =>
      (t.head h).retime = some { r with portDone := true, readyT := if r.pllDone && r.readyT.isNone then some at' else r.readyT }
      ∧ (t.head h).timing = (s.head h).timing ∧ (t.head h).running = (s.head h).running ∧ (t.head h).inFrame = (s.head h).inFrame
      ∧ (t.head h).tiles = (s.head h).tiles ∧ (t.head h).live = (s.head h).live ∧ (t.head h).frameCnt = (s.head h).frameCnt
      ∧ (if (s.dpPort p).mode = 2 then tfind (t.dpPort p).slots h = some (slotsOf s h p) else t.dp = s.dp)
      ∧ (∀ q : Nat, q ≠ p → t.dpPort q = s.dpPort q) ∧ (∀ g : Nat, g ≠ h.val → t.head g = s.head g)
      ∧ t = { s with heads := t.heads, dp := t.dp, time := { s.time with now := at' } }) := by
  have hrun : exec (.mstAllocationDone h at') s
      = act (fun s => settleRetime h (takeSlots h p ((atTime at' s).modHead h (Head.stepped (fun r => { r with portDone := true }))))) s := by
    change execMstAllocationDone h at' s = _
    unfold execMstAllocationDone
    refine act_congr ?_
    rw [hport]
    exact if_neg (by rw [htr]; exact Bool.false_ne_true)
  have hmod := onlyHead_modHead h (Head.stepped (fun r => { r with portDone := true })) (atTime at' s)
  obtain ⟨hwork, hheads, hslots⟩ := takeSlots_spec h p ((atTime at' s).modHead h (Head.stepped (fun r => { r with portDone := true })))
  have hplain : (s.dpPort p).mode ≠ 2 → (takeSlots h p ((atTime at' s).modHead h (Head.stepped (fun r => { r with portDone := true })))).dp = s.dp := by
    intro hne
    unfold takeSlots
    split
    next => rfl
    next hno => exact absurd (bne_iff_ne.mpr hne) hno
  have hneed : slotsOf ((atTime at' s).modHead h (Head.stepped (fun r => { r with portDone := true }))) h p = slotsOf s h p := by
    unfold slotsOf
    rw [head_modHead]
    rfl
  have hframe : takeSlots h p ((atTime at' s).modHead h (Head.stepped (fun r => { r with portDone := true })))
      = { s with heads := ((atTime at' s).modHead h (Head.stepped (fun r => { r with portDone := true }))).heads
                 dp := (takeSlots h p ((atTime at' s).modHead h (Head.stepped (fun r => { r with portDone := true })))).dp
                 time := { s.time with now := at' } } := by
    unfold takeSlots
    split <;> rfl
  obtain ⟨v, hv⟩ : ∃ v, v = takeSlots h p ((atTime at' s).modHead h (Head.stepped (fun r => { r with portDone := true }))) := ⟨_, rfl⟩
  rw [← hv] at hwork hheads hslots hplain hframe
  have hsame := onlyHead_settleRetime h v
  have hset := settleRetime_heads h v
  have hdp : (settleRetime h v).dp = v.dp := hsame.1.get State.dp
  have hports : ∀ q, (settleRetime h v).dpPort q = v.dpPort q := fun q => congrArg (fun l => tget dpInit l q) hdp
  obtain ⟨rm, rs, pr, rd, rc, ep, hhead⟩ := stepRetime_spec (s := atTime at' s) (v := v) (fun r => { r with portDone := true }) hheads
    (congrArg (fun x => x.time.now) hframe) hr
  refine completes_of_keeps hrun (settleRetime h v) (by rw [hv]) ?_ ?_
  · exact KeepsFrame.trans (t := v) (by rw [hframe]; exact ⟨rfl, rfl, rfl⟩) hsame.1.onlyScan.keeps
  · rw [hhead]
    refine ⟨congrArg some ?_, rfl, rfl, rfl, rfl, rfl, rfl, ?_, fun q hq => ?_, fun g hg => ?_, ?_⟩
    · simp only [settled_eq, Bool.and_true]
      rfl
    · split
      next h2 =>
        rw [hports p, hslots h2, hneed]
        exact tfind_tset_same ..
      next hne => exact hdp.trans (hplain hne)
    · rw [hports q, hwork.ports q hq]
      rfl
    · rw [hsame.2 g hg, head_of_heads_eq hheads g, hmod.2 g hg]
      rfl
    · rw [hset, hframe]

end Sys2Proof.Machine
end

section
/-! The start of a head frame (R46, R80, R194, R197). -/
namespace Sys2Proof.Machine

/-- Work on one head that leaves its place in its scan and what it shows. -/
structure ShowWork (h : Nat) (s t : State) : Prop where
  scanned : ScanWork h s t
  tiles   : (t.head h).tiles = (s.head h).tiles
  live    : (t.head h).live = (s.head h).live
  blank   : (t.head h).blankNow = (s.head h).blankNow

namespace ShowWork
variable {h : Nat} {s t u : State}

theorem refl (h : Nat) (s : State) : ShowWork h s s := ⟨.refl h s, rfl, rfl, rfl⟩

theorem trans (w : ShowWork h s t) (w' : ShowWork h t u) : ShowWork h s u :=
  ⟨w.scanned.trans w'.scanned, w'.tiles.trans w.tiles, w'.live.trans w.live, w'.blank.trans w.blank⟩

/-- Work that leaves the heads. -/
theorem of_heads (honly : OnlyScan s t) (hh : t.heads = s.heads) : ShowWork h s t :=
  ⟨.of_heads honly hh, congrArg Head.tiles (head_of_heads_eq hh h), congrArg Head.live (head_of_heads_eq hh h),
    congrArg Head.blankNow (head_of_heads_eq hh h)⟩

theorem of_modHead (f : Head → Head) (s : State) (hscan : (f (s.head h)).scan = (s.head h).scan := by rfl)
    (htiles : (f (s.head h)).tiles = (s.head h).tiles := by rfl) (hlive : (f (s.head h)).live = (s.head h).live := by rfl)
    (hblank : (f (s.head h)).blankNow = (s.head h).blankNow := by rfl) : ShowWork h s (s.modHead h f) :=
  ⟨.of_modHead f s hscan, by rw [head_modHead]; exact htiles, by rw [head_modHead]; exact hlive, by rw [head_modHead]; exact hblank⟩

theorem foldl {α : Type} {f : State → α → State} (hf : ∀ a x, ShowWork h a (f a x)) (l : List α) (s : State) : ShowWork h s (l.foldl f s) :=
  foldl_rel (refl h) trans hf l s

theorem raiseAt (t : Time64) (c : Ev) (g : Option Nat) (p : List (Nat × Nat)) (s : State) : ShowWork h s (raiseAt t c g p s) :=
  of_heads (ScanWork.raiseAt (h := h) t c g p s).only (raiseAt_heads ..)

theorem raise (c : Ev) (p : List (Nat × Nat)) (s : State) : ShowWork h s (raise c p s) := raiseAt ..

theorem settlePins (s : State) : ShowWork h s (settlePins s) := of_heads (onlyHeads_settlePins s).onlyScan (settlePins_heads s)

theorem emit (o : Out) (s : State) : ShowWork h s (emit o s) := of_heads rfl rfl

theorem leaveFuture (g : Nat) (s : State) : ShowWork h s (leaveFuture g s) := of_heads rfl rfl

theorem noteFrame (cnt : Nat) (start : Time64) (black : Bool) (panes : List Nat) (s : State) :
    ShowWork h s (noteFrame h cnt start black panes s) := of_modHead _ s

theorem sendMsa (fi : FrameIn) (s : State) : ShowWork h s (sendMsa h fi s) := by
  unfold Machine.sendMsa
  dsimp only
  split
  · exact refl h s
  · split
    · exact refl h s
    · split
      · exact (emit ..).trans (emit ..)
      · exact emit ..

theorem noteFuture (fi : FrameIn) (s : State) : ShowWork h s (noteFuture h fi s) := by
  unfold Machine.noteFuture
  extract_lets seen bad s1
  have hfirst : ShowWork h s s1 := of_heads rfl rfl
  refine hfirst.trans (foldl (fun a x => ?_) bad s1)
  dsimp only
  have hsource : ∀ f : SourceRun → SourceRun, ShowWork h a (a.modSource x f) := fun f => of_heads rfl rfl
  split
  · exact (hsource _).trans (raise ..)
  · exact hsource _

theorem noteClips (fi : FrameIn) (s : State) : ShowWork h s (noteClips fi s) := by
  unfold Machine.noteClips
  refine foldl (fun a p => ?_) _ s
  have hpane : ∀ f : PaneRun → PaneRun, ShowWork h a (a.modPane p.pane f) := fun f => of_heads rfl rfl
  dsimp only
  split
  · split
    · exact (hpane _).trans (raise ..)
    · exact hpane _
  · exact refl h a

theorem noteFlip (fi : FrameIn) (s : State) : ShowWork h s (noteFlip h fi s) := by
  unfold Machine.noteFlip
  dsimp only
  split
  · exact of_modHead _ s
  · exact of_modHead _ s

theorem noteLegends (fi : FrameIn) (s : State) : ShowWork h s (noteLegends h fi s) := of_heads rfl rfl

theorem noteScans (fi : FrameIn) (s : State) : ShowWork h s (noteScans h fi s) := by
  unfold Machine.noteScans
  refine foldl (fun a p => ?_) _ s
  split
  · split
    · split
      · exact of_heads rfl rfl
      · exact refl h a
    · exact refl h a
  · exact refl h a

end ShowWork

/-! ## A frame begins -/

/-- A head whose next frame begins, with its inputs (R46, R194). -/
def Head.begins (d : Head) (fi : FrameIn) (rest : List FrameIn) (start : Nat) (blank withdrawn : Bool) : Head :=
  { d with
    nextIn := rest, frame := some fi, frameCnt := frameCntOf d.timing fi.tick fi.second, frameStart := start,
    inFrame := true, vblank := false, blankNow := blank, darkCmd := fi.dark, enabled := fi.on || d.disabling,
    blankPx := none, grey := d.preGrey, greySrc := d.preGreySrc, preGreySrc := [], colour := fi.bank.getD d.colour,
    rechecks := d.rechecks.filter (fun q => q.passed.all (· == frameCntOf d.timing fi.tick fi.second)),
    episodes := d.episodes.filter (fun e => e.ended.isNone), lostTiles := d.preLost, preLost := [],
    preGrey := [], lines := d.preLines, composed := d.preComposed, preLines := [], preComposed := 0, preTiles := [], weirSaid := d.preWeir, preWeir := false,
    recDone := false, startWd := withdrawn, fillRun := none, unread := [] }

/-- The black frame of a head that begins. -/
def Head.blacked (d : Head) : Head := { d with tiles := blackTiles d, lines := [], composed := d.timing.vactive, live := false }

/-- The evaluated frame of a head that begins. -/
def Head.evaluated (d : Head) (tiles : Table TileOut) : Head :=
  { d with tiles := tiles, live := d.live || mayRise tiles, restart := false, cnt := { d.cnt with frames := (d.cnt.frames + 1) % 2 ^ 32 } }

/-- What a frame that begins is, from its head before. -/
structure FrameBegun (h : Nat) (fi : FrameIn) (rest : List FrameIn) (start : Nat) (s t : State) : Prop where
  only   : OnlyScan s t
  others : ∀ g : Nat, g ≠ h → t.head g = s.head g
  scan   : (t.head h).scan = { (s.head h).scan with
    nextIn := rest, frame := some fi, frameCnt := frameCntOf (s.head h).timing fi.tick fi.second, frameStart := start, inFrame := true,
    vblank := false, recDone := false }
  black  : (t.head h).blankNow = true → (t.head h).live = false ∧ ∀ e ∈ (t.head h).tiles, e.2.verdict = .dark
  rises  : (t.head h).live = true → (s.head h).live = true ∨ mayRise (t.head h).tiles = true

theorem blackTiles_dark (d : Head) : ∀ e ∈ blackTiles d, e.2.verdict = .dark := by
  intro e he
  obtain ⟨i, -, rfl⟩ := List.mem_map.mp he
  rfl

/-- A head that is re-enabled says so with its first frame (R199). -/
def sayReady (h : Nat) (d : Head) (s : State) : State :=
  match d.reEnable with
  | some tag => if d.restart then raiseTag .headReady tag [(1, h)] (s.modHead h (fun d => { d with reEnable := none })) else s
  | none => s

theorem showWork_sayReady (h : Nat) (d : Head) (s : State) : ShowWork h s (sayReady h d s) := by
  unfold sayReady
  split
  · split
    · exact (ShowWork.of_modHead _ s).trans (ShowWork.raiseAt ..)
    · exact .refl h s
  · exact .refl h s

/-- What follows a black frame's start. -/
def beginBlack (h : Nat) (fi : FrameIn) (start : Nat) (s : State) : State :=
  settlePins (sendMsa h fi (noteFrame h (s.head h).frameCnt start true [] (leaveFuture h (s.modHead h Head.blacked))))

/-- What follows an evaluated frame's start. -/
def beginShown (h : Nat) (fi : FrameIn) (start : Nat) (d : Head) (tiles : Table TileOut) (s : State) : State :=
  let s2 := s.modHead h (fun d => d.evaluated tiles)
  settlePins (sendMsa h fi (sayReady h d (noteFrame h (s.head h).frameCnt start false (layerPanes s2 h fi)
    (noteScans h fi (noteLegends h fi (noteFlip h fi (noteClips fi (noteFuture h fi s2))))))))

theorem beginFrame_eq (h : Nat) (fi : FrameIn) (rest : List FrameIn) (start : Nat) (s : State) :
    beginFrame h fi rest start s =
      let s1 := s.modHead h (fun d => d.begins fi rest start (frameBlank s h fi start) (s.hot && s.twin.withdrawn))
      if frameBlank s h fi start then beginBlack h fi start s1
      else beginShown h fi start (s.head h) (mergeTiles (s.head h).preTiles (evalFrame s1 h fi)) s1 := rfl

theorem beginBlack_spec (h : Nat) (fi : FrameIn) (start : Nat) (s : State) :
    OnlyScan s (beginBlack h fi start s) ∧ (∀ g : Nat, g ≠ h → (beginBlack h fi start s).head g = s.head g)
    ∧ ((beginBlack h fi start s).head h).scan = (s.head h).scan ∧ ((beginBlack h fi start s).head h).blankNow = (s.head h).blankNow
    ∧ ((beginBlack h fi start s).head h).live = false ∧ ((beginBlack h fi start s).head h).tiles = blackTiles (s.head h) := by
  unfold beginBlack
  have hmod := onlyHead_modHead h Head.blacked s
  have hhead := head_modHead h Head.blacked s
  generalize s.modHead h Head.blacked = u at *
  have hrest : ShowWork h u (settlePins (sendMsa h fi (noteFrame h (s.head h).frameCnt start true [] (leaveFuture h u)))) :=
    (((ShowWork.leaveFuture h u).trans (.noteFrame ..)).trans (.sendMsa ..)).trans (.settlePins ..)
  rw [hrest.scanned.scan, hrest.blank, hrest.live, hrest.tiles, hhead]
  exact ⟨hmod.1.onlyScan.trans hrest.scanned.only, fun g hg => (hrest.scanned.others g hg).trans (hmod.2 g hg), rfl, rfl, rfl, rfl⟩

theorem beginShown_spec (h : Nat) (fi : FrameIn) (start : Nat) (d : Head) (tiles : Table TileOut) (s : State) :
    OnlyScan s (beginShown h fi start d tiles s) ∧ (∀ g : Nat, g ≠ h → (beginShown h fi start d tiles s).head g = s.head g)
    ∧ ((beginShown h fi start d tiles s).head h).scan = (s.head h).scan
    ∧ ((beginShown h fi start d tiles s).head h).blankNow = (s.head h).blankNow
    ∧ ((beginShown h fi start d tiles s).head h).live = ((s.head h).live || mayRise tiles)
    ∧ ((beginShown h fi start d tiles s).head h).tiles = tiles := by
  unfold beginShown
  dsimp only
  have hmod := onlyHead_modHead h (fun d => d.evaluated tiles) s
  have hhead := head_modHead h (fun d => d.evaluated tiles) s
  generalize s.modHead h (fun d => d.evaluated tiles) = u at *
  have hnotes : ShowWork h u (noteScans h fi (noteLegends h fi (noteFlip h fi (noteClips fi (noteFuture h fi u))))) :=
    (((((ShowWork.noteFuture fi u).trans (.noteClips ..)).trans (.noteFlip ..)).trans (.noteLegends ..)).trans (.noteScans ..))
  generalize noteScans h fi (noteLegends h fi (noteFlip h fi (noteClips fi (noteFuture h fi u)))) = v at *
  have hrest : ShowWork h u (settlePins (sendMsa h fi (sayReady h d (noteFrame h (s.head h).frameCnt start false (layerPanes u h fi) v)))) :=
    (((hnotes.trans (.noteFrame ..)).trans (showWork_sayReady ..)).trans (.sendMsa ..)).trans (.settlePins ..)
  rw [hrest.scanned.scan, hrest.blank, hrest.live, hrest.tiles, hhead]
  exact ⟨hmod.1.onlyScan.trans hrest.scanned.only, fun g hg => (hrest.scanned.others g hg).trans (hmod.2 g hg), rfl, rfl, rfl, rfl⟩

theorem beginFrame_spec (h : Nat) (fi : FrameIn) (rest : List FrameIn) (start : Nat) (s : State) :
    FrameBegun h fi rest start s (beginFrame h fi rest start s) := by
  rw [beginFrame_eq]
  generalize hb : frameBlank s h fi start = blank
  dsimp only
  have hmod := onlyHead_modHead h (fun d => d.begins fi rest start blank (s.hot && s.twin.withdrawn)) s
  have hhead := head_modHead h (fun d => d.begins fi rest start blank (s.hot && s.twin.withdrawn)) s
  generalize s.modHead h (fun d => d.begins fi rest start blank (s.hot && s.twin.withdrawn)) = u at *
  split
  next hblank =>
    obtain ⟨honly, hothers, hscan, -, hlive, htiles⟩ := beginBlack_spec h fi start u
    refine ⟨hmod.1.onlyScan.trans honly, fun g hg => (hothers g hg).trans (hmod.2 g hg), ?_, fun _ => ⟨hlive, ?_⟩, fun hl => ?_⟩
    · rw [hscan, hhead]
      rfl
    · rw [htiles]
      exact blackTiles_dark _
    · exact absurd (hlive.symm.trans hl) Bool.false_ne_true
  next hshown =>
    obtain ⟨honly, hothers, hscan, hnow, hlive, htiles⟩ := beginShown_spec h fi start (s.head h) (mergeTiles (s.head h).preTiles (evalFrame u h fi)) u
    refine ⟨hmod.1.onlyScan.trans honly, fun g hg => (hothers g hg).trans (hmod.2 g hg), ?_, fun hyes => ?_, fun hl => ?_⟩
    · rw [hscan, hhead]
      rfl
    · rw [hnow, hhead] at hyes
      exact absurd hyes hshown
    · rw [hlive, Bool.or_eq_true, hhead] at hl
      rw [htiles]
      exact hl

end Sys2Proof.Machine
end

section
/-! Head frames, settled: the scheduled start of a frame (R46, R194), of a head that runs or retimes (R197). -/
namespace Sys2Proof.Machine

/-- The instant at which a head's frame is scheduled to start (R46). -/
def startOf (s : State) (h : Nat) (fi : FrameIn) : Nat := (departure s.grid (s.head h).timing fi.tick fi.second 0).floor

/-- The device at the start of a head's frame. -/
def atStart (s : State) (h : Nat) (fi : FrameIn) : State := atTime (max s.time.now (startOf s h fi)) s

theorem atStart_only (s : State) (h : Nat) (fi : FrameIn) :
    KeepsFrame s (atStart s h fi) ∧ (atStart s h fi).heads = s.heads ∧ (atStart s h fi).events = s.events ∧ (atStart s h fi).cfg = s.cfg
    ∧ (atStart s h fi).ledger = s.ledger ∧ (atStart s h fi).time.now = max s.time.now (startOf s h fi) :=
  ⟨⟨rfl, rfl, rfl⟩, rfl, rfl, rfl, rfl, rfl⟩

theorem head_atStart (s : State) (h : Nat) (fi : FrameIn) (g : Nat) : (atStart s h fi).head g = s.head g := rfl

theorem exec_frameStart_runs {s : State} {h : Fin 32} {fi : FrameIn} {rest : List FrameIn} (hn : (s.head h).nextIn = fi :: rest)
    (hr : (s.head h).retime = none) (hrun : (s.head h).running = true) :
    exec (.frameStart h) s = act (fun s => beginFrame h fi rest (startOf s h fi) (atStart s h fi)) s := by
  change execFrameStart h s = _
  unfold execFrameStart
  refine act_congr ?_
  dsimp only
  rw [hn]
  dsimp only
  rw [hr]
  exact if_pos hrun

theorem frameStart_begins (s : State) (h : Fin 32) (fi : FrameIn) (rest : List FrameIn) (hn : (s.head h).nextIn = fi :: rest)
    (hr : (s.head h).retime = none) (hrun : (s.head h).running = true) :
    Completes (.frameStart h) s (fun t =>
      (t.head h).frame = some fi ∧ (t.head h).nextIn = rest ∧ (t.head h).inFrame = true
      ∧ (t.head h).frameCnt = frameCntOf (s.head h).timing fi.tick fi.second
      ∧ (t.head h).frameStart = (departure s.grid (s.head h).timing fi.tick fi.second 0).floor
      ∧ t.time.now = max s.time.now (departure s.grid (s.head h).timing fi.tick fi.second 0).floor
      ∧ ((t.head h).blankNow = true → (t.head h).live = false ∧ ∀ e ∈ (t.head h).tiles, e.2.verdict = .dark)
      ∧ ((t.head h).live = true → (s.head h).live = true ∨ mayRise (t.head h).tiles = true)
      ∧ (∀ g : Nat, g ≠ h.val → t.head g = s.head g) ∧ t.cfg = s.cfg ∧ t.ledger = s.ledger) := by
  obtain ⟨hk, -, -, hcfg, hledger, hnow⟩ := atStart_only s h fi
  have hbegun := beginFrame_spec h fi rest (startOf s h fi) (atStart s h fi)
  have hhead := head_atStart s h fi
  refine completes_of_keeps (exec_frameStart_runs hn hr hrun) (beginFrame h fi rest (startOf s h fi) (atStart s h fi)) rfl ?_ ?_
  · exact hk.trans hbegun.only.keeps
  · generalize atStart s h fi = u at *
    generalize beginFrame h fi rest (startOf s h fi) u = v at *
    have hscan := hbegun.scan
    have hrises := hbegun.rises
    rw [hhead] at hscan hrises
    exact ⟨congrArg Scan.frame hscan, congrArg Scan.nextIn hscan, congrArg Scan.inFrame hscan, congrArg Scan.frameCnt hscan,
      congrArg Scan.frameStart hscan, (hbegun.only.get (fun x => x.time.now)).trans hnow, hbegun.black, hrises,
      fun g hg => (hbegun.others g hg).trans (hhead g), (hbegun.only.get State.cfg).trans hcfg, (hbegun.only.get State.ledger).trans hledger⟩

/-! ## In a retime -/

/-- A head that only counts a frame (R194). -/
def Head.counts (d : Head) (fi : FrameIn) (rest : List FrameIn) (cnt : Nat) : Head :=
  { d.passBanks [fi] with nextIn := rest, frameCnt := cnt, enabled := fi.on }

/-- A frame that a head only counts. -/
def frameCounted (h : Nat) (fi : FrameIn) (rest : List FrameIn) (start cnt : Nat) (s : State) : State :=
  leaveFuture h (noteFrame h cnt start true [] (s.modHead h (fun d => d.counts fi rest cnt)))

theorem exec_frameStart_retimes {s : State} {h : Fin 32} {fi : FrameIn} {rest : List FrameIn} {r : Retime} (hn : (s.head h).nextIn = fi :: rest)
    (hr : (s.head h).retime = some r) :
    exec (.frameStart h) s = act (fun s => if r.endsAt fi (startOf s h fi) then beginFrame h fi rest (startOf s h fi) (endRetime h fi (atStart s h fi))
      else frameCounted h fi rest (startOf s h fi) (frameCntOf (s.head h).timing fi.tick fi.second) (atStart s h fi)) s := by
  change execFrameStart h s = _
  unfold execFrameStart
  refine act_congr ?_
  dsimp only
  rw [hn]
  dsimp only
  rw [hr]
  rfl

theorem frameCounted_spec (h : Nat) (fi : FrameIn) (rest : List FrameIn) (start cnt : Nat) (s : State) :
    OnlyScan s (frameCounted h fi rest start cnt s) ∧ (∀ g : Nat, g ≠ h → (frameCounted h fi rest start cnt s).head g = s.head g)
    ∧ ((frameCounted h fi rest start cnt s).head h).scan = { (s.head h).scan with nextIn := rest, frameCnt := cnt }
    ∧ ((frameCounted h fi rest start cnt s).head h).tiles = (s.head h).tiles
    ∧ ((frameCounted h fi rest start cnt s).head h).live = (s.head h).live ∧ (frameCounted h fi rest start cnt s).events = s.events := by
  unfold frameCounted
  have hmod := onlyHead_modHead h (fun d => d.counts fi rest cnt) s
  have hhead := head_modHead h (fun d => d.counts fi rest cnt) s
  generalize s.modHead h (fun d => d.counts fi rest cnt) = u at *
  have hnoted : ShowWork h u (leaveFuture h (noteFrame h cnt start true [] u)) := (ShowWork.noteFrame ..).trans (.leaveFuture ..)
  rw [hnoted.scanned.scan, hnoted.tiles, hnoted.live, hhead]
  exact ⟨hmod.1.onlyScan.trans hnoted.scanned.only, fun g hg => (hnoted.scanned.others g hg).trans (hmod.2 g hg), rfl, rfl, rfl, hmod.1.get State.events⟩

theorem endRetime_spec (h : Nat) (fi : FrameIn) (s : State) :
    OnlyScan s (endRetime h fi s) ∧ (∀ g : Nat, g ≠ h → (endRetime h fi s).head g = s.head g)
    ∧ ((endRetime h fi s).head h).scan = { (s.head h).scan with retime := none, running := true } := by
  unfold endRetime
  have hmod := onlyHead_modHead h (fun d => { d with retime := none, running := true }) s
  have hhead := head_modHead h (fun d => { d with retime := none, running := true }) s
  generalize s.modHead h (fun d => { d with retime := none, running := true }) = u at *
  have hraised : ScanWork h u (raise .headRetimed [(1, h), (4, frameCntOf (s.head h).timing fi.tick fi.second)] u) := .raise ..
  rw [hraised.scan, hhead]
  exact ⟨hmod.1.onlyScan.trans hraised.only, fun g hg => (hraised.others g hg).trans (hmod.2 g hg), rfl⟩

theorem frameStart_retimes (s : State) (h : Fin 32) (fi : FrameIn) (rest : List FrameIn) (r : Retime) (hn : (s.head h).nextIn = fi :: rest)
    (hr : (s.head h).retime = some r) :
    Completes (.frameStart h) s (fun t =>
      (t.head h).frameCnt = frameCntOf (s.head h).timing fi.tick fi.second ∧ (t.head h).nextIn = rest
      ∧ (∀ g : Nat, g ≠ h.val → t.head g = s.head g)
      ∧ (if r.endsAt fi (departure s.grid (s.head h).timing fi.tick fi.second 0).floor then
          (t.head h).retime = none ∧ (t.head h).running = true ∧ (t.head h).inFrame = true ∧ (t.head h).frame = some fi
        else (t.head h).retime = some r ∧ (t.head h).inFrame = (s.head h).inFrame ∧ (t.head h).tiles = (s.head h).tiles
          ∧ (t.head h).live = (s.head h).live ∧ t.events = s.events)) := by
  obtain ⟨hk, -, hevents, -⟩ := atStart_only s h fi
  have hhead := head_atStart s h fi
  have hrun := exec_frameStart_retimes hn hr
  by_cases hends : r.endsAt fi (startOf s h fi) = true
  · obtain ⟨honly, hothers, hscan⟩ := endRetime_spec h fi (atStart s h fi)
    have hbegun := beginFrame_spec h fi rest (startOf s h fi) (endRetime h fi (atStart s h fi))
    refine completes_of_keeps hrun (beginFrame h fi rest (startOf s h fi) (endRetime h fi (atStart s h fi))) (if_pos hends) ?_ ?_
    · exact hk.trans (honly.trans hbegun.only).keeps
    · generalize atStart s h fi = u at *
      generalize endRetime h fi u = w at *
      generalize beginFrame h fi rest (startOf s h fi) w = v at *
      have hfinal := hbegun.scan
      rw [hhead] at hscan
      rw [hscan, show (w.head h).timing = (s.head h).timing from congrArg Scan.timing hscan] at hfinal
      refine ⟨congrArg Scan.frameCnt hfinal, congrArg Scan.nextIn hfinal, fun g hg => (hbegun.others g hg).trans ((hothers g hg).trans (hhead g)), ?_⟩
      exact (if_pos hends).mpr ⟨congrArg Scan.retime hfinal, congrArg Scan.running hfinal, congrArg Scan.inFrame hfinal, congrArg Scan.frame hfinal⟩
  · obtain ⟨honly, hothers, hscan, htiles, hlive, hev⟩ := frameCounted_spec h fi rest (startOf s h fi)
      (frameCntOf (s.head h).timing fi.tick fi.second) (atStart s h fi)
    refine completes_of_keeps hrun _ (if_neg hends) ?_ ?_
    · exact hk.trans honly.keeps
    · generalize atStart s h fi = u at *
      generalize frameCounted h fi rest (startOf s h fi) (frameCntOf (s.head h).timing fi.tick fi.second) u = v at *
      rw [hhead] at hscan htiles hlive
      refine ⟨congrArg Scan.frameCnt hscan, congrArg Scan.nextIn hscan, fun g hg => (hothers g hg).trans (hhead g), ?_⟩
      exact (if_neg hends).mpr ⟨(congrArg Scan.retime hscan).trans hr, congrArg Scan.inFrame hscan, htiles, hlive, hev.trans hevents⟩

/-- Settles O36, row by row. -/
theorem headFrames : Obligations.HeadFrames :=
  ⟨⟨frameStart_begins, frameStart_retimes, vblankStart_ends, vblankStart_awaits, vblankStart_takes, vblankStart_still⟩,
    headSafePoint_completes, headPllLocked_completes, mstAllocationDone_completes⟩

end Sys2Proof.Machine
end

section
/-! The fill of rows that come too late (R211, R212). -/
namespace Sys2Proof.Machine

/-! ## Leads and runs -/

/-- A lead that is noted changes a head's counters of leads, and what was said of it. -/
theorem noteLead_head (h lead : Nat) (s : State) :
    ∃ m w b y, (noteLead h lead s).head h = { s.head h with
      cnt := { (s.head h).cnt with leadMin := m, weirLow := w }, weirSaid := b, sticky := (s.head h).sticky ||| y } := by
  unfold noteLead
  dsimp only
  split
  · exact ⟨_, _, _, 0, by rw [Nat.or_zero]⟩
  · split
    · rw [head_raise, head_modHead, head_modHead]
      exact ⟨_, _, _, 2 ^ 19, rfl⟩
    · rw [head_modHead]
      exact ⟨_, _, _, 0, by rw [Nat.or_zero]⟩

theorem endFill_head (h : Nat) (s : State) :
    ∃ r n, (endFill h s).head h = { s.head h with fillRun := r, cnt := { (s.head h).cnt with underflow := n } } := by
  unfold endFill
  dsimp only
  split
  · exact ⟨_, _, rfl⟩
  · rw [head_raise, head_modHead]
    exact ⟨_, _, rfl⟩

/-! ## Fills -/

/-- The tiles of a head whose row is filled. -/
def filledTiles (d : Head) (row : Nat) : Table TileOut :=
  d.tiles.map (fun e =>
    (e.1, if e.1 / d.cols = row && e.2.verdict != .dark then { e.2 with verdict := .unverified, drawn := .unverified, filled := true } else e.2))

/-- A run of filled rows that a fill does not continue ends. -/
def runEnded (h row cause : Nat) (s : State) : State :=
  match (s.head h).fillRun with
  | some (first, n, k) => if first + n = row && k = cause then s else endFill h s
  | none => s

theorem runEnded_spec (h row cause : Nat) (s : State) :
    ScanWork h s (runEnded h row cause s)
    ∧ ∃ r n, (runEnded h row cause s).head h = { s.head h with fillRun := r, cnt := { (s.head h).cnt with underflow := n } } := by
  unfold runEnded
  split
  · split
    · exact ⟨.refl h s, _, _, rfl⟩
    · exact ⟨.endFill s, endFill_head h s⟩
  · exact ⟨.refl h s, _, _, rfl⟩

/-- What a fill makes of a head (R212). -/
structure Filled (row : Nat) (d e : Head) : Prop where
  live     : e.live = false
  sticky   : e.sticky = d.sticky ||| 2 ^ 18
  composed : e.composed = max d.composed (min d.timing.vactive (64 * row + 64))
  tiles    : e.tiles = filledTiles d row
  fillRows : e.cnt.fillRows = (d.cnt.fillRows + b2n (!d.rowFilled row)) % 2 ^ 32
  blank    : e.blankNow = d.blankNow
  scan     : e.scan = d.scan

theorem fillFrom_filled {h : Nat} {s : State} {fi : FrameIn} (hf : (s.head h).frame = some fi) (row x y cause : Nat) :
    Filled row (s.head h) ((fillFrom h row x y cause s).head h) := by
  have hrun : ∃ (f : Head → Option (Nat × Nat × Nat)) (lines : List (Nat × List (BitVec 32))), fillFrom h row x y cause s = dropLive h ((runEnded h row cause s).modHead h (fun d => { d with
      lines := lines, tiles := filledTiles ((runEnded h row cause s).head h) row,
      composed := max d.composed (min ((runEnded h row cause s).head h).timing.vactive (64 * row + 64)), sticky := d.sticky ||| 2 ^ 18,
      fillRun := f d
      cnt := { d.cnt with fillRows := (d.cnt.fillRows + b2n (!((runEnded h row cause s).head h).rowFilled row)) % 2 ^ 32 } })) := by
    unfold fillFrom
    dsimp only
    rw [hf]
    exact ⟨_, _, rfl⟩
  obtain ⟨f, lines, hrun⟩ := hrun
  obtain ⟨-, r, n, hhead⟩ := runEnded_spec h row cause s
  rw [hrun, head_dropLive, head_modHead, hhead]
  exact ⟨rfl, rfl, rfl, rfl, rfl, rfl, rfl⟩

/-! ## Starved rows -/

/-- Whether a row's fill is due: its head scans a frame whose next line lies in the row and should have left. -/
def rowStarves (h : Nat) (a : State) (row : Nat) : Bool :=
  (a.head h).frame.any (fun fi => (a.head h).inFrame && !(a.head h).blankNow && (a.head h).composed < (a.head h).timing.vactive
    && (a.head h).composed / 64 = row && lineDep a h fi (a.head h).composed < a.time.now)

/-- One row of a head, filled where its fill is due. -/
def starveRow (h : Nat) (a : State) (row : Nat) : State :=
  if rowStarves h a row then fillFrom h row 0 (a.head h).composed 0 (noteLead h 0 a) else a

theorem starve_eq (h below : Nat) (s : State) : starve h below s = (List.range (min below (s.head h).rows)).foldl (starveRow h) s := by
  unfold starve
  refine congrArg (fun f => List.foldl f s _) (funext fun a => funext fun row => ?_)
  unfold starveRow rowStarves
  dsimp only
  cases (a.head h).frame <;> rfl

theorem starveRow_other {h row : Nat} {a : State} (hrow : (a.head h).composed / 64 ≠ row) : starveRow h a row = a := by
  unfold starveRow rowStarves
  cases (a.head h).frame with
  | none => exact if_neg Bool.false_ne_true
  | some fi => exact if_neg (by simp [hrow])

/-- What a row's fill is, from the head before. -/
structure RowFill (h row : Nat) (s t : State) : Prop where
  scanned  : ScanWork h s t
  live     : (t.head h).live = false
  sticky   : (t.head h).sticky.testBit 18 = true
  composed : (t.head h).composed = max (s.head h).composed (min (s.head h).timing.vactive (64 * row + 64))
  tiles    : (t.head h).tiles = filledTiles (s.head h) row
  fillRows : (t.head h).cnt.fillRows = ((s.head h).cnt.fillRows + b2n (!(s.head h).rowFilled row)) % 2 ^ 32

/-- A fill of a head's row with its lead of nothing. -/
theorem fill_rowFill {h : Nat} {s : State} {fi : FrameIn} (hf : (s.head h).frame = some fi) (row x y : Nat) :
    RowFill h row s (fillFrom h row x y 0 (noteLead h 0 s)) := by
  have hlead : ScanWork h s (noteLead h 0 s) := .noteLead 0 s
  obtain ⟨m, w, b, k, hhead⟩ := noteLead_head h 0 s
  generalize noteLead h 0 s = u at *
  have hf' : (u.head h).frame = some fi := by rw [hhead]; exact hf
  obtain ⟨hlive, hsticky, hcomp, htiles, hfill, -, -⟩ := fillFrom_filled hf' row x y 0
  rw [hhead] at hsticky hcomp htiles hfill
  refine ⟨hlead.trans (.fillFrom ..), hlive, ?_, hcomp, htiles, hfill⟩
  rw [hsticky, Nat.testBit_or, Nat.testBit_two_pow_self, Bool.or_true]

theorem starveRow_spec {h row : Nat} {a : State} :
    (rowStarves h a row = false ∧ starveRow h a row = a) ∨ RowFill h row a (starveRow h a row) := by
  unfold starveRow
  cases hgo : rowStarves h a row with
  | false => exact .inl ⟨rfl, rfl⟩
  | true =>
    refine .inr ?_
    have hframe : (a.head h).frame.isSome = true := by
      unfold rowStarves at hgo
      cases hf : (a.head h).frame with
      | none => rw [hf] at hgo; exact hgo
      | some fi => rfl
    obtain ⟨fi, hf⟩ := Option.isSome_iff_exists.mp hframe
    exact fill_rowFill hf row 0 _

/-- Rows before the one that compose has reached need no fill. -/
theorem starve_before {h below : Nat} {s : State} (hc : below ≤ (s.head h).composed / 64) : starve h below s = s := by
  rw [starve_eq]
  have hall : ∀ row ∈ List.range (min below (s.head h).rows), (s.head h).composed / 64 ≠ row := by
    intro row hrow
    have := List.mem_range.mp hrow
    omega
  generalize List.range (min below (s.head h).rows) = l at hall
  induction l with
  | nil => rfl
  | cons x l ih =>
    rw [List.foldl_cons, starveRow_other (hall x List.mem_cons_self)]
    exact ih fun row hrow => hall row (List.mem_cons_of_mem _ hrow)

/-- A tile of a row that is not looked at stays as it is. -/
theorem starve_tile {h below i : Nat} {s : State} {y : TileOut} (hi : below ≤ i / (s.head h).cols) (hy : tfind (s.head h).tiles i = some y) :
    tfind ((starve h below s).head h).tiles i = some y := by
  rw [starve_eq]
  have hall : ∀ row ∈ List.range (min below (s.head h).rows), row < below := by
    intro row hrow
    have := List.mem_range.mp hrow
    omega
  generalize List.range (min below (s.head h).rows) = l at hall
  induction l generalizing s with
  | nil => exact hy
  | cons x l ih =>
    have hx := hall x List.mem_cons_self
    have hrest := fun row hrow => hall row (List.mem_cons_of_mem _ hrow)
    rw [List.foldl_cons]
    rcases starveRow_spec (h := h) (row := x) (a := s) with ⟨-, hsame⟩ | hfill
    · rw [hsame]
      exact ih hi hy hrest
    · have hcols : ((starveRow h s x).head h).cols = (s.head h).cols := 
        hfill.scanned.get (fun x => tileCols x.timing.hactive)
      refine ih (by rw [hcols]; exact hi) ?_ hrest
      rw [hfill.tiles]
      unfold filledTiles
      rw [tfind_map, hy]
      exact congrArg some (if_neg (by simp [show ¬ i / (s.head h).cols = x by omega]))

/-- The row that compose has reached is filled, and perhaps rows after it. -/
theorem starve_fills {h below row : Nat} {s : State} (hrow : (s.head h).composed / 64 = row) (hin : row < min below (s.head h).rows)
    (hgo : rowStarves h s row = true) :
    ((starve h below s).head h).live = false ∧ ((starve h below s).head h).sticky.testBit 18 = true
    ∧ min (s.head h).timing.vactive (64 * row + 64) ≤ ((starve h below s).head h).composed := by
  rw [starve_eq]
  generalize min below (s.head h).rows = n at hin
  have main : ∀ n : Nat, (n ≤ row → (List.range n).foldl (starveRow h) s = s)
      ∧ (row < n → ((((List.range n).foldl (starveRow h) s).head h).live = false
        ∧ (((List.range n).foldl (starveRow h) s).head h).sticky.testBit 18 = true
        ∧ min (s.head h).timing.vactive (64 * row + 64) ≤ (((List.range n).foldl (starveRow h) s).head h).composed)) := by
    intro n
    induction n with
    | zero => exact ⟨fun _ => rfl, fun hno => absurd hno (Nat.not_lt_zero row)⟩
    | succ n ih =>
      obtain ⟨hsame, hdone⟩ := ih
      rw [List.range_succ, List.foldl_append, List.foldl_cons, List.foldl_nil]
      refine ⟨fun hle => ?_, fun hlt => ?_⟩
      · rw [hsame (by omega)]
        exact starveRow_other (by omega)
      · rcases Nat.lt_or_eq_of_le (Nat.le_of_lt_succ hlt) with hbefore | rfl
        · obtain ⟨hlive, hsticky, hcomp⟩ := hdone hbefore
          rcases starveRow_spec (h := h) (row := n) (a := (List.range n).foldl (starveRow h) s) with ⟨-, hstill⟩ | hfill
          · rw [hstill]
            exact ⟨hlive, hsticky, hcomp⟩
          · exact ⟨hfill.live, hfill.sticky, by rw [hfill.composed]; exact Nat.le_trans hcomp (Nat.le_max_left ..)⟩
        · rw [hsame (Nat.le_refl _)]
          rcases starveRow_spec (h := h) (row := row) (a := s) with ⟨hno, -⟩ | hfill
          · exact absurd (hgo.symm.trans hno) Bool.noConfusion
          · exact ⟨hfill.live, hfill.sticky, by rw [hfill.composed]; exact Nat.le_max_right ..⟩
  exact (main n).2 hin

end Sys2Proof.Machine
end

section
/-! Lines composed (R172, R181, R210): what composing a line leaves, and the line that it adds. -/
namespace Sys2Proof.Machine

/-- Two states differ at most in what work on a head's frames touches, and in the ledger. -/
def OnlyLine (s t : State) : Prop :=
  t = { s with
    out := t.out, cmd := { s.cmd with irqCause := t.cmd.irqCause }, events := t.events, ledger := t.ledger, heads := t.heads,
    pins := { s.pins with live := t.pins.live }, twin := t.twin, recheckN := t.recheckN }

theorem OnlyLine.refl (s : State) : OnlyLine s s := rfl

theorem OnlyLine.trans {s t u : State} (h : OnlyLine s t) (h' : OnlyLine t u) : OnlyLine s u := by
  unfold OnlyLine at *; rw [h', h]

theorem OnlyLine.get {β : Type} (p : State → β) {s t : State} (h : OnlyLine s t) :
    p t = p { s with
      out := t.out, cmd := { s.cmd with irqCause := t.cmd.irqCause }, events := t.events, ledger := t.ledger, heads := t.heads,
      pins := { s.pins with live := t.pins.live }, twin := t.twin, recheckN := t.recheckN } := congrArg p h

theorem OnlyHeads.onlyLine {s t : State} (h : OnlyHeads s t) : OnlyLine s t := by
  unfold OnlyHeads OnlyLine at *; rw [h]

/-- Work on a head that leaves the lines in its FIFO. -/
structure LineWork (h : Nat) (s t : State) : Prop where
  only     : OnlyLine s t
  lines    : (t.head h).lines = (s.head h).lines
  composed : (t.head h).composed = (s.head h).composed

namespace LineWork
variable {h : Nat} {s t u : State}

theorem refl (h : Nat) (s : State) : LineWork h s s := ⟨.refl s, rfl, rfl⟩

theorem trans (w : LineWork h s t) (w' : LineWork h t u) : LineWork h s u :=
  ⟨w.only.trans w'.only, w'.lines.trans w.lines, w'.composed.trans w.composed⟩

/-- Work that leaves the heads. -/
theorem of_heads (honly : OnlyLine s t) (hh : t.heads = s.heads) : LineWork h s t :=
  ⟨honly, congrArg Head.lines (head_of_heads_eq hh h), congrArg Head.composed (head_of_heads_eq hh h)⟩

theorem of_modHead (f : Head → Head) (s : State) (hl : (f (s.head h)).lines = (s.head h).lines := by rfl)
    (hc : (f (s.head h)).composed = (s.head h).composed := by rfl) : LineWork h s (s.modHead h f) :=
  ⟨rfl, by rw [head_modHead]; exact hl, by rw [head_modHead]; exact hc⟩

theorem foldl {α : Type} {f : State → α → State} (hf : ∀ a x, LineWork h a (f a x)) (l : List α) (s : State) : LineWork h s (l.foldl f s) :=
  foldl_rel (refl h) trans hf l s

theorem sendFrame (n : Nat) (r : Option Nat) (b : FlumeBody) (s : State) : LineWork h s (sendFrame n r b s) := by
  obtain ⟨o, f, k, hs⟩ := sendFrame_counts n r b s
  rw [hs]
  exact of_heads rfl rfl

theorem raise (c : Ev) (p : List (Nat × Nat)) (s : State) : LineWork h s (raise c p s) := by
  unfold Machine.raise Machine.raiseAt
  split
  · exact .trans (t := { s with twin := { s.twin with
        ownEvents := s.twin.ownEvents ++ [⟨s.time.now, s.seatB, s.twin.evOrder, c, none, p⟩], evOrder := s.twin.evOrder + 1 } })
      (of_heads rfl rfl) (sendFrame ..)
  · exact of_heads rfl rfl

theorem settlePins (s : State) : LineWork h s (settlePins s) := of_heads (onlyHeads_settlePins s).onlyLine (settlePins_heads s)

theorem dropLive (s : State) : LineWork h s (dropLive h s) := (of_modHead (fun d => { d with live := false }) s).trans (settlePins ..)

theorem ledger (l : Table Slot) (s : State) : LineWork h s { s with ledger := l } := of_heads rfl rfl

theorem noteLead (lead : Nat) (s : State) : LineWork h s (noteLead h lead s) := by
  unfold Machine.noteLead
  dsimp only
  split
  · exact refl h s
  · split
    · exact ((of_modHead _ s).trans (of_modHead _ _)).trans (raise ..)
    · exact of_modHead _ s

/-! ### Data that was lost -/

theorem unverifyTiles (tiles : List Nat) (s : State) : LineWork h s (unverifyTiles h tiles s) := by
  unfold Machine.unverifyTiles
  dsimp only
  split
  · exact (of_modHead _ s).trans (dropLive ..)
  · exact of_modHead _ s

theorem takeLost (tiles : List Nat) (s : State) : LineWork h s (takeLost h tiles s) := (of_modHead _ s).trans (unverifyTiles ..)

theorem faultTiles (src k : Nat) (s : State) : LineWork h s (faultTiles src k h s) := by
  unfold Machine.faultTiles
  split
  · dsimp only
    split
    · exact refl h s
    · exact unverifyTiles ..
  · exact refl h s

theorem ledgerFault (src k : Nat) (s : State) : LineWork h s (ledgerFault src k [h] s) := by
  unfold Machine.ledgerFault
  split
  · exact refl h s
  · rw [List.foldl_cons, List.foldl_nil]
    exact (ledger _ s).trans ((raise ..).trans (faultTiles ..))

/-! ### Tiles of host buffers -/

theorem holdTile (row col : Nat) (held : Option (Nat × Nat × Nat)) (tw : Bool) (s : State) : LineWork h s (holdTile h row col held tw s) := by
  unfold Machine.holdTile
  dsimp only
  split
  · exact refl h s
  · have hcount : LineWork h s { s with recheckN := s.recheckN + 1 } := of_heads rfl rfl
    exact hcount.trans ((of_modHead _ _).trans (dropLive ..))

theorem signTile (fi : FrameIn) (p : PaneIn) (row col : Nat) (s : State) : LineWork h s (signTile h fi p row col s) := by
  unfold Machine.signTile
  split
  · dsimp only
    split
    · split
      · exact ledger _ s
      · split
        · exact (ledger _ s).trans (of_modHead _ _)
        · exact ((ledger _ s).trans (raise ..)).trans (foldl (fun a t => (holdTile ..).trans (dropLive ..)) _ _)
    · exact refl h s
  · exact refl h s

theorem signLine (fi : FrameIn) (y : Nat) (s : State) : LineWork h s (signLine h fi y s) := by
  unfold Machine.signLine
  exact foldl (fun a p => foldl (fun b q => signTile ..) _ a) _ s

end LineWork

/-! ## A line made -/

/-- A head with a line more. -/
def Head.withLine (d : Head) (y : Nat) (words : List (BitVec 32)) : Head := { d with lines := d.lines ++ [(y, words)], composed := y + 1 }

/-- What has been found lost before a line is drawn (R68, R313). -/
def lineLosses (h y : Nat) (lost : List LostData) (s : State) : State :=
  lost.foldl (fun a x => match x with | .ledger src k => ledgerFault src k [h] a | _ => a)
    (if y = 0 then s else noteLead h ((s.lead h).getD 0) s)

/-- The tiles of a row judged with its first line. -/
def lineTiles (h y : Nat) (fi : FrameIn) (s : State) : State :=
  if y % 64 = 0 then
    s.modHead h (fun d => { d with tiles :=
      (d.tiles.filter (fun e => e.1 / d.cols != y / 64)) ++ evalRows s h fi [y / 64] })
  else s

/-- What a line's lost data do to its head. -/
def lineEffects (h y : Nat) (fi : FrameIn) (lost : List LostData) (s : State) : State :=
  let eff := lost.map (lostEffect s h fi y)
  (takeLost h (eff.flatMap (fun e => e.2)) s).modHead h (fun d => { d with
    greySrc := dedup (d.greySrc ++ eff.flatMap (fun e => e.1))
    grey := lost.filterMap (fun x => match x with | .lineBuffer pane => some (pane, y, y) | _ => none) ++ d.grey })

/-- The words of a line as they are drawn. -/
def lineWords (h y : Nat) (fi : FrameIn) (s : State) : List (BitVec 32) :=
  drawLine ((s.head h).greySrc.foldl (fun a q => greyTile a q.1 q.2.1 q.2.2) s) h fi (s.head h).tiles y

/-- The fetches and the lead with a line in the FIFO. -/
def lineSigned (h y : Nat) (fi : FrameIn) (s : State) : State :=
  if y = 0 then noteLead h (((signLine h fi y s).lead h).getD 0) (signLine h fi y s) else signLine h fi y s

/-- The device at the instant at which a line is begun (R210). -/
def lineInstant (s : State) (h : Nat) (fi : FrameIn) (y : Nat) : Time64 :=
  max s.time.now (lineDep s h fi y - composeLead s fi (lineDep s h fi y))

/-- All that goes before the line's words. -/
def lineReady (h y : Nat) (fi : FrameIn) (lost : List LostData) (s : State) : State :=
  lineEffects h y fi lost (lineTiles h y fi (lineLosses h y lost (atTime (lineInstant s h fi y) s)))

theorem makeLine_eq (h : Nat) (fi : FrameIn) (y : Nat) (lost : List LostData) (s : State) :
    makeLine h fi y lost s = lineSigned h y fi ((lineReady h y fi lost s).modHead h
      (fun d => d.withLine y (lineWords h y fi (lineReady h y fi lost s)))) := rfl

theorem lineWork_losses (h y : Nat) (lost : List LostData) (s : State) : LineWork h s (lineLosses h y lost s) := by
  unfold lineLosses
  refine .trans (t := if y = 0 then s else noteLead h ((s.lead h).getD 0) s) ?_ (.foldl (fun a x => ?_) _ _)
  · split
    · exact .refl h s
    · exact .noteLead ..
  · split
    · exact .ledgerFault ..
    · exact .refl h a

theorem lineWork_tiles (h y : Nat) (fi : FrameIn) (s : State) : LineWork h s (lineTiles h y fi s) := by
  unfold lineTiles
  split
  · exact .of_modHead _ s
  · exact .refl h s

theorem lineWork_effects (h y : Nat) (fi : FrameIn) (lost : List LostData) (s : State) : LineWork h s (lineEffects h y fi lost s) := by
  unfold lineEffects
  exact (LineWork.takeLost ..).trans (.of_modHead _ _)

theorem lineWork_signed (h y : Nat) (fi : FrameIn) (s : State) : LineWork h s (lineSigned h y fi s) := by
  unfold lineSigned
  split
  · exact (LineWork.signLine ..).trans (.noteLead ..)
  · exact .signLine ..

/-- A line is added to the head's, at its instant, and what a line leaves is left. -/
theorem makeLine_spec (h : Nat) (fi : FrameIn) (y : Nat) (lost : List LostData) (s : State) :
    OnlyLine (atTime (lineInstant s h fi y) s) (makeLine h fi y lost s)
    ∧ (∃ w, ((makeLine h fi y lost s).head h).lines = (s.head h).lines ++ [(y, w)])
    ∧ ((makeLine h fi y lost s).head h).composed = y + 1 := by
  rw [makeLine_eq]
  have hready : LineWork h (atTime (lineInstant s h fi y) s) (lineReady h y fi lost s) :=
    ((lineWork_losses h y lost _).trans (lineWork_tiles ..)).trans (lineWork_effects ..)
  have hlines0 : ((atTime (lineInstant s h fi y) s).head h).lines = (s.head h).lines := rfl
  generalize atTime (lineInstant s h fi y) s = s1 at *
  generalize lineReady h y fi lost s = u at *
  generalize lineWords h y fi u = words
  have hmod : OnlyLine u (u.modHead h (fun d => d.withLine y words)) := rfl
  have hhead := head_modHead h (fun d => d.withLine y words) u
  generalize u.modHead h (fun d => d.withLine y words) = v at *
  have hsign := lineWork_signed h y fi v
  refine ⟨(hready.only.trans hmod).trans hsign.only, ⟨words, ?_⟩, ?_⟩
  · rw [hsign.lines, hhead, ← hlines0, ← hready.lines]
    rfl
  · rw [hsign.composed, hhead]
    rfl

end Sys2Proof.Machine
end

section
/-! Compose of a line (R197, R210, R212). -/
namespace Sys2Proof.Machine

/-! ## The frame under way -/

/-- A head scans a frame with lines to come. -/
structure Composes (s : State) (h : Nat) (fi : FrameIn) : Prop where
  alive   : s.alive = true
  running : (s.head h).running = true
  inFrame : (s.head h).inFrame = true
  frame   : (s.head h).frame = some fi
  shown   : (s.head h).blankNow = false
  lines   : (s.head h).composed < (s.head h).timing.vactive

theorem exec_lineCompose {s : State} {h : Fin 32} {fi : FrameIn} {y : Nat} {lost : List LostData} (hc : Composes s h fi)
    (hy : y = (s.head h).composed) :
    exec (.lineCompose h y lost) s = act (fun s =>
      if lineDep s h fi y < s.time.now then starve h (s.head h).rows s else makeLine h fi y lost s) s := by
  change execLineCompose h y lost s = _
  unfold execLineCompose
  refine act_congr ?_
  have hlive : ¬ (!s.alive) = true := by rw [hc.alive]; exact Bool.false_ne_true
  have hgo : ((s.head h).running && (s.head h).inFrame && decide ((s.head h).composed < (s.head h).timing.vactive)) = true := by
    rw [hc.running, hc.inFrame, decide_eq_true hc.lines]
    rfl
  have hline : ¬ ((s.head h).blankNow || y != (s.head h).composed) = true := by
    rw [hc.shown, hy, bne_self_eq_false]
    exact Bool.false_ne_true
  refine ((if_neg hlive).trans (if_pos hgo)).trans ?_
  rw [hc.frame]
  exact if_neg hline

theorem lineCompose_makes (s : State) (h : Fin 32) (fi : FrameIn) (lost : List LostData) (halive : s.alive = true)
    (hrun : (s.head h).running = true) (hin : (s.head h).inFrame = true) (hf : (s.head h).frame = some fi)
    (hshown : (s.head h).blankNow = false) (hc : (s.head h).composed < (s.head h).timing.vactive)
    (hnow : s.time.now ≤ lineDep s h fi (s.head h).composed) :
    Completes (.lineCompose h (s.head h).composed lost) s (fun t =>
      (t.head h).composed = (s.head h).composed + 1
      ∧ (∃ w, (t.head h).lines = (s.head h).lines ++ [((s.head h).composed, w)])
      ∧ (∀ dep : Nat, dep = lineDep s h fi (s.head h).composed → t.time.now = max s.time.now (dep - composeLead s fi dep))
      ∧ t.cfg = s.cfg ∧ t.dram = s.dram) := by
  generalize hy : (s.head h).composed = y at hnow
  obtain ⟨honly, hlines, hcomp⟩ := makeLine_spec h fi y lost s
  have hrun' := exec_lineCompose (lost := lost) ⟨halive, hrun, hin, hf, hshown, hc⟩ hy.symm
  refine completes_of_keeps hrun' _ (if_neg (Nat.not_lt_of_ge hnow)) ⟨honly.get State.pending, honly.get State.seatB, honly.get State.dram⟩
    ⟨hcomp, hlines, fun dep hdep => ?_, honly.get State.cfg, honly.get State.dram⟩
  rw [hdep]
  exact honly.get (fun x => x.time.now)

theorem ceilDiv_rows {c v : Nat} (h : c < v) : c / 64 < ceilDiv v 64 := by
  unfold ceilDiv
  omega

theorem lineCompose_starves (s : State) (h : Fin 32) (fi : FrameIn) (lost : List LostData) (halive : s.alive = true)
    (hrun : (s.head h).running = true) (hin : (s.head h).inFrame = true) (hf : (s.head h).frame = some fi)
    (hshown : (s.head h).blankNow = false) (hc : (s.head h).composed < (s.head h).timing.vactive)
    (hlate : lineDep s h fi (s.head h).composed < s.time.now) :
    Completes (.lineCompose h (s.head h).composed lost) s (fun t =>
      (t.head h).live = false ∧ (t.head h).sticky.testBit 18 = true ∧ t.time = s.time
      ∧ min (s.head h).timing.vactive (64 * ((s.head h).composed / 64) + 64) ≤ (t.head h).composed
      ∧ (∀ g : Nat, g ≠ h.val → t.head g = s.head g) ∧ t.ledger = s.ledger ∧ t.cfg = s.cfg ∧ t.dram = s.dram) := by
  have hrows : (s.head h).composed / 64 < min (s.head h).rows (s.head h).rows := by
    rw [Nat.min_self]
    exact ceilDiv_rows hc
  have hgo : rowStarves h s ((s.head h).composed / 64) = true := by
    unfold rowStarves
    rw [hf]
    change ((s.head h).inFrame && !(s.head h).blankNow && decide ((s.head h).composed < (s.head h).timing.vactive)
      && decide ((s.head h).composed / 64 = (s.head h).composed / 64) && decide (lineDep s h fi (s.head h).composed < s.time.now)) = true
    rw [hin, hshown, decide_eq_true hc, decide_eq_true rfl, decide_eq_true hlate]
    rfl
  obtain ⟨hlive, hsticky, hcomp⟩ := starve_fills rfl hrows hgo
  have hwork : ScanWork h s (starve h (s.head h).rows s) := .starve ..
  have hrun' := exec_lineCompose (lost := lost) ⟨halive, hrun, hin, hf, hshown, hc⟩ rfl
  exact completes_of_keeps hrun' _ (if_pos hlate) hwork.only.keeps
    ⟨hlive, hsticky, hwork.only.get State.time, hcomp, hwork.others, hwork.only.get State.ledger, hwork.only.get State.cfg, hwork.only.get State.dram⟩

/-! ## The next frame, ahead of its start -/

/-- The next frame's line composed, the head's frame under way set aside. -/
def composeAhead (h : Nat) (fi : FrameIn) (y : Nat) (lost : List LostData) (s : State) : State :=
  let s0 := s.modHead h (fun d => d.ahead fi)
  let s1 := if y = 0 then s0.modHead h (fun d => { d with tiles := evalFrame s0 h fi }) else s0
  (makeLine h fi y lost s1).modHead h (fun e => e.back (s.head h))

theorem composeAhead_spec (h : Nat) (fi : FrameIn) (y : Nat) (lost : List LostData) (s : State) :
    KeepsFrame s (composeAhead h fi y lost s) ∧ (composeAhead h fi y lost s).cfg = s.cfg
    ∧ ∃ (e : Head) (w : List (BitVec 32)), (composeAhead h fi y lost s).head h = e.back (s.head h) ∧ e.composed = y + 1 ∧ e.lines = (s.head h).preLines ++ [(y, w)] := by
  unfold composeAhead
  dsimp only
  have hfirst : OnlyHeads s (s.modHead h (fun d => d.ahead fi)) := rfl
  have hhead := head_modHead h (fun d => d.ahead fi) s
  generalize s.modHead h (fun d => d.ahead fi) = s0 at *
  have hsecond : LineWork h s0 (if y = 0 then s0.modHead h (fun d => { d with tiles := evalFrame s0 h fi }) else s0) := by
    split
    · exact .of_modHead _ s0
    · exact .refl h s0
  generalize (if y = 0 then s0.modHead h (fun d => { d with tiles := evalFrame s0 h fi }) else s0) = s1 at *
  obtain ⟨honly, ⟨w, hlines⟩, hcomp⟩ := makeLine_spec h fi y lost s1
  have hmade : KeepsFrame s1 (makeLine h fi y lost s1) ∧ (makeLine h fi y lost s1).cfg = s1.cfg :=
    ⟨⟨honly.get State.pending, honly.get State.seatB, honly.get State.dram⟩, honly.get State.cfg⟩
  have hbefore : KeepsFrame s s1 ∧ s1.cfg = s.cfg :=
    have h' := hfirst.onlyLine.trans hsecond.only
    ⟨⟨h'.get State.pending, h'.get State.seatB, h'.get State.dram⟩, h'.get State.cfg⟩
  generalize makeLine h fi y lost s1 = u at *
  refine ⟨hbefore.1.trans (hmade.1.trans ⟨rfl, rfl, rfl⟩), hmade.2.trans hbefore.2, u.head h, w, head_modHead .., hcomp, ?_⟩
  rw [hlines, hsecond.lines, hhead]
  rfl

theorem lineCompose_ahead (s : State) (h : Fin 32) (fi : FrameIn) (rest : List FrameIn) (lost : List LostData) (halive : s.alive = true)
    (hidle : (s.head h).inFrame = false ∨ (s.head h).timing.vactive ≤ (s.head h).composed) (hn : (s.head h).nextIn = fi :: rest)
    (hcomes : (match (s.head h).retime with
      | some r => r.endsAt fi (departure s.grid (s.head h).timing fi.tick fi.second 0).floor
      | none => (s.head h).running) = true)
    (hshown : frameBlank s h fi (departure s.grid (s.head h).timing fi.tick fi.second 0).floor = false)
    (hy : (s.head h).preComposed < (s.head h).timing.vactive) :
    Completes (.lineCompose h (s.head h).preComposed lost) s (fun t =>
      (t.head h).preComposed = (s.head h).preComposed + 1
      ∧ (∃ w, (t.head h).preLines = (s.head h).preLines ++ [((s.head h).preComposed, w)])
      ∧ (t.head h).frame = (s.head h).frame ∧ (t.head h).tiles = (s.head h).tiles ∧ (t.head h).lines = (s.head h).lines
      ∧ (t.head h).composed = (s.head h).composed ∧ t.cfg = s.cfg ∧ t.dram = s.dram) := by
  have hrun : exec (.lineCompose h (s.head h).preComposed lost) s
      = act (fun s' => composeAhead h fi (s.head h).preComposed lost s') s := by
    change execLineCompose h (s.head h).preComposed lost s = _
    unfold execLineCompose
    refine act_congr ?_
    have hlive : ¬ (!s.alive) = true := by rw [halive]; exact Bool.false_ne_true
    have hgo : ¬ ((s.head h).running && (s.head h).inFrame && decide ((s.head h).composed < (s.head h).timing.vactive)) = true := by
      rcases hidle with hin | hc
      · rw [hin, Bool.and_false, Bool.false_and]
        exact Bool.false_ne_true
      · rw [decide_eq_false (Nat.not_lt_of_ge hc), Bool.and_false]
        exact Bool.false_ne_true
    refine ((if_neg hlive).trans (if_neg hgo)).trans ?_
    rw [hn]
    refine if_neg ?_
    rw [hshown, bne_self_eq_false, decide_eq_false (Nat.not_le_of_gt hy), Bool.or_false, Bool.or_false, Bool.or_false, Bool.not_eq_true']
    intro hno
    exact absurd (hcomes.symm.trans hno) Bool.noConfusion
  obtain ⟨hk, hcfg, e, w, hhead, hcomp, hlines⟩ := composeAhead_spec h fi (s.head h).preComposed lost s
  have hdram := hk.2.2
  refine completes_of_keeps hrun (composeAhead h fi (s.head h).preComposed lost s) rfl hk ?_
  rw [hhead]
  exact ⟨hcomp, ⟨w, hlines⟩, rfl, rfl, rfl, rfl, hcfg, hdram⟩

end Sys2Proof.Machine
end

section
/-! The departure of a tile (R80, R212). -/
namespace Sys2Proof.Machine

/-- A tile that leaves: it is of the frame that its head scans, and has not left. -/
structure Leaves (s : State) (p : TilePos) (fi : FrameIn) (x : TileOut) : Prop where
  frame   : (s.head p.head).frame = some fi
  inFrame : (s.head p.head).inFrame = true
  tile    : tfind (s.head p.head).tiles (p.row * (s.head p.head).cols + p.col) = some x
  col     : p.col < (s.head p.head).cols
  fresh   : x.departed = false
  whole   : x.filled = false
  shown   : x.verdict ≠ .dark
  lit     : (s.head p.head).blankNow = false

/-- The device as a tile leaves, with what came too late before it. -/
def departing (s : State) (p : TilePos) (fi : FrameIn) : State :=
  starve p.head p.row (atTime (max s.time.now (tileDep s p.head fi p.row p.col).floor) s)

/-- The tiles of a head of which one has left. -/
def leftTiles (i : Nat) (t : Table TileOut) : Table TileOut := t.map (fun e => (e.1, if e.1 = i then { e.2 with departed := true } else e.2))

/-- A tile has left: it lets the live state fall where it is guarded and not LIVE, or has lost its data. -/
def tileLeft (h i : Nat) (x : TileOut) (s : State) : State :=
  let s2 := s.modHead h (fun d => { d with tiles := leftTiles i d.tiles })
  let y := tget x (s2.head h).tiles i
  if y.verdict != .dark && ((y.guarded && y.verdict != .live) || (s2.head h).lostTiles.contains i) then dropLive h s2 else s2

/-- What a tile's departure does to its row. -/
def rowLeaves (p : TilePos) (missing : Bool) (d : Head) (s : State) : State :=
  if missing || d.composed ≤ 64 * p.row then fillFrom p.head p.row (64 * p.col) (64 * p.row) 0 (noteLead p.head 0 s)
  else if p.col = 0 then execTileDeparture.endFillAt p.row p.head s else s

theorem exec_tileDeparture {s : State} {p : TilePos} {missing : Bool} {fi : FrameIn} {x : TileOut} (h : Leaves s p fi x) :
    exec (.tileDeparture p missing) s = act (fun s =>
      tileLeft p.head (p.row * (s.head p.head).cols + p.col) x (rowLeaves p missing (s.head p.head) (departing s p fi))) s := by
  change execTileDeparture p missing s = _
  unfold execTileDeparture
  refine act_congr ?_
  have hgo : ¬ (!(s.head p.head).inFrame || decide (p.col ≥ (s.head p.head).cols) || x.departed) = true := by
    rw [h.inFrame, decide_eq_false (Nat.not_le_of_gt h.col), h.fresh]
    exact Bool.false_ne_true
  have hlit : ¬ (x.filled || x.verdict == .dark || (s.head p.head).blankNow) = true := by
    rw [h.whole, beq_false_of_ne h.shown, h.lit]
    exact Bool.false_ne_true
  dsimp only
  rw [h.frame, h.tile]
  refine (if_neg hgo).trans ?_
  rw [if_neg hlit]
  rfl

theorem tfind_leftTiles (i j : Nat) (t : Table TileOut) :
    tfind (leftTiles i t) j = (tfind t j).map (fun x => if j = i then { x with departed := true } else x) := tfind_map _ t j

theorem tileLeft_spec (h i : Nat) (x : TileOut) (s : State) :
    ScanWork h s (tileLeft h i x s)
    ∧ ∃ l, (tileLeft h i x s).head h = { s.head h with tiles := leftTiles i (s.head h).tiles, live := l } ∧ (l = true → (s.head h).live = true) := by
  unfold tileLeft
  dsimp only
  have hmod : ScanWork h s (s.modHead h (fun d => { d with tiles := leftTiles i d.tiles })) := .of_modHead _ s
  have hhead := head_modHead h (fun d => { d with tiles := leftTiles i d.tiles }) s
  generalize s.modHead h (fun d => { d with tiles := leftTiles i d.tiles }) = u at *
  split
  · refine ⟨hmod.trans (.dropLive u), false, ?_, fun hno => absurd hno Bool.false_ne_true⟩
    rw [head_dropLive, hhead]
  · exact ⟨hmod, (s.head h).live, hhead, id⟩

theorem tget_of_tfind {α : Type} {d v : α} {t : Table α} {i : Nat} (h : tfind t i = some v) : tget d t i = v := by
  induction t with
  | nil => exact nomatch h
  | cons e t ih =>
    simp only [tfind] at h
    simp only [tget]
    split at h
    next he => rw [if_pos he]; exact Option.some.inj h
    next he => rw [if_neg he]; exact ih h

theorem tileLeft_whole {h i : Nat} {x : TileOut} {s : State} (hx : tfind (s.head h).tiles i = some x) (hdark : x.verdict ≠ .dark) :
    OnlyHead h s (tileLeft h i x s)
    ∧ (tileLeft h i x s).head h = { s.head h with
      tiles := leftTiles i (s.head h).tiles
      live := (s.head h).live && !((x.guarded && x.verdict != .live) || (s.head h).lostTiles.contains i) } := by
  unfold tileLeft
  dsimp only
  have hmod := onlyHead_modHead h (fun d => { d with tiles := leftTiles i d.tiles }) s
  have hhead := head_modHead h (fun d => { d with tiles := leftTiles i d.tiles }) s
  generalize s.modHead h (fun d => { d with tiles := leftTiles i d.tiles }) = u at *
  have hy : tget x (u.head h).tiles i = { x with departed := true } := by
    rw [hhead]
    refine tget_of_tfind ?_
    rw [tfind_leftTiles, hx]
    exact congrArg some (if_pos rfl)
  have hlost : (u.head h).lostTiles = (s.head h).lostTiles := by rw [hhead]
  rw [hy, hlost]
  dsimp only
  rw [bne_iff_ne.mpr hdark, Bool.true_and]
  cases hfalls : (x.guarded && x.verdict != .live) || (s.head h).lostTiles.contains i with
  | true =>
    refine ⟨hmod.trans (onlyHead_dropLive h u), ?_⟩
    rw [if_pos rfl, head_dropLive, hhead, Bool.not_true, Bool.and_false]
  | false =>
    refine ⟨hmod, ?_⟩
    rw [if_neg Bool.false_ne_true, hhead, Bool.not_false, Bool.and_true]

/-! ## A tile of a composed row -/

theorem tileDeparture_whole (s : State) (p : TilePos) (fi : FrameIn) (x : TileOut) (hf : (s.head p.head).frame = some fi)
    (hin : (s.head p.head).inFrame = true) (hx : tfind (s.head p.head).tiles (p.row * (s.head p.head).cols + p.col) = some x)
    (hcol : p.col < (s.head p.head).cols) (hdep : x.departed = false) (hfill : x.filled = false) (hdark : x.verdict ≠ .dark)
    (hlit : (s.head p.head).blankNow = false) (hrun : (s.head p.head).fillRun = none) (hc : 64 * p.row < (s.head p.head).composed) :
    Completes (.tileDeparture p false) s (fun t =>
      t.head p.head = { s.head p.head with
        tiles := (s.head p.head).tiles.map (fun e =>
          (e.1, if e.1 = p.row * (s.head p.head).cols + p.col then { e.2 with departed := true } else e.2)),
        live := (s.head p.head).live && !((x.guarded && x.verdict != .live)
          || (s.head p.head).lostTiles.contains (p.row * (s.head p.head).cols + p.col)) }
      ∧ (∀ g : Nat, g ≠ p.head.val → t.head g = s.head g) ∧ t.events = s.events) := by
  have hdeparting : departing s p fi = atTime (max s.time.now (tileDep s p.head fi p.row p.col).floor) s := by
    unfold departing
    exact starve_before (show p.row ≤ (s.head p.head).composed / 64 by omega)
  have hrow : rowLeaves p false (s.head p.head) (departing s p fi) = atTime (max s.time.now (tileDep s p.head fi p.row p.col).floor) s := by
    unfold rowLeaves
    rw [if_neg (by simp [hc]), hdeparting]
    split
    · unfold execTileDeparture.endFillAt
      rw [head_atTime, hrun]
    · rfl
  obtain ⟨honly, hhead⟩ := tileLeft_whole (s := atTime (max s.time.now (tileDep s p.head fi p.row p.col).floor) s) hx hdark
  refine completes_of_keeps (exec_tileDeparture ⟨hf, hin, hx, hcol, hdep, hfill, hdark, hlit⟩) (tileLeft p.head (p.row * (s.head p.head).cols + p.col) x
    (atTime (max s.time.now (tileDep s p.head fi p.row p.col).floor) s)) (by rw [hrow]) honly.1.onlyScan.keeps
    ⟨hhead, honly.2, honly.1.get State.events⟩

/-! ## A tile that comes too late -/

theorem tileDeparture_late (s : State) (p : TilePos) (missing : Bool) (fi : FrameIn) (x : TileOut) (hf : (s.head p.head).frame = some fi)
    (hin : (s.head p.head).inFrame = true) (hx : tfind (s.head p.head).tiles (p.row * (s.head p.head).cols + p.col) = some x)
    (hcol : p.col < (s.head p.head).cols) (hdep : x.departed = false) (hfill : x.filled = false) (hdark : x.verdict ≠ .dark)
    (hlit : (s.head p.head).blankNow = false) (hlate : missing = true ∨ (s.head p.head).composed ≤ 64 * p.row) :
    Completes (.tileDeparture p missing) s (fun t =>
      (t.head p.head).live = false ∧ (t.head p.head).sticky.testBit 18 = true
      ∧ (64 * p.row ≤ (s.head p.head).composed →
        (t.head p.head).cnt.fillRows = ((s.head p.head).cnt.fillRows + b2n (!(s.head p.head).rowFilled p.row)) % 2 ^ 32)
      ∧ (∀ (i : Nat) (y : TileOut), tfind (s.head p.head).tiles i = some y → i / (s.head p.head).cols = p.row → y.verdict ≠ .dark →
        ∃ z, tfind (t.head p.head).tiles i = some z ∧ z.verdict = .unverified ∧ z.filled = true)
      ∧ (∀ g : Nat, g ≠ p.head.val → t.head g = s.head g) ∧ t.ledger = s.ledger ∧ t.cfg = s.cfg) := by
  have hrun := exec_tileDeparture (missing := missing) ⟨hf, hin, hx, hcol, hdep, hfill, hdark, hlit⟩
  have hrow : rowLeaves p missing (s.head p.head) (departing s p fi)
      = fillFrom p.head p.row (64 * p.col) (64 * p.row) 0 (noteLead p.head 0 (departing s p fi)) := by
    unfold rowLeaves
    refine if_pos ?_
    rcases hlate with hm | hc
    · rw [hm, Bool.true_or]
    · rw [decide_eq_true hc, Bool.or_true]
  generalize hi : p.row * (s.head p.head).cols + p.col = i at hrun
  obtain ⟨v, hv⟩ : ∃ v, v = atTime (max s.time.now (tileDep s p.head fi p.row p.col).floor) s := ⟨_, rfl⟩
  have hvh : ∀ g, v.head g = s.head g := fun g => by rw [hv]; rfl
  have hvk : KeepsFrame s v ∧ v.ledger = s.ledger ∧ v.cfg = s.cfg := by rw [hv]; exact ⟨⟨rfl, rfl, rfl⟩, rfl, rfl⟩
  have hdeparting : departing s p fi = starve p.head p.row v := by rw [hv]; rfl
  have hstarve : ScanWork p.head v (departing s p fi) := by rw [hdeparting]; exact .starve ..
  have htiles : ∀ (j : Nat) (y : TileOut), tfind (s.head p.head).tiles j = some y → j / (s.head p.head).cols = p.row →
      tfind ((departing s p fi).head p.head).tiles j = some y := by
    intro j y hy hj
    rw [hdeparting]
    exact starve_tile (Nat.le_of_eq (by rw [hvh, hj])) (by rw [hvh]; exact hy)
  have hsame : 64 * p.row ≤ (s.head p.head).composed → departing s p fi = v := by
    intro hle
    rw [hdeparting]
    exact starve_before (by rw [hvh]; omega)
  generalize hw : departing s p fi = w at *
  have hframe : (w.head p.head).frame = some fi := (hstarve.get Scan.frame).trans ((congrArg Head.frame (hvh _)).trans hf)
  have hcols : (w.head p.head).cols = (s.head p.head).cols :=
    (hstarve.get (fun c => tileCols c.timing.hactive)).trans (congrArg Head.cols (hvh _))
  have hfilled := fill_rowFill hframe p.row (64 * p.col) (64 * p.row)
  generalize fillFrom p.head p.row (64 * p.col) (64 * p.row) 0 (noteLead p.head 0 w) = u at *
  obtain ⟨hwork, l, hhead, hlive⟩ := tileLeft_spec p.head i x u
  have hall := (hstarve.trans hfilled.scanned).trans hwork
  have hdown : l = false := by
    rw [hfilled.live] at hlive
    exact Bool.eq_false_iff.mpr fun hl => absurd (hlive hl) Bool.false_ne_true
  refine completes_of_keeps hrun (tileLeft p.head i x u) (by rw [hi, hw]; exact congrArg (tileLeft p.head i x) hrow) (hvk.1.trans hall.only.keeps) ?_
  rw [hhead]
  refine ⟨hdown, hfilled.sticky, fun hle => ?_, fun j y hy hj hyd => ?_, fun g hg => (hall.others g hg).trans (hvh g),
    (hall.only.get State.ledger).trans hvk.2.1, (hall.only.get State.cfg).trans hvk.2.2⟩
  · have := hfilled.fillRows
    rw [hsame hle, hvh] at this
    exact this
  · have hfound : tfind (u.head p.head).tiles j = some { y with verdict := .unverified, drawn := .unverified, filled := true } := by
      rw [hfilled.tiles]
      unfold filledTiles
      rw [tfind_map, htiles j y hy hj]
      refine congrArg some (if_pos ?_)
      rw [hcols, decide_eq_true hj, bne_iff_ne.mpr hyd]
      rfl
    refine ⟨_, (tfind_leftTiles i j _).trans (by rw [hfound]; rfl), ?_, ?_⟩
    · split <;> rfl
    · split <;> rfl

/-- Settles O37, row by row. -/
theorem composeAndDeparture : Obligations.ComposeAndDeparture :=
  ⟨⟨lineCompose_makes, lineCompose_starves, lineCompose_ahead⟩, tileDeparture_whole, tileDeparture_late⟩

end Sys2Proof.Machine
end

section
/-! Row verdicts and the record of a frame (R71, R267, R269). -/
namespace Sys2Proof.Machine

/-! ## Row verdicts -/

/-- The verdict of a tile of a head, DARK where there is none. -/
def tileVerdictAt (d : Head) (i : Nat) : Verdict :=
  match tfind d.tiles i with
  | some x => x.verdict
  | none => .dark

theorem rowVerdict_eq (d : Head) (row : Nat) :
    d.rowVerdict row = worstOf ((List.range d.cols).map (fun c => tileVerdictAt d (row * d.cols + c))) := rfl

theorem tileVerdictAt_of_tfind {d : Head} {i : Nat} {x : TileOut} (h : tfind d.tiles i = some x) : tileVerdictAt d i = x.verdict := by
  unfold tileVerdictAt
  rw [h]

theorem rowVerdict_worst (d : Head) (row : Nat) (hcols : 0 < d.cols) :
    (∀ (c : Nat) (x : TileOut), c < d.cols → tfind d.tiles (row * d.cols + c) = some x → x.verdict.code ≤ (d.rowVerdict row).code)
    ∧ ((∀ c : Nat, c < d.cols → (tfind d.tiles (row * d.cols + c)).isSome = true) →
      ∃ (c : Nat) (x : TileOut), c < d.cols ∧ tfind d.tiles (row * d.cols + c) = some x ∧ d.rowVerdict row = x.verdict) := by
  rw [rowVerdict_eq]
  refine ⟨fun c x hc hx => code_le_code_worstOf (List.mem_map.mpr ⟨c, List.mem_range.mpr hc, tileVerdictAt_of_tfind hx⟩), fun hall => ?_⟩
  have hne : (List.range d.cols).map (fun c => tileVerdictAt d (row * d.cols + c)) ≠ [] := by
    intro hnil
    have := congrArg List.length hnil
    rw [List.length_map, List.length_range] at this
    exact absurd this (Nat.ne_of_gt hcols)
  obtain ⟨c, hc, hv⟩ := List.mem_map.mp (worstOf_mem hne)
  have hlt := List.mem_range.mp hc
  obtain ⟨x, hx⟩ := Option.isSome_iff_exists.mp (hall c hlt)
  exact ⟨c, x, hlt, hx, hv.symm.trans (tileVerdictAt_of_tfind hx)⟩

/-! ## Work that leaves a head's record -/

/-- Work on one head that leaves its place in its scan and its record; what was sent stays sent. -/
structure RecordWork (h : Nat) (s t : State) : Prop where
  scanned : ScanWork h s t
  record  : (t.head h).record = (s.head h).record
  sends   : Extends s t

namespace RecordWork
variable {h : Nat} {s t u : State}

theorem refl (h : Nat) (s : State) : RecordWork h s s := ⟨.refl h s, rfl, .refl s⟩

theorem trans (w : RecordWork h s t) (w' : RecordWork h t u) : RecordWork h s u :=
  ⟨w.scanned.trans w'.scanned, w'.record.trans w.record, w.sends.trans w'.sends⟩

theorem of_heads (honly : OnlyScan s t) (hh : t.heads = s.heads) (ho : Extends s t) : RecordWork h s t :=
  ⟨.of_heads honly hh, congrArg Head.record (head_of_heads_eq hh h), ho⟩

theorem of_modHead (f : Head → Head) (s : State) (hscan : (f (s.head h)).scan = (s.head h).scan := by rfl)
    (hrec : (f (s.head h)).record = (s.head h).record := by rfl) : RecordWork h s (s.modHead h f) :=
  ⟨.of_modHead f s hscan, by rw [head_modHead]; exact hrec, ⟨[], (List.append_nil _).symm⟩⟩

theorem foldl {α : Type} {f : State → α → State} (hf : ∀ a x, RecordWork h a (f a x)) (l : List α) (s : State) : RecordWork h s (l.foldl f s) :=
  foldl_rel (refl h) trans hf l s

theorem raise (c : Ev) (p : List (Nat × Nat)) (s : State) : RecordWork h s (raise c p s) :=
  of_heads (ScanWork.raise (h := h) c p s).only (raise_heads ..) (extends_raise ..)

theorem noteUnver (fi : FrameIn) (s : State) : RecordWork h s (noteUnver h fi s) := by
  unfold Machine.noteUnver
  exact of_modHead _ s

theorem notePane (fi : FrameIn) (p : PaneIn) (s : State) : RecordWork h s (notePane h fi p s) := by
  have hpane : ∀ f : PaneRun → PaneRun, RecordWork h s (s.modPane p.pane f) := fun f => of_heads rfl rfl (.of_eq rfl)
  unfold Machine.notePane
  split
  · exact refl h s
  · dsimp only
    split
    · exact (hpane _).trans (raise ..)
    · exact hpane _

theorem noteSkipped (s : State) : RecordWork h s (noteSkipped h s) := by
  unfold Machine.noteSkipped
  refine foldl (fun a x => ?_) _ s
  split
  · exact of_heads rfl rfl (.of_eq rfl)
  · exact refl h a

end RecordWork

/-! ## The record of a frame that has ended -/

/-- A head whose frame's verdicts are final. -/
def Head.recorded (d : Head) : Head :=
  { d with
    recDone := true, vsum := vsumOf d, vsumCnt := d.frameCnt, worst := worstOf ((List.range d.rows).map (fun r => d.rowVerdict r)) }

/-- The panes' verdicts noted with a frame's record. -/
def verdictsNoted (h : Nat) (fi : FrameIn) (s : State) : State :=
  (fi.panes.filter (fun p => p.guarded)).foldl (fun a p => notePane h fi p a) (noteUnver h fi s)

/-- The record sent where the head has one (R269). -/
def recordSent (h : Fin 32) (fi : FrameIn) (calm : Bool) (s : State) : State :=
  if fi.flaund && s.linkUp h && s.alive && calm then
    emit (.flaundRecord h (flaundParts s h fi)) (s.modHead h (fun d => { d with resync := false }))
  else s.modHead h (fun d => { d with resync := true })

/-- A timing committed for the blanking is taken with the record (R196). -/
def shadowSettled (h : Nat) (s : State) : State :=
  match (s.head h).shadow with
  | some x => if (s.head h).shadowDue then takeShadow h x s else s
  | none => s

theorem exec_flaundRecord {s : State} {h : Fin 32} {fi : FrameIn} {t : Time64} (hf : (s.head h).frame = some fi)
    (hin : (s.head h).inFrame = false) (hrec : (s.head h).recDone = false) (hat : afterLast s h 64 ≤ t) :
    exec (.flaundRecordAssembly h t) s = act (fun s => shadowSettled h (noteSkipped h (recordSent h fi (s.head h).retime.isNone
      (verdictsNoted h fi ((atTime t s).modHead h Head.recorded))))) s := by
  change execFlaundRecordAssembly h t s = _
  unfold execFlaundRecordAssembly
  refine act_congr ?_
  have hgo : ¬ ((s.head h).inFrame || (s.head h).recDone || decide (t < afterLast s h 64)) = true := by
    rw [hin, hrec, decide_eq_false (Nat.not_lt_of_ge hat)]
    exact Bool.false_ne_true
  dsimp only
  rw [hf]
  exact if_neg hgo

theorem recordWork_verdictsNoted (h : Nat) (fi : FrameIn) (s : State) : RecordWork h s (verdictsNoted h fi s) :=
  (RecordWork.noteUnver ..).trans (.foldl (fun _ _ => .notePane ..) _ _)

theorem recordSent_spec (h : Fin 32) (fi : FrameIn) (calm : Bool) (s : State) :
    RecordWork h s (recordSent h fi calm s)
    ∧ (fi.flaund = true → s.linkUp h = true → s.alive = true → calm = true →
      ∃ parts : List Bytes, (recordSent h fi calm s).out = s.out ++ [.flaundRecord h parts] ∧ parts.length = 5) := by
  unfold recordSent
  split
  next =>
    have hmod : RecordWork h s (s.modHead h (fun d => { d with resync := false })) := .of_modHead _ s
    exact ⟨hmod.trans (.of_heads rfl rfl (extends_emit ..)), fun _ _ _ _ => ⟨flaundParts s h fi, rfl, by
      unfold flaundParts
      rw [List.length_map, List.length_range]⟩⟩
  next hno =>
    refine ⟨.of_modHead _ s, fun hfl hup halive hcalm => ?_⟩
    rw [hfl, hup, halive, hcalm] at hno
    exact absurd rfl hno

/-- All that a record's instant does before a committed timing is taken. -/
structure RecordMade (h : Fin 32) (fi : FrameIn) (s t : State) : Prop where
  work    : Transfers s t
  timing  : (t.head h).timing = (s.head h).timing
  pending : (t.head h).shadow = (s.head h).shadow ∧ (t.head h).shadowDue = (s.head h).shadowDue
  record  : (t.head h).record = (s.head h).recorded.record
  sent    : fi.flaund = true → s.linkUp h = true → s.alive = true → (s.head h).retime = none →
    ∃ (parts : List Bytes) (l₁ l₂ : List Out), t.out = s.out ++ l₁ ++ [.flaundRecord h parts] ++ l₂ ∧ parts.length = 5

theorem recordMade (h : Fin 32) (fi : FrameIn) (s : State) :
    RecordMade h fi s (noteSkipped h (recordSent h fi (s.head h).retime.isNone (verdictsNoted h fi (s.modHead h Head.recorded)))) := by
  have hfirst := onlyHead_modHead h Head.recorded s
  have hhead := head_modHead h Head.recorded s
  have hout : (s.modHead h Head.recorded).out = s.out := rfl
  generalize s.modHead h Head.recorded = s1 at *
  have hnoted := recordWork_verdictsNoted h fi s1
  generalize verdictsNoted h fi s1 = s2 at *
  obtain ⟨hsent, hrecord⟩ := recordSent_spec h fi (s.head h).retime.isNone s2
  generalize recordSent h fi (s.head h).retime.isNone s2 = s3 at *
  have hlast : RecordWork h s3 (noteSkipped h s3) := .noteSkipped s3
  generalize noteSkipped h s3 = s4 at *
  have hall := (hnoted.trans hsent).trans hlast
  have hscan : (s4.head h).scan = { (s.head h).scan with recDone := true } := by
    rw [hall.scanned.scan, hhead]
    rfl
  refine ⟨⟨hfirst.1.onlyScan.keeps.trans hall.scanned.only.keeps, (hall.scanned.only.get State.cfg).trans (hfirst.1.get State.cfg),
      (hall.scanned.only.get State.ledger).trans (hfirst.1.get State.ledger), (Extends.of_eq hout).trans hall.sends⟩,
    congrArg Scan.timing hscan, ⟨congrArg Scan.shadow hscan, congrArg Scan.shadowDue hscan⟩, ?_, fun hfl hup halive hret => ?_⟩
  · rw [hall.record, hhead]
  · have htim : (s2.head h).timing = (s.head h).timing := by
      have h2 : (s2.head h).scan = { (s.head h).scan with recDone := true } := by
        rw [hnoted.scanned.scan, hhead]
        rfl
      exact congrArg Scan.timing h2
    have hup2 : s2.linkUp h = true := by
      rw [← hup]
      unfold State.linkUp State.dpPort
      rw [htim, hnoted.scanned.only.get State.dp, hfirst.1.get State.dp]
    have halive2 : s2.alive = true := ((hnoted.scanned.only.get State.alive).trans (hfirst.1.get State.alive)).trans halive
    obtain ⟨parts, hparts, hlen⟩ := hrecord hfl hup2 halive2 (by rw [hret]; rfl)
    obtain ⟨l₁, hl₁⟩ := hnoted.sends
    obtain ⟨l₂, hl₂⟩ := hlast.sends
    exact ⟨parts, l₁, l₂, by rw [hl₂, hparts, hl₁, hout], hlen⟩

theorem flaundRecord_made (s : State) (h : Fin 32) (fi : FrameIn) (at' : Time64) (hf : (s.head h).frame = some fi)
    (hin : (s.head h).inFrame = false) (hrec : (s.head h).recDone = false) (hat : afterLast s h 64 ≤ at') :
    Completes (.flaundRecordAssembly h at') s (fun t =>
      (t.head h).recDone = true ∧ (t.head h).vsum = vsumOf (s.head h) ∧ (t.head h).vsumCnt = (s.head h).frameCnt
      ∧ (t.head h).worst = worstOf ((List.range (s.head h).rows).map (fun r => (s.head h).rowVerdict r))
      ∧ (fi.flaund = true → s.linkUp h = true → s.alive = true → (s.head h).retime = none →
        ∃ (parts : List Bytes) (l₁ l₂ : List Out), t.out = s.out ++ l₁ ++ [.flaundRecord h parts] ++ l₂ ∧ parts.length = 5)
      ∧ t.cfg = s.cfg ∧ t.ledger = s.ledger) := by
  obtain ⟨v, hv⟩ : ∃ v, v = noteSkipped h (recordSent h fi (s.head h).retime.isNone (verdictsNoted h fi ((atTime at' s).modHead h Head.recorded))) :=
    ⟨_, rfl⟩
  have hmade : RecordMade h fi (atTime at' s) v := by rw [hv]; exact recordMade h fi (atTime at' s)
  have hrun := exec_flaundRecord hf hin hrec hat
  have hrest : Transfers v (shadowSettled h v) ∧ ((shadowSettled h v).head h).record.2 = (v.head h).record.2 := by
    unfold shadowSettled
    split
    next x _ =>
      split
      · have htaken := takeShadow_spec h x v
        refine ⟨htaken.transfers, (congrArg Prod.snd htaken.record).trans ?_⟩
        have hdone : (v.head h).recDone = true := congrArg (fun r => r.2.1) hmade.record
        exact congrArg (fun b => (b, (v.head h).vsum, (v.head h).vsumCnt, (v.head h).worst)) hdone.symm
      · exact ⟨.refl v, rfl⟩
    next => exact ⟨.refl v, rfl⟩
  obtain ⟨htrans, hkept⟩ := hrest
  have hfinal := hkept.trans (congrArg Prod.snd hmade.record)
  have hall := hmade.work.trans htrans
  refine completes_of_keeps hrun (shadowSettled h v) (by rw [hv]) hall.keeps
    ⟨congrArg (fun r => r.1) hfinal, congrArg (fun r => r.2.1) hfinal, congrArg (fun r => r.2.2.1) hfinal, congrArg (fun r => r.2.2.2) hfinal,
      fun hfl hup halive hret => ?_, hall.cfg, hall.ledger⟩
  obtain ⟨parts, l₁, l₂, hout, hlen⟩ := hmade.sent hfl hup halive hret
  obtain ⟨l₃, hl₃⟩ := htrans.sends
  exact ⟨parts, l₁, l₂ ++ l₃, by rw [hl₃, hout, List.append_assoc _ l₂ l₃]; rfl, hlen⟩

theorem flaundRecord_takes (s : State) (h : Fin 32) (fi : FrameIn) (x : HeadTiming) (at' : Time64) (hf : (s.head h).frame = some fi)
    (hin : (s.head h).inFrame = false) (hrec : (s.head h).recDone = false) (hat : afterLast s h 64 ≤ at')
    (hsh : (s.head h).shadow = some x) (hdue : (s.head h).shadowDue = true) :
    Completes (.flaundRecordAssembly h at') s (fun t =>
      (t.head h).timing = x ∧ (t.head h).shadow = none ∧ (t.head h).running = false ∧ (t.head h).live = false
      ∧ (x.port.isSome = true → (t.head h).retime.isSome = true)) := by
  obtain ⟨v, hv⟩ : ∃ v, v = noteSkipped h (recordSent h fi (s.head h).retime.isNone (verdictsNoted h fi ((atTime at' s).modHead h Head.recorded))) :=
    ⟨_, rfl⟩
  have hmade : RecordMade h fi (atTime at' s) v := by rw [hv]; exact recordMade h fi (atTime at' s)
  have hrun := exec_flaundRecord hf hin hrec hat
  have htake : shadowSettled h v = takeShadow h x v := by
    unfold shadowSettled
    rw [show (v.head h).shadow = some x from hmade.pending.1.trans hsh]
    exact if_pos (hmade.pending.2.trans hdue)
  have htaken := takeShadow_spec h x v
  exact completes_of_keeps hrun (takeShadow h x v) (by rw [← htake, hv]) (hmade.work.trans htaken.transfers).keeps
    ⟨htaken.timing, congrArg Prod.fst htaken.record, htaken.running, htaken.live, htaken.retime⟩

/-- Settles O39. -/
theorem rowVerdictsAndRecords : Obligations.RowVerdictsAndRecords := ⟨rowVerdict_worst, flaundRecord_made, flaundRecord_takes⟩

end Sys2Proof.Machine
end

section
/-! The rows of an encode session (R282, R287, R288, R290). -/
namespace Sys2Proof.Machine

/-! ## The choice of QP -/

/-- The QPs of a range at which a row meets its target. -/
def metQps (lo hi : Nat) (goal : Int) (r : RowCoded) : List Nat := (countFrom lo (hi + 1 - lo)).filter (fun q => decide ((rowSize r q : Int) ≤ goal))

theorem mem_countFrom {k n q : Nat} : q ∈ countFrom k n ↔ k ≤ q ∧ q < k + n := by
  induction n generalizing k with
  | zero => exact ⟨fun h => absurd h List.not_mem_nil, fun h => by omega⟩
  | succ n ih =>
    rw [countFrom, List.mem_cons, ih]
    omega

theorem mem_metQps {lo hi : Nat} {goal : Int} {r : RowCoded} {q : Nat} :
    q ∈ metQps lo hi goal r ↔ (lo ≤ q ∧ q < lo + (hi + 1 - lo)) ∧ (rowSize r q : Int) ≤ goal := by
  unfold metQps
  rw [List.mem_filter, mem_countFrom, decide_eq_true_iff]

theorem rowQp_eq (lo hi : Nat) (goal : Int) (r : RowCoded) :
    rowQp lo hi goal r = if (metQps lo hi goal r).contains r.qp then r.qp else (metQps lo hi goal r).headD hi := rfl

/-- The QP is one that meets the target, or the highest where none of the range does. -/
theorem rowQp_cases (lo hi : Nat) (goal : Int) (r : RowCoded) :
    rowQp lo hi goal r ∈ metQps lo hi goal r ∨ (metQps lo hi goal r = [] ∧ rowQp lo hi goal r = hi) := by
  rw [rowQp_eq]
  split
  next hpick => exact .inl (List.contains_iff_mem.mp hpick)
  next =>
    cases hmet : metQps lo hi goal r with
    | nil => exact .inr ⟨rfl, rfl⟩
    | cons q l => exact .inl List.mem_cons_self

theorem rowQp_spec {lo hi : Nat} (goal : Int) (r : RowCoded) (hle : lo ≤ hi) :
    lo ≤ rowQp lo hi goal r ∧ rowQp lo hi goal r ≤ hi
    ∧ ((rowSize r (rowQp lo hi goal r) : Int) ≤ goal ∨ ∀ q : Nat, lo ≤ q → q ≤ hi → goal < rowSize r q) := by
  rcases rowQp_cases lo hi goal r with hmet | ⟨hnone, heq⟩
  · obtain ⟨⟨h1, h2⟩, h3⟩ := mem_metQps.mp hmet
    exact ⟨h1, by omega, .inl h3⟩
  · refine ⟨by omega, by omega, .inr fun q h1 h2 => ?_⟩
    refine Int.lt_of_not_ge fun hq => ?_
    have hmem : q ∈ metQps lo hi goal r := mem_metQps.mpr ⟨⟨h1, by omega⟩, hq⟩
    rw [hnone] at hmem
    exact absurd hmem List.not_mem_nil

/-! ## The next row -/

/-- A session whose head shows a frame that it takes, of which a row comes. -/
structure RowDue (s : State) (x : Fin 16) (row : Nat) (fi : FrameIn) : Prop where
  running : (s.session x).running = true
  frame   : (s.head (pv s.cfg pEncHead x)).frame = some fi
  lit     : (s.head (pv s.cfg pEncHead x)).allDark = false
  inFrame : (s.head (pv s.cfg pEncHead x)).inFrame = true
  taken   : (s.head (pv s.cfg pEncHead x)).frameCnt % cadence s x = 0
  row     : row < encRows s.cfg x

theorem rowDue_goes {s : State} {x : Fin 16} {row : Nat} {fi : FrameIn} (h : RowDue s x row fi)
    (hcur : ((s.session x).stopping && (s.session x).cur.isNone) = false) :
    ¬ (!(s.session x).running || ((s.session x).stopping && (s.session x).cur.isNone) || (s.head (pv s.cfg pEncHead x)).allDark
      || !(s.head (pv s.cfg pEncHead x)).inFrame || (s.head (pv s.cfg pEncHead x)).frameCnt % cadence s x != 0
      || decide (encRows s.cfg x ≤ row)) = true := by
  rw [h.running, hcur, h.lit, h.inFrame, h.taken, decide_eq_false (Nat.not_le_of_gt h.row)]
  exact Bool.false_ne_true

theorem exec_encRowCoded_next {s : State} {x : Fin 16} {r : RowCoded} {fi : FrameIn} {c : EncFrame} {t : Time64} (h : RowDue s x r.row fi)
    (hcur : (s.session x).cur = some c) (hcnt : c.frameCnt = (s.head (pv s.cfg pEncHead x)).frameCnt) (hlen : c.rows.length = r.row) :
    exec (.encRowCoded x r t) s = act (fun s => (atTime t s).setSession x (addRow (atTime t s) x (pv s.cfg pEncHead x) fi r (s.session x) c)) s := by
  change execEncRowCoded x r t s = _
  unfold execEncRowCoded
  refine act_congr ?_
  have hgo := rowDue_goes h (by rw [hcur]; exact Bool.and_false _)
  have hcut : ¬ (s.session x).cur.any (fun c => c.frameCnt != (s.head (pv s.cfg pEncHead x)).frameCnt && decide (c.rows.length < encRows s.cfg x)) = true := by
    rw [hcur]
    change ¬ (c.frameCnt != _ && _) = true
    rw [hcnt, bne_self_eq_false]
    exact Bool.false_ne_true
  have hnext : ¬ (c.frameCnt != (s.head (pv s.cfg pEncHead x)).frameCnt || c.rows.length != r.row) = true := by
    rw [hcnt, hlen, bne_self_eq_false, bne_self_eq_false]
    exact Bool.false_ne_true
  dsimp only
  rw [h.frame]
  refine (if_neg hgo).trans ?_
  rw [if_neg hcut, hcur]
  exact if_neg hnext

/-- Whether a row is coded dry (R288, R290, R313). -/
def rowDry (s : State) (x : Nat) (r : RowCoded) (e : Session) (c : EncFrame) : Bool :=
  !c.idr && (c.allDry || c.lost || c.rows.any (fun q => q.2) || decide (rowCap e.level c (encRows s.cfg x) r.row < rowSize r (pickQp s x r e c)))

theorem rowDry_iff (s : State) (x : Nat) (r : RowCoded) (e : Session) (c : EncFrame) :
    rowDry s x r e c = true ↔ c.idr = false ∧ (c.allDry = true ∨ c.lost = true ∨ (∃ q ∈ c.rows, q.2 = true)
      ∨ rowCap e.level c (encRows s.cfg x) r.row < rowSize r (pickQp s x r e c)) := by
  unfold rowDry
  simp only [Bool.and_eq_true, Bool.not_eq_true', Bool.or_eq_true, List.any_eq_true, decide_eq_true_eq, or_assoc]

/-- The picture under way with a row more. -/
theorem addRow_cur (s : State) (x h : Nat) (fi : FrameIn) (r : RowCoded) (e : Session) (c : EncFrame) :
    ∃ c' : EncFrame, (addRow s x h fi r e c).cur = some c' ∧ c'.rows = c.rows ++ [(r.row, rowDry s x r e c)]
      ∧ c'.bits = c.bits + (if rowDry s x r e c then r.dryBits else rowSize r (pickQp s x r e c))
      ∧ c'.input = tset r.row (encRowInput s x h r.row) c.input
      ∧ c'.spare = max 0 (rowGoal s x e c r.row - rowSize r (pickQp s x r e c))
      ∧ c'.frameCnt = c.frameCnt ∧ c'.idr = c.idr :=
  ⟨_, rfl, rfl, rfl, rfl, rfl, rfl, rfl⟩

theorem encRowCoded_next (s : State) (x : Fin 16) (r : RowCoded) (fi : FrameIn) (c : EncFrame) (at' : Time64) (hrun : (s.session x).running = true)
    (hf : (s.head (pv s.cfg pEncHead x)).frame = some fi) (hlit : (s.head (pv s.cfg pEncHead x)).allDark = false)
    (hin : (s.head (pv s.cfg pEncHead x)).inFrame = true) (htaken : (s.head (pv s.cfg pEncHead x)).frameCnt % cadence s x = 0)
    (hrow : r.row < encRows s.cfg x) (hcur : (s.session x).cur = some c) (hcnt : c.frameCnt = (s.head (pv s.cfg pEncHead x)).frameCnt)
    (hlen : c.rows.length = r.row) :
    Completes (.encRowCoded x r at') s (fun t =>
      (∃ (c' : EncFrame) (dry : Bool), (t.session x).cur = some c' ∧ c'.rows = c.rows ++ [(r.row, dry)]
        ∧ c'.bits = c.bits + (if dry then r.dryBits else rowSize r (pickQp s x r (s.session x) c))
        ∧ c'.input = tset r.row (encRowInput s x (pv s.cfg pEncHead x) r.row) c.input
        ∧ (dry = true ↔ c.idr = false ∧ (c.allDry = true ∨ c.lost = true ∨ (∃ q ∈ c.rows, q.2 = true)
            ∨ rowCap (s.session x).level c (encRows s.cfg x) r.row < rowSize r (pickQp s x r (s.session x) c)))
        ∧ c'.spare = max 0 (rowGoal s x (s.session x) c r.row - rowSize r (pickQp s x r (s.session x) c)))
      ∧ (pv s.cfg pEncQpMin x ≤ pv s.cfg pEncQpMax x →
          pv s.cfg pEncQpMin x ≤ pickQp s x r (s.session x) c ∧ pickQp s x r (s.session x) c ≤ pv s.cfg pEncQpMax x
          ∧ ((rowSize r (pickQp s x r (s.session x) c) : Int) ≤ rowGoal s x (s.session x) c r.row ∨
              ∀ q : Nat, pv s.cfg pEncQpMin x ≤ q → q ≤ pv s.cfg pEncQpMax x → rowGoal s x (s.session x) c r.row < rowSize r q))
      ∧ (∀ y : Nat, y ≠ x.val → t.session y = s.session y) ∧ t = { s with enc := t.enc, time := { s.time with now := at' } }) := by
  have hdry := rowDry_iff s x r (s.session x) c
  obtain ⟨c', hc', hrows, hbits, hinput, hspare, -, -⟩ := addRow_cur (atTime at' s) x (pv s.cfg pEncHead x) fi r (s.session x) c
  refine completes_of_keeps (exec_encRowCoded_next ⟨hrun, hf, hlit, hin, htaken, hrow⟩ hcur hcnt hlen) _ rfl ⟨rfl, rfl, rfl⟩
    ⟨⟨c', rowDry s x r (s.session x) c, ?_, hrows, hbits, hinput, hdry, hspare⟩, fun hle => rowQp_spec _ r hle, fun y hy => ?_, rfl⟩
  · rw [session_setSession]
    exact hc'
  · exact session_setSession_ne _ _ _ hy

/-! ## The first row -/

theorem exec_encRowCoded_first {s : State} {x : Fin 16} {r : RowCoded} {fi : FrameIn} {c : EncFrame} {t : Time64} (h : RowDue s x r.row fi)
    (hstop : (s.session x).stopping = false) (hcur : (s.session x).cur = none) (hrow : r.row = 0)
    (hc : (startPicture (atTime t s) x (pv s.cfg pEncHead x) fi (s.session x)).cur = some c) :
    exec (.encRowCoded x r t) s = act (fun s => startSets x c.idr ((atTime t s).setSession x (addRow (atTime t s) x (pv s.cfg pEncHead x) fi r
      (startPicture (atTime t s) x (pv s.cfg pEncHead x) fi (s.session x)) c))) s := by
  change execEncRowCoded x r t s = _
  unfold execEncRowCoded
  refine act_congr ?_
  have hgo := rowDue_goes h (by rw [hstop]; rfl)
  have hcut : ¬ (s.session x).cur.any (fun c => c.frameCnt != (s.head (pv s.cfg pEncHead x)).frameCnt && decide (c.rows.length < encRows s.cfg x)) = true := by
    rw [hcur]
    exact Bool.false_ne_true
  have hzero : ¬ (r.row != 0) = true := by
    rw [hrow]
    exact Bool.false_ne_true
  dsimp only
  rw [h.frame]
  refine (if_neg hgo).trans ?_
  rw [if_neg hcut, hcur]
  refine (if_neg hzero).trans ?_
  rw [hc]

/-- The picture that a session starts. -/
theorem startPicture_cur (s : State) (x h : Nat) (fi : FrameIn) (e : Session) :
    ∃ c : EncFrame, (startPicture s x h fi e).cur = some c ∧ c.rows = [] ∧ c.frameCnt = (s.head h).frameCnt
      ∧ ((e.first = true ∨ e.idrDue ≠ 0) → c.idr = true) := by
  refine ⟨_, rfl, rfl, rfl, fun hidr => ?_⟩
  rcases hidr with hf | hd
  · simp [hf]
  · simp [hd]

theorem startSets_keeps (x : Nat) (idr : Bool) (s : State) :
    KeepsFrame s (startSets x idr s) ∧ (startSets x idr s).session x = s.session x := by
  unfold startSets
  split <;> exact ⟨⟨rfl, rfl, rfl⟩, rfl⟩

theorem encRowCoded_first (s : State) (x : Fin 16) (r : RowCoded) (fi : FrameIn) (at' : Time64) (hrun : (s.session x).running = true)
    (hstop : (s.session x).stopping = false) (hf : (s.head (pv s.cfg pEncHead x)).frame = some fi)
    (hlit : (s.head (pv s.cfg pEncHead x)).allDark = false) (hin : (s.head (pv s.cfg pEncHead x)).inFrame = true)
    (htaken : (s.head (pv s.cfg pEncHead x)).frameCnt % cadence s x = 0) (hrows : 0 < encRows s.cfg x) (hcur : (s.session x).cur = none)
    (hrow : r.row = 0) :
    Completes (.encRowCoded x r at') s (fun t =>
      ∃ c' : EncFrame, (t.session x).cur = some c' ∧ c'.rows.length = 1 ∧ c'.frameCnt = (s.head (pv s.cfg pEncHead x)).frameCnt
        ∧ (((s.session x).first = true ∨ (s.session x).idrDue ≠ 0) → c'.idr = true)) := by
  obtain ⟨c, hc, hnone, hcnt, hidr⟩ := startPicture_cur (atTime at' s) x (pv s.cfg pEncHead x) fi (s.session x)
  have hrun' := exec_encRowCoded_first (r := r) ⟨hrun, hf, hlit, hin, htaken, by rw [hrow]; exact hrows⟩ hstop hcur hrow hc
  obtain ⟨c', hc', hrows', -, -, -, hcnt', hidr'⟩ := addRow_cur (atTime at' s) x (pv s.cfg pEncHead x) fi r
    (startPicture (atTime at' s) x (pv s.cfg pEncHead x) fi (s.session x)) c
  obtain ⟨hk, hsent⟩ := startSets_keeps x c.idr ((atTime at' s).setSession x (addRow (atTime at' s) x (pv s.cfg pEncHead x) fi r
    (startPicture (atTime at' s) x (pv s.cfg pEncHead x) fi (s.session x)) c))
  refine completes_of_keeps hrun' _ rfl (KeepsFrame.trans (t := atTime at' s) ⟨rfl, rfl, rfl⟩ (KeepsFrame.trans ⟨rfl, rfl, rfl⟩ hk))
    ⟨c', ?_, ?_, hcnt'.trans hcnt, fun hi => hidr'.trans (hidr hi)⟩
  · rw [hsent, session_setSession]
    exact hc'
  · rw [hrows', hnone]
    rfl

end Sys2Proof.Machine
end

section
/-! The access units, the safe point and the sender reports of encode sessions (R291, R295, R296, R406). -/
namespace Sys2Proof.Machine

/-! ## What sending leaves -/

/-- Two states differ at most in the sessions, the ports' counters, the free values and what is sent, which stays sent. -/
structure OnlySends (s t : State) : Prop where
  only  : t = { s with enc := t.enc, eth := t.eth, free := t.free, out := t.out }
  sends : Extends s t

theorem OnlySends.refl (s : State) : OnlySends s s := ⟨rfl, .refl s⟩

theorem OnlySends.trans {s t u : State} (h : OnlySends s t) (h' : OnlySends t u) : OnlySends s u :=
  ⟨by rw [h'.only, h.only], h.sends.trans h'.sends⟩

theorem OnlySends.get {β : Type} (p : State → β) {s t : State} (h : OnlySends s t) :
    p t = p { s with enc := t.enc, eth := t.eth, free := t.free, out := t.out } := congrArg p h.only

theorem OnlySends.keeps {s t : State} (h : OnlySends s t) : KeepsFrame s t := ⟨h.get State.pending, h.get State.seatB, h.get State.dram⟩

theorem onlySends_emit (o : Out) (s : State) : OnlySends s (emit o s) := ⟨rfl, extends_emit o s⟩

theorem onlySends_setSession (x : Nat) (e : Session) (s : State) : OnlySends s (s.setSession x e) := ⟨rfl, ⟨[], (List.append_nil _).symm⟩⟩

theorem onlySends_free (n : Nat) (s : State) : OnlySends s (freeBelow n s).2 := ⟨rfl, ⟨[], (List.append_nil _).symm⟩⟩

theorem session_modSession (x : Nat) (f : Session → Session) (s : State) : (s.modSession x f).session x = f (s.session x) := session_setSession ..

/-- A session as it was but for the counters of its packets. -/
structure SameUnit (d e : Session) : Prop where
  cur        : e.cur = d.cur
  first      : e.first = d.first
  level      : e.level = d.level
  seq        : e.seq = d.seq
  frames     : e.cnt.frames = d.cnt.frames
  suppressed : e.cnt.suppressed = d.cnt.suppressed

theorem SameUnit.refl (d : Session) : SameUnit d d := ⟨rfl, rfl, rfl, rfl, rfl, rfl⟩

theorem SameUnit.trans {d e f : Session} (h : SameUnit d e) (h' : SameUnit e f) : SameUnit d f :=
  ⟨h'.cur.trans h.cur, h'.first.trans h.first, h'.level.trans h.level, h'.seq.trans h.seq, h'.frames.trans h.frames,
    h'.suppressed.trans h.suppressed⟩

theorem sameUnit_count (x : Nat) (f : Session → Session) {u : State} {d : Session} (hd : u.session x = d) (hf : SameUnit d (f d)) :
    SameUnit d ((u.modSession x f).session x) := by
  rw [session_modSession, hd]
  exact hf

theorem sendPath_spec (x path n seq : Nat) (s : State) :
    OnlySends s (sendPath x path n seq s) ∧ SameUnit (s.session x) ((sendPath x path n seq s).session x) := by
  unfold sendPath
  split
  · exact ⟨.refl s, .refl _⟩
  · split
    · next p _ =>
      refine ⟨⟨rfl, extends_emit ..⟩, ?_⟩
      exact sameUnit_count x (fun e => { e with cnt := { e.cnt with packets := (e.cnt.packets + n) % 2 ^ 64 } })
        (u := s.modEthPort p (fun e => { e with framesTx := (e.framesTx + n) % 2 ^ 64 })) rfl ⟨rfl, rfl, rfl, rfl, rfl, rfl⟩
    · exact ⟨onlySends_setSession .., sameUnit_count x (fun e => { e with cnt := { e.cnt with linkDown := (e.cnt.linkDown + n) % 2 ^ 32 } })
        rfl ⟨rfl, rfl, rfl, rfl, rfl, rfl⟩⟩

theorem sendHash_spec (x : Nat) (s : State) : OnlySends s (sendHash x s) := by
  unfold sendHash
  split
  · exact (((onlySends_free 65536 s).trans (onlySends_free 65536 _)).trans (onlySends_free 65536 _)).trans (onlySends_emit ..)
  · exact .refl s

/-! ## The record (R291 to R293) -/

/-- The token, the hash, the picture and the record of an access unit are formed. -/
def recordFormed (x : Fin 16) (c : EncFrame) (rows : List (ContentRow × Bool)) (counter : Nat) (restart : Bool) (s : State) : State :=
  emit (.encRecord x (pv s.cfg pEncRecordExtid x) (recordBytes s c rows)) <| emit (.encPicture x c.rows c.input)
    (sendHash x (if pv s.cfg pEncToken x = 1 then emit (.encToken x (encToken counter restart (!c.net))) s else s))

theorem recordFormed_spec (x : Fin 16) (c : EncFrame) (rows : List (ContentRow × Bool)) (counter : Nat) (restart : Bool) (s : State) :
    OnlySends s (recordFormed x c rows counter restart s)
    ∧ ∃ (b : Bytes) (l : List Out), (recordFormed x c rows counter restart s).out = s.out ++ l ++ [.encRecord x (pv s.cfg pEncRecordExtid x) b] := by
  unfold recordFormed
  have htoken : OnlySends s (if pv s.cfg pEncToken x = 1 then emit (.encToken x (encToken counter restart (!c.net))) s else s) := by
    split
    · exact onlySends_emit ..
    · exact .refl s
  generalize (if pv s.cfg pEncToken x = 1 then emit (.encToken x (encToken counter restart (!c.net))) s else s) = u at *
  have hpicture := (htoken.trans (sendHash_spec x u)).trans (onlySends_emit (.encPicture x c.rows c.input) _)
  generalize emit (.encPicture x c.rows c.input) (sendHash x u) = v at *
  obtain ⟨l, hl⟩ := hpicture.sends
  exact ⟨hpicture.trans (onlySends_emit ..), recordBytes s c rows, l, by rw [← hl]; rfl⟩

/-- A session with its access unit counted, as suppressed or as a frame sent. -/
def unitCounted (sup : Bool) (e : Session) : Session :=
  match sup with
  | true  => { e with cnt := { e.cnt with suppressed := (e.cnt.suppressed + 1) % 2 ^ 32 } }
  | false => { e with cnt := { e.cnt with frames := (e.cnt.frames + 1) % 2 ^ 32 } }

theorem unitCounted_spec (sup : Bool) (e : Session) :
    (unitCounted sup e).cur = e.cur ∧ (unitCounted sup e).first = e.first ∧ (unitCounted sup e).level = e.level
    ∧ (unitCounted sup e).seq = e.seq := by
  cases sup <;> exact ⟨rfl, rfl, rfl, rfl⟩

/-- The access unit is sent on each path, or suppressed. -/
def unitSent (x : Fin 16) (sup : Bool) (n seq : Nat) (e : Session) (s : State) : State :=
  if sup then s.setSession x (unitCounted true e)
  else sendPath x 1 n seq (sendPath x 0 n seq (s.setSession x (unitCounted false e)))

theorem unitSent_spec (x : Fin 16) (sup : Bool) (n seq : Nat) (e : Session) (s : State) :
    OnlySends s (unitSent x sup n seq e s) ∧ SameUnit (unitCounted sup e) ((unitSent x sup n seq e s).session x) := by
  unfold unitSent
  cases sup with
  | true =>
    rw [if_pos rfl, session_setSession]
    exact ⟨onlySends_setSession .., .refl _⟩
  | false =>
    rw [if_neg Bool.false_ne_true]
    have hset := session_setSession s x.val (unitCounted false e)
    have hfirst := onlySends_setSession x.val (unitCounted false e) s
    generalize s.setSession x.val (unitCounted false e) = u at *
    obtain ⟨h0, hs0⟩ := sendPath_spec x 0 n seq u
    generalize sendPath x 0 n seq u = v at *
    obtain ⟨h1, hs1⟩ := sendPath_spec x 1 n seq v
    rw [← hset]
    exact ⟨(hfirst.trans h0).trans h1, hs0.trans hs1⟩

/-- The session after its picture, with the packets' numbers. -/
def unitSession (e1 : Session) (sup : Bool) (seq : Nat) : Session := { e1 with suppressed := sup, seq := seq }

/-- The record and the access unit of a picture (R291). -/
def unitMade (x : Fin 16) (h : Nat) (c : EncFrame) (e : Session) (s : State) : State :=
  let rows := recordRows s x h e c
  let e1 := settlePicture s x e c rows
  let sup := suppressedNow s x h c.frameCnt c.idr e
  let s2 := recordFormed x c rows e1.lastCounter e.first s
  let n := leastPackets s.cfg x (natOf (e.level - e1.level)) c.rows.length + (freeBelow 65535 s2).1
  unitSent x sup n e.seq (unitSession e1 sup ((e1.seq + n) % 65536)) (freeBelow 65535 s2).2

theorem exec_encRecordAssembly {s : State} {x : Fin 16} {c : EncFrame} {t : Time64} (hcur : (s.session x).cur = some c)
    (hrows : encRows s.cfg x ≤ c.rows.length) (hdue : assemblyDue s x (pv s.cfg pEncHead x) c t = true) :
    exec (.encRecordAssembly x t) s = act (fun s => unitMade x (pv s.cfg pEncHead x) c (s.session x) (atTime t s)) s := by
  change execEncRecordAssembly x t s = _
  unfold execEncRecordAssembly
  refine act_congr ?_
  have hgo : ¬ (decide (c.rows.length < encRows s.cfg x) || !assemblyDue s x (pv s.cfg pEncHead x) c t) = true := by
    rw [hdue, decide_eq_false (Nat.not_lt_of_ge hrows)]
    exact Bool.false_ne_true
  dsimp only
  rw [hcur]
  exact if_neg hgo

/-- The session that a picture leaves (R287, R290). -/
theorem settlePicture_spec (s : State) (x : Nat) (e : Session) (c : EncFrame) (rows : List (ContentRow × Bool)) :
    (settlePicture s x e c rows).cur = none ∧ (settlePicture s x e c rows).first = false
    ∧ (c.idr = false → (settlePicture s x e c rows).level = e.level - c.bits) ∧ (settlePicture s x e c rows).seq = e.seq
    ∧ (settlePicture s x e c rows).cnt.frames = e.cnt.frames ∧ (settlePicture s x e c rows).cnt.suppressed = e.cnt.suppressed := by
  refine ⟨rfl, rfl, fun hidr => ?_, rfl, rfl, rfl⟩
  unfold settlePicture
  simp [hidr]

/-- The access unit that a picture makes: what is sent, the record in it, and the session it leaves (R291, R295, R296). -/
theorem unitMade_spec (x : Fin 16) (h : Nat) (c : EncFrame) (e : Session) (s : State) :
    OnlySends s (unitMade x h c e s)
    ∧ (∃ (b : Bytes) (l₁ l₂ : List Out), (unitMade x h c e s).out = s.out ++ l₁ ++ [.encRecord x (pv s.cfg pEncRecordExtid x) b] ++ l₂)
    ∧ ∃ n : Nat, leastPackets s.cfg x (natOf (e.level - (settlePicture s x e c (recordRows s x h e c)).level)) c.rows.length ≤ n
      ∧ SameUnit (unitCounted (suppressedNow s x h c.frameCnt c.idr e) (unitSession (settlePicture s x e c (recordRows s x h e c))
          (suppressedNow s x h c.frameCnt c.idr e) ((e.seq + n) % 65536))) ((unitMade x h c e s).session x) := by
  unfold unitMade
  dsimp only
  obtain ⟨hformed, b, l₁, hb⟩ := recordFormed_spec x c (recordRows s x h e c) (settlePicture s x e c (recordRows s x h e c)).lastCounter e.first s
  generalize recordFormed x c (recordRows s x h e c) (settlePicture s x e c (recordRows s x h e c)).lastCounter e.first s = u at *
  have hdrawn := onlySends_free 65535 u
  have hout : (freeBelow 65535 u).2.out = u.out := rfl
  generalize (freeBelow 65535 u).1 = k at *
  generalize (freeBelow 65535 u).2 = v at *
  generalize hn : leastPackets s.cfg x (natOf (e.level - (settlePicture s x e c (recordRows s x h e c)).level)) c.rows.length + k = n at *
  obtain ⟨hsent, hunit⟩ := unitSent_spec x (suppressedNow s x h c.frameCnt c.idr e) n e.seq (unitSession (settlePicture s x e c (recordRows s x h e c))
    (suppressedNow s x h c.frameCnt c.idr e) (((settlePicture s x e c (recordRows s x h e c)).seq + n) % 65536)) v
  obtain ⟨l₂, hl₂⟩ := hsent.sends
  exact ⟨(hformed.trans hdrawn).trans hsent, ⟨b, l₁, l₂, by rw [hl₂, hout, hb]⟩, n, by omega, hunit⟩

theorem suppressedNow_alone (s : State) (x h cnt : Nat) (idr : Bool) (e : Session) (hhot : s.hot = false) :
    suppressedNow s x h cnt idr e = false := by
  unfold suppressedNow
  rw [hhot, Bool.false_and, if_neg Bool.false_ne_true]
  exact if_pos rfl

theorem suppressedNow_withdrawn (s : State) (x h cnt : Nat) (idr : Bool) (e : Session) (hhot : s.hot = true) (hw : s.twin.withdrawn = true) :
    suppressedNow s x h cnt idr e = true := by
  unfold suppressedNow
  rw [hhot, hw]
  exact if_pos rfl

theorem encRecordAssembly_unit (s : State) (x : Fin 16) (c : EncFrame) (at' : Time64) (hcur : (s.session x).cur = some c)
    (hrows : encRows s.cfg x ≤ c.rows.length) (hdue : assemblyDue s x (pv s.cfg pEncHead x) c at' = true) :
    Completes (.encRecordAssembly x at') s (fun t =>
      (t.session x).cur = none ∧ (t.session x).first = false ∧ (c.idr = false → (t.session x).level = (s.session x).level - c.bits)
      ∧ (∃ n : Nat, leastPackets s.cfg x (natOf ((s.session x).level - (t.session x).level)) c.rows.length ≤ n
          ∧ (t.session x).seq = ((s.session x).seq + n) % 65536)
      ∧ (∃ (b : Bytes) (l₁ l₂ : List Out), t.out = s.out ++ l₁ ++ [.encRecord x (pv s.cfg pEncRecordExtid x) b] ++ l₂)
      ∧ (s.hot = false → (t.session x).cnt.frames = ((s.session x).cnt.frames + 1) % 2 ^ 32)
      ∧ (s.hot = true → s.twin.withdrawn = true → (t.session x).cnt.frames = (s.session x).cnt.frames
          ∧ (t.session x).cnt.suppressed = ((s.session x).cnt.suppressed + 1) % 2 ^ 32)
      ∧ t.heads = s.heads ∧ t.events = s.events) := by
  obtain ⟨hsent, hrecord, n, hn, hunit⟩ := unitMade_spec x (pv s.cfg pEncHead x) c (s.session x) (atTime at' s)
  obtain ⟨hnone, hfirst, hlevel, -, hframes, hsup⟩ := settlePicture_spec (atTime at' s) x (s.session x) c
    (recordRows (atTime at' s) x (pv s.cfg pEncHead x) (s.session x) c)
  have hheads := hsent.get State.heads
  have hevents := hsent.get State.events
  have hrun := exec_encRecordAssembly hcur hrows hdue
  have halone := suppressedNow_alone (atTime at' s) x (pv s.cfg pEncHead x) c.frameCnt c.idr (s.session x)
  have hgone := suppressedNow_withdrawn (atTime at' s) x (pv s.cfg pEncHead x) c.frameCnt c.idr (s.session x)
  generalize suppressedNow (atTime at' s) x (pv s.cfg pEncHead x) c.frameCnt c.idr (s.session x) = sup at *
  generalize settlePicture (atTime at' s) x (s.session x) c (recordRows (atTime at' s) x (pv s.cfg pEncHead x) (s.session x) c) = e1 at *
  obtain ⟨hcur', hfirst', hlevel', hseq'⟩ := unitCounted_spec sup (unitSession e1 sup (((s.session x).seq + n) % 65536))
  have hlev : ((unitMade x (pv s.cfg pEncHead x) c (s.session x) (atTime at' s)).session x).level = e1.level := hunit.level.trans hlevel'
  refine completes_of_keeps hrun _ rfl (KeepsFrame.trans (t := atTime at' s) ⟨rfl, rfl, rfl⟩ hsent.keeps)
    ⟨(hunit.cur.trans hcur').trans hnone, (hunit.first.trans hfirst').trans hfirst, fun hidr => hlev.trans (hlevel hidr),
      ⟨n, by rw [hlev]; exact hn, hunit.seq.trans hseq'⟩, hrecord, fun hhot => ?_, fun hhot hw => ?_, hheads, hevents⟩
  · rw [hunit.frames, halone hhot, ← hframes]
    rfl
  · rw [hunit.frames, hunit.suppressed, hgone hhot hw, ← hframes, ← hsup]
    exact ⟨rfl, rfl⟩

end Sys2Proof.Machine
end

section
/-! The safe point and the sender reports of encode sessions (R295, R406). -/
namespace Sys2Proof.Machine

/-! ## The safe point (R406) -/

/-- A session that is being disabled has stopped, with its counters kept. -/
def sessionStopped (x : Fin 16) (t : Time64) (s : State) : State := (atTime t s).setSession x { sessionInit with cnt := (s.session x).cnt }

/-- START_DONE of a session that starts again, with the TAG of the command that waited for it. -/
def restartDone (x : Fin 16) (s : State) : State :=
  match s.cmd.deferred.find? (fun q => q.1 == .session x) with
  | some (_, h, _) =>
    raiseTag .startDone h.tag [(1, (x : Nat))] { s with cmd := { s.cmd with deferred := s.cmd.deferred.filter (fun q => q.1 != .session x) } }
  | none => raise .startDone [(1, (x : Nat))] s

theorem restartDone_spec (x : Fin 16) {s u : State} (hhot : u.hot = s.hot) :
    (∃ g, s.raised (restartDone x u) .startDone g [(1, x.val)]) ∧ KeepsFrame u (restartDone x u) ∧ (restartDone x u).enc = u.enc := by
  unfold restartDone
  split
  · exact ⟨⟨_, raised_raiseAt _ _ _ _ _ _ hhot⟩, ⟨raiseAt_pending .., raiseAt_seatB .., raiseAt_dram ..⟩, raiseAt_enc ..⟩
  · exact ⟨⟨_, raised_raise _ _ hhot⟩, ⟨raise_pending .., raise_seatB .., raise_dram ..⟩, raise_enc ..⟩

theorem exec_encSessionSafePoint {s : State} {x : Fin 16} {t : Time64} (hstop : (s.session x).stopping = true) (hcur : (s.session x).cur = none) :
    exec (.encSessionSafePoint x t) s = act (fun s => if !(s.session x).restart then sessionStopped x t s
      else restartDone x (startSession x (sessionStopped x t s))) s := by
  change execEncSessionSafePoint x t s = _
  unfold execEncSessionSafePoint
  refine act_congr ?_
  have hgo : ¬ (!(s.session x).stopping || (s.session x).cur.isSome) = true := by
    rw [hstop, hcur]
    exact Bool.false_ne_true
  dsimp only
  exact if_neg hgo

theorem sessionStopped_session (x : Fin 16) (t : Time64) (s : State) :
    (sessionStopped x t s).session x = { sessionInit with cnt := (s.session x).cnt } := session_setSession ..

theorem sessionStopped_others (x : Fin 16) (t : Time64) (s : State) {y : Nat} (hy : y ≠ x.val) :
    (sessionStopped x t s).session y = s.session y := session_setSession_ne _ _ _ hy

/-- A session that starts runs, with its counters kept; the other sessions stay. -/
theorem startSession_spec (x : Fin 16) (s : State) :
    OnlySends s (startSession x s)
    ∧ (((startSession x s).session x).running = true ∧ ((startSession x s).session x).stopping = false
      ∧ ((startSession x s).session x).cnt = (s.session x).cnt)
    ∧ ∀ y : Nat, y ≠ x.val → (startSession x s).session y = s.session y := by
  unfold startSession
  dsimp only
  refine ⟨(onlySends_free 65536 s).trans (onlySends_setSession ..), ?_, fun y hy => session_setSession_ne _ _ _ hy⟩
  rw [session_modSession]
  exact ⟨rfl, rfl, rfl⟩

theorem encSessionSafePoint_stops (s : State) (x : Fin 16) (at' : Time64) (hstop : (s.session x).stopping = true) (hcur : (s.session x).cur = none) :
    Completes (.encSessionSafePoint x at') s (fun t =>
      (t.session x).running = (s.session x).restart ∧ (t.session x).stopping = false ∧ (t.session x).cnt = (s.session x).cnt
      ∧ ((s.session x).restart = true → ∃ g, s.raised t .startDone g [(1, x.val)])
      ∧ ((s.session x).restart = false → t = { s with enc := t.enc, time := { s.time with now := at' } })
      ∧ ∀ y : Nat, y ≠ x.val → t.session y = s.session y) := by
  have hrun := exec_encSessionSafePoint (t := at') hstop hcur
  have hstopped := sessionStopped_session x at' s
  cases hagain : (s.session x).restart with
  | false =>
    refine completes_of_keeps hrun (sessionStopped x at' s) ?_ ⟨rfl, rfl, rfl⟩
      ⟨?_, ?_, ?_, fun h => absurd h Bool.false_ne_true, fun _ => rfl, fun y hy => sessionStopped_others x at' s hy⟩
    · rw [hagain]
      exact if_pos rfl
    · rw [hstopped]
      rfl
    · rw [hstopped]
      rfl
    · rw [hstopped]
  | true =>
    have hother := fun (y : Nat) (hy : y ≠ x.val) => sessionStopped_others x at' s hy
    have hkeep : KeepsFrame s (sessionStopped x at' s) := ⟨rfl, rfl, rfl⟩
    have hhot : (sessionStopped x at' s).hot = s.hot := rfl
    have hgoes : (if !(s.session x).restart then sessionStopped x at' s else restartDone x (startSession x (sessionStopped x at' s)))
        = restartDone x (startSession x (sessionStopped x at' s)) := by
      rw [hagain]
      exact if_neg Bool.false_ne_true
    obtain ⟨hsends, ⟨hruns, hgoing, hcnt⟩, hrest⟩ := startSession_spec x (sessionStopped x at' s)
    have hhot' : (startSession x (sessionStopped x at' s)).hot = s.hot := (hsends.get State.hot).trans hhot
    obtain ⟨hdone, hkeep', henc⟩ := restartDone_spec x hhot'
    have hsession : ∀ y, (restartDone x (startSession x (sessionStopped x at' s))).session y = (startSession x (sessionStopped x at' s)).session y := fun y => by
      unfold State.session
      rw [henc]
    refine completes_of_keeps hrun (restartDone x (startSession x (sessionStopped x at' s))) hgoes ((hkeep.trans hsends.keeps).trans hkeep')
      ⟨?_, ?_, ?_, fun _ => hdone, fun h => absurd h.symm Bool.false_ne_true, fun y hy => ?_⟩
    · rw [hsession, hruns]
    · rw [hsession, hgoing]
    · rw [hsession, hcnt, hstopped]
    · rw [hsession, hrest y hy, hother y hy]

/-! ## Sender reports (R295) -/

/-- A sender report sends one output, or nothing. -/
theorem sendSr_cases (x path : Nat) (t : Time64) (s : State) : sendSr x path t s = s ∨ ∃ o, sendSr x path t s = emit o s := by
  unfold sendSr
  dsimp only
  split
  · exact .inl rfl
  · split
    · exact .inr ⟨_, rfl⟩
    · exact .inl rfl

theorem sendSr_eq (x path : Nat) (t : Time64) (s : State) : sendSr x path t s = { s with out := (sendSr x path t s).out } := by
  rcases sendSr_cases x path t s with h | ⟨o, h⟩
  · rw [h]
  · rw [h]
    rfl

theorem extends_sendSr (x path : Nat) (t : Time64) (s : State) : Extends s (sendSr x path t s) := by
  rcases sendSr_cases x path t s with h | ⟨o, h⟩ <;> rw [h]
  · exact .refl s
  · exact extends_emit o s

/-- The sender report of a path with an endpoint and a port. -/
theorem sendSr_sends {x path p : Nat} (t : Time64) {s : State} (hfam : (encDest s.cfg x path).fam ≠ 0) (hp : pathPort s path = some p) :
    ∃ sec frac : Nat, Out.rtcpSr x p { encDest s.cfg x path with port := (encDest s.cfg x path).port + 1 } (encSsrc s x) sec frac
      (t * 9 / 100000 % 2 ^ 32) ∈ (sendSr x path t s).out := by
  unfold sendSr
  rw [if_neg hfam, hp]
  exact ⟨_, _, List.mem_append_right _ List.mem_cons_self⟩

theorem Extends.mem {s t : State} {o : Out} (h : Extends s t) (ho : o ∈ s.out) : o ∈ t.out := by
  obtain ⟨l, hl⟩ := h
  rw [hl]
  exact List.mem_append_left _ ho

/-- The time of a session's last sender reports. -/
def srNoted (x : Fin 16) (t : Time64) (s : State) : State := (atTime t s).setSession x { s.session x with srT := t }

theorem exec_rtcpSrSend {s : State} {x : Fin 16} {t : Time64} (hrun : (s.session x).running = true) (hsup : (s.session x).suppressed = false)
    (hdue : (s.session x).srT + 1000000000 ≤ t) (hmode : s.twin.mode ≠ .coldStandby) :
    exec (.rtcpSrSend x t) s = act (fun s => sendSr x 1 t (sendSr x 0 t (srNoted x t s))) s := by
  change execRtcpSrSend x t s = _
  unfold execRtcpSrSend
  refine act_congr ?_
  have hgo : ¬ (!(s.session x).running || (s.session x).suppressed || decide (t < (s.session x).srT + 1000000000)
      || s.twin.mode == .coldStandby) = true := by
    rw [hrun, hsup, decide_eq_false (Nat.not_lt_of_ge hdue), beq_eq_false_iff_ne.mpr hmode]
    exact Bool.false_ne_true
  dsimp only
  exact if_neg hgo

theorem encSsrc_srNoted (x : Fin 16) (t : Time64) (s : State) : encSsrc (srNoted x t s) x = encSsrc s x := by
  unfold encSsrc srNoted
  rw [session_setSession]
  rfl

theorem sendSr_only (x : Nat) (t : Time64) (s : State) : ∃ o, sendSr x 1 t (sendSr x 0 t s) = { s with out := o } := by
  rcases sendSr_cases x 0 t s with h | ⟨_, h⟩
  · rw [h]
    exact ⟨_, sendSr_eq x 1 t s⟩
  · rw [h]
    exact ⟨_, sendSr_eq x 1 t _⟩

/-- The sender reports of the two paths, each with an endpoint and a port. -/
theorem sendSr_both (x : Nat) (t : Time64) {s : State} {ssrc : Nat} (hssrc : encSsrc s x = ssrc) (path p : Nat) (hpath : path < 2)
    (hfam : (encDest s.cfg x path).fam ≠ 0) (hp : pathPort s path = some p) :
    ∃ sec frac : Nat, Out.rtcpSr x p { encDest s.cfg x path with port := (encDest s.cfg x path).port + 1 } ssrc sec frac
      (t * 9 / 100000 % 2 ^ 32) ∈ (sendSr x 1 t (sendSr x 0 t s)).out := by
  subst hssrc
  obtain ⟨o, ho⟩ : ∃ o, sendSr x 0 t s = { s with out := o } := ⟨_, sendSr_eq x 0 t s⟩
  rcases (show path = 0 ∨ path = 1 by omega) with rfl | rfl
  · obtain ⟨sec, frac, hmem⟩ := sendSr_sends t hfam hp
    exact ⟨sec, frac, (extends_sendSr x 1 t _).mem hmem⟩
  · rw [ho]
    exact sendSr_sends (s := { s with out := o }) t hfam hp

theorem rtcpSrSend_reports (s : State) (x : Fin 16) (at' : Time64) (hrun : (s.session x).running = true) (hsup : (s.session x).suppressed = false)
    (hdue : (s.session x).srT + 1000000000 ≤ at') (hmode : s.twin.mode ≠ .coldStandby) :
    Completes (.rtcpSrSend x at') s (fun t =>
      t.session x = { s.session x with srT := at' }
      ∧ (∀ path p : Nat, path < 2 → (encDest s.cfg x path).fam ≠ 0 → pathPort s path = some p →
          ∃ sec frac : Nat, Out.rtcpSr x p { encDest s.cfg x path with port := (encDest s.cfg x path).port + 1 } (encSsrc s x) sec frac
            (at' * 9 / 100000 % 2 ^ 32) ∈ t.out)
      ∧ t = { s with enc := t.enc, time := { s.time with now := at' }, out := t.out }) := by
  have hsession : (srNoted x at' s).session x = { s.session x with srT := at' } := session_setSession ..
  have hsent := sendSr_both x at' (encSsrc_srNoted x at' s)
  have hexec := exec_rtcpSrSend hrun hsup hdue hmode
  obtain ⟨o, ho⟩ := sendSr_only x at' (srNoted x at' s)
  refine completes_of_keeps hexec _ rfl ?_ ⟨?_, hsent, ?_⟩
  · rw [ho]
    exact ⟨rfl, rfl, rfl⟩
  · rw [ho]
    exact hsession
  · generalize sendSr x 1 at' (sendSr x 0 at' (srNoted x at' s)) = t at *
    subst ho
    rfl

/-- Settles O47, clause by clause: the next and the first row, the access unit, the safe point, the sender reports. -/
theorem encodeSessions : Obligations.EncodeSessions :=
  ⟨encRowCoded_next, encRowCoded_first, encRecordAssembly_unit, encSessionSafePoint_stops, rtcpSrSend_reports⟩

end Sys2Proof.Machine
end
